-- ==== Sys2Proof/Word.lean ====
section
/-!
DEFINITION. Word.lean: the word types of the NQ288 and the sparse tables that hold its
numbered state. Registers are 32 bits wide (R13); wick values are 64 bits wide (R197).
-/

namespace Sys2Proof

/-- A byte. -/
abbrev Byte := BitVec 8
/-- A 16-bit half word. -/
abbrev Half := BitVec 16
/-- A 32-bit register or instruction word (R13, R225). -/
abbrev Word := BitVec 32
/-- A 64-bit wick value or counter (R197). -/
abbrev Dword := BitVec 64

/-- A table of values by number, kept in strictly rising key order. -/
abbrev Tab (α : Type) := List (Nat × α)

namespace Tab

/-- The entry of key `k`, if one is listed. -/
def find? {α : Type} : Tab α → Nat → Option α
  | [], _ => none
  | (j, v) :: t, k => if j = k then some v else find? t k

/-- The entry of key `k`, or `d` where none is listed. -/
def getD {α : Type} (t : Tab α) (k : Nat) (d : α) : α := (find? t k).getD d

/-- Removes every entry of key `k`. -/
def erase {α : Type} : Tab α → Nat → Tab α
  | [], _ => []
  | (j, v) :: t, k => if j = k then erase t k else (j, v) :: erase t k

/-- Places the entry of key `k` before the first larger key. -/
def insert {α : Type} : Tab α → Nat → α → Tab α
  | [], k, v => [(k, v)]
  | (j, w) :: t, k, v => if k < j then (k, v) :: (j, w) :: t else (j, w) :: insert t k v

/-- Sets the entry of key `k`. -/
def put {α : Type} (t : Tab α) (k : Nat) (v : α) : Tab α := insert (erase t k) k v

/-- Sets the entry of key `k` in the canonical form in which no entry equals `d`, the
value that an unlisted key has. -/
def putD {α : Type} [DecidableEq α] (t : Tab α) (k : Nat) (v d : α) : Tab α :=
  if v = d then erase t k else put t k v

/-- The keys of a table rise strictly. -/
def Sorted {α : Type} : Tab α → Prop
  | [] => True
  | (k, _) :: t => (∀ p ∈ t, k < p.1) ∧ Sorted t

end Tab

/-- A list of bytes read as a little-endian number (R11, device memory). -/
def leNat : List Byte → Nat
  | [] => 0
  | b :: bs => b.toNat + 256 * leNat bs

/-- The `n` low bytes of a number, least significant first (R11). -/
def leBytes : Nat → Nat → List Byte
  | 0, _ => []
  | n + 1, v => BitVec.ofNat 8 v :: leBytes n (v / 256)

/-- A list of bytes read as a big-endian number (R11, packets on the wire). -/
def beNat (bs : List Byte) : Nat := leNat bs.reverse

/-- The `n` low bytes of a number, most significant first (R11). -/
def beBytes (n v : Nat) : List Byte := (leBytes n v).reverse

/-- Bit `i` of a number. -/
def natBit (v i : Nat) : Bool := v / 2 ^ i % 2 = 1

/-- Bits `lo + w - 1` down to `lo` of a number. -/
def natField (v lo w : Nat) : Nat := v / 2 ^ lo % 2 ^ w

/-- Adds to a count that saturates at `2 ^ w - 1`. -/
def satAdd (w v d : Nat) : Nat := min (v + d) (2 ^ w - 1)

/-- A Bool as a number. -/
def b2n (b : Bool) : Nat := if b then 1 else 0

end Sys2Proof
end

