-- ==== Sys2Proof/Syntax.lean ====
section
/-!
DEFINITION. Syntax.lean: the commands of the NQ288, one constructor per row of
spec/opcode_table.json, and the types of their operands. A wick row carries the lantern
and the fields of its instruction word (R225, R174); a row that another agent brings
about carries what that agent supplies. Physical disturbances (bit errors, array upsets)
and measured values are operands, since the spec gives them no cause inside the device.
-/

namespace Sys2Proof

/-- Who makes a register access: the pilot for REG_READ and REG_WRITE, or the wick of a
lantern (R524, R526). -/
inductive Requester where
  | pilot
  | wick (n : Nat)
  deriving DecidableEq, Repr

/-- What a block reports to the pilot in an error record (R404). -/
structure RecIn where
  src : Nat
  cls : Nat
  code : Nat
  va : Bool := false
  lockind : Nat := 0
  devaddr : Nat := 0xFFFF_FFFF_FFFF_FFFF
  loc : List Byte := List.replicate 16 0
  aux : Nat := 0
  /-- The array number by which R37 orders sources of one lantern. -/
  sub : Nat := 0
  deriving DecidableEq, Repr

/-- What holds a channel whose request waits for its acknowledge (R28, R29). Which channel serves which
wait is fixed in the device and not given by the spec. -/
inductive StallWait where
  | other
  /-- The wick of a lantern raises requests on it. -/
  | wick (n : Nat)
  /-- An access to a page. -/
  | page (vpn : Nat)
  /-- Its receiving block is in a way group. -/
  | wayGroup (g : Nat)
  deriving DecidableEq, Repr

/-- A handshake channel of a block, by its number, and the wait that it serves (R28, R29). -/
structure StallChan where
  num : Nat
  serves : StallWait
  deriving DecidableEq, Repr

/-- A disturbance of one accumulator element while an array computes (R92, R93): the
element at row and column of the array's cells has these bits flipped. -/
structure CellUpset where
  row : Nat
  col : Nat
  flip : BitVec 128
  deriving DecidableEq, Repr

/-- What a read of a lantern's accumulator file finds (R392), with the bank and row that it read
and the syndrome of a correction. -/
inductive SramErr where
  | good
  | corrected (bank row : Nat) (syn : Nat)
  | uncorrectable (bank row : Nat)
  deriving DecidableEq, Repr

/-- A product tile of a chain on one array (R126, R146): product 1 or 2, the row block, the tile of 256
columns of S, the instruction within it and the array. -/
structure ChainTile where
  prod2 : Bool
  block : Nat
  tile : Nat
  inst : Nat
  arr : Nat
  deriving DecidableEq, Repr

/-- What disturbs a product tile of a chain (R93, R126): its first run, its recompute, whether the pattern
self-test passes, and each substitute's run with its self-test. -/
structure ChainUpset where
  tile : ChainTile
  first : List CellUpset := []
  again : List CellUpset := []
  pass : Bool := true
  subs : List (List CellUpset × Bool) := []
  deriving DecidableEq, Repr

/-- The fields of a long-form matrix or chain word outside OPC (R77, R121). -/
structure LongWord where
  cond : BitVec 4
  lo : BitVec 20
  w1 : Word
  deriving DecidableEq, Repr

/-- The fields of a base instruction word outside OPC (R225), with the extension word
that follows when AM is 7 (R205). -/
structure BaseWord where
  cond : BitVec 4
  am : BitVec 3
  s : Bool
  imm : Half
  ext : Word
  deriving DecidableEq, Repr

/-- What befalls a customer routine while it runs (R289, R290): its slot entry has no two copies
that agree, the micro-operation at an index reads an uncorrectable word, and the wick looks for
pending events before the micro-operation at an index. -/
structure UcUpset where
  badSlot : Bool := false
  badWord : Option Nat := none
  cut : Option Nat := none
  deriving DecidableEq, Repr

/-- The fields of a vector instruction of the operate form outside OPC and FUNC (R174).
`zero` is word 1 bits [6:0]. -/
structure VOp where
  cond : BitVec 4
  am : BitVec 3
  zf : Bool
  pg : BitVec 4
  vd : BitVec 5
  va : BitVec 5
  ew : BitVec 2
  vb : BitVec 5
  vc : BitVec 5
  fmt : BitVec 4
  fmt2 : BitVec 4
  sb : Bool
  zero : BitVec 7
  deriving DecidableEq, Repr

/-- The fields of a vector instruction of the memory form outside OPC (R174). `zero` is
word 1 bits [24:16]. -/
structure VMem where
  cond : BitVec 4
  am : BitVec 3
  zf : Bool
  pg : BitVec 4
  vd : BitVec 5
  va : BitVec 5
  ew : BitVec 2
  vb : BitVec 5
  nfm1 : BitVec 2
  zero : BitVec 9
  disp : Half
  deriving DecidableEq, Repr

/-- PAND, POR, PXOR, PANDN. -/
inductive PLogic where | pand | por | pxor | pandn
  deriving DecidableEq, Repr
/-- VADD, VSUB. -/
inductive VAddSub where | add | sub
  deriving DecidableEq, Repr
/-- VMUL, VMULH. -/
inductive VMulOp where | mul | mulh
  deriving DecidableEq, Repr
/-- Signed and unsigned minimum and maximum. -/
inductive VMinMax where | min | max | minu | maxu
  deriving DecidableEq, Repr
/-- AND, OR, XOR. -/
inductive VLogic where | and | or | xor
  deriving DecidableEq, Repr
/-- VSHL, VSHR, VSRA. -/
inductive VShift where | shl | shr | sra
  deriving DecidableEq, Repr
/-- Floating-point add, subtract, multiply. -/
inductive VFArith where | add | sub | mul
  deriving DecidableEq, Repr
/-- IEEE minimum and maximum. -/
inductive FMinMax where | min | max
  deriving DecidableEq, Repr
/-- VFABS, VFNEG, VFSGNJ. -/
inductive VFSign where | abs | neg | sgnj
  deriving DecidableEq, Repr
/-- VFMA, VFMS, VFNMA, VFNMS. -/
inductive VFmaOp where | fma | fms | fnma | fnms
  deriving DecidableEq, Repr
/-- VFDIV, VFSQRT. -/
inductive VDivSqrt where | div | sqrt
  deriving DecidableEq, Repr
/-- The elementwise functions of R181. -/
inductive ElemFun where | exp | recip | rsqrt | logi | gelu | silu
  deriving DecidableEq, Repr
/-- Integer compares. -/
inductive VCmpOp where | eq | ne | lt | le | ltu | leu
  deriving DecidableEq, Repr
/-- Floating-point compares. -/
inductive VFCmpOp where | eq | ne | lt | le | un
  deriving DecidableEq, Repr
/-- VWMUL, VWMULU. -/
inductive VWMul where | signed | unsigned
  deriving DecidableEq, Repr
/-- VFWMUL, VFWMA. -/
inductive VFWide where | mul | ma
  deriving DecidableEq, Repr
/-- VDOT4, VDOT2. -/
inductive VDot where | dot4 | dot2
  deriving DecidableEq, Repr
/-- The reductions of R190. -/
inductive RedOp where
  | fsum | fmax | fmin | fwsum | sum | max | min | maxu | minu | and | or | xor
  deriving DecidableEq, Repr
/-- VSLUP, VSLDN. -/
inductive VSlide where | up | down
  deriving DecidableEq, Repr
/-- VMV, VBCAST, VIOTA. -/
inductive VMove where | mv | bcast | iota
  deriving DecidableEq, Repr
/-- One, two or four bytes. -/
inductive SizeBHW where | b | h | w
  deriving DecidableEq, Repr
/-- The index registers. -/
inductive IdxXY where | x | y
  deriving DecidableEq, Repr
/-- ADD, ADDC. -/
inductive AddOp where | add | addc
  deriving DecidableEq, Repr
/-- SUB, SUBB. -/
inductive SubOp where | sub | subb
  deriving DecidableEq, Repr
/-- MULH, MULHU. -/
inductive MulHOp where | mulh | mulhu
  deriving DecidableEq, Repr
/-- DIV, DIVU, REM, REMU. -/
inductive DivOp where | div | divu | rem | remu
  deriving DecidableEq, Repr
/-- SHL, SHR, SRA, ROL. -/
inductive ShiftOp where | shl | shr | sra | rol
  deriving DecidableEq, Repr
/-- NOT, NEG. -/
inductive NotNeg where | not | neg
  deriving DecidableEq, Repr
/-- CLZ, POPC. -/
inductive ClzPopc where | clz | popc
  deriving DecidableEq, Repr
/-- CALL, CALLI. -/
inductive CallOp where | call | calli
  deriving DecidableEq, Repr
/-- The FP32 scalar instructions, opcodes 0x68 to 0x6F. -/
inductive FSOp where | add | sub | mul | div | sqrt | min | max | cmp
  deriving DecidableEq, Repr

/-- Why the wick enters an event outside the execution of an assigned opcode (R211,
R226, R268, R270). -/
inductive EntrySrc where
  /-- A boundary at which a deferred or asynchronous event is present. -/
  | boundary
  /-- The fetch at PC of one word or two: raises 0x11 when the address is invalid, in the REG
  window, not a multiple of 4 or unmapped, and 0x41 when a word is poisoned. -/
  | fetch (long : Bool)
  /-- An instruction whose opcode R226, or whose function R178, leaves unassigned. -/
  | unassigned (w0 w1 : Word)
  deriving DecidableEq, Repr

/-- The kinds of access that a home tile cache serves (R319, R323, R327, R328). -/
inductive CacheKind where
  | read | streamRead | write | wholeWrite | streamWholeWrite | zeroLine
  deriving DecidableEq, Repr

/-- What a tile cache finds in the line that an access hits (R332): good data, an error pattern in
a codeword of a 64-byte unit, or wrong tag parity. -/
inductive LineErr where
  | good
  | data (unit : Nat) (errs : List (BitVec 80))
  | tag
  deriving DecidableEq, Repr

/-- What the payload of a network flit that arrives bad carries: a 64-byte unit of device memory, by physical
address, an 8-byte word of a lantern's local store, or neither (R393). -/
inductive FlitData where
  | none
  | unit (pa : Nat)
  | word (n a : Nat)
  deriving DecidableEq, Repr

/-- What a memory controller returns for a fill (R326, R400): the line, or an uncorrectable
64-byte unit of it with the decoder's syndrome. -/
inductive FillErr where
  | good
  | uncorrectable (unit : Nat) (syn : BitVec 16)
  deriving DecidableEq, Repr

/-- The unit that the lamplighter reads next, with what its decoder saw (R395). -/
inductive ScrubSrc where
  /-- The 64-byte unit at a physical address, with the bit errors of its eight codewords
  and the granule indexes of its page group that are not usable. -/
  | dram (pa : Nat) (errs : List (BitVec 80)) (bad : List Nat)
  /-- A 64-byte unit of a line of a tile cache, with the bit errors of its eight codewords. -/
  | cache (t set way unit : Nat) (errs : List (BitVec 80))
  /-- The end of a pass: everything has been read. -/
  | passEnd
  deriving DecidableEq, Repr

/-- The copies of a TMR register as a vote finds them: each copy is the value that was
last written, with these bits flipped (R534). -/
structure TmrUpset where
  u0 : Word
  u1 : Word
  u2 : Word
  deriving DecidableEq, Repr

/-- A phase of bring-up that R550 limits. -/
inductive BringupPhase where
  | bootRom | pilotStart | secStart | domainOn (d : Nat) | tileCache (t : Nat)
  | channel (c : Nat) | lantern (n : Nat) | cirrusInit
  deriving DecidableEq, Repr

/-- A received Neino packet: the header fields of R454 that the device checks, the
sealed payload and its tag. -/
structure Packet where
  dstMac : BitVec 48
  dstIp : BitVec 128
  dstPort : Half
  vlan : Option (BitVec 12)
  checksumOk : Bool
  plain : Bool            -- no extension header and no fragment
  congested : Bool        -- arrived with ECN 0b11
  ver : Byte
  typ : Byte
  dcid : Half
  psn : Word
  ack : Word
  plen : Half
  ece : Bool
  retx : Bool
  epoch : Byte
  xsn : Dword
  payload : List Byte
  tag : BitVec 128
  /-- FEC codewords of the frame that were corrected, and that could not be (R451, R472). -/
  fecCorr : Nat := 0
  fecBad : Nat := 0
  deriving DecidableEq, Repr

/-- The payload of a COMMAND packet (R473) with the host endpoint that sent it. OPCODE is
the row. -/
structure CmdPkt where
  ep : Nat
  length : Half
  tag : Word
  deadline : Word
  flags : Word
  plen : Nat
  params : List Byte
  oseq : Dword := 0
  sig : List Byte := []
  deriving DecidableEq, Repr

/-- What the end of a long-running command brings in from outside (R476): a pilot fault,
the eye widths that MARGIN measured, or the addresses of units that a moved granule found
uncorrectable (R314). -/
structure CompleteIn where
  pilotFault : Bool := false
  pins : List Word := []
  ueUnits : List Nat := []
  deriving DecidableEq, Repr

/-- The commands, in the order of spec/opcode_table.json. -/
inductive Instr where
  /-- LO_HALF_READ (R22): A read of a LO half of a 64-bit counter latches the matching HI half for the same requester. -/
  | loHalfRead (rq : Requester) (addr : Nat)
  /-- RATE_MEASURE_START (R24): Writing GO to PILOT.RATECTL starts a rate measurement and sets BUSY, or sets ERR when BUSY is already 1. -/
  | rateMeasureStart (value : Word)
  /-- RATE_MEASURE_END (R24): When WINDOW × 100,000 slow-clock edges have passed, the pilot samples the counter again, writes KBEATS and clears BUSY. -/
  | rateMeasureEnd (beats : Dword)
  /-- STALL_WATCHDOG (R28): A channel stays stalled for 10 ms, and the pilot writes a STALL record that names the block and the channel. -/
  | stallWatchdog (src : Nat) (chan : StallChan)
  /-- STALL_REPEAT (R30): Each further 10 ms of the same stall increments the repeat count of the open STALL record. -/
  | stallRepeat (src : Nat) (chan : Nat)
  /-- POWER_EVALUATION (R33): At each whole millisecond of the pilot stamp, the pilot compares average input power with the cap and moves the power-cap ceiling by 5 mV. -/
  | powerEvaluation (avgW : Nat)
  /-- ERROR_RECORD (R406): A block reports an error record, and the pilot stamps it, numbers it, merges or enqueues it, and evicts records when the queue is full. -/
  | errorRecord (recs : List RecIn)
  /-- READY_NOTIFICATION (R498): At most once per ms after a ready-map bit has changed, the pilot sends a READY notification with the map as it then stands. -/
  | readyNotification
  /-- NAN_REPORT (R65): The lantern's NaN collector accepts a NaN report, and either fills the record and sets VALID or increments NANCNT. -/
  | nanReport (n : Nat) (k : Nat)
  /-- NAN_RECORD_CLEAR (R69): Writing 1 to NANCTL.VALID clears every NaN record register and NANCNT in one step. -/
  | nanRecordClear (n : Nat)
  /-- MMA (R78): The wick checks an MMA and places it in the matrix queue, or raises event 0x21. -/
  | mma (n : Nat) (w : LongWord)
  /-- MDRAIN (R78): The wick checks an MDRAIN and places it in the matrix queue, or raises event 0x21. -/
  | mdrain (n : Nat) (w : LongWord)
  /-- MFENCE (R82): The wick waits until the matrix queue is empty and every drain has written its output. -/
  | mfence (n : Nat) (w : LongWord)
  /-- MCAP (R77): The wick copies LANn.MCAP to A[31:0] and clears A[63:32]. -/
  | mcap (n : Nat) (w : LongWord)
  /-- MMA_SHARE_COMPLETE (R83): An array finishes the Bt beats of one MMA share, and the read ranges of that share are released where checksum mode allows. -/
  | mmaShareComplete (n : Nat) (m : Nat) (upsets : List CellUpset) (acc : SramErr)
  /-- HAND_OFF (R100): An MDRAIN reaches the head of an array's order with enough free shadow banks, and the array exchanges the slot's main banks for shadow banks. -/
  | handOff (n : Nat) (m : Nat)
  /-- TILE_DRAIN (R102): An array finishes draining one shadow tile to local store and frees its shadow banks. -/
  | tileDrain (n : Nat) (m : Nat) (acc : SramErr)
  /-- RECOMPUTE_COMPLETE (R93): A recompute of a mismatched share ends, and it is written with a strike and ARR_CHK, quarantines the array, or leads to the pattern self-test. -/
  | recomputeComplete (n : Nat) (m : Nat) (upsets : List CellUpset)
  /-- SUBSTITUTE_SHARE_COMPLETE (R93): The substitute array finishes a held or redirected share and checks it, so the share is written or step 6 runs on the substitute. -/
  | substituteShareComplete (n : Nat) (m : Nat) (upsets : List CellUpset)
  /-- PATTERN_SELFTEST_COMPLETE (R93): The 2,048-beat pattern self-test ends, and the first result is written with CHK_STABLE, or the array is quarantined. -/
  | patternSelftestComplete (n : Nat) (m : Nat) (pass : Bool)
  /-- ARRAY_QUARANTINE_EFFECT (R94): A quarantine takes effect at a share boundary or at the lantern's idle: QUAR is set, the capability fields update and ARR_QUARANTINE is written. -/
  | arrayQuarantineEffect (n : Nat) (m : Nat)
  /-- BYPASS_CONVERSION (R90): At the lantern's next idle, the pilot converts a pending column to a bypass, recomputes the capability fields and writes ARR_BYPASS. -/
  | bypassConversion (n : Nat) (m : Nat)
  /-- HCHAIN (R122): The wick reads and checks a chain descriptor, writes the status to A and Z, and queues the chain when the status is OK. -/
  | hchain (n : Nat) (w : LongWord)
  /-- CHAIN_START (R124): A queued chain starts once every earlier matrix instruction has finished and its drains are written. -/
  | chainStart (n : Nat)
  /-- CHAIN_COMPLETE (R124): A chain finishes: its output and statistics are written, its ranges are released and every slot is empty. -/
  | chainComplete (n : Nat) (ups : List ChainUpset)
  /-- VSETL (R152): Sets VEW and VL = min(A, VLMAX), writes VL to A and sets Z. -/
  | vsetl (n : Nat) (w : VOp)
  /-- PWHILE (R154): Writes a while-predicate from X and Y below VL and sets Z. -/
  | pwhile (n : Nat) (w : VOp)
  /-- PAND_POR_PXOR_PANDN (R179): Combines two predicates bitwise below VL and clears the bits above it. -/
  | pandPorPxorPandn (n : Nat) (f : PLogic) (w : VOp)
  /-- PCNT (R179): Writes the number of active elements of a predicate to A and sets Z. -/
  | pcnt (n : Nat) (w : VOp)
  /-- PFIRST (R179): Writes the lowest active index of a predicate, or VL when none is active, to A and sets Z. -/
  | pfirst (n : Nat) (w : VOp)
  /-- VADD_VSUB (R179): Integer addition or subtraction of vector elements modulo 2^w. -/
  | vaddVsub (n : Nat) (f : VAddSub) (w : VOp)
  /-- VMUL_VMULH (R179): Low half, or signed high half, of the integer vector product. -/
  | vmulVmulh (n : Nat) (f : VMulOp) (w : VOp)
  /-- VMIN_VMAX_VMINU_VMAXU (R179): Signed or unsigned vector minimum or maximum. -/
  | vminVmaxVminuVmaxu (n : Nat) (f : VMinMax) (w : VOp)
  /-- VAND_VOR_VXOR (R179): Bitwise vector operations. -/
  | vandVorVxor (n : Nat) (f : VLogic) (w : VOp)
  /-- VSHL_VSHR_VSRA (R179): Vector shifts by b mod w. -/
  | vshlVshrVsra (n : Nat) (f : VShift) (w : VOp)
  /-- VFADD_VFSUB_VFMUL (R180): Floating-point vector addition, subtraction or multiplication rounded under MODE. -/
  | vfaddVfsubVfmul (n : Nat) (f : VFArith) (w : VOp)
  /-- VFMIN_VFMAX (R179): IEEE minimum or maximum of vector elements. -/
  | vfminVfmax (n : Nat) (f : FMinMax) (w : VOp)
  /-- VFABS_VFNEG_VFSGNJ (R180): Sign operations on vector elements, raising no exception. -/
  | vfabsVfnegVfsgnj (n : Nat) (f : VFSign) (w : VOp)
  /-- VFMA_VFMS_VFNMA_VFNMS (R179): Fused multiply-add variants with one rounding. -/
  | vfmaVfmsVfnmaVfnms (n : Nat) (f : VFmaOp) (w : VOp)
  /-- VFDIV_VFSQRT (R179): Correctly rounded vector division or square root. -/
  | vfdivVfsqrt (n : Nat) (f : VDivSqrt) (w : VOp)
  /-- VEXP_VRECIP_VRSQRT_VLOGI (R181): The FP32 elementwise functions VEXP, VRECIP, VRSQRT, VLOGI, VGELU and VSILU. -/
  | vexpVrecipVrsqrtVlogi (n : Nat) (f : ElemFun) (w : VOp)
  /-- VCMP (R179): Integer vector compare into a predicate. -/
  | vcmp (n : Nat) (f : VCmpOp) (w : VOp)
  /-- VFCMP (R180): Floating-point vector compare into a predicate. -/
  | vfcmp (n : Nat) (f : VFCmpOp) (w : VOp)
  /-- VCVT (R187): Converts vector elements from FMT2 to FMT under MODE. -/
  | vcvt (n : Nat) (w : VOp)
  /-- VMXPACK (R188): Quantizes FP32 blocks into packed MX elements and scale bytes. -/
  | vmxpack (n : Nat) (w : VOp)
  /-- VMXUNPACK (R189): Unpacks MX elements with their scales to FP32. -/
  | vmxunpack (n : Nat) (w : VOp)
  /-- VWMUL_VWMULU (R185): Exact widening integer product into a group of 2. -/
  | vwmulVwmulu (n : Nat) (f : VWMul) (w : VOp)
  /-- VFWMUL_VFWMA (R185): Exact widening floating-point product, or widening multiply-add with one rounding. -/
  | vfwmulVfwma (n : Nat) (f : VFWide) (w : VOp)
  /-- VDOT4_VDOT2 (R186): Short dot products accumulated with one rounding. -/
  | vdot4Vdot2 (n : Nat) (f : VDot) (w : VOp)
  /-- REDUCTION (R191): Reduces the active elements in the fixed tree and writes the scalar result to Fd. -/
  | reduction (n : Nat) (f : RedOp) (w : VOp)
  /-- VSLUP_VSLDN (R179): Slides elements up or down by A. -/
  | vslupVsldn (n : Nat) (f : VSlide) (w : VOp)
  /-- VPERM (R179): Permutes elements by index. -/
  | vperm (n : Nat) (w : VOp)
  /-- VCOMPRESS (R179): Packs the active elements to the bottom of the register and writes their count to A. -/
  | vcompress (n : Nat) (w : VOp)
  /-- VMV_VBCAST_VIOTA (R179): Vector move, scalar broadcast or index sequence. -/
  | vmvVbcastViota (n : Nat) (f : VMove) (w : VOp)
  /-- VSEL (R179): Selects elements from a where active and from b where inactive. -/
  | vsel (n : Nat) (w : VOp)
  /-- VFENCE (R196): Waits until the vector queue and the store buffer have drained and every write is visible to every agent. -/
  | vfence (n : Nat) (w : VOp)
  /-- VLD (R182): Unit-stride vector load through the translate, read and write phases. -/
  | vld (n : Nat) (w : VMem)
  /-- VST (R182): Unit-stride vector store. -/
  | vst (n : Nat) (w : VMem)
  /-- VLDS (R182): Strided vector load. -/
  | vlds (n : Nat) (w : VMem)
  /-- VSTS (R182): Strided vector store. -/
  | vsts (n : Nat) (w : VMem)
  /-- VGATH (R182): Vector gather by index register. -/
  | vgath (n : Nat) (w : VMem)
  /-- VSCAT (R169): Vector scatter by index register. -/
  | vscat (n : Nat) (w : VMem)
  /-- VLDSEG (R184): Structure load of nf fields per record. -/
  | vldseg (n : Nat) (w : VMem)
  /-- VSTSEG (R184): Structure store of nf fields per record. -/
  | vstseg (n : Nat) (w : VMem)
  /-- FP_EXCEPTION_REPORT (R194): The vector unit reports an enabled floating-point exception to the wick, which raises a level-2 cause 0x31. -/
  | fpExceptionReport (n : Nat)
  /-- REGISTER_FILE_ERROR (R267): A vector or predicate read finds an uncorrectable error: the queue is discarded, the registers are cleared, cause 0x42 is raised and a UE record is written. -/
  | registerFileError (n : Nat) (lg : Nat)
  /-- GET_B_GET_H_GET_W (R230): Loads 1, 2 or 4 bytes zero-extended into A. -/
  | getBGetHGetW (n : Nat) (f : SizeBHW) (w : BaseWord)
  /-- GET_D (R230): Loads the operand into A. -/
  | getD (n : Nat) (w : BaseWord)
  /-- GET_SB_GET_SH_GET_SW (R230): Loads 1, 2 or 4 bytes sign-extended into A. -/
  | getSbGetShGetSw (n : Nat) (f : SizeBHW) (w : BaseWord)
  /-- GETX_GETY (R230): Loads the operand into X or Y. -/
  | getxGety (n : Nat) (f : IdxXY) (w : BaseWord)
  /-- SETH (R230): Inserts IMM16 into one 16-bit field of A. -/
  | seth (n : Nat) (h : BitVec 2) (w : BaseWord)
  /-- PUT_B_PUT_H_PUT_W (R230): Stores the low 1, 2 or 4 bytes of A. -/
  | putBPutHPutW (n : Nat) (f : SizeBHW) (w : BaseWord)
  /-- PUT_D (R230): Stores A to memory or to a register. -/
  | putD (n : Nat) (w : BaseWord)
  /-- PUTX_PUTY (R230): Stores X or Y. -/
  | putxPuty (n : Nat) (f : IdxXY) (w : BaseWord)
  /-- ADD_ADDC (R230): Adds the operand, and C for ADDC, to A. -/
  | addAddc (n : Nat) (f : AddOp) (w : BaseWord)
  /-- SUB_SUBB (R230): Subtracts the operand, and the borrow for SUBB, from A. -/
  | subSubb (n : Nat) (f : SubOp) (w : BaseWord)
  /-- AND_OR_XOR (R230): Bitwise operation of A with the operand. -/
  | andOrXor (n : Nat) (f : VLogic) (w : BaseWord)
  /-- CMP (R230): Sets flags from A − op. -/
  | cmp (n : Nat) (w : BaseWord)
  /-- TST (R230): Sets flags from A and op. -/
  | tst (n : Nat) (w : BaseWord)
  /-- MUL (R230): Writes the low 64 bits of the product to A. -/
  | mul (n : Nat) (w : BaseWord)
  /-- MULH_MULHU (R230): Writes the high 64 bits of the signed or unsigned product to A. -/
  | mulhMulhu (n : Nat) (f : MulHOp) (w : BaseWord)
  /-- DIV_DIVU_REM_REMU (R232): Integer division or remainder with the defined special cases. -/
  | divDivuRemRemu (n : Nat) (f : DivOp) (w : BaseWord)
  /-- SHL_SHR_SRA_ROL (R230): Shifts or rotates A. -/
  | shlShrSraRol (n : Nat) (f : ShiftOp) (w : BaseWord)
  /-- NOT_NEG (R230): Complements or negates A. -/
  | notNeg (n : Nat) (f : NotNeg) (w : BaseWord)
  /-- CLZ_POPC (R230): Counts the leading zeros or set bits of the operand. -/
  | clzPopc (n : Nat) (f : ClzPopc) (w : BaseWord)
  /-- ADDX_ADDY (R230): Adds the operand to X or Y. -/
  | addxAddy (n : Nat) (f : IdxXY) (w : BaseWord)
  /-- CMPX_CMPY (R230): Sets flags from X − op or Y − op. -/
  | cmpxCmpy (n : Nat) (f : IdxXY) (w : BaseWord)
  /-- BR (R238): Relative transfer. -/
  | br (n : Nat) (w : BaseWord)
  /-- JMP (R238): Absolute transfer. -/
  | jmp (n : Nat) (w : BaseWord)
  /-- CALL_CALLI (R239): Pushes the return address on the stack and the shadow stack, then transfers. -/
  | callCalli (n : Nat) (f : CallOp) (w : BaseWord)
  /-- RET (R240): Returns when the stack and shadow-stack values agree, and raises 0x20 otherwise. -/
  | ret (n : Nat) (w : BaseWord)
  /-- TRAP (R241): Raises the level-1 event of cause 0x01 with a trap number. -/
  | trap (n : Nat) (w : BaseWord)
  /-- RTE (R276): Returns from an event by restoring the save set, popping a frame when PUSHED = 1, or chaining. -/
  | rte (n : Nat) (w : BaseWord)
  /-- KEND (R241): Waits for the matrix, vector and loader work to drain, then reports the kernel complete to zenith. -/
  | kend (n : Nat) (w : BaseWord)
  /-- HLOOP (R242): Sets up the hardware loop, or transfers to LEND when the count is 0. -/
  | hloop (n : Nat) (w : BaseWord)
  /-- SYNC_I (R213): Waits for the VFENCE conditions and invalidates the instruction cache and the line buffer. -/
  | syncI (n : Nat) (w : BaseWord)
  /-- FENCE (R259): Waits until the store buffer and the loader queue have drained and their writes are visible. -/
  | fence (n : Nat) (w : BaseWord)
  /-- EWAIT (R260): Parks the wick until event counter e reaches A. -/
  | ewait (n : Nat) (w : BaseWord)
  /-- EADD (R260): Adds A to event counter e once earlier wick stores are visible. -/
  | eadd (n : Nat) (w : BaseWord)
  /-- MSEND (R223): Sends a message to a gang rank and waits for its answer. -/
  | msend (n : Nat) (w : BaseWord)
  /-- MRECV (R223): Pops the oldest inbound message into A, X and Y, or sets C to 0. -/
  | mrecv (n : Nat) (w : BaseWord)
  /-- MESSAGE_ARRIVAL (R223): A message reaches the destination port, which accepts it into the FIFO or refuses it. -/
  | messageArrival (n : Nat)
  /-- MESSAGE_ANSWER (R223): The destination's answer reaches the sender, which sets C and lets MSEND complete. -/
  | messageAnswer (n : Nat)
  /-- BCOPY (R247): Block copy, once or repeated. -/
  | bcopy (n : Nat) (w : BaseWord)
  /-- BFILL (R247): Block fill from A. -/
  | bfill (n : Nat) (w : BaseWord)
  /-- BREAD (R247): Block read into A. -/
  | bread (n : Nat) (w : BaseWord)
  /-- BCOMP (R247): Block compare with an early stop. -/
  | bcomp (n : Nat) (w : BaseWord)
  /-- BSEEK (R247): Block search against A with an early stop. -/
  | bseek (n : Nat) (w : BaseWord)
  /-- BLOCK_ITERATION (R248): One iteration of a repeated block instruction or VBLK runs, and CNT, SRC and DST advance. -/
  | blockIteration (n : Nat)
  /-- VBLK (R252): Checks and hands off block-move iterations to the loader queue. -/
  | vblk (n : Nat) (w : BaseWord)
  /-- LOADER_WRITE (R255): The loader completes a handed-off VBLK iteration and releases its pins. -/
  | loaderWrite (n : Nat)
  /-- LR_D (R256): Loads 8 bytes into A and reserves their granule. -/
  | lrD (n : Nat) (w : BaseWord)
  /-- SC_D (R257): Stores A when the reservation holds, sets C and ends the reservation. -/
  | scD (n : Nat) (w : BaseWord)
  /-- FADD_D_FSUB_D_FMUL_D (R233): FP64 arithmetic on A. -/
  | faddDFsubDFmulD (n : Nat) (f : VFArith) (w : BaseWord)
  /-- FDIV_D (R233): FP64 division of A. -/
  | fdivD (n : Nat) (w : BaseWord)
  /-- FSQRT_D (R233): FP64 square root into A. -/
  | fsqrtD (n : Nat) (w : BaseWord)
  /-- FMIN_D_FMAX_D (R233): FP64 minimum or maximum into A. -/
  | fminDFmaxD (n : Nat) (f : FMinMax) (w : BaseWord)
  /-- FCMP_D (R233): FP64 compare into NZCV. -/
  | fcmpD (n : Nat) (w : BaseWord)
  /-- FADD_S_TO_FCMP_S (R233): The FP32 forms of the scalar floating-point instructions. -/
  | faddSToFcmpS (n : Nat) (f : FSOp) (w : BaseWord)
  /-- FCVT (R234): Converts A between the formats coded in IMM16. -/
  | fcvt (n : Nat) (w : BaseWord)
  /-- CUSTOMER_INSTRUCTION (R284): Runs a decode-table routine on staged state and commits it at END. -/
  | customerInstruction (n : Nat) (slot : BitVec 5) (w : BaseWord) (z : UcUpset)
  /-- STORE_BUFFER_DRAIN (R215): An eligible store-buffer entry drains through the shared port into local store or the L1. -/
  | storeBufferDrain (n : Nat) (bad : Bool)
  /-- INSTRUCTION_REFILL (R211): An instruction-cache miss refill of the line and the next line completes. -/
  | instructionRefill (n : Nat) (va : Nat)
  /-- BEAT_COMPARE_MATCH (R224): LANn.BEATLO becomes equal to BEATCMP.CMP, which sets PEND.BEAT. -/
  | beatCompareMatch (n : Nat)
  /-- SVC_REQUEST (R224): The pilot requests service from the supervisor runtime by setting PEND.SVC. -/
  | svcRequest (n : Nat)
  /-- EVENT_ENTRY (R271): The wick enters an event at a boundary: it pushes a frame if needed, fills the save set, enters supervisor mode and fetches the handler. -/
  | eventEntry (n : Nat) (src : EntrySrc)
  /-- MACHINE_CHECK_REPORT (R374): Zenith receives a lantern's halt report, halts the rest of the gang with cause 0x47 and aborts the kernel. -/
  | machineCheckReport (n : Nat)
  /-- KERNEL_WATCHDOG (R374): A lantern reaches WDLIMIT reference-ring beats without KEND and is halted with cause 0x46. -/
  | kernelWatchdog (n : Nat)
  /-- DRAM_READ (R300): A memory controller serves a 64-byte read, correcting, rebuilding or reporting errors. -/
  | dramRead (pa : Nat) (errs : List (BitVec 80))
  /-- DRAM_WRITE (R300): A memory controller serves a whole, masked or partial write of a 64-byte unit. -/
  | dramWrite (pa : Nat) (mask : BitVec 64) (data : BitVec 512) (errs : List (BitVec 80))
  /-- PARITY_DELTA (R398): A parity controller receives a scaled delta, adds it to its parity unit and acknowledges. -/
  | parityDelta (pa : Nat) (q : Nat)
  /-- UNIT_REBUILD (R400): Once no delta is outstanding, the controller rebuilds a UE unit from its page group, or poisons it. -/
  | unitRebuild (pa : Nat) (bad : List Nat)
  /-- ROW_CLOSE (R301): The controller closes an open row 50 ns after the last access that hit it. -/
  | rowClose (ch : Nat) (bank : Nat)
  /-- REFRESH (R308): The controller refreshes a bank, at double rate while the die group is above 85 °C. -/
  | refresh (ch : Nat) (bank : Nat)
  /-- CHANNEL_TRAINING_PASS_END (R309): A channel training pass ends, and the channel becomes ready, retries once, or fails with DCH_TRAIN. -/
  | channelTrainingPassEnd (ch : Nat) (failStep : Nat) (eye : Word)
  /-- DELAY_RECENTRE (R311): Every ms, the controller recentres pin delays and writes DCH_DRIFT for a pin that has drifted more than 6 taps. -/
  | delayRecentre (ch : Nat) (moved : List (Nat × Nat))
  /-- TILE_CACHE_ACCESS (R319): The home tile cache serves an access to a line, with hit, miss, prefetch or whole-line allocation. -/
  | tileCacheAccess (pa : Nat) (kind : CacheKind) (agent : Option Nat) (err : LineErr)
  /-- TILE_CACHE_FILL (R324): Fill data arrives, and the tile cache chooses a victim, writes back a dirty line and installs the line at its age. -/
  | tileCacheFill (t : Nat) (err : FillErr)
  /-- L1_INVALIDATION (R321): A lantern receives an invalidation for a line and acknowledges it. -/
  | l1Invalidation (n : Nat) (pa : Nat)
  /-- L1_INVALIDATION_ACK (R321): The last acknowledgement arrives, and the write becomes visible to every agent. -/
  | l1InvalidationAck (pa : Nat)
  /-- WAY_GROUP_POWER_DOWN (R329): Clearing a GROUP bit starts a clean of the way group. -/
  | wayGroupPowerDown (t : Nat) (g : Nat)
  /-- WAY_GROUP_CLEAN_END (R329): The clean walk completes, so CLEAN and ON clear and the group loses power. -/
  | wayGroupCleanEnd (t : Nat) (g : Nat)
  /-- WAY_GROUP_POWER_UP (R331): Setting a GROUP bit powers a group, or sets ERR when the group is under clean. -/
  | wayGroupPowerUp (t : Nat) (g : Nat)
  /-- WAY_GROUP_ON (R331): About 50 µs after power-up, ON is set and the group's ways become eligible. -/
  | wayGroupOn (t : Nat) (g : Nat)
  /-- TRANSLATION_FILL (R337): A translation-buffer miss is filled from the page table. -/
  | translationFill (n : Nat) (vpn : Nat)
  /-- SUB_PAGE_ARRIVAL (R347): A fetched sub-page arrives, and cirrus wakes every waiter of that sub-page. -/
  | subPageArrival (vpn : Nat) (sub : Nat)
  /-- FETCH_SLOW (R348): A fetch remains incomplete after 100 ms, so cirrus writes FETCH_SLOW. -/
  | fetchSlow (vpn : Nat)
  /-- FETCH_FAIL (R348): A fetch passes FETCHCFG.LIMIT, so cirrus stops it, sets FAIL and writes FETCH_FAIL. -/
  | fetchFail (vpn : Nat)
  /-- FETCH_RETRY (R359): Writing RETRY clears FAIL on every page and restarts the fetches. -/
  | fetchRetry
  /-- PAGE_HOLD_EXPIRY (R173): A page held for a stalled instruction is released from its hold after 1 ms. -/
  | pageHoldExpiry (vpn : Nat)
  /-- EVICTION (R355): The free pool falls below LOWMARK, and cirrus evicts a non-LOCAL page. -/
  | eviction
  /-- COW_COPY_COMPLETE (R358): Cirrus finishes copying a frozen page, sets its GEN to CUR and lets the waiting write replay. -/
  | cowCopyComplete (vpn : Nat)
  /-- PTE_QUERY (R359): Writing PTEQ.GO reads the page-table entry of VPN into PTED0 to PTED3, or sets MISS. -/
  | pteQuery (value : Word)
  /-- RD (R349): The home receives a read request for a page and sends it, recalling it first when needed. -/
  | rd (d : Nat) (vpn : Nat)
  /-- WR (R349): The home receives a write request, invalidates or recalls copies, and sends the page or a grant. -/
  | wr (d : Nat) (vpn : Nat)
  /-- INV (R350): A holder receives an invalidation and acknowledges it once unpinned, or answers NOCOPY. -/
  | inv (d : Nat) (vpn : Nat)
  /-- INV_ACKNOWLEDGEMENT (R349): The home receives an invalidation acknowledgement toward completing a pending upgrade. -/
  | invAcknowledgement (d : Nat) (vpn : Nat)
  /-- RECALL_R (R350): An owner receives a recall for reading and sends the data once unpinned. -/
  | recallR (d : Nat) (vpn : Nat)
  /-- RECALL_W (R350): An owner receives a recall for writing, sends the data and drops to I. -/
  | recallW (d : Nat) (vpn : Nat)
  /-- WB (R349): The home installs data written back by an owner. -/
  | wb (d : Nat) (vpn : Nat)
  /-- DROP (R349): The home removes a reader from the page's reader set. -/
  | drop (d : Nat) (vpn : Nat)
  /-- NOCOPY (R351): The home receives NOCOPY as the answer of a holder that holds no copy. -/
  | nocopy (d : Nat) (vpn : Nat)
  /-- GONE (R346): A holder learns that the page has been freed and clears V. -/
  | gone (d : Nat) (vpn : Nat)
  /-- GRANT_WITHOUT_DATA (R349): A reader receives write permission without data and sets ACC writable. -/
  | grantWithoutData (d : Nat) (vpn : Nat)
  /-- MAPQ (R343): The home receives a range query for a PEER allocation and checks it against its own LOCAL allocations. -/
  | mapq (d : Nat) (va : Nat) (size : Nat)
  /-- MAPA (R343): The home's accept or refusal arrives, and a waiting PEER ALLOC continues. -/
  | mapa (d : Nat) (va : Nat) (str : Nat) (status : Nat)
  /-- PAGE (R463): A 4 KiB part of a page arrives from a peer and is written, poison included. -/
  | page (d : Nat) (va : Nat) (last : Bool) (pmap : BitVec 64) (data : List Byte)
  /-- KERNEL_START (R372): Zenith places an eligible kernel head on a gang, prepares the lanterns and releases the wicks together. -/
  | kernelStart
  /-- COPY_ENTRY_START (R377): Zenith places an eligible copy entry on the lowest free engine. -/
  | copyEntryStart
  /-- COPY_COMPLETE (R382): A copy entry's last write becomes visible, so CADD is added to CEVT and DONE increments. -/
  | copyComplete (e : Nat)
  /-- COPY_FAULT (R381): A copy reaches an unmapped page, aborts, stops its queue with 0x06 and writes COPY_FAULT. -/
  | copyFault (e : Nat)
  /-- RESUME (R367): Writing RESUME clears STOP and SUB, and the head is re-read and checked again. -/
  | resume (q : Nat)
  /-- RELEASE (R375): Writing DISP.RELEASE.GO releases a halted lantern. -/
  | release (value : Word)
  /-- EVCMD_READ (R385): An EVCMD with OP 0 reads the counter into EVDLO and EVDHI. -/
  | evcmdRead (evt : Nat)
  /-- EVCMD_SET (R385): An EVCMD with OP 1 sets the counter from EVDLO and EVDHI, as a change under R361. -/
  | evcmdSet (evt : Nat)
  /-- EVCMD_ADD (R385): An EVCMD with OP 2 adds EVDLO and EVDHI to the counter, as a change under R361. -/
  | evcmdAdd (evt : Nat)
  /-- SCRUB_READ (R395): The paced lamplighter reads the next codewords, and writes back, rebuilds or poisons them with records. -/
  | scrubRead (src : ScrubSrc)
  /-- FLIT_REFUSAL (R393): A stage refuses an uncorrectable flit, which is resent once, then poisoned or reported as FLIT_HDR. -/
  | flitRefusal (src : Nat) (chan : Nat) (headerBad : Bool) (payloadBad : Option FlitData)
  /-- SPARE_REMAP (R418): Once the quarantined lantern is idle, the pilot starts self-test of the quadrant's spare. -/
  | spareRemap (n : Nat)
  /-- SPARE_SELFTEST_END (R418): The spare's self-test ends, and the map is rewritten, the decode table loaded and LAN_SPARED written, or the spare is marked bad. -/
  | spareSelftestEnd (n : Nat) (code : Nat) (bank : Nat) (row : Nat) (badArrays : List Nat)
  /-- FUSE_REPAIR_EFFECT (R416): A programmed spare row is switched in after the clean or at the lantern's idle, and SRAM_REPAIR is written. -/
  | fuseRepairEffect (kind : Nat) (unit : Nat)
  /-- BEACON_TREE_ARRIVAL (R425): The beacon reaches an origin on the beacon tree, which latches and raises the beacon on its outputs. -/
  | beaconTreeArrival (b : Nat)
  /-- BEACON_CHANNEL_ARRIVAL (R426): The beacon arrives on a forward input, which a non-origin holds until it latches and forwards the beacon. -/
  | beaconChannelArrival (b : Nat) (chan : Nat) (crossed : Nat)
  /-- CUT_COMPLETE (R429): Every block has reported its latch, so the pilot sets VALID and answers the cut's source. -/
  | cutComplete
  /-- CUT_WITHDRAWN (R429): A cut is still incomplete 20 ms after injection, so it is withdrawn and INCOMPLETE is set. -/
  | cutWithdrawn
  /-- TRIGGER (R433): TRIGGER_N has been stable low for 2 µs while armed, so the input disarms and the trigger is accepted or counted. -/
  | trigger
  /-- TRIGGER_REARM (R433): TRIGGER_N has been stable high for 2 µs, so the input re-arms and TRIGSTUCK clears. -/
  | triggerRearm
  /-- TRIGGER_STUCK (R433): TRIGGER_N has been low for more than 100 ms, so TRIGSTUCK is set. -/
  | triggerStuck
  /-- TRIGGER_COUNT_CLEAR (R433): Writing TRIGSTAT.CLR clears TRIGDROP and BCNDROP. -/
  | triggerCountClear
  /-- CHECKPOINT_CUT_CONDITION (R438): Counter e reaches v, and the pilot injects the checkpoint beacon. -/
  | checkpointCutCondition
  /-- PAGE_STREAM (R441): Cirrus streams one included page as a sealed page record to its destination slot. -/
  | pageStream
  /-- LINK_UP (R450): Lock and alignment have held for 100 ms, so the filtered link comes up. -/
  | linkUp
  /-- LINK_DOWN (R450): Loss of lock lasts 10 ms, so the filtered link goes down and DOWNS increments. -/
  | linkDown
  /-- HOLD_DOWN_END (R450): The 1 s hold-down ends and qualification starts again. -/
  | holdDownEnd
  /-- LINK_DOWN_TIMEOUT (R451): The link has been down for 5 s, so every open conduit becomes LOST. -/
  | linkDownTimeout
  /-- NEIGHBOR_SOLICITATION (R453): A Neighbor Solicitation for the device's address is answered with a Neighbor Advertisement. -/
  | neighborSolicitation (target : BitVec 128) (src : BitVec 128) (mac : BitVec 48)
  /-- ECHO_REQUEST (R453): An Echo Request to the device's address is answered with an Echo Reply. -/
  | echoRequest (dst : BitVec 128) (src : BitVec 128) (mac : BitVec 48) (body : List Byte)
  /-- DATA_PACKET (R457): A sealed packet arrives and is verified, delivered in PSN order, buffered, acknowledged or dropped. -/
  | dataPacket (p : Packet)
  /-- ACK (R458): An ACK packet arrives, frees acknowledged packets, retransmits holes the SACK reveals and applies ECE. -/
  | ack (p : Packet)
  /-- ACK_TIMER (R458): An ACK is sent 2 µs after the oldest unacknowledged packet arrived. -/
  | ackTimer (cid : Nat)
  /-- RETRANSMIT_TIMEOUT (R459): The retransmission timer expires, so the oldest packet is resent, RTO doubles and Rc halves. -/
  | retransmitTimeout (cid : Nat)
  /-- RATE_INCREASE (R461): Each 20 µs without a cut raises Rc by 10 Gbit/s, up to the link rate. -/
  | rateIncrease (cid : Nat)
  /-- PACKET_TRANSMIT (R462): The egress scheduler sends the next packet in priority order within Rc, moving to a new epoch when needed. -/
  | packetTransmit
  /-- READ (R467): A host READ of device memory takes effect and returns data with PMAP. -/
  | read (cid : Nat) (k : Nat)
  /-- WRITE (R467): A host WRITE to device memory takes effect, poisoning the units that PMAP names. -/
  | write (cid : Nat) (k : Nat)
  /-- FLUSH (R467): Once every earlier operation of the conduit has completed, FLUSH responds. -/
  | flush (cid : Nat) (k : Nat)
  /-- DOORBELL (R363): A doorbell advances a queue's TAIL, or stops the queue on an overrun. -/
  | doorbell (cid : Nat) (k : Nat)
  /-- EVENT_ADD (R361): A host or peer adds to an event counter. -/
  | eventAdd (cid : Nat) (k : Nat)
  /-- FETCH_ADD (R466): Atomically adds to a LOCAL word at its home and returns the old value. -/
  | fetchAdd (cid : Nat) (k : Nat)
  /-- HREAD (R463): The device requests host memory data. -/
  | hread (h : Nat) (addr : Dword) (len : Nat)
  /-- HWRITE (R463): The device writes host memory. -/
  | hwrite (h : Nat) (addr : Dword) (data : List Byte) (pmap : BitVec 64)
  /-- READ_RESPONSE (R463): A READ response is matched to its request by RID. -/
  | readResponse (cid : Nat) (k : Nat)
  /-- FLUSH_RESPONSE (R463): A FLUSH response is matched to its request by RID. -/
  | flushResponse (cid : Nat) (k : Nat)
  /-- FETCH_ADD_RESPONSE (R470): A FETCH_ADD response fills XRQ3 and XRQ4 and STATUS, advances CEVT and clears BUSY. -/
  | fetchAddResponse (cid : Nat) (k : Nat)
  /-- HREAD_RESPONSE (R463): Host data arrives for an HREAD, such as a sealed page fetch. -/
  | hreadResponse (cid : Nat) (k : Nat)
  /-- REMOTE_REQUEST (R470): Writing XRQ0.GO sends an EVENT_ADD or FETCH_ADD, or completes it at once under R471. -/
  | remoteRequest (n : Nat) (value : Word)
  /-- HELLO (R511): A HELLO is received and is accepted with an ANSWER or dropped. -/
  | hello (cid : Nat) (msg : List Byte)
  /-- ANSWER (R511): The initiator verifies the ANSWER, sends FINISH and opens the conduit, or fails with AUTH. -/
  | answer (cid : Nat) (msg : List Byte)
  /-- FINISH (R511): The responder verifies FINISH, derives the keys and opens the conduit. -/
  | finish (cid : Nat) (msg : List Byte)
  /-- HELLO_RESEND (R512): The initiator resends HELLO every 1 ms until an ANSWER arrives. -/
  | helloResend (cid : Nat)
  /-- ANSWER_RESEND (R512): The responder resends ANSWER every 1 ms while it awaits FINISH. -/
  | answerResend (cid : Nat)
  /-- HANDSHAKE_ABANDON (R512): The responder abandons the handshake 100 ms after its first ANSWER. -/
  | handshakeAbandon (cid : Nat)
  /-- DEADLINE_EXPIRY (R483): A command's deadline passes in its wait phase, so it is abandoned with DEADLINE. -/
  | deadlineExpiry
  /-- FREE_HOLDER_TIMEOUT (R490): A holder does not answer FREE within FETCHCFG.LIMIT and is treated as NOCOPY with FETCH_FAIL. -/
  | freeHolderTimeout (d : Nat) (vpn : Nat)
  /-- IDENTIFY (R485): Returns part, stepping, firmware version, keys and factory MAC. -/
  | identify (p : CmdPkt)
  /-- GET_STATUS (R486): Returns claim, stage, queue, snapshot, power and last-command status. -/
  | getStatus (p : CmdPkt)
  /-- READY_MAP (R484): Returns the 80-byte ready map. -/
  | readyMap (p : CmdPkt)
  /-- CLAIM (R503): Enrols the owner key after checking the proof of possession. -/
  | claim (p : CmdPkt)
  /-- OPEN_CONDUIT (R488): Opens a conduit through the handshake and waits for it. -/
  | openConduit (p : CmdPkt)
  /-- ATTEST (R518): Returns a signed attestation report for a nonce. -/
  | attest (p : CmdPkt)
  /-- LOAD_MEMBERSHIP (R507): Checks and installs an owner-signed membership list and unwraps CKS. -/
  | loadMembership (p : CmdPkt)
  /-- FW_STAGE (R520): Copies and verifies a firmware image into the staging area. -/
  | fwStage (p : CmdPkt)
  /-- FW_COMMIT (R521): Writes the staged image to flash, verifies it and sets COMMITPEND. -/
  | fwCommit (p : CmdPkt)
  /-- ALLOC (R342): Checks and creates an allocation and replies with VABASE. -/
  | alloc (p : CmdPkt)
  /-- FREE (R346): Recalls copies and frees whole allocations. -/
  | free (p : CmdPkt)
  /-- SET_STRENGTH (R402): Changes the erasure strength over a range of LOCAL pages. -/
  | setStrength (p : CmdPkt)
  /-- QUEUE_CREATE (R491): Creates a work queue ring. -/
  | queueCreate (p : CmdPkt)
  /-- QUEUE_DESTROY (R491): Discards the unstarted entries of a queue and clears its EN. -/
  | queueDestroy (p : CmdPkt)
  /-- SET_ADDRESS (R487): Writes own, peer or host addressing state and stores it in flash. -/
  | setAddress (p : CmdPkt)
  /-- SNAPSHOT (R495): Injects a beacon and replies with the cut ID once it completes or is withdrawn. -/
  | snapshot (p : CmdPkt)
  /-- READ_SNAPSHOT (R434): Returns words of a block's snapshot set with the injection and completion stamps. -/
  | readSnapshot (p : CmdPkt)
  /-- CHECKPOINT (R437): Checks a checkpoint request and waits for its cut condition. -/
  | checkpoint (p : CmdPkt)
  /-- RESTORE (R447): Verifies a signed manifest and restores its pages. -/
  | restore (p : CmdPkt)
  /-- RETIRE_PAGE (R412): Copies a physical page to a new page and retires the old one. -/
  | retirePage (p : CmdPkt)
  /-- RETIRE_BANK (R413): Moves the granules of a bank index and retires it. -/
  | retireBank (p : CmdPkt)
  /-- MAP_OUT_CHANNEL (R314): Moves every granule off a channel and adds it to the map-out list, or releases it from the list. -/
  | mapOutChannel (p : CmdPkt)
  /-- SCRUB_CONFIG (R394): Sets the lamplighter's enable and pass period. -/
  | scrubConfig (p : CmdPkt)
  /-- FUSE_REPAIR (R416): Programs a one-time spare-row slot. -/
  | fuseRepair (p : CmdPkt)
  /-- QUARANTINE (R492): Quarantines a lantern or an array, taking effect under R94 and R376. -/
  | quarantine (p : CmdPkt)
  /-- ERRLOG_READ (R407): Returns records in ascending SEQ from a given SEQ. -/
  | errlogRead (p : CmdPkt)
  /-- ERRLOG_CLEAR (R407): Removes every record up to a given SEQ. -/
  | errlogClear (p : CmdPkt)
  /-- REG_READ (R527): Reads consecutive registers after checking every address. -/
  | regRead (p : CmdPkt)
  /-- REG_WRITE (R489): Writes consecutive registers, signed where R489 requires. -/
  | regWrite (p : CmdPkt)
  /-- LOAD_DECODE_TABLE (R293): Checks a signed decode-table bundle and installs it in every lantern. -/
  | loadDecodeTable (p : CmdPkt)
  /-- POWER_DOMAIN (R566): Switches a power domain on or off after its checks. -/
  | powerDomain (p : CmdPkt)
  /-- SET_OPERATING_POINT (R31): Sets the quadrant voltage setpoints. -/
  | setOperatingPoint (p : CmdPkt)
  /-- SET_POWER_CAP (R33): Sets the module power cap. -/
  | setPowerCap (p : CmdPkt)
  /-- MARGIN (R313): Measures every pin's eyes on an out-of-service channel. -/
  | margin (p : CmdPkt)
  /-- RESET (R496): Replies OK, then resets the device 1 ms later. -/
  | reset (p : CmdPkt)
  /-- BLOCK_DISABLE (R533): Writing EN = 0 clears the block's ready-map bit and stops new work on it until it is idle. -/
  | blockDisable (addr : Nat)
  /-- BLOCK_ENABLE (R533): Writing EN = 1 returns the block to service after self-test and the decode table, or cancels a pending clear. -/
  | blockEnable (addr : Nat)
  /-- BLOCK_IDLE (R533): A block whose EN clear is pending becomes idle, and EN reads 0. -/
  | blockIdle (addr : Nat)
  /-- REGISTER_WRITE (R529): A write to a register with no behaviour of its own applies its access code, setting WIE where a write is ignored. -/
  | registerWrite (rq : Requester) (addr : Nat) (value : Word)
  /-- TMR_FIELD_READ (R534): A read of a TMR field votes its copies and repairs a single disagreement with a VOTEDIS record. -/
  | tmrFieldRead (rq : Requester) (addr : Nat) (upsets : TmrUpset)
  /-- TMR_VOTE_SWEEP (R534): Once each second, the pilot votes every TMR field, correcting, or writing TMR_LOST and disabling the block. -/
  | tmrVoteSweep (upsets : List (Nat × TmrUpset))
  /-- PG_IN_HIGH (R539): PG_IN has been filtered high, so power is good. -/
  | pgInHigh
  /-- PG_IN_LOW (R539): PG_IN has been filtered low, and the device enters reset. -/
  | pgInLow
  /-- RESET_N_LOW (R540): RESET_N has been filtered low, and the device enters reset with the effects of R540. -/
  | resetNLow
  /-- RESET_N_HIGH (R539): RESET_N has been filtered high, so reset is released. -/
  | resetNHigh
  /-- REFCLK_LOSS (R560): REFCLK is absent or out of range for 10 µs, so the device enters reset. -/
  | refclkLoss
  /-- PLL_LOCK (R541): Every PLL locks, and start proceeds to the boot ROM. -/
  | pllLock
  /-- PLL_LOCK_RETRY (R541): A PLL has not locked within 1 ms, so the controller retries every 10 ms. -/
  | pllLockRetry
  /-- BOOT_ROM (R542): The boot ROM measures, reads the security area, locks the TAP, verifies the image and starts the pilot and SEC, or enters recovery. -/
  | bootRom (imageReads : Bool) (itemsRead : Bool)
  /-- PILOT_READY (R544): The pilot's interpreter, log and stamp run, and ready-map bit 0 is set. -/
  | pilotReady
  /-- SEC_READY (R544): SEC has derived its keys, loaded its stored state and verified the bundle, so ready-map bit 1 is set. -/
  | secReady
  /-- DOMAIN_SWITCH_ON (R545): The pilot switches on the next eligible domain, at most one per ms. -/
  | domainSwitchOn
  /-- DOMAIN_POWERED (R545): A domain becomes powered, and its blocks start their self-tests or training. -/
  | domainPowered (d : Nat)
  /-- LANTERN_SELFTEST_END (R546): A lantern's self-test ends, and it receives the decode table and becomes ready, or writes LAN_BIST. -/
  | lanternSelftestEnd (n : Nat) (code : Nat) (bank : Nat) (row : Nat) (badArrays : List Nat)
  /-- TILE_CACHE_SELFTEST_END (R544): A tile cache's start and self-test end, and it becomes ready or writes LAN_BIST. -/
  | tileCacheSelftestEnd (t : Nat) (code : Nat)
  /-- COPY_ENGINE_SELFTEST_END (R544): A copy engine's self-test ends, and it becomes ready with EN set, or writes LAN_BIST. -/
  | copyEngineSelftestEnd (e : Nat) (pass : Bool)
  /-- CIRRUS_INIT_END (R544): Every channel has settled and the reserved region is written, so CIRRUS becomes ready. -/
  | cirrusInitEnd
  /-- BRINGUP_LIMIT_EXPIRY (R550): A bring-up phase exceeds its limit, and the outcome of R550 follows. -/
  | bringupLimitExpiry (ph : BringupPhase)
  /-- SUPPLY_SAMPLE (R564): Every 10 µs, PWR reads the blades and records range, imbalance or a protective fault. -/
  | supplySample (v0 : Nat) (v1 : Nat) (i0 : Nat) (i1 : Nat)
  /-- SENSOR_READING (R568): Every 100 µs, the sensors are read, filtered and checked for exclusion, alert and shutdown. -/
  | sensorReading (vals : List (Nat × Int))
  /-- SHUTDOWN_SECOND_STAGE (R572): Tile 0's base die stays at or above 115 °C for 1 s after shutdown, or a further supply fault occurs, so EP and ET are switched off. -/
  | shutdownSecondStage
  /-- EXTEST (R573): The TAP drives FAULT_N and THERM_ALERT_N from the boundary cells. -/
  | extest
  /-- SAMPLE_PRELOAD (R573): The TAP samples or preloads the boundary register. -/
  | samplePreload (shift : BitVec 7)
  /-- IDCODE (R573): The TAP selects the IDCODE register, which reads 0x1288_064F. -/
  | idcode
  /-- CLAMP (R573): The TAP holds the outputs from the boundary cells with the bypass register selected. -/
  | clamp
  /-- HIGHZ (R561): The TAP releases both open-drain outputs. -/
  | highz
  /-- BYPASS (R573): The TAP selects the bypass register; a locked TAP decodes every other code as this. -/
  | bypass (code : BitVec 4)
  /-- VECTOR_INSTRUCTION_COMPLETE (R196): The vector unit finishes the last lane group of a queued instruction, ending its write phase, releasing its pins and letting waiting accesses, VFENCE and KEND proceed. -/
  | vectorInstructionComplete (n : Nat)
  /-- COMMAND_COMPLETED (R476): The work of a long-running command such as MAP_OUT_CHANNEL, RETIRE_PAGE, RETIRE_BANK, MARGIN, FW_STAGE, FW_COMMIT, SET_STRENGTH, RESTORE or LOAD_DECODE_TABLE ends, so the pilot writes its record, replies and frees the interface. -/
  | commandCompleted (res : CompleteIn)
  /-- BAD_OPCODE (R480): A COMMAND packet with an opcode absent from the table Commands is answered with BAD_OPCODE and becomes the last completed command. -/
  | badOpcode (p : CmdPkt) (opcode : Nat)
  /-- BLOCK_LOCK_GAINED (R450): A lane gains block lock and FEC alignment, setting its ETH.LINK.LOCK bit and starting the 100 ms qualification toward link up. -/
  | blockLockGained (lane : Nat)
  /-- BLOCK_LOCK_LOST (R450): A lane loses block lock or FEC alignment, clearing its LOCK bit and starting the 10 ms loss filter or restarting qualification. -/
  | blockLockLost (lane : Nat)
  /-- REFCLK_PRESENT (R541): The detector oscillator finds REFCLK present again, ending the wait in reset, and the controller begins locking the PLLs. -/
  | refclkPresent
  /-- TRST_N_LOW (R573): TRST_N is asserted, so the TAP goes to Test-Logic-Reset with IDCODE selected and releases any EXTEST, CLAMP or HIGHZ control of the outputs. -/
  | trstNLow
  /-- PARITY_ACKNOWLEDGEMENT (R398): The data channel's controller receives a parity controller's acknowledgement, and the last one ends the unit's exclusion and any wait for outstanding deltas. -/
  | parityAcknowledgement (pa : Nat) (q : Nat)
  deriving DecidableEq, Repr

end Sys2Proof
end

