-- ==== Sys2Proof/Decode.lean ====
section
/-!
DEFINITION. Decode.lean: the command that a word of spec/opcode_table.json spells. The table
gives no row any bits: its rows are commands from outside, and the wick's instruction words
reach the model as the fields of R174 and R225. No word spells a command.
-/

namespace Sys2Proof

/-- The command that a word of `nbits` bits spells: none, since no row has bits. -/
def decodeTableWord (_nbits _w : Nat) : Option Instr := none

end Sys2Proof
end

