-- ==== Sys2Proof/Machine/State.lean ====
section
/-!
DEFINITION. State.lean: the state of the NQ288 as plain data, block by block, the reasons
for which a step can stop, and the state right after reset. Numbered blocks stand in
tables; a block that a table does not list is at its reset value.
-/

namespace Sys2Proof.Machine

open Sys2Proof

/-- No command of the table stops the machine with a fault; the type has the one reason
that the host's interface may ask for. -/
inductive Fault where
  /-- Raised by no meaning. Safe. -/
  | none
  deriving DecidableEq, Repr

/-- The reasons for which a step is refused. -/
inductive Refusal where
  /-- A command that the model gives no meaning to yet; only an arm of `exec` answers it.
  Safe. -/
  | notModelled (mnemonic : String)
  deriving DecidableEq, Repr

/-! ### The lantern -/

/-- One save set of an event level (R273). -/
structure SaveSet where
  spc : BitVec 48 := 0
  smode : Word := 0
  sflags : BitVec 4 := 0
  pushed : Bool := false
  pl : BitVec 2 := 0
  trapno : Byte := 0
  cause : Byte := 0
  saddr : Dword := 0
  selem : Half := 0
  deriving DecidableEq, Repr

/-- The wick's registers (R197, R274) and the vector length registers (R149). -/
structure Wick where
  a : Dword := 0
  x : Dword := 0
  y : Dword := 0
  sp : Dword := 0
  ssp : Dword := 0
  pc : Dword := 0
  flags : BitVec 4 := 0
  mode : Word := 0
  cnt : Dword := 0
  src : Dword := 0
  dst : Dword := 0
  lcnt : Dword := 0
  lbeg : Dword := 0
  lend : Dword := 0
  sstk : Dword := 0
  vl : Nat := 0
  vew : BitVec 2 := 0
  deriving DecidableEq, Repr

/-- What a wick does (R197, R241, R373): nothing, run a kernel, or stand after KEND. -/
inductive RunState where
  | idle | running | kended
  deriving DecidableEq, Repr

/-- What a wick waits for at its present instruction. The instruction has changed nothing
and executes afresh, except `answer`, whose message is under way (R223). -/
inductive Wait where
  | none
  /-- EWAIT on a counter and target (R260). -/
  | event (e : Nat) (target : Dword)
  /-- A non-resident or frozen page (R171, R221); `hold` for a vector instruction (R173). -/
  | page (vpn : Nat) (sub : Nat) (write : Bool) (hold : Bool)
  /-- A full queue, or a range or entry of another access (R80, R81, R162, R195, R215 to R217,
  R253). -/
  | drain
  /-- MFENCE, FENCE, VFENCE, SYNC.I or KEND: events are taken inside this wait (R277). -/
  | fence
  /-- The destination's answer to MSEND (R223). -/
  | answer
  deriving DecidableEq, Repr

/-- A message of 16 bytes with its sender's rank (R223). -/
structure Msg where
  rank : Nat
  w0 : Dword
  w1 : Dword
  deriving DecidableEq, Repr

/-- A message on its way: the destination lantern, and the answer once it has been given. -/
structure OutMsg where
  dest : Nat
  msg : Msg
  answer : Option Bool
  deriving DecidableEq, Repr

/-- A store-buffer entry (R215): space, address, bytes, the poison flag of R388, and
the pages that a half of a split store holds as pins (R221). -/
structure SbEntry where
  ls : Bool
  addr : Nat
  bytes : List Byte
  poison : Bool := false
  pins : List Nat := []
  deriving DecidableEq, Repr

/-- The block instructions and VBLK (R246, R252). -/
inductive BlkOp where
  | bcopy | bfill | bread | bcomp | bseek | vblk
  deriving DecidableEq, Repr

/-- A NaN report to a lantern's collector (R65, R69). -/
structure NanRep where
  pc : Dword
  insn : Word
  gen : Bool
  unit : BitVec 2
  arr : BitVec 3
  quad : BitVec 2
  stage : BitVec 4
  fmt : BitVec 4
  lgrp : Half
  trow : Half
  tcol : Half
  row : Half
  col : Half
  kstep : Word
  deriving DecidableEq, Repr

/-- A queued vector instruction whose write phase has not ended (R162, R164). -/
structure VqEntry where
  pc : Dword
  insn : Word
  /-- What its write phase writes to memory: DV, address, bytes. -/
  stores : List (Bool × Nat × List Byte) := []
  /-- The wick's registers before and after it, and the sticky exceptions that it was the first to
  set, for its discard under R267. -/
  before : Wick := {}
  after : Wick := {}
  fxNew : BitVec 5 := 0
  /-- Pages pinned until the write phase ends (R172). -/
  pins : List Nat := []
  /-- Lowest element with an enabled floating-point exception (R194). -/
  fx : Option Nat := none
  /-- Its first NaN (R65, R68). -/
  nan : Option NanRep := none
  deriving DecidableEq, Repr

/-- One hand-off of VBLK that the loader holds (R252, R253). -/
structure LoaderItem where
  t : Bool
  dirOut : Bool
  sz : Nat
  src : Dword
  dst : Dword
  x : Dword
  y : Dword
  pins : List Nat
  deriving DecidableEq, Repr

/-- A matrix multiply as issued, with the operands of R77. -/
structure MmaReq where
  shape : Nat
  fa : Nat
  fb : Nat
  fc : Nat
  acc : Bool
  slot : Nat
  k : Nat
  mlen : Nat
  nlen : Nat
  ab : Nat
  bb : Nat
  asb : Nat
  bsb : Nat
  skip : BitVec 8
  comp : Bool
  /-- MEFF and NEFF at issue (R88), and the instruction for NaN reports (R69). -/
  meff : Nat
  neff : Nat
  pc : Dword
  insn : Word
  deriving DecidableEq, Repr

/-- A drain as issued (R77). `pred` is the predicate's value at issue, and `ext` the bytes
from the output base to the last byte of its output. -/
structure DrainReq where
  shape : Nat
  fo : Nat
  e4nan : Bool
  slot : Nat
  pred : BitVec 8192
  pitch : Nat
  ob : Nat
  ext : Nat
  deriving DecidableEq, Repr

/-- The three kinds of matrix-queue entry (R80, R124). -/
inductive MqOp where
  | mma (r : MmaReq)
  | drain (r : DrainReq)
  | chain (desc : List Byte) (started : Bool)
  deriving DecidableEq, Repr

/-- A matrix-queue entry. Bit m of `done` is set once array m has run its share, or has
handed its tile off; bit m of `written` once array m's output stands in local store. -/
structure MqEntry where
  id : Nat
  pc : Dword
  insn : Word
  op : MqOp
  done : BitVec 8
  written : BitVec 8
  /-- The first NaN that its shares have met (R68). -/
  nan : Option NanRep := none
  deriving DecidableEq, Repr

/-- A multiply that has left the queue while shares of it wait for the substitute: its identity, and the
first NaN that it has met so far (R67, R68, R94). -/
structure LateNan where
  id : Nat
  nan : Option NanRep
  deriving DecidableEq, Repr

/-- An accumulator tile (R79, R97). Element (row, column) of quadrant q has key
1024 q + 32 row + column; an unlisted element holds zero. With an error term, FP64 holds the value in
bits [63:0] and the term in [127:64], and 0xE the value in [31:0] and the term in [63:32] (R42, R97). `rowChk` and `colChk` hold the
checksum-column and checksum-row elements of R91. -/
structure Tile where
  shape : Nat
  fc : Nat
  comp : Bool
  mlen : Nat
  nlen : Nat
  meff : Nat
  neff : Nat
  elems : Tab (BitVec 128) := []
  rowChk : Tab (BitVec 128) := []
  colChk : Tab (BitVec 128) := []
  fa : Nat := 0
  fb : Nat := 0
  /-- Units of the array, the quadrants in S16, whose tile is poisoned (R390, R392). -/
  poison : BitVec 4 := 0
  /-- In checksum mode, an accumulator read found it uncorrectable, which R93 takes as a mismatch
  (R392). -/
  afe : Bool := false
  /-- The share that formed the tile, kept in checksum mode for R93. -/
  req : Option MmaReq := none
  /-- The share falls on a quarantined array and has not run yet (R94); `mma` is the identity of its
  instruction. -/
  deferred : Bool := false
  mma : Nat := 0
  deriving DecidableEq, Repr

/-- The step of R93 that a held tile has reached. -/
inductive HeldStep where
  | drain
  /-- Step 2 on this array. -/
  | recompute
  /-- Step 5 on the substitute. -/
  | substitute
  /-- Step 6 on the array that holds the mismatching pair. -/
  | selftest (m : Nat)
  deriving DecidableEq, Repr

/-- A tile in shadow banks (R100), with the drain that it belongs to. -/
structure ShadowTile where
  tile : Tile
  banks : Nat
  id : Nat
  req : DrainReq
  step : HeldStep := .drain
  deriving DecidableEq, Repr

/-- A matrix array (R89, R90, R96 to R103). `quarReq` marks a QUARANTINE that has not
taken effect (R94). -/
structure Arr where
  quar : Bool := false
  quarReq : Bool := false
  bypPend : Bool := false
  nbyp : Nat := 0
  byp0 : BitVec 5 := 0
  byp1 : BitVec 5 := 0
  pendCol : BitVec 5 := 0
  strike : Word := 0
  recomp : Nat := 0
  stable : Nat := 0
  howait : Nat := 0
  slots : Tab Tile := []
  shadow : List ShadowTile := []
  deriving DecidableEq, Repr

/-- A cache line's tag and age (R323). -/
structure CLine where
  tag : Nat
  age : Nat
  deriving DecidableEq, Repr

/-- The NaN record and control of a lantern (R65 to R69). -/
structure NanRegs where
  trapEn : Bool := false
  valid : Bool := false
  pc : BitVec 48 := 0
  insn : Word := 0
  src : Word := 0
  tile : Word := 0
  elem : Word := 0
  k : Word := 0
  cnt : Nat := 0
  deriving DecidableEq, Repr

/-- The remote request registers (R470). -/
structure Xrq where
  busy : Bool := false
  status : BitVec 6 := 0
  op : Byte := 0
  peer : BitVec 10 := 0
  addr : BitVec 48 := 0
  opnd : Dword := 0
  cen : Bool := false
  cevt : BitVec 12 := 0
  deriving DecidableEq, Repr

/-- Halt state (R279). -/
structure Halt where
  halted : Bool := false
  cl : BitVec 2 := 0
  cause : Byte := 0
  pc : BitVec 48 := 0
  deriving DecidableEq, Repr

/-- Service state of a lantern (R533, R370, R376, R546). -/
structure LanSvc where
  en : Bool := false
  clrPend : Bool := false
  wie : Bool := false
  votedis : Nat := 0
  /-- Built-in self-test runs. -/
  testing : Bool := false
  /-- Self-test has passed; the bit waits for SEC (R544). -/
  passed : Bool := false
  /-- Failed self-test, or a remap without a good spare. -/
  failed : Bool := false
  /-- It was quarantined and had no good spare (R376). -/
  noSpare : Bool := false
  /-- It has been ready since its domain powered up. -/
  wasReady : Bool := false
  /-- A QUARANTINE of the lantern has been accepted and the remap is not complete. -/
  quarPend : Bool := false
  /-- The spare's self-test runs (R418). -/
  spareTest : Bool := false
  /-- A local-store bank and row whose repair waits for the lantern's idle (R416). -/
  fusePend : Option (Nat × Nat) := none
  /-- Spare rows that are switched in: structure code of LOCKIND 4, bank and row (R415, R416). -/
  rows : List (Nat × Nat × Nat) := []
  deriving DecidableEq, Repr

/-- A lantern. -/
structure Lantern where
  svc : LanSvc := {}
  wick : Wick := {}
  run : RunState := .idle
  wait : Wait := .none
  rep : Option (BlkOp × Half) := none
  /-- An event has been entered and the handler's first instruction has not completed (R268). -/
  entered : Bool := false
  /-- Pages that the present instruction holds as pins while it waits after translation (R172,
  R221). -/
  pins : List Nat := []
  /-- Kernel identity in zenith's list of gangs (R371). -/
  gang : Option Nat := none
  rank : Nat := 0
  gsize : Nat := 0
  beat : Dword := 0
  work : Dword := 0
  beatcmp : Word := 0
  enSvc : Bool := false
  enBeat : Bool := false
  enMsg : Bool := false
  pendSvc : Bool := false
  pendBeat : Bool := false
  refused : Nat := 0
  fifo : List Msg := []
  out : Option OutMsg := none
  lsguard : BitVec 6 := 63
  sslim : BitVec 22 := 0x3F8000
  evbase : BitVec 48 := 0
  cl : BitVec 2 := 0
  busy1 : Bool := false
  busy2 : Bool := false
  busy3 : Bool := false
  sv1 : SaveSet := {}
  sv2 : SaveSet := {}
  sv3 : SaveSet := {}
  halt : Halt := {}
  /-- MCFG.CHK (R88). -/
  chk : Bool := false
  /-- MCAP fields that the pilot keeps (R88, R90): AMASK, WMIN, NARR. -/
  amask : BitVec 8 := 0xFF
  wmin : Nat := 32
  narr : Nat := 8
  ucslots : Tab Word := []
  /-- Slots of the decode table of which no two copies agree (R290). -/
  ucBad : List Nat := []
  ucstore : Tab Dword := []
  ucFcode : Byte := 0
  ucSlot : BitVec 5 := 0
  ucAborts : Nat := 0
  nan : NanRegs := {}
  xrq : Xrq := {}
  v : Tab (BitVec 65536) := []
  p : Tab (BitVec 8192) := []
  sb : List SbEntry := []
  resv : Option (Bool × Nat) := none
  vq : List VqEntry := []
  mq : List MqEntry := []
  mqNext : Nat := 0
  lq : List LoaderItem := []
  /-- Deferred reports (R266): NaN trap, vector FP exception, register-file error. -/
  defNan : Bool := false
  defFx : Option (Dword × Nat) := none
  defRf : Option (Dword × Nat) := none
  /-- Vector exception reports that the wick has not accepted (R194), and NaN reports that the
  collector has not accepted (R68). -/
  fxRep : List (Dword × Nat) := []
  nanQ : List NanRep := []
  /-- Multiplies that have left the matrix queue and not met every NaN yet (R94). -/
  nanLate : List LateNan := []
  arrs : Tab Arr := []
  ls : List Host.Cell := []
  lsPoison : List Nat := []
  l1 : Tab CLine := []
  icache : Tab CLine := []
  lineBuf : List Nat := []
  tb : List Nat := []
  deriving DecidableEq, Repr

/-! ### Tile caches, DRAM and cirrus -/

/-- A tile-cache line (R319, R321, R323). -/
structure TcLine where
  tag : Nat
  dirty : Bool
  age : Nat
  pres : BitVec 16
  deriving DecidableEq, Repr

/-- A fill that a tile cache waits for. -/
structure TcFill where
  pa : Nat
  age : Nat
  prefetch : Bool
  /-- It was asked for by a write. -/
  dirty : Bool
  /-- Quadrants of lanterns that asked for it. -/
  quads : BitVec 16 := 0
  /-- L1 fills that wait for it: lantern, and address of the 128-byte line (R322). -/
  l1s : List (Nat × Nat) := []
  deriving DecidableEq, Repr

/-- Who accesses device memory: a wick, another unit of a lantern, a copy engine, an operation of a conduit,
another origin by its SRC, or an agent outside the fabric. -/
inductive Writer where
  | wick (n : Nat)
  | lantern (n : Nat)
  | engine (e : Nat)
  | conduit (c : Nat)
  | unit (src : Nat)
  | other
  deriving DecidableEq, Repr

/-- A write to line `pa` that is not yet visible to every agent: the lanterns that have not
acknowledged, and the writer (R321). -/
structure Inval where
  pa : Nat
  lans : List Nat
  writer : Writer
  deriving DecidableEq, Repr

/-- A tile cache (R318 to R332). -/
structure TCache where
  en : Bool := false
  wie : Bool := false
  votedis : Nat := 0
  beat : Dword := 0
  err : Bool := false
  clean : BitVec 4 := 0
  on : BitVec 4 := 0xF
  group : BitVec 4 := 0xF
  ceData : Nat := 0
  ceTag : Nat := 0
  lines : Tab TcLine := []
  fills : List TcFill := []
  /-- Writes to lines whose L1 copies are being invalidated (R321). -/
  invals : List Inval := []
  testing : Bool := false
  /-- The set that the walk of each way group under clean has reached (R329, R330). -/
  walk : Tab Nat := []
  /-- A bank and row whose spare is being switched in (R416). -/
  fuse : Option (Nat × Nat) := none
  /-- Spare rows that are switched in: bank and row (R415, R416). -/
  rows : List (Nat × Nat) := []
  /-- Units of written-back lines that their controllers have not yet taken (R322, R434). -/
  wbs : List Nat := []
  deriving DecidableEq, Repr

/-- A DRAM channel (R309 to R317). -/
structure Dch where
  en : Bool := false
  wie : Bool := false
  votedis : Nat := 0
  mapout : Bool := false
  listed : Bool := false
  maint : BitVec 3 := 0
  tfail : BitVec 3 := 0
  refx2 : Bool := false
  temp : Nat := 0
  eye : Word := 0
  cecnt : Nat := 0
  rmwcnt : Nat := 0
  bankret : BitVec 48 := 0
  openRows : Tab Nat := []
  failedOnce : Bool := false
  deriving DecidableEq, Repr

/-- Residency (R339). -/
inductive Res where | unbacked | loc | peer | host
  deriving DecidableEq, Repr
/-- Local access (R339). -/
inductive Acc where | none | read | write
  deriving DecidableEq, Repr

/-- A page-table entry (R339). -/
structure Pte where
  res : Res
  acc : Acc
  str : Nat
  v : Bool
  fail : Bool := false
  shared : Bool := false
  held : Bool := false
  tile : Nat := 0
  anyt : Bool := false
  home : Nat := 0
  ppn : Nat := 0
  plx : Nat := 0
  gen : Half := 0
  sealver : Nat := 0
  deriving DecidableEq, Repr

/-- A placement record (R356): parity granule of group j and index q at key 4 j + q, and
the relocated granules by index in the page. -/
structure PlRec where
  parity : Tab Nat := []
  reloc : Tab Nat := []
  deriving DecidableEq, Repr

/-- The home of an allocation (R342). -/
inductive HomeKind where | loc | peer | host
  deriving DecidableEq, Repr

/-- An allocation: pages, strength, home and placement hint (R342 to R345). -/
structure Alloc where
  npages : Nat
  str : Nat
  kind : HomeKind
  home : Nat
  hbase : Nat
  tile : Nat
  anyt : Bool
  deriving DecidableEq, Repr

/-- A page fetch under way (R347, R348). `data` is false for an upgrade that brings no
data. Bit i of `got` is set once part i of 4 KiB stands in page `ppn`; bit s of `arrived` is
set once sub-page s has been reported. `ct` holds the sealed parts of a HOST page, with its
tag block as part 512. -/
structure Fetch where
  write : Bool
  critical : Nat
  ppn : Nat
  plx : Nat := 0
  /-- It waits for a free page (R355). -/
  starved : Bool := false
  data : Bool := true
  /-- Everything has arrived; the change of the entry waits for a pin (R337). -/
  ended : Bool := false
  got : BitVec 512 := 0
  arrived : BitVec 32 := 0
  slow : Bool := false
  ct : Tab (List Byte) := []
  /-- Poison maps of the sealed parts that have arrived (R390). -/
  pm : Tab (BitVec 64) := []
  deriving DecidableEq, Repr

/-- What a holder owes once no pin holds a page: the answer to an INV or a recall, or a GONE to act on
(R172, R346, R350). -/
inductive Owed where
  | inv
  | recall (w : Bool)
  | gone
  deriving DecidableEq, Repr

/-- A request that a home serves (R349, R351). -/
inductive HomeReq where
  | rd (d : Nat) | wr (d : Nat) | localRead | localWrite
  deriving DecidableEq, Repr

/-- The directory of a page homed here (R349, R351): owner or readers, the request in
progress with the devices that still have to answer, and the requests behind it. `wb` is set
while the pages of a WB of the owner arrive, and `late` names the devices whose NOCOPY to a recall that a
WB has answered is still to come. -/
structure Dir where
  owner : Option Nat := none
  readers : List Nat := []
  cur : Option HomeReq := none
  await : List Nat := []
  queue : List HomeReq := []
  wb : Bool := false
  late : List Nat := []
  deriving DecidableEq, Repr

/-- The CIRRUS block (R336 to R359). -/
structure Cirrus where
  en : Bool := false
  wie : Bool := false
  votedis : Nat := 0
  /-- Granules in the pool and granules reserved (CAPFREE, CAPRES). -/
  capFree : Nat := 0
  capRes : Nat := 0
  minRemote : Half := 256
  lowmark : Half := 16
  limit : Half := 2000
  active : Bool := false
  ckerr : Bool := false
  cur : Half := 0
  pteqVpn : BitVec 27 := 0
  pteqMiss : Bool := false
  pted : BitVec 128 := 0
  fails : Nat := 0
  evicts : Half := 0
  ptes : Tab Pte := []
  pls : Tab PlRec := []
  allocs : Tab Alloc := []
  fetches : Tab Fetch := []
  /-- Pages held for stalled instructions, each with the lantern that it is held for (R173). -/
  holds : List (Nat × Nat) := []
  /-- Order of fetches, the least recent first (R355). -/
  recency : List Nat := []
  dirs : Tab Dir := []
  /-- Frozen pages with a copy that the streamer takes its data from (R358), with the page
  that holds the copy and its placement record. -/
  cows : Tab (Nat × Nat) := []
  /-- Pages whose write waits with a free pool of zero (R358). -/
  cowWait : List Nat := []
  /-- Pages that a move or a rebuild treats as not resident (R316). -/
  moving : List Nat := []
  /-- Physical pages out of the pool: retired (R412). -/
  retired : List Nat := []
  /-- What waits for a pin: home device and page (R350). -/
  owed : List (Nat × Nat × Owed) := []
  deriving DecidableEq, Repr

/-! ### Zenith and the copy engines -/

/-- A work queue (R363, R385). -/
structure Queue where
  stop : Bool := false
  sub : Byte := 0
  logn : Nat := 4
  base : Nat := 0
  head : Half := 0
  tail : Half := 0
  done : Word := 0
  /-- The head as it was read, once it has passed R367. -/
  held : Option (List Byte) := none
  /-- The head could not be placed (R369). -/
  blocked : Bool := false
  deriving DecidableEq, Repr

/-- A running kernel (R371 to R374). -/
structure Gang where
  id : Nat
  q : Nat
  idx : Half
  members : List Nat
  finished : List Nat
  cevtEn : Bool
  cevt : Nat
  cadd : Dword
  wdlimit : Dword
  tag : Dword
  deriving DecidableEq, Repr

/-- A copy engine and the entry that it holds (R377 to R382). -/
structure Engine where
  en : Bool := false
  clrPend : Bool := false
  wie : Bool := false
  votedis : Nat := 0
  testing : Bool := false
  /-- Pages whose cirrus work the engine had begun when its EN was written 0 (R533). -/
  cirHeld : List Nat := []
  busy : Bool := false
  q : Nat := 0
  idx : Half := 0
  /-- Bytes written by copy entries (BYTES, R385). -/
  bytes : Nat := 0
  /-- The bytes of the held entry are written; they are not yet visible to every agent (R382). -/
  written : Bool := false
  /-- The 64 payload bytes of the held entry. -/
  payload : List Byte := []
  cevtEn : Bool := false
  cevt : Nat := 0
  cadd : Dword := 0
  deriving DecidableEq, Repr

/-- The DISP block. -/
structure Disp where
  en : Bool := false
  wie : Bool := false
  votedis : Nat := 0
  counters : Tab Dword := []
  queues : Tab Queue := []
  evd : Dword := 0
  relLan : Byte := 0
  gangs : List Gang := []
  nextGang : Nat := 0
  /-- The queue that was started last at each priority (R368). -/
  lastQ : Tab Nat := []
  /-- LOAD_DECODE_TABLE or RESTORE holds dispatch (R293, R447). -/
  hold : Bool := false
  deriving DecidableEq, Repr

/-! ### Pilot -/

/-- An error record (R404). -/
structure ErrRec where
  seq : Nat
  stamp : Dword
  src : Nat
  cls : Nat
  va : Bool
  urgent : Bool := false
  retired : Bool := false
  merged : Bool := false
  code : Nat
  lockind : Nat
  rep : Nat := 0
  devaddr : Nat
  loc : List Byte
  aux : Nat
  last : Dword
  deriving DecidableEq, Repr

/-- The command that holds the interface (R476). -/
structure Busy where
  opcode : Nat
  pkt : CmdPkt
  since : Dword
  /-- It is in a wait phase (R483). -/
  waiting : Bool
  /-- Its conduit has become LOST, so that its reply will be discarded (R479). -/
  lost : Bool := false
  deriving DecidableEq, Repr

/-- The last completed command (R486). -/
structure LastCmd where
  ep : Nat
  opcode : Nat
  tag : Word
  status : Nat
  deriving DecidableEq, Repr

/-- The RESTORE in progress (R446, R447). -/
structure Restore where
  /-- Parts of the manifest by number, and of the record of entry `idx`. -/
  parts : Tab (List Byte) := []
  recParts : Tab (List Byte) := []
  verified : Bool := false
  asked : Bool := false
  idx : Nat := 0
  written : Nat := 0
  /-- The key that verified the first record. -/
  key : Option (List Byte) := none
  /-- The status once the work has ended. -/
  result : Option Nat := none
  deriving DecidableEq, Repr

/-- The pilot's registers and queues. -/
structure Pilot where
  en : Bool := false
  wie : Bool := false
  votedis : Nat := 0
  started : Bool := false
  stamp : Dword := 0
  /-- Lanterns for which SPARE_REQUEST has been written (R418). -/
  spareReqs : List Nat := []
  /-- Lanterns whose QUARANTINE has been accepted and is not complete (R376). -/
  quars : List Nat := []
  rateBusy : Bool := false
  rateErr : Bool := false
  rateSel : Bool := false
  rateTarget : Byte := 0
  rateWindow : BitVec 10 := 10
  /-- The first sample of the target counter (R24). -/
  rateFirst : Option Dword := none
  kbeats : Word := 0
  /-- HI halves latched by reads of LO halves, by requester (R22). -/
  latches : List ((Requester × Nat) × Word) := []
  errq : List ErrRec := []
  seq : Nat := 0
  ovf : Nat := 0
  uelost : Nat := 0
  notif : Option Word := none
  ready : BitVec 600 := 0
  readyChanged : Bool := false
  /-- The stamp of the last READY notification (R498). -/
  readySent : Option Dword := none
  busy : Option Busy := none
  /-- COMMAND payloads that the transport has delivered and the pilot has still to take, with their conduits
  (R469). -/
  inbox : List (Nat × List Byte) := []
  last : Option LastCmd := none
  restore : Option Restore := none
  /-- The bytes that the command in progress has read and checked. -/
  object : List Byte := []
  /-- RESET has replied, and the device resets after this many edges of the slow clock (R496). -/
  resetIn : Option Nat := none
  /-- Values of TMR fields that are lost (R535), by address. -/
  tmrLost : List Nat := []
  stalls : List (Nat × Nat) := []
  trigStuck : Bool := false
  stuckSeen : Bool := false
  trigLevel : Bool := true
  trigArmed : Bool := true
  trigLast : Option Dword := none
  trigDrop : Nat := 0
  bcnDrop : Nat := 0
  trigEn : Bool := false
  nanEn : Bool := false
  snapClass : BitVec 5 := 0
  inflight : Bool := false
  snapValid : Bool := false
  incomplete : Bool := false
  snapSrc : BitVec 3 := 0
  snapId : Half := 0
  injStamp : Dword := 0
  compStamp : Dword := 0
  deriving DecidableEq, Repr

/-- The beacon sweep (R425 to R428): the words of each snapshot set by SRC, the blocks that have
latched, and the forward inputs on which the beacon has arrived. -/
structure Beacon where
  sets : Tab (List Word) := []
  latched : List Nat := []
  arrived : List (Nat × Nat) := []
  /-- CUR that the beacon of a checkpoint carries (R438). -/
  cur : Half := 0
  /-- A cut condition of CHECKPOINT waits for the beacon in flight (R431). -/
  ckWait : Bool := false
  deriving DecidableEq, Repr

/-- A destination of a checkpoint (R435). -/
structure CkDest where
  ep : Nat
  dbase : Nat
  dlen : Nat
  mbase : Nat
  deriving DecidableEq, Repr

/-- The checkpoint whose cut cirrus has taken (R435 to R444). -/
structure Ckpt where
  evt : Nat
  val : Dword
  cutEn : Bool
  cutEvt : Nat
  cEn : Bool
  cEvt : Nat
  dests : List CkDest
  /-- Included pages not yet streamed, in order, with their places in the order of R436. -/
  todo : List (Nat × Nat) := []
  /-- Manifest entries by place. -/
  entries : Tab (List Byte) := []
  /-- Pages that a peer owned and that have been recalled (R441). -/
  recalled : List Nat := []
  /-- Strengths of pages that have been freed since the cut (R346). -/
  freed : Tab Nat := []
  gen : Half := 0
  devidx : Half := 0
  stamp : Dword := 0
  /-- The key of R516, formed when the cut completes. -/
  key : List Byte := []
  streaming : Bool := false
  deriving DecidableEq, Repr

/-! ### Transport -/

/-- Conduit state (R472). -/
inductive CState where | closed | opening | opened | lost
  deriving DecidableEq, Repr

/-- A packet that the device has sent and that is not acknowledged, or that waits to be
sent (R457, R462): its type and plain payload. -/
structure TxPkt where
  psn : Word
  typ : Byte
  payload : List Byte
  sent : Bool := false
  /-- It has been retransmitted; it waits to be; a SACK has shown it missing. -/
  retx : Bool := false
  again : Bool := false
  holed : Bool := false
  /-- Stamp of its last transmission. -/
  sentAt : Dword := 0
  deriving DecidableEq, Repr

/-- An operation that has been delivered and has not taken effect (R463, R467). -/
structure DpOp where
  op : Byte
  status : Byte
  len : Nat
  rid : Word
  addr : Dword
  opnd : Dword
  pmap : BitVec 64
  data : List Byte
  deriving DecidableEq, Repr

/-- What a device-originated request is for. -/
inductive ReqFor where
  | host
  | xrq (n : Nat)
  | sealedPage (vpn sub : Nat)
  /-- Part `i` of what RESTORE reads: of its manifest, or of the record of the present entry. -/
  | restore (manifest : Bool) (i : Nat)
  deriving DecidableEq, Repr

/-- The handshake of an opening conduit (R510 to R513). -/
structure Hs where
  initiator : Bool
  hello : List Byte
  answer : List Byte
  /-- The private half of the device's ephemeral key. -/
  priv : List Byte
  /-- The conduit's state before the handshake. -/
  was : CState := .closed
  deriving DecidableEq, Repr

/-- A conduit (R456 to R461, R513, R514). -/
structure Conduit where
  st : CState := .closed
  anon : Bool := false
  idkey : List Byte := []
  hs : Option Hs := none
  lastFinish : List Byte := []
  secTx : List Byte := []
  secRx : List Byte := []
  epochTx : Byte := 0
  epochRx : Byte := 0
  xsn : Dword := 0
  psnTx : Word := 0
  ackRx : Word := 0
  ackTx : Word := 0
  unacked : List TxPkt := []
  reorder : List (Word × Byte × List Byte) := []
  sinceAck : Nat := 0
  ackDue : Bool := false
  /-- An ACK packet waits to be sent. -/
  ackOut : Bool := false
  eceDue : Bool := false
  rtoNs : Nat := 500000
  srttNs : Option Nat := none
  expiries : Nat := 0
  rc : Nat := 0
  /-- A cut of Rc has been made less than 20 µs ago (R461). -/
  cutRecent : Bool := false
  retxCnt : Nat := 0
  ops : List DpOp := []
  reqs : List (Word × Byte × ReqFor) := []
  nextRid : Word := 0
  deriving DecidableEq, Repr

/-- An entry of the peer or host table (R452, R487). -/
structure AddrEntry where
  valid : Bool := false
  notify : Bool := false
  ip : BitVec 128 := 0
  mac : BitVec 48 := 0
  port : Half := 0
  deriving DecidableEq, Repr

/-- The addressing state (R452). -/
structure AddrState where
  set : Bool := false
  mac : BitVec 48 := 0
  ip : BitVec 128 := 0
  port : Half := 19428
  vlan : Option (BitVec 12 × BitVec 3) := none
  dscp : BitVec 6 := 0
  peers : Tab AddrEntry := []
  hosts : Tab AddrEntry := []
  deriving DecidableEq, Repr

/-- The port and the transport engine (R448 to R472). -/
structure Xpt where
  ethEn : Bool := false
  ethWie : Bool := false
  ethVotedis : Nat := 0
  en : Bool := false
  wie : Bool := false
  votedis : Nat := 0
  up : Bool := false
  held : Bool := false
  mode800 : Bool := false
  kr : Bool := false
  lock : Byte := 0
  downs : Nat := 0
  /-- Edges of the slow clock since the last link up, at most 200 ms of them (R450). -/
  upAge : Option Nat := none
  feccorr : Nat := 0
  fecunc : Nat := 0
  dropAuth : Nat := 0
  dropHdr : Nat := 0
  dropWin : Nat := 0
  dropNorid : Nat := 0
  cq : BitVec 11 := 0
  cons : Tab Conduit := []
  /-- The conduit that the round-robin of new DATA packets served last (R462). -/
  lastCid : Nat := 0
  /-- Frames that left the device: conduit (none for ICMPv6) and bytes. -/
  sent : List (Option Nat × List Byte) := []
  deriving DecidableEq, Repr

/-! ### Security, flash, power, thermal, reset -/

/-- A field repair slot that has been programmed (R416): kind 0 for a bank of tile cache `unit`, 1 for the
local store at lantern site `unit` (256 plus the quadrant for its spare site). -/
structure Repair where
  kind : Nat
  unit : Nat
  bank : Nat
  row : Nat
  /-- The spare row has been switched in. -/
  done : Bool := false
  deriving DecidableEq, Repr

/-- The items of the in-module flash (R315, R414, R449, R452, R481, R504, R508, R519,
R521, R523, R548). -/
structure Flash where
  owner : Option (List Byte) := none
  oseq : Dword := 0
  lseq : Dword := 0
  list : Option (List Byte) := none
  devidx : Half := 0xFFFF
  cks : List Byte := []
  svn : Word := 0
  bootcnt : Dword := 0
  dtseq : Word := 0
  bundle : List Byte := []
  addr : AddrState := {}
  mode800 : Bool := false
  kr : Bool := false
  dbgOpen : Bool := false
  mapout : List Nat := []
  retPages : List Nat := []
  retBanks : List (Nat × Nat) := []
  /-- Completed remaps: logical lanterns that use their quadrant's spare. -/
  spared : List Nat := []
  badSpares : List Nat := []
  /-- Bypass conversions: site, array, physical column. -/
  bypasses : List (Nat × Nat × BitVec 5) := []
  /-- The firmware image, once one has been committed (R521); before that, the one of the factory. -/
  image : Option (List Byte) := none
  /-- Field repair slots in use, in the order in which they were programmed. -/
  repairs : List Repair := []
  deriving DecidableEq, Repr

/-- The security processor (R500 to R523). -/
structure Sec where
  en : Bool := false
  wie : Bool := false
  votedis : Nat := 0
  meas : Tab (List Byte) := []
  staged : Option (List Byte) := none
  commitPend : Bool := false
  dbgLive : Bool := false
  fwver : Word := 0
  deriving DecidableEq, Repr

/-- A condition with a filter (R564, R571): samples for which it has held, samples for which it has been
absent, and whether an episode is open. -/
structure Watch where
  held : Nat := 0
  absent : Nat := 0
  isOpen : Bool := false
  deriving DecidableEq, Repr

/-- Supply monitoring and voltage regulation (R31 to R34, R564, R577). -/
structure Pwr where
  wie : Bool := false
  votedis : Nat := 0
  shut : Bool := false
  on : BitVec 30 := 0
  capW : Nat := 2800
  avgW : Nat := 0
  ceil : Nat := 800
  floorMs : Nat := 0
  capUnmet : Bool := false
  /-- Stamp of the last evaluation (R33). -/
  evalAt : Option Dword := none
  v0 : Nat := 0
  v1 : Nat := 0
  i0 : Nat := 0
  i1 : Nat := 0
  uv : Bool := false
  ov : Bool := false
  oc : Bool := false
  range : Bool := false
  imbal : Bool := false
  /-- A supply condition that calls for a shutdown has come after the protective shutdown (R572). -/
  further : Bool := false
  /-- The conditions of R564: 0 RANGE, 1 IMBAL, 2 UV, 3 OV, 4 OC. -/
  watches : Tab Watch := []
  /-- By quadrant: the setpoint, the thermal ceiling, and the effective voltage in force (R31,
  R32, R570). -/
  setMv : Tab Nat := []
  thermMv : Tab Nat := []
  effMv : Tab Nat := []
  /-- Evaluations in a row for which a quadrant's thermal ceiling stood at 0.65 V. -/
  thermFloorMs : Tab Nat := []
  deriving DecidableEq, Repr

/-- Filtered state of a sensor group against its four thresholds (R568). -/
structure GroupState where
  throttle : Bool := false
  alert : Bool := false
  shutdown : Bool := false
  released : Bool := true
  deriving DecidableEq, Repr

/-- Thermal state (R568 to R571, R577). -/
structure Therm where
  wie : Bool := false
  votedis : Nat := 0
  /-- The last readings of each sensor, the latest first, at most three. -/
  readings : Tab (List Int) := []
  excluded : List Nat := []
  groups : Tab GroupState := []
  missing : Tab Nat := []
  alert : Bool := false
  /-- Readings for which no condition of R571 has held. -/
  quietN : Nat := 0
  /-- Coolant conditions by their ENV_RANGE code: 3 inlet, 4 flow, 5 sensor excluded. -/
  watches : Tab Watch := []
  /-- Readings in a row, after a protective shutdown, of 115 °C or more by each base-die sensor of tile 0 (R572). -/
  hotRuns : Tab Nat := []
  deriving DecidableEq, Repr

/-- What the reset controller and the boot ROM have reached (R539 to R542, R554). -/
inductive Phase where
  | reset | waitRef | locking | bootRom | recovery | starting | up
  deriving DecidableEq, Repr

/-- Contacts, reset and bring-up (R539 to R550). -/
structure Start where
  phase : Phase := .reset
  pgIn : Bool := false
  resetN : Bool := false
  refclk : Bool := false
  /-- Domains that have been switched on and are not powered yet. -/
  switched : List Nat := []
  /-- Domains that DOMAIN_SWITCH_ON waits for, in order (R545). -/
  eligible : List Nat := []
  /-- The stamp at which the pilot last switched a domain on (R545). -/
  lastOn : Option Dword := none
  /-- Domains that were not powered within their limit, and tile caches that failed (R546). -/
  deadDoms : List Nat := []
  deadTcs : List Nat := []
  cirrusFailed : Bool := false
  /-- Channels that have left the map-out list since the device reset (R315). -/
  released : List Nat := []
  /-- SEC has not set bit 1 within its limit (R550). -/
  secFailed : Bool := false
  /-- The recovery buffer by DV address, with its poisoned units by address div 64 (R554). -/
  recov : List Host.Cell := []
  recovPoison : List Nat := []
  deriving DecidableEq, Repr

/-- TAP instructions (R573). -/
inductive TapInstr where | extest | samplePreload | idcode | clamp | highz | bypass
  deriving DecidableEq, Repr

/-- The TAP (R523, R573 to R575). -/
structure Tap where
  instr : TapInstr := .idcode
  locked : Bool := false
  cells : BitVec 7 := 0
  shift : Word := 0
  deriving DecidableEq, Repr

/-- The lamplighter (R394 to R396). -/
structure Scrub where
  en : Bool := true
  wie : Bool := false
  votedis : Nat := 0
  hours : Byte := 24
  passes : BitVec 13 := 0
  run : Nat := 0
  ce : Nat := 0
  ue : Nat := 0
  pois : Nat := 0
  /-- The 64-byte unit of DRAM at which the pass goes on (R394). -/
  pos : Nat := 0
  /-- Units of the tile caches that the pass has read, by tile, set, way and unit. -/
  seen : List Nat := []
  /-- Channels, way groups and tile-cache sets that the pass has skipped (R396). -/
  chOut : BitVec 256 := 0
  groupOut : BitVec 16 := 0
  setOut : List (Nat × Nat) := []
  deriving DecidableEq, Repr

/-- Network stages that hold a refused flit (R393). -/
structure Net where
  resent : List (Nat × Nat) := []
  stuck : List (Nat × Nat) := []
  deriving DecidableEq, Repr

/-- The state of the device. -/
structure State where
  /-- Commands that wait, first in, first out. -/
  pending : List Instr := []
  /-- Selects the next free value of Config. -/
  freeCtr : Nat := 0
  pilot : Pilot := {}
  start : Start := {}
  pwr : Pwr := {}
  therm : Therm := {}
  tap : Tap := {}
  sec : Sec := {}
  flash : Flash := {}
  xpt : Xpt := {}
  disp : Disp := {}
  cirrus : Cirrus := {}
  scrub : Scrub := {}
  net : Net := {}
  beacon : Beacon := {}
  ckpt : Option Ckpt := none
  engines : Tab Engine := []
  tcs : Tab TCache := []
  chs : Tab Dch := []
  lans : Tab Lantern := []
  /-- The bytes of device memory by physical address (R296). -/
  mem : List Host.Cell := []
  /-- Poisoned 64-byte units, by PA div 64 (R388). -/
  poison : List Nat := []
  /-- Parity deltas by data unit (PA) and parity index that have not been acknowledged (R398);
  one that the parity controller has added holds no bytes. -/
  deltas : List (Nat × Nat × List Byte) := []
  /-- Units (PA div 64) that read uncorrectable and wait for their rebuild (R400), with the
  syndrome. -/
  rebuilds : Tab Nat := []
  deriving DecidableEq, Repr

/-- The device right after reset: PG_IN and RESET_N low, every switched domain without
power, nothing in the queue, the in-module flash of a device that nobody has claimed. -/
def State.reset : State := {}

end Sys2Proof.Machine
end

