-- ==== Sys2Proof/Machine/Flags.lean ====
section
/-!
DEFINITION. Flags.lean: the wick's FLAGS, the conditions that test them and the flags of
each kind of result (R198, R227, R229).
-/

namespace Sys2Proof.Machine

open Sys2Proof

/-- FLAGS bits N, Z, C, V from bit 3 downward (R198). -/
def mkFlags (n z c v : Bool) : BitVec 4 :=
  BitVec.ofNat 4 (8 * b2n n + 4 * b2n z + 2 * b2n c + b2n v)

/-- N. -/
def fN (f : BitVec 4) : Bool := f.getLsbD 3
/-- Z. -/
def fZ (f : BitVec 4) : Bool := f.getLsbD 2
/-- C. -/
def fC (f : BitVec 4) : Bool := f.getLsbD 1
/-- V. -/
def fV (f : BitVec 4) : Bool := f.getLsbD 0

/-- A condition code tests FLAGS (R227). -/
def condTrue (c : BitVec 4) (f : BitVec 4) : Bool :=
  match c.toNat with
  | 0x0 => true
  | 0x1 => fZ f
  | 0x2 => !fZ f
  | 0x3 => fC f
  | 0x4 => !fC f
  | 0x5 => fN f
  | 0x6 => !fN f
  | 0x7 => fV f
  | 0x8 => !fV f
  | 0x9 => fC f && !fZ f
  | 0xA => !fC f || fZ f
  | 0xB => fN f = fV f
  | 0xC => fN f != fV f
  | 0xD => !fZ f && (fN f = fV f)
  | 0xE => fZ f || (fN f != fV f)
  | _ => false

/-- N and Z of a result; C and V stay (R229). -/
def flagsNZ {w : Nat} (old : BitVec 4) (r : BitVec w) : BitVec 4 :=
  mkFlags r.msb (r = 0) (fC old) (fV old)

/-- N, Z and V of a division; C stays (R229, R232). -/
def flagsNZV {w : Nat} (old : BitVec 4) (r : BitVec w) (v : Bool) : BitVec 4 :=
  mkFlags r.msb (r = 0) (fC old) v

/-- N, Z and C of a shift; V stays (R229). -/
def flagsNZC {w : Nat} (old : BitVec 4) (r : BitVec w) (c : Bool) : BitVec 4 :=
  mkFlags r.msb (r = 0) c (fV old)

/-- A sum with carry in: the result and NZCV (R229). -/
def addFlags {w : Nat} (a b : BitVec w) (cin : Bool) : BitVec w × BitVec 4 :=
  let r := a + b + BitVec.ofNat w (b2n cin)
  let c := a.toNat + b.toNat + b2n cin ≥ 2 ^ w
  let v := a.msb = b.msb && r.msb != a.msb
  (r, mkFlags r.msb (r = 0) c v)

/-- A difference with borrow in: the result and NZCV; C is 1 when no borrow occurs (R229). -/
def subFlags {w : Nat} (a b : BitVec w) (bin : Bool) : BitVec w × BitVec 4 :=
  let r := a - b - BitVec.ofNat w (b2n bin)
  let c := a.toNat ≥ b.toNat + b2n bin
  let v := a.msb != b.msb && r.msb != a.msb
  (r, mkFlags r.msb (r = 0) c v)

/-- Sets Z and keeps N, C and V. -/
def withZ (f : BitVec 4) (z : Bool) : BitVec 4 := mkFlags (fN f) z (fC f) (fV f)
/-- Sets C and keeps N, Z and V. -/
def withC (f : BitVec 4) (c : Bool) : BitVec 4 := mkFlags (fN f) (fZ f) c (fV f)

end Sys2Proof.Machine
end

