-- ==== Sys2Proof/Config.lean ====
section
/-!
DEFINITION. Config.lean: what an implementation fixes and the values the spec leaves
open. Each constant has no body, so no statement can rest on its value.
-/

namespace Sys2Proof.Config

open Sys2Proof

/-- A value the spec leaves open, by the number of the draw: State.freeCtr selects it. -/
opaque freeWord : Nat → BitVec 64
/-- A vector register's worth of bits that the spec leaves open, by the number of the draw. -/
opaque freeVec : Nat → BitVec 65536

/-- How far above the lower bound of R19 a reference ring counts on one edge of the slow clock, by the
number of the draw and the ring: lantern n has ring n, and base die t ring 256 + t. -/
opaque ringBeats : Nat → Nat → Nat

/-! ### Elementwise functions (R181) -/

/-- The bits of VEXP 0, VRECIP 1, VRSQRT 2, VLOGI 3, VGELU 4 and VSILU 5, plus 8 times the
rounding mode, of an FP32 operand for which the spec bounds the result and does not fix it. -/
opaque elemFun : Nat → Word → Word

/-! ### Cryptography (R500): the algorithms are named by the spec and stand outside it -/

/-- SHA-512. -/
opaque sha512 : List Byte → List Byte
/-- HKDF-Extract: salt, input. -/
opaque hkdfExtract : List Byte → List Byte → List Byte
/-- HKDF-Expand: key, info, length. -/
opaque hkdfExpand : List Byte → List Byte → Nat → List Byte
/-- Ed25519 public key of a seed. -/
opaque edPub : List Byte → List Byte
/-- Ed25519 signature: seed, message. -/
opaque edSign : List Byte → List Byte → List Byte
/-- Ed25519 verification: public key, message, signature. -/
opaque edVerify : List Byte → List Byte → List Byte → Bool
/-- The bytes decode as an Ed25519 point. -/
opaque edPoint : List Byte → Bool
/-- X25519 public value of a private key. -/
opaque xPub : List Byte → List Byte
/-- X25519: private key, public value. -/
opaque xShared : List Byte → List Byte → List Byte
/-- AES-256-GCM: key, nonce, associated data, plaintext; ciphertext followed by the tag. -/
opaque gcmSeal : List Byte → List Byte → List Byte → List Byte → List Byte
/-- AES-256-GCM: key, nonce, associated data, ciphertext followed by the tag. -/
opaque gcmOpen : List Byte → List Byte → List Byte → List Byte → Option (List Byte)
/-- A draw of the SEC random generator: number and length. -/
opaque random : Nat → Nat → List Byte

/-- The nonce with which a sub-page is sealed, by its VA and SEALVER (R353). -/
opaque sealNonce : Nat → Nat → List Byte

/-! ### What the maker fixes in one device -/

/-- PUFR, where reconstruction succeeds, and FSEED (R500). -/
opaque pufr : Option (List Byte)
opaque fseed : List Byte
/-- Device certificate and manufacturing certificate (R502). -/
opaque devCert : List Byte
opaque mfgCert : List Byte
/-- SHA-512 of the Brixfen root key, in the boot ROM (R519). -/
opaque rootHash : List Byte
/-- The boot ROM, which measurement 0 covers (R517). -/
opaque bootRomImage : List Byte
/-- The image that the in-module flash holds when the device leaves the factory (R519, R521). -/
opaque factoryImage : List Byte
/-- Factory MAC and stepping (R485). -/
opaque factoryMac : BitVec 48
opaque stepping : Half
/-- The fuse map: arrays quarantined and columns bypassed at test time, by lantern site (256 plus
the quadrant for its spare site) and array (R89, R96). -/
opaque fuseQuar : Nat → Nat → Bool
opaque fuseByp : Nat → Nat → List (BitVec 5)
/-- The test-time fuse map of SRAM rows (R415): structure code of LOCKIND 4, bank and row that a spare row
replaces, by lantern site as above; bank and row, by tile cache. -/
opaque fuseLanRows : Nat → List (Nat × Nat × Nat)
opaque fuseTcRows : Nat → List (Nat × Nat)
/-- Forward inputs of a block, by its SRC (R425, R426). -/
opaque forwardInputs : Nat → Nat

/-- Data of a block reach another block on one of its forward inputs, through the network and the bridges:
receiver, input, sender, by SRC (R426, R427). -/
opaque feeds : Nat → Nat → Nat → Bool

/-! ### Choices that the spec leaves to cirrus (R336, R341, R356) -/

/-- The physical page that cirrus would take at a draw. -/
opaque pickPage : Nat → Nat
/-- The physical pages of the region that R341 reserves. -/
opaque reservedPage : Nat → Bool

end Sys2Proof.Config
end

