-- ==== Sys2Proof/Machine/Ops.lean ====
section
/-!
DEFINITION. Ops.lean: the named operations over the numbered blocks, device memory and
local store, the pilot's error queue (R404 to R410), the ready map, notifications (R498)
and the conduits' egress, and the event counters.
-/

namespace Sys2Proof.Machine

open Sys2Proof

/-- What every meaning answers. -/
abbrev Out := Host.Outcome State Fault Refusal

/-! ### Byte images in canonical form -/

/-- The cells of `m` with addresses below `lo`. -/
def cellsBelow (m : List Host.Cell) (lo : Nat) : List Host.Cell := m.filter (fun c => c.1 < lo)

/-- The cells of `m` with addresses from `hi` upward. -/
def cellsFrom (m : List Host.Cell) (hi : Nat) : List Host.Cell := m.filter (fun c => hi ≤ c.1)

/-- The cells of `m` in a range. -/
def cellsIn (m : List Host.Cell) (lo len : Nat) : List Host.Cell :=
  m.filter (fun c => lo ≤ c.1 && c.1 < lo + len)

/-- Bytes as cells from an address upward; zero bytes are not listed. -/
def cellsOf : Nat → List Byte → List Host.Cell
  | _, [] => []
  | a, b :: bs => if b = 0 then cellsOf (a + 1) bs else (a, b) :: cellsOf (a + 1) bs

/-- One byte of an image; an unlisted address reads 0. -/
def cellAt (m : List Host.Cell) (a : Nat) : Byte := Tab.getD m a 0

/-- `len` bytes of an image. -/
def cellsRead (m : List Host.Cell) (a : Nat) : Nat → List Byte
  | 0 => []
  | n + 1 => cellAt m a :: cellsRead m (a + 1) n

/-- Writes bytes to an image and keeps its canonical form. -/
def cellsWrite (m : List Host.Cell) (a : Nat) (bs : List Byte) : List Host.Cell :=
  cellsBelow m a ++ cellsOf a bs ++ cellsFrom m (a + bs.length)

/-- Copies a range of one image onto a range of another. -/
def cellsMove (from_ : List Host.Cell) (src : Nat) (onto : List Host.Cell) (dst len : Nat) :
    List Host.Cell :=
  cellsBelow onto dst ++ (cellsIn from_ src len).map (fun c => (c.1 - src + dst, c.2)) ++
    cellsFrom onto (dst + len)

/-- The canonical form: addresses rise strictly, and no entry equals 0. -/
def cellsWf : List Host.Cell → Bool
  | [] => true
  | c :: t => c.2 ≠ 0 && t.all (fun d => c.1 < d.1) && cellsWf t

/-- Device memory is in canonical form. -/
abbrev Memory.wf (m : List Host.Cell) : Bool := cellsWf m

/-- Adds a number to a strictly rising list. -/
def setIns : List Nat → Nat → List Nat
  | [], k => [k]
  | j :: t, k => if k < j then k :: j :: t else if k = j then j :: t else j :: setIns t k

/-- Removes a number. -/
def setDel (xs : List Nat) (k : Nat) : List Nat := xs.filter (fun j => j ≠ k)

/-- Adds or removes a number. -/
def setPut (xs : List Nat) (k : Nat) (on : Bool) : List Nat :=
  if on then setIns xs k else setDel xs k

/-- The numbers from `lo` up to but not including `hi`. -/
def natRange (lo hi : Nat) : List Nat := (List.range (hi - lo)).map (· + lo)

/-! ### Numbered blocks -/

/-- Lantern `n`. -/
def State.lan (s : State) (n : Nat) : Lantern := s.lans.getD n {}
/-- Sets lantern `n`. -/
def State.setLan (s : State) (n : Nat) (l : Lantern) : State := { s with lans := s.lans.put n l }
/-- Changes lantern `n`. -/
def State.modLan (s : State) (n : Nat) (f : Lantern → Lantern) : State := s.setLan n (f (s.lan n))
/-- Tile cache `t`. -/
def State.tc (s : State) (t : Nat) : TCache := s.tcs.getD t {}
/-- Changes tile cache `t`. -/
def State.modTc (s : State) (t : Nat) (f : TCache → TCache) : State :=
  { s with tcs := s.tcs.put t (f (s.tc t)) }
/-- DRAM channel `c`. -/
def State.ch (s : State) (c : Nat) : Dch := s.chs.getD c {}
/-- Changes DRAM channel `c`. -/
def State.modCh (s : State) (c : Nat) (f : Dch → Dch) : State :=
  { s with chs := s.chs.put c (f (s.ch c)) }
/-- Copy engine `e`. -/
def State.eng (s : State) (e : Nat) : Engine := s.engines.getD e {}
/-- Changes copy engine `e`. -/
def State.modEng (s : State) (e : Nat) (f : Engine → Engine) : State :=
  { s with engines := s.engines.put e (f (s.eng e)) }
/-- Conduit `c`. -/
def State.con (s : State) (c : Nat) : Conduit := s.xpt.cons.getD c {}
/-- Sets conduit `c`. -/
def State.setCon (s : State) (c : Nat) (k : Conduit) : State :=
  { s with xpt := { s.xpt with cons := s.xpt.cons.put c k } }
/-- Changes conduit `c`. -/
def State.modCon (s : State) (c : Nat) (f : Conduit → Conduit) : State := s.setCon c (f (s.con c))
/-- Queue `q`, if it exists. -/
def State.queue? (s : State) (q : Nat) : Option Queue := s.disp.queues.find? q
/-- Sets queue `q`. -/
def State.setQueue (s : State) (q : Nat) (v : Queue) : State :=
  { s with disp := { s.disp with queues := s.disp.queues.put q v } }
/-- Array `m` of a lantern. -/
def Lantern.arr (l : Lantern) (m : Nat) : Arr := l.arrs.getD m {}
/-- Changes array `m` of a lantern. -/
def Lantern.modArr (l : Lantern) (m : Nat) (f : Arr → Arr) : Lantern :=
  { l with arrs := l.arrs.put m (f (l.arr m)) }

/-- Draws a value that the spec leaves open. -/
def State.draw (s : State) : Dword × State :=
  (Config.freeWord s.freeCtr, { s with freeCtr := s.freeCtr + 1 })

/-! ### Domains (R494, R536) -/

/-- Domain `d` is powered; QD0 to QD15 are 0 to 15, TC0 to TC3 16 to 19, DS0 to DS7 20 to
27, EP 28 and ET 29. -/
def State.powered (s : State) (d : Nat) : Bool := d < 30 && s.pwr.on.getLsbD d
/-- Lantern `n` has power. -/
def State.lanOn (s : State) (n : Nat) : Bool := n < 256 && s.powered (n / 16)
/-- Tile cache `t` has power. -/
def State.tcOn (s : State) (t : Nat) : Bool := t < 4 && s.powered (16 + t)
/-- Channel `c` has power. -/
def State.chOn (s : State) (c : Nat) : Bool := c < 256 && s.powered (20 + c / 32)
/-- Cirrus, zenith and the lamplighter have power. -/
def State.tc0On (s : State) : Bool := s.powered 16
/-- Copy engine `e` has power. -/
def State.engOn (s : State) (e : Nat) : Bool := e < 16 && s.powered (16 + e / 4)

/-! ### Device memory by physical address (R296, R388 to R390) -/

/-- `len` bytes at a physical address. -/
def State.physRead (s : State) (pa len : Nat) : List Byte := cellsRead s.mem pa len

/-- The 64-byte units that a range meets. -/
def unitsOf (pa len : Nat) : List Nat :=
  if len = 0 then [] else natRange (pa / 64) ((pa + len - 1) / 64 + 1)

/-- A unit of a range is poisoned. -/
def State.physPoisoned (s : State) (pa len : Nat) : Bool :=
  (unitsOf pa len).any (fun u => s.poison.contains u)

/-- Poison marks after a write of `len` bytes at `pa`: a unit that receives poisoned data
becomes poisoned, one that is replaced as a whole by good data loses its poison, and any
other keeps what it had (R389, R390). -/
def poisonWrite (p : List Nat) (pa len : Nat) (bad : Nat → Bool) : List Nat :=
  (unitsOf pa len).foldl (fun p u =>
    if bad u then setIns p u
    else if pa ≤ 64 * u && 64 * u + 64 ≤ pa + len then setDel p u
    else p) p

/-- Writes bytes at a physical address; `bad` says which units receive poisoned data. -/
def State.physWriteP (s : State) (pa : Nat) (bs : List Byte) (bad : Nat → Bool) : State :=
  { s with mem := cellsWrite s.mem pa bs, poison := poisonWrite s.poison pa bs.length bad }

/-- Writes good bytes at a physical address. -/
def State.physWrite (s : State) (pa : Nat) (bs : List Byte) : State :=
  s.physWriteP pa bs (fun _ => false)

/-- Poisons a unit (R388, R389). -/
def State.poisonUnit (s : State) (u : Nat) : State := { s with poison := setIns s.poison u }

/-- Copies whole units between physical ranges, poison included (R390). -/
def State.physMove (s : State) (src dst len : Nat) : State :=
  let moved := (s.poison.filter (fun u => src / 64 ≤ u && u < (src + len) / 64)).map
    (fun u => u - src / 64 + dst / 64)
  let kept := s.poison.filter (fun u => !(dst / 64 ≤ u && u < (dst + len) / 64))
  { s with
    mem := cellsMove s.mem src s.mem dst len
    poison := moved.foldl setIns kept }

/-- Zero-fills a physical range of whole units. -/
def State.physZero (s : State) (pa len : Nat) : State :=
  { s with
    mem := cellsBelow s.mem pa ++ cellsFrom s.mem (pa + len)
    poison := s.poison.filter (fun u => !(pa / 64 ≤ u && u < (pa + len) / 64)) }

/-! ### Local store (R296, R318, R389) -/

/-- Local-store bytes: 4 MiB per lantern. -/
def lsSize : Nat := 0x400000

/-- `len` bytes of the local store. -/
def Lantern.lsRead (l : Lantern) (a len : Nat) : List Byte := cellsRead l.ls a len

/-- The 8-byte words that a range meets. -/
def wordsOf (a len : Nat) : List Nat :=
  if len = 0 then [] else natRange (a / 8) ((a + len - 1) / 8 + 1)

/-- A word of a range is poisoned. -/
def Lantern.lsPoisoned (l : Lantern) (a len : Nat) : Bool :=
  (wordsOf a len).any (fun w => l.lsPoison.contains w)

/-- Writes local-store bytes; `bad` says which words receive poisoned data. A word loses
its poison when one write replaces all its bytes (R389). -/
def Lantern.lsWriteP (l : Lantern) (a : Nat) (bs : List Byte) (bad : Nat → Bool) : Lantern :=
  { l with
    ls := cellsWrite l.ls a bs
    lsPoison := (wordsOf a bs.length).foldl (fun p w =>
      if bad w then setIns p w
      else if a ≤ 8 * w && 8 * w + 8 ≤ a + bs.length then setDel p w
      else p) l.lsPoison }

/-- Writes good local-store bytes. -/
def Lantern.lsWrite (l : Lantern) (a : Nat) (bs : List Byte) : Lantern :=
  l.lsWriteP a bs (fun _ => false)

/-! ### The ready map (R498, R538) -/

/-- Ready-map bits of the blocks (R536). -/
def readyLan (n : Nat) : Nat := 282 + n
/-- Ready-map bit of channel `c`. -/
def readyCh (c : Nat) : Nat := 26 + c
/-- Ready-map bit of tile cache `t`. -/
def readyTc (t : Nat) : Nat := 22 + t
/-- Ready-map bit of copy engine `e`. -/
def readyEng (e : Nat) : Nat := 6 + e

/-- Ready-map bit `b`. -/
def State.isReady (s : State) (b : Nat) : Bool := s.pilot.ready.getLsbD b

/-- Sets bit `b` of a ready map to `on`. -/
def bitSet {w : Nat} (v : BitVec w) (b : Nat) (on : Bool) : BitVec w :=
  if on then v ||| ((1#w) <<< b) else v &&& ~~~((1#w) <<< b)

/-- Sets or clears a ready-map bit; a change asks for a READY notification. -/
def State.setReady (s : State) (b : Nat) (on : Bool) : State :=
  if s.isReady b = on then s
  else { s with pilot := { s.pilot with ready := bitSet s.pilot.ready b on, readyChanged := true } }

/-- The 80 bytes of READY_MAP (R484). -/
def State.readyBytes (s : State) : List Byte := leBytes 80 s.pilot.ready.toNat

/-! ### Conduit egress and replies (R456, R457, R474) -/

/-- Packet types of the Neino header (R454). -/
def typData : Byte := 0
/-- Type of an ACK packet. -/
def typAck : Byte := 1
/-- Type of a REPLY packet. -/
def typReply : Byte := 3

/-- Places a DATA or REPLY packet on an open conduit, with the next PSN. -/
def State.send (s : State) (cid : Nat) (typ : Byte) (payload : List Byte) : State :=
  let k := s.con cid
  if k.st = .opened then
    s.setCon cid { k with
      psnTx := k.psnTx + 1
      unacked := k.unacked ++ [{ psn := k.psnTx, typ := typ, payload := payload }] }
  else s

/-- Host endpoint `h` has conduit 1,024 + h (R454). -/
def hostCid (h : Nat) : Nat := 1024 + h

/-- The payload of a REPLY packet (R474). -/
def replyBytes (opcode status : Nat) (tag : Word) (stamp : Dword) (results : List Byte) :
    List Byte :=
  beBytes 2 opcode ++ beBytes 2 status ++ beBytes 4 tag.toNat ++ beBytes 2 results.length ++
    List.replicate 6 0 ++ beBytes 8 stamp.toNat ++ results

/-- A ms of slow-clock time has passed since a stamp, where there is one. -/
def State.msPast (s : State) (last : Option Dword) : Bool :=
  match last with
  | none => true
  | some t => 100000 ≤ (s.pilot.stamp - t).toNat

/-- Sends one notification to every endpoint whose entry has NOTIFY and whose conduit is
open, and counts it (R498, R499). -/
def State.notify (s : State) (kind : Nat) (body : List Byte) : State :=
  let num : Word := match s.pilot.notif with
    | none => 0
    | some k => k + 1
  let s := { s with pilot := { s.pilot with notif := some num } }
  let payload := replyBytes 0xFFFF 0 num s.pilot.stamp
    (BitVec.ofNat 8 kind :: (List.replicate 7 0 ++ body))
  (List.range 64).foldl (fun s h =>
    if (s.flash.addr.hosts.getD h {}).notify then s.send (hostCid h) typReply payload else s) s

/-! ### Beacons (R430 to R432) -/

/-- Injects a beacon from a source: a new ID, and VALID and INCOMPLETE clear (R432). -/
def State.inject (s : State) (src : Nat) : State :=
  { s with
    pilot := { s.pilot with
      inflight := true, snapValid := false, incomplete := false
      snapSrc := BitVec.ofNat 3 src, snapId := s.pilot.snapId + 1, injStamp := s.pilot.stamp }
    beacon := { s.beacon with latched := [], arrived := [] } }

/-- A trigger from sources 0 to 3: it starts a beacon, or is counted while one is in
flight (R431). -/
def State.beaconTrigger (s : State) (src : Nat) : State :=
  if s.pilot.inflight then
    { s with pilot := { s.pilot with bcnDrop := satAdd 8 s.pilot.bcnDrop 1 } }
  else s.inject src

/-! ### Error records (R404 to R410) -/

/-- Classes of R404. -/
def clsCe : Nat := 0
/-- UE. -/
def clsUe : Nat := 1
/-- FATAL. -/
def clsFatal : Nat := 2
/-- INFO. -/
def clsInfo : Nat := 3
/-- STALL. -/
def clsStall : Nat := 4

/-- The 64 bytes of a record (R404). -/
def ErrRec.bytes (r : ErrRec) : List Byte :=
  beBytes 4 r.seq ++ beBytes 8 r.stamp.toNat ++ beBytes 2 r.src ++ beBytes 1 r.cls ++
    beBytes 1 (b2n r.va + 2 * b2n r.urgent + 4 * b2n r.retired + 8 * b2n r.merged) ++
    beBytes 2 r.code ++ beBytes 1 r.lockind ++ [0] ++ beBytes 4 r.rep ++ beBytes 8 r.devaddr ++
    r.loc ++ beBytes 8 r.aux ++ beBytes 8 r.last.toNat

/-- A new occurrence has the location of an open record (R408). -/
def sameLoc (r : ErrRec) (x : RecIn) : Bool :=
  r.src = x.src && r.code = x.code && r.lockind = x.lockind &&
    match x.lockind with
    | 0 => r.aux = x.aux
    | 1 => r.loc.take 8 = x.loc.take 8 &&
        beNat ((r.loc.drop 8).take 2) / 64 = beNat ((x.loc.drop 8).take 2) / 64
    | 2 => r.loc.take 8 = x.loc.take 8
    | 3 => r.loc.take 6 = x.loc.take 6 && (r.loc[6]? = x.loc[6]? || r.loc[7]? = x.loc[7]?)
    | _ => r.loc = x.loc

/-- Changes the first element that a test picks. -/
def updFirst {α : Type} (p : α → Bool) (f : α → α) : List α → List α
  | [] => []
  | a :: t => if p a then f a :: t else a :: updFirst p f t

/-- Removes the first element that a test picks. -/
def delFirst {α : Type} (p : α → Bool) : List α → List α
  | [] => []
  | a :: t => if p a then t else a :: delFirst p t

/-- The physical page of a record, where its DEVADDR is a physical address (R409). -/
def ErrRec.page (r : ErrRec) : Option Nat :=
  if r.va || r.devaddr = 0xFFFFFFFFFFFFFFFF then none else some (r.devaddr / 0x200000)

/-- Counts an evicted or discarded record (R410). -/
def Pilot.addOvf (p : Pilot) : Pilot := { p with ovf := satAdd 12 p.ovf 1 }
/-- Counts a lost UE or FATAL record (R410). -/
def Pilot.addLost (p : Pilot) : Pilot := { p with uelost := satAdd 8 p.uelost 1 }

/-- The class whose oldest record makes room: CE, then INFO, then STALL (R406). -/
def evictClass (q : List ErrRec) : Option Nat :=
  if q.any (fun r => r.cls = clsCe) then some clsCe
  else if q.any (fun r => r.cls = clsInfo) then some clsInfo
  else if q.any (fun r => r.cls = clsStall) then some clsStall
  else none

/-- Makes room for a record of class `cls` (R406). The Bool says that the record enters. -/
def Pilot.makeRoom (p : Pilot) (cls : Nat) : Pilot × Bool :=
  if p.errq.length < 256 then (p, true)
  else match evictClass p.errq with
    | some c => ({ p.addOvf with errq := delFirst (fun r => r.cls = c) p.errq }, true)
    | none =>
      if cls = clsUe || cls = clsFatal then
        if p.errq.any (fun r => r.cls = cls) then
          ({ p.addLost with
              errq := updFirst (fun r => r.cls = cls)
                (fun r => { r with rep := satAdd 32 r.rep 1, merged := true }) p.errq }, false)
        else if cls = clsFatal then
          ({ p.addOvf.addLost with errq := delFirst (fun r => r.cls = clsUe) p.errq }, true)
        else (p.addOvf.addLost, false)
      else (p.addOvf, false)

/-- Records that gain RETIRE_URGENT from a new UE record in their page, with the new
record's own flag (R409). -/
def State.urgentOf (s : State) (x : ErrRec) : Bool × List Nat :=
  match x.page with
  | none => (false, [])
  | some pg =>
    if x.cls = clsUe && !s.cirrus.retired.contains pg then
      let others := s.pilot.errq.filter (fun r => r.cls = clsUe && r.page = some pg)
      (!others.isEmpty, (others.filter (fun r => !r.urgent)).map (·.seq))
    else (false, [])

/-- Enters one record into the pilot's queue: merged into an open record of the same
source, code and location, or stamped, numbered and appended (R406 to R409). A creation
whose class SNAPCTL.CLASS names starts a beacon (R430). -/
def State.record1 (s : State) (x : RecIn) : State :=
  if s.pilot.errq.any (fun r => sameLoc r x) then
    { s with pilot := { s.pilot with
      errq := updFirst (fun r => sameLoc r x)
        (fun r => { r with rep := satAdd 32 r.rep 1, last := s.pilot.stamp }) s.pilot.errq } }
  else
    let (p, enters) := s.pilot.makeRoom x.cls
    let s := { s with pilot := p }
    if enters then
      let r0 : ErrRec := {
        seq := p.seq, stamp := p.stamp, src := x.src, cls := x.cls, va := x.va, code := x.code
        lockind := x.lockind, devaddr := x.devaddr, loc := x.loc, aux := x.aux, last := p.stamp }
      let (urg, olds) := s.urgentOf r0
      let r := { r0 with urgent := urg }
      let marked := p.errq.map (fun o => if olds.contains o.seq then { o with urgent := true } else o)
      let s := { s with pilot := { p with errq := marked ++ [r], seq := p.seq + 1 } }
      let s := if x.cls = clsUe || x.cls = clsFatal || x.code = 0x040E then s.notify 1 r.bytes else s
      let s := (marked.filter (fun o => olds.contains o.seq)).foldl (fun s o => s.notify 1 o.bytes) s
      if s.pilot.snapClass.getLsbD x.cls then s.beaconTrigger 2 else s
    else s

/-- Places a record in the order of R37, before those of its own source and array. -/
def insRec (x : RecIn) : List RecIn → List RecIn
  | [] => [x]
  | y :: t =>
    if x.src < y.src || (x.src = y.src && x.sub ≤ y.sub) then x :: y :: t else y :: insRec x t

/-- Records that arrive on one edge, in the order in which they get their numbers (R37). The spec
gives no order for two records of one source and array number: they keep the order of the list
(DESIGN CHOICE, log 138). -/
def sortRecs (xs : List RecIn) : List RecIn := xs.foldr insRec []

/-- Enters the records of one edge, once the pilot runs (R36, R407). -/
def State.records (s : State) (xs : List RecIn) : State :=
  if s.pilot.started then (sortRecs xs).foldl State.record1 s else s

/-- Enters one record. -/
def State.record (s : State) (x : RecIn) : State := s.records [x]

/-- FAULT_N is driven low (R410). -/
def State.faultLow (s : State) : Bool :=
  s.pilot.errq.any (fun r => r.cls = clsFatal) || s.pilot.uelost ≠ 0

/-- PILOT.ERRQ (R410). -/
def State.errqWord (s : State) : Word :=
  BitVec.ofNat 32 (s.pilot.ovf * 2 ^ 20 + s.pilot.uelost * 2 ^ 12 + s.pilot.errq.length)

/-- LOC of layout 1 for a DRAM byte (R404). -/
def locDram (ch bank row byte : Nat) : List Byte :=
  beBytes 2 ch ++ beBytes 1 bank ++ [0] ++ beBytes 4 row ++ beBytes 2 byte ++ List.replicate 6 0
/-- LOC of layout 2. -/
def locTc (tile bank way unit set row : Nat) : List Byte :=
  beBytes 1 tile ++ beBytes 1 bank ++ beBytes 1 way ++ beBytes 1 unit ++ beBytes 4 set ++
    beBytes 2 row ++ List.replicate 6 0
/-- LOC of layout 6. -/
def locPage (q idx vpn : Nat) : List Byte :=
  beBytes 2 q ++ beBytes 2 idx ++ List.replicate 4 0 ++ beBytes 8 vpn
/-- LOC of layout 5. -/
def locChan (src chan : Nat) : List Byte := beBytes 2 src ++ beBytes 2 chan ++ List.replicate 12 0

/-- The physical site of a logical lantern: spares replace it once a remap is complete
(R376, R404): tile and site within the tile. The spec gives no map of logical lanterns to sites
before any remap: logical lantern n stands at site n mod 64 of its tile (DESIGN CHOICE, log 139). -/
def State.site (s : State) (n : Nat) : Nat × Nat :=
  (n / 64, if s.flash.spared.contains n then 64 + n % 64 / 16 else n % 64)

/-- LOC of layout 3. -/
def State.locArr (s : State) (n m quad row col : Nat) : List Byte :=
  let (t, p) := s.site n
  beBytes 2 n ++ beBytes 1 t ++ beBytes 1 p ++ beBytes 1 m ++ beBytes 1 quad ++ beBytes 1 row ++
    beBytes 1 col ++ List.replicate 8 0
/-- LOC of layout 4 for a site. -/
def locSite (n t p struct bank row : Nat) : List Byte :=
  beBytes 2 n ++ beBytes 1 t ++ beBytes 1 p ++ beBytes 1 struct ++ beBytes 1 bank ++
    beBytes 2 row ++ List.replicate 8 0
/-- LOC of layout 4. -/
def State.locSram (s : State) (n struct bank row : Nat) : List Byte :=
  locSite n (s.site n).1 (s.site n).2 struct bank row

end Sys2Proof.Machine
end

