-- ==== Sys2Proof/Machine/Addr.lean ====
section
/-!
DEFINITION. Addr.lean: the physical address map (R296 to R299), the page-group code
(R397 to R401) and the (80,64) code of every DRAM codeword (R387, R388).
-/

namespace Sys2Proof.Machine

open Sys2Proof

/-- Physical addresses lie below this bound (R296). -/
def paEnd : Nat := 0x4800000000
/-- Physical pages of 2 MiB (R339). -/
def pageCount : Nat := 0x24000
/-- Bytes of a page (R336). -/
def pageSize : Nat := 0x200000

/-- Channel of a physical address (R297). -/
def paChannel (pa : Nat) : Nat :=
  let r := pa / 2 ^ 20
  let h := (r % 256) ^^^ (r / 256 % 256) ^^^ (r / 65536)
  (pa / 4096 % 256) ^^^ h

/-- Channel address (R297). -/
def paCa (pa : Nat) : Nat := pa / 2 ^ 20 * 4096 + pa % 4096

/-- Stack ID of a channel address (R298). -/
def caStack (ca : Nat) : Nat := ca / 2 ^ 14 / 24576
/-- Row (R298). -/
def caRow (ca : Nat) : Nat := ca / 2 ^ 14 % 24576
/-- Bank within the stack ID (R298). -/
def caBank (ca : Nat) : Nat := 4 * (ca / 1024 % 4) + ca / 4096 % 4
/-- Bank index, 16 times the stack ID plus the bank (R295). -/
def caBankIdx (ca : Nat) : Nat := 16 * caStack ca + caBank ca
/-- Byte in row (R298). -/
def caByte (ca : Nat) : Nat := ca % 1024

/-- LOC and DEVADDR of a record about a physical address (R404). -/
def locOfPa (pa : Nat) : List Byte :=
  let ca := paCa pa
  locDram (paChannel pa) (caBankIdx ca) (caRow ca) (caByte ca)

/-- The four bank indexes that a granule occupies: one per bank group (R298, R413). -/
def granBanks (pa : Nat) : List Nat :=
  (List.range 4).map (fun g => caBankIdx (paCa (pa / 4096 * 4096 + 1024 * g)))

/-- Home tile cache (R319). -/
def homeTc (pa : Nat) : Nat := paChannel pa / 64
/-- Set within the home tile cache (R319). -/
def homeSet (pa : Nat) : Nat := 2048 * (paChannel pa % 64) + paCa pa / 256 % 2048
/-- Tag within the set (R319). -/
def homeTag (pa : Nat) : Nat := paCa pa / 2 ^ 19
/-- Bank of the tile cache (R319). -/
def homeBank (pa : Nat) : Nat := paCa pa / 256 % 32

/-- The line address that a tile cache's set and tag name: the inverse of R297 and R319. -/
def lineAddr (t set tag : Nat) : Nat :=
  let channel := 64 * t + set / 2048
  let ca := tag * 2 ^ 19 + set % 2048 * 256
  let r := ca / 4096
  let h := (r % 256) ^^^ (r / 256 % 256) ^^^ (r / 65536)
  r * 2 ^ 20 + (channel ^^^ h) * 4096 + ca % 4096

/-! ### GF(2^8) (R397) -/

/-- Doubling modulo x^8 + x^4 + x^3 + x^2 + 1. -/
def gfDouble (a : Byte) : Byte := if a.getLsbD 7 then (a <<< 1) ^^^ 0x1D#8 else a <<< 1

/-- Multiplication, bit by bit of the second factor. -/
def gfMulN : Nat → Byte → Byte → Byte
  | 0, _, _ => 0
  | k + 1, a, b =>
    (if b.getLsbD 0 then a else 0) ^^^ gfMulN k (gfDouble a) (b >>> 1)

/-- Product in GF(2^8). -/
def gfMul (a b : Byte) : Byte := gfMulN 8 a b

/-- `a ^ n` in GF(2^8). -/
def gfPow (a : Byte) : Nat → Byte
  | 0 => 1
  | n + 1 => gfMul a (gfPow a n)

/-- The inverse of a non-zero element, a ^ 254. -/
def gfInv (a : Byte) : Byte := gfPow a 254

/-- The coefficient 1 / (x_q + y_i) of R397. -/
def rsCoef (q i : Nat) : Byte := gfInv (BitVec.ofNat 8 (0x10 + q) ^^^ BitVec.ofNat 8 i)

/-- Bytewise XOR of two byte strings of one length. -/
def xorBytes (a b : List Byte) : List Byte := List.zipWith (fun x y => x ^^^ y) a b

/-- A byte string scaled by an element. -/
def scaleBytes (c : Byte) (a : List Byte) : List Byte := a.map (gfMul c)

/-- Parity bytes q of the 16 data strings of a group (R397). -/
def parityOf (q len : Nat) (ds : List (List Byte)) : List Byte :=
  (ds.zip (List.range ds.length)).foldl
    (fun acc p => xorBytes acc (scaleBytes (rsCoef q p.2) p.1)) (List.replicate len 0)

/-! ### The (80,64) code (R387, R388) -/

/-- g(x) as a number: (x + 1)(x^14 + x^9 + x^8 + x^6 + x^5 + x^4 + x^2 + x + 1). -/
def eccG : Nat :=
  let f : Nat := 0x4377
  f ^^^ (2 * f)

/-- Remainder of a polynomial of degree below 15 + k modulo g. -/
def polyRem : Nat → Nat → Nat
  | 0, v => v
  | k + 1, v => polyRem k (if natBit v (15 + k) then v ^^^ (eccG * 2 ^ k) else v)

/-- CB0 to CB15 of 64 data bits (R387). -/
def eccCheck (d : BitVec 64) : BitVec 16 :=
  let low := polyRem 64 (d.toNat * 2 ^ 15)
  let odd := (List.range 32).foldl (fun p i => p != d.getLsbD (2 * i + 1)) false
  BitVec.ofNat 16 (low + (if odd then 2 ^ 15 else 0))

/-- The syndrome of an error pattern: data bits [63:0], check bits [79:64]. -/
def eccSyndrome (e : BitVec 80) : BitVec 16 := eccCheck (e.setWidth 64) ^^^ (e >>> 64).setWidth 16

/-- Syndromes of the 80 single-bit patterns. -/
def eccSingles : List (BitVec 16) := (List.range 80).map (fun i => eccSyndrome (1#80 <<< i))

/-- The first pattern of one or two bits with this syndrome, as its bit numbers. -/
def eccLocate (syn : BitVec 16) : Option (List Nat) :=
  let idx := eccSingles.zip (List.range 80)
  match idx.find? (fun p => p.1 = syn) with
  | some p => some [p.2]
  | none =>
    (idx.findSome? (fun p =>
      (idx.find? (fun r => p.2 < r.2 && p.1 ^^^ r.1 = syn)).map (fun r => [p.2, r.2])))

/-- Decoder outcomes (R387). -/
inductive EccOut where
  | good
  /-- The bits that the decoder flips. -/
  | ce (bits : List Nat)
  | poison
  | ue
  deriving DecidableEq, Repr

/-- The poison mask (R388). -/
def poisonMask : BitVec 16 := 0xE000

/-- What the decoder finds in a codeword that was written good or poisoned, and that has
since suffered the bit errors `e`; with the syndrome. -/
def eccDecode (poisoned : Bool) (e : BitVec 80) : EccOut × BitVec 16 :=
  let syn := eccSyndrome e ^^^ (if poisoned then poisonMask else 0)
  if syn = 0 then (.good, syn)
  else if syn = poisonMask then (.poison, syn)
  else match eccLocate syn with
    | some bits => (.ce bits, syn)
    | none => (.ue, syn)

/-- The data bits by which what the decoder returns differs from what was written: the errors, less those
that it flips (R387). -/
def eccLeft (poisoned : Bool) (e : BitVec 80) : BitVec 64 :=
  match eccDecode poisoned e with
  | (.ce bits, _) => (bits.foldl (fun v i => v ^^^ (1#80 <<< i)) e).setWidth 64
  | _ => e.setWidth 64

/-- The 64 bytes by which a unit as its decoder returns it differs from what was written. -/
def unitLeft (poisoned : Bool) (errs : List (BitVec 80)) : List Byte :=
  (List.range 8).flatMap (fun i => leBytes 8 (eccLeft poisoned (errs.getD i 0)).toNat)

/-- What a controller finds in a unit of eight codewords (R388): poisoned when at least
five decode as POISON; otherwise uncorrectable when any is UE or POISON. -/
inductive UnitOut where
  | good
  | ce
  | poisoned
  | ue
  deriving DecidableEq, Repr

/-- Decodes the eight codewords of a unit. Missing patterns are no error. The Nats are the
count of corrected codewords and the last non-zero syndrome. -/
def unitDecode (poisoned : Bool) (errs : List (BitVec 80)) : UnitOut × Nat × Nat :=
  let outs := (List.range 8).map (fun i => eccDecode poisoned (errs.getD i 0))
  let pois := (outs.filter (fun o => o.1 = .poison)).length
  let bad := outs.any (fun o => o.1 = .ue || o.1 = .poison)
  let ces := (outs.filter (fun o => match o.1 with | .ce _ => true | _ => false)).length
  let syn := outs.foldl (fun a o => if o.2 = 0 then a else o.2.toNat) 0
  if pois ≥ 5 then (.poisoned, ces, syn)
  else if bad then (.ue, ces, syn)
  else if ces > 0 then (.ce, ces, syn)
  else (.good, 0, 0)

end Sys2Proof.Machine
end

