-- ==== Sys2Proof/Machine/Lines.lean ====
section
/-!
DEFINITION. Lines.lean: cache lines and their replacement (R318 to R328), the presence vectors that
keep the L1 caches coherent, and the lines that an access of any agent meets in its home tile cache. The
bytes of a line are those of device memory (R319: one home, and no copy is newer).
-/

namespace Sys2Proof.Machine

open Sys2Proof

/-! ### Replacement (R323, R324) -/

/-- The victim among the eligible ways of a set, given with their ages where they are
valid, and what ageing adds to every eligible way. -/
def victimWay (ws : List (Nat × Option Nat)) : Nat × Nat :=
  match ws.find? (fun p => p.2.isNone) with
  | some p => (p.1, 0)
  | none =>
    let a := ws.foldl (fun m p => max m (p.2.getD 0)) 0
    match ws.find? (fun p => p.2 = some a) with
    | some p => (p.1, 3 - a)
    | none => (0, 0)

/-- Ways of set `set` of a cache of `k` ways with their ages. -/
def setWays (t : Tab CLine) (k set : Nat) : List (Nat × Option Nat) :=
  (List.range k).map (fun w => (w, (t.find? (k * set + w)).map (·.age)))

/-- The key of the way that holds a tag. -/
def lineKey (t : Tab CLine) (k set tag : Nat) : Option Nat :=
  ((List.range k).find? (fun w => match t.find? (k * set + w) with
    | some c => c.tag = tag
    | none => false)).map (fun w => k * set + w)

/-- A hit sets the age to 0; a miss fills at `age` over the victim. -/
def lineAccess (t : Tab CLine) (k set tag age : Nat) : Tab CLine :=
  match lineKey t k set tag with
  | some key => t.put key { tag := tag, age := 0 }
  | none =>
    let (w, add) := victimWay (setWays t k set)
    let t := if add = 0 then t else
      (List.range k).foldl (fun t v => match t.find? (k * set + v) with
        | some c => t.put (k * set + v) { c with age := c.age + add }
        | none => t) t
    t.put (k * set + w) { tag := tag, age := age }

/-! ### L1 lines (R318) -/

/-- Index of a 128-byte line: bits [12:7] (R318). -/
def l1Set (a : Nat) : Nat := a / 128 % 64
/-- Tag of a 128-byte line. -/
def l1Tag (a : Nat) : Nat := a / 8192

/-- The L1 holds the line of a physical address. -/
def Lantern.l1Has (l : Lantern) (pa : Nat) : Bool := (lineKey l.l1 8 (l1Set pa) (l1Tag pa)).isSome

/-- The L1 loses the line of a physical address. -/
def Lantern.l1Drop (l : Lantern) (pa : Nat) : Lantern :=
  match lineKey l.l1 8 (l1Set pa) (l1Tag pa) with
  | some key => { l with l1 := l.l1.erase key }
  | none => l

/-- The L1 loses both halves of a 256-byte line. -/
def Lantern.l1DropLine (l : Lantern) (line : Nat) : Lantern := (l.l1Drop line).l1Drop (line + 128)

/-- An access to a 128-byte line: a hit sets its age to 0, a miss fills it (R323). -/
def Lantern.l1Access (l : Lantern) (pa : Nat) : Lantern :=
  { l with l1 := lineAccess l.l1 8 (l1Set pa) (l1Tag pa) 1 }

/-- A demand miss fills the 128-byte line and, where it is absent, the other half of the tile-cache line
(R325). -/
def Lantern.l1Fill (l : Lantern) (pa : Nat) : Lantern :=
  let other := (pa / 128 ^^^ 1) * 128
  let l := l.l1Access pa
  if l.l1Has other then l else l.l1Access other

/-! ### Tile-cache lines (R319) -/

/-- The key of the line of a physical address in its home, where it is present. -/
def TCache.find (c : TCache) (pa : Nat) : Option Nat :=
  ((List.range 16).find? (fun w => match c.lines.find? (16 * homeSet pa + w) with
    | some x => x.tag = homeTag pa
    | none => false)).map (fun w => 16 * homeSet pa + w)

/-- Changes the home line of a physical address, where it is present. -/
def State.modLine (s : State) (pa : Nat) (f : TcLine → TcLine) : State :=
  let t := homeTc pa
  match (s.tc t).find pa with
  | some key => s.modTc t (fun c => match c.lines.find? key with
    | some x => { c with lines := c.lines.put key (f x) }
    | none => c)
  | none => s

/-- Drops every L1 copy of a 256-byte line in the quadrants of a presence vector (R322). -/
def State.dropCopies (s : State) (pres : BitVec 16) (line : Nat) : State :=
  if pres = 0 then s
  else { s with lans := s.lans.map (fun p => (p.1,
    if pres.getLsbD (p.1 / 16) then p.2.l1DropLine line else p.2)) }

/-- A way of a tile cache is eligible (R324). -/
def TCache.eligible (c : TCache) (w : Nat) : Bool := c.on.getLsbD (w / 4) && !c.clean.getLsbD (w / 4)

/-- The eligible ways of a set with the ages of their lines. -/
def TCache.ways (c : TCache) (set : Nat) : List (Nat × Option Nat) :=
  ((List.range 16).filter c.eligible).map (fun w => (w, (c.lines.find? (16 * set + w)).map (·.age)))

/-- A line that leaves its tile cache is written back where it is dirty: its units stand in the write-back queue
until their controller takes them. Their bytes are those of device memory already. -/
def TCache.writeBack (c : TCache) (t set : Nat) (x : TcLine) : TCache :=
  if x.dirty then { c with wbs := c.wbs ++ (List.range 4).map (fun i => lineAddr t set x.tag + 64 * i) } else c

/-- Installs a line over the victim of its set, whose L1 copies are invalidated and which is written back
(R322 to R324). -/
def State.installLine (s : State) (pa age : Nat) (dirty : Bool) (pres : BitVec 16) : State :=
  let t := homeTc pa
  let set := homeSet pa
  let c := s.tc t
  let (w, add) := victimWay (c.ways set)
  let lines := if add = 0 then c.lines else
    (c.ways set).foldl (fun ls p => match ls.find? (16 * set + p.1) with
      | some x => Tab.put ls (16 * set + p.1) { x with age := x.age + add }
      | none => ls) c.lines
  let key := 16 * set + w
  let s := match lines.find? key with
    | some x => (s.dropCopies x.pres (lineAddr t set x.tag)).modTc t (fun c => c.writeBack t set x)
    | none => s
  s.modTc t (fun c => { c with
    lines := Tab.put lines key { tag := homeTag pa, dirty := dirty, age := age, pres := pres } })

/-- One fill for two requests of a line: a demand takes the place of a prefetch, and its age with it (R323). -/
def TcFill.join (g f : TcFill) : TcFill :=
  { g with
    prefetch := g.prefetch && f.prefetch
    age := if g.prefetch then f.age else if f.prefetch then g.age else min g.age f.age
    dirty := g.dirty || f.dirty
    quads := g.quads ||| f.quads
    l1s := (g.l1s ++ f.l1s).eraseDups }

/-- Adds a fill to those that a tile cache waits for; one for a line that is already on its way joins that
fill. -/
def TCache.askFill (c : TCache) (f : TcFill) : TCache :=
  if c.fills.any (fun g => g.pa = f.pa) then
    { c with fills := updFirst (fun g => g.pa = f.pa) (fun g => g.join f) c.fills }
  else { c with fills := c.fills ++ [f] }

/-- A demand miss: the fill, and the prefetch of the next line of the granule (R325, R326). -/
def State.askFills (s : State) (f : TcFill) : State :=
  let next := f.pa + 256
  let s := s.modTc (homeTc f.pa) (fun c => c.askFill f)
  if next / 4096 = f.pa / 4096 && ((s.tc (homeTc f.pa)).find next).isNone then
    s.modTc (homeTc f.pa) (fun c => c.askFill { pa := next, age := 2, prefetch := true, dirty := false })
  else s

/-! ### The cut at the tile caches (R425 to R428) -/

/-- A block whose set has latched for the latest cut. -/
def State.hasLatched (s : State) (src : Nat) : Bool := s.beacon.latched.contains src

/-- A block that is no origin accepts nothing on an input from the beacon's arrival until it latches (R426).
A sender that has latched raised the beacon before any further datum (R425), so its data find it there. -/
def State.inputHeld (s : State) (b src : Nat) : Bool :=
  s.pilot.inflight && !s.hasLatched b &&
    (s.hasLatched src || s.beacon.arrived.any (fun p => p.1 = b && Config.feeds b p.2 src))

/-- SRC of the origin that accesses device memory (R424). -/
def Writer.src : Writer → Option Nat
  | .wick n => some (readyLan n)
  | .lantern n => some (readyLan n)
  | .engine e => some (readyEng e)
  | .conduit _ => some 3
  | .unit b => some b
  | .other => none

/-- The home tile cache of a physical address holds the input of an agent (R426). -/
def State.cutHeld (s : State) (w : Writer) (pa : Nat) : Bool :=
  match w.src with
  | some b => s.inputHeld (readyTc (homeTc pa)) b
  | none => false

/-! ### Accesses -/

/-- The lantern that writes. -/
def Writer.lan? : Writer → Option Nat
  | .wick n => some n
  | .lantern n => some n
  | _ => none

/-- A write to a line sends an invalidation to every lantern of every quadrant whose presence bit is set, but
for the writing lantern; the vector then keeps the writer's bit where the writer's L1 holds the line
(R321). -/
def State.lineWritten (s : State) (w : Writer) (pa : Nat) : State :=
  let t := homeTc pa
  match (s.tc t).find pa with
  | none => s
  | some key =>
    match (s.tc t).lines.find? key with
    | none => s
    | some x =>
      let line := pa / 256 * 256
      let lans := (List.range 256).filter (fun m =>
        x.pres.getLsbD (m / 16) && s.lanOn m && w.lan? ≠ some m)
      let keep : BitVec 16 := match w.lan? with
        | some m => if (s.lan m).l1Has line || (s.lan m).l1Has (line + 128) then 1#16 <<< (m / 16) else 0
        | none => 0
      s.modTc t (fun c => { c with
        lines := c.lines.put key { x with pres := keep }
        invals := if lans.isEmpty then c.invals
          else c.invals ++ [{ pa := line, lans := lans, writer := w }] })

/-- What a write that hits does to its line. -/
def State.lineHit (s : State) (w : Writer) (pa age : Nat) : State :=
  (s.modLine pa (fun x => { x with age := age, dirty := true })).lineWritten w (pa / 256 * 256)

/-- The line of an access in its home tile cache (R319, R321, R323, R325, R327, R328): a hit sets its age, and
a write makes it dirty; a miss asks for the line, or installs it where the access covers the whole line. `l1`
is the L1 fill that asks. -/
def State.lineAccessed (s : State) (pa : Nat) (kind : CacheKind) (w : Writer) (l1 : Option Nat) : State :=
  let line := pa / 256 * 256
  let hit := ((s.tc (homeTc pa)).find pa).isSome
  let quads : BitVec 16 := match w.lan? with
    | some n => 1#16 <<< (n / 16)
    | none => 0
  let l1s := match w.lan?, l1 with
    | some n, some a => [(n, a)]
    | _, _ => []
  match kind with
  | .read =>
    if hit then s.modLine pa (fun x => { x with age := 0, pres := x.pres ||| quads })
    else s.askFills { pa := line, age := 1, prefetch := false, dirty := false, quads := quads, l1s := l1s }
  | .streamRead =>
    if hit then s.modLine pa (fun x => { x with age := 0 })
    else s.modTc (homeTc pa) (fun c => c.askFill { pa := line, age := 3, prefetch := false, dirty := false })
  | .write =>
    if hit then s.lineHit w pa 0
    else s.askFills { pa := line, age := 1, prefetch := false, dirty := true }
  | .wholeWrite => if hit then s.lineHit w pa 0 else s.installLine pa 1 true 0
  | .streamWholeWrite => if hit then s.lineHit w pa 0 else s.installLine pa 3 true 0
  | .zeroLine => if hit then s.lineHit w pa 3 else s.installLine pa 3 true 0

/-- The lines that an access to a physical range meets, each with the kind of access to it. A tile cache
without power serves none. -/
def State.linesAccessed (s : State) (pa len : Nat) (w : Writer) (kind : Bool → CacheKind) : State :=
  if s.tcs.isEmpty then s
  else (natRange (pa / 256) ((pa + len + 255) / 256)).foldl (fun s l =>
    if s.tcOn (homeTc (256 * l)) then
      s.lineAccessed (256 * l) (kind (decide (pa ≤ 256 * l && 256 * l + 256 ≤ pa + len))) w none
    else s) s

/-- Kind of a write by an agent that issues whole-line writes (R327), with the mark STREAM or without. -/
def wholeKind (stream whole : Bool) : CacheKind :=
  if whole then (if stream then .streamWholeWrite else .wholeWrite) else .write

/-- Kind of a read, with the mark STREAM or without. -/
def readKind (stream : Bool) (_ : Bool) : CacheKind := if stream then .streamRead else .read

/-- Cirrus or the transport writes a granule by whole lines (R327). -/
def State.granWritten (s : State) (pa : Nat) : State := s.linesAccessed pa 4096 .other (wholeKind false)

/-- Cirrus or the transport reads a granule. -/
def State.granRead (s : State) (pa : Nat) (stream : Bool) : State := s.linesAccessed pa 4096 .other (readKind stream)

/-- A lantern's load takes a line into its L1: a hit sets its age to 0; a miss fills it from the home tile
cache, at once where that holds the line, and else when its fill arrives, so that no L1 holds a line that its
home lacks (R321 to R323, R325). -/
def State.l1Load (s : State) (n pa : Nat) : State :=
  let l := s.lan n
  let pa := pa / 128 * 128
  if l.l1Has pa then s.setLan n (l.l1Access pa)
  else if !s.tcOn (homeTc pa) then s
  else
    let s := if ((s.tc (homeTc pa)).find pa).isSome then s.setLan n (l.l1Fill pa) else s
    s.lineAccessed pa .read (.lantern n) (some pa)

/-- Every write of lantern `n` is visible to every agent (R196, R321). -/
def State.visible (s : State) (n : Nat) : Bool :=
  s.tcs.all (fun p => p.2.invals.all (fun i => i.writer.lan? ≠ some n))

/-- Every write of a writer is visible to every agent (R321). -/
def State.seenBy (s : State) (w : Writer) : Bool :=
  s.tcs.all (fun p => p.2.invals.all (fun i => i.writer ≠ w))

end Sys2Proof.Machine
end

