-- ==== Sys2Proof/Machine/Paging.lean ====
section
/-!
DEFINITION. Paging.lean: the device virtual space, page-table entries, first touch, demand
fetch, frozen pages, the home directory and the holder's answers (R336 to R358), and reads
and writes of device memory by virtual address.
-/

namespace Sys2Proof.Machine

open Sys2Proof

/-! ### Addresses -/

/-- First address of the REG window (R200). -/
def regLo : Nat := 0x00F000000000
/-- First address above the REG window. -/
def regHi : Nat := 0x010000000000
/-- The address lies in the REG window. -/
def inReg (va : Nat) : Bool := regLo ≤ va && va < regHi
/-- First invalid DV address (R200). -/
def dvEnd : Nat := 0x1000000000000
/-- Page number VA[47:21]. -/
def vpnOf (va : Nat) : Nat := va / pageSize
/-- Sub-page of an address (R336). -/
def subOf (va : Nat) : Nat := va / 65536 % 32

/-! ### Operations on conduits (R463) -/

/-- An operation header and its data. -/
def opBytes (op status : Byte) (rid : Word) (addr opnd : Dword) (pmap : BitVec 64)
    (data : List Byte) : List Byte :=
  [op, status] ++ beBytes 2 data.length ++ beBytes 4 rid.toNat ++ beBytes 8 addr.toNat ++
    beBytes 8 opnd.toNat ++ beBytes 8 pmap.toNat ++ data

/-- Sends one operation as a DATA packet. -/
def State.sendOp (s : State) (cid : Nat) (op status : Byte) (rid : Word) (addr opnd : Dword)
    (pmap : BitVec 64) (data : List Byte) : State :=
  s.send cid typData (opBytes op status rid addr opnd pmap data)

/-- A request that gets a response: takes the next RID and keeps it outstanding (R463). -/
def State.sendReq (s : State) (cid : Nat) (op : Byte) (addr opnd : Dword) (len : Nat)
    (purpose : ReqFor) : State :=
  let k := s.con cid
  if k.st = .opened then
    let s := s.setCon cid { k with
      reqs := k.reqs ++ [(k.nextRid, op, purpose)], nextRid := k.nextRid + 1 }
    s.send cid typData ([op, 0] ++ beBytes 2 len ++ beBytes 4 k.nextRid.toNat ++
      beBytes 8 addr.toNat ++ beBytes 8 opnd.toNat ++ List.replicate 8 0)
  else s

/-- Sends a cirrus message about a page to device `d` (R463). -/
def State.cir (s : State) (d : Nat) (msg : Nat) (vpn : Nat) : State :=
  s.sendOp d 0x10 0 0 (BitVec.ofNat 64 (vpn * pageSize)) (BitVec.ofNat 64 msg) 0 []

/-- Cirrus message codes (R463). -/
def msgRd : Nat := 0x01
/-- WR. -/
def msgWr : Nat := 0x02
/-- INV. -/
def msgInv : Nat := 0x03
/-- INV acknowledgement. -/
def msgInvAck : Nat := 0x04
/-- RECALL-R. -/
def msgRecallR : Nat := 0x05
/-- RECALL-W. -/
def msgRecallW : Nat := 0x06
/-- WB. -/
def msgWb : Nat := 0x07
/-- DROP. -/
def msgDrop : Nat := 0x08
/-- NOCOPY. -/
def msgNocopy : Nat := 0x09
/-- GONE. -/
def msgGone : Nat := 0x0A
/-- Grant without data. -/
def msgGrant : Nat := 0x0B

/-! ### Page-table entries -/

/-- The entry of a page. -/
def State.pte? (s : State) (vpn : Nat) : Option Pte := s.cirrus.ptes.find? vpn
/-- Sets the entry of a page. -/
def State.setPte (s : State) (vpn : Nat) (e : Pte) : State :=
  { s with cirrus := { s.cirrus with ptes := s.cirrus.ptes.put vpn e } }

/-- Removes a page from every lantern's translation buffer (R337). -/
def State.tbDrop (s : State) (vpn : Nat) : State :=
  { s with lans := s.lans.map (fun p =>
      (p.1, { p.2 with tb := p.2.tb.filter (fun v => v ≠ vpn) })) }

/-- Changes PPN, ACC, V or HOME of an entry, after removing it from every buffer (R337). -/
def State.remap (s : State) (vpn : Nat) (e : Pte) : State := (s.tbDrop vpn).setPte vpn e

/-- A page is pinned by a queued vector instruction, by the loader, by a buffered split store or by an
instruction that waits after translation (R172, R221, R253). -/
def State.pinHeld (s : State) (vpn : Nat) : Bool :=
  s.lans.any (fun p => p.2.pins.contains vpn || p.2.vq.any (fun e => e.pins.contains vpn) ||
    p.2.lq.any (fun e => e.pins.contains vpn) || p.2.sb.any (fun e => e.pins.contains vpn))

/-- A page in local memory is pinned, or held for an instruction that stalled on it (R172, R173). -/
def State.pinned (s : State) (vpn : Nat) : Bool :=
  s.cirrus.holds.any (fun h => h.1 = vpn) || s.pinHeld vpn

/-- Granules of a page with its parity (R341). -/
def granPerPage (str : Nat) : Nat := 512 + 32 * str

/-- Physical address of granule `g` of a page, relocated where its placement record says so
(R356). -/
def State.granPa (s : State) (e : Pte) (g : Nat) : Nat :=
  match if e.plx = 0 then none else (s.cirrus.pls.getD e.plx {}).reloc.find? g with
  | some n => n * 4096
  | none => e.ppn * pageSize + g * 4096

/-- Physical address of byte `off` of a page. -/
def State.paOf (s : State) (e : Pte) (off : Nat) : Nat := s.granPa e (off / 4096) + off % 4096

/-! ### Physical pages and granules -/

/-- An entry whose data stands at another physical page, under another placement record. -/
def Pte.seatedAt (e : Pte) (ppn plx : Nat) : Pte := { e with ppn := ppn, plx := plx }

/-- The entry through which the data of a fetch is reached. -/
def Pte.on (e : Pte) (f : Fetch) : Pte := e.seatedAt f.ppn f.plx

/-- The copy of a frozen page as an entry (R358). -/
def cowPte (c : Nat × Nat) : Pte :=
  { res := .loc, acc := .none, str := 0, v := false, ppn := c.1, plx := c.2 }

/-- The copy of a frozen page. -/
def State.cow? (s : State) (vpn : Nat) : Option Pte := (s.cirrus.cows.find? vpn).map cowPte

/-- The entry has a physical page of its own. -/
def Pte.backed (e : Pte) : Bool := e.acc ≠ .none || e.res = .loc

/-- Granule numbers that placement records use. -/
def State.recGrans (s : State) : List Nat :=
  s.cirrus.pls.flatMap (fun p => p.2.parity.map (·.2) ++ p.2.reloc.map (·.2))

/-- Physical pages that hold data, copies, fetches or placed granules, or are retired. -/
def State.usedPages (s : State) : List Nat :=
  (s.cirrus.ptes.filter (fun p => p.2.backed)).map (fun p => p.2.ppn) ++
    s.cirrus.cows.map (·.2.1) ++
    (s.cirrus.fetches.filter (fun p => !p.2.starved)).map (fun p => p.2.ppn) ++
    s.recGrans.map (fun g => g / 512) ++ s.cirrus.retired

/-- Granule `g` of the device is usable for placement: its channel is ready and none of
its banks is retired (R309). -/
def State.granGood (s : State) (g : Nat) : Bool :=
  let pa := g * 4096
  s.isReady (readyCh (paChannel pa)) &&
    (granBanks pa).all (fun b => !(s.ch (paChannel pa)).bankret.getLsbD b)

/-- Granules of a physical page that cannot be used where they stand. -/
def State.badGrans (s : State) (p : Nat) : List Nat :=
  (List.range 512).filter (fun g => !s.granGood (512 * p + g))

/-- A physical page can be taken: it is free, and a placement record can hold its relocations (R356). -/
def State.pageFree (s : State) (p : Nat) : Bool :=
  p < pageCount && !Config.reservedPage p && !s.usedPages.contains p && (s.badGrans p).length ≤ 64

/-- A free physical page: the spec leaves the choice to cirrus. -/
def State.freePage (s : State) : Option Nat :=
  let c := Config.pickPage s.freeCtr
  if s.cirrus.capFree + s.cirrus.capRes = 0 then none
  else if s.pageFree c then some c
  else (List.range pageCount).find? s.pageFree

/-- A free physical page where the pool holds the granules that it is to take (R341). -/
def State.poolPage (s : State) (grans : Nat) : Option Nat :=
  if s.cirrus.capFree < grans then none else s.freePage

/-- A free granule outside page `own`, on a channel that none of `avoid` names: from a page that already
holds placed granules, or else from a free page (R356). -/
def State.freeGran (s : State) (own : Nat) (avoid : List Nat) : Option Nat :=
  let pages := (s.recGrans.map (fun g => g / 512)).eraseDups ++
    (match s.freePage with | some p => [p] | none => [])
  (pages.flatMap (fun p => (List.range 512).map (fun i => 512 * p + i))).find? (fun g =>
    g / 512 ≠ own && s.granGood g && !s.cirrus.retired.contains (g / 512) && !s.recGrans.contains g && !avoid.contains (paChannel (g * 4096)))

/-- Channels that page group `j` uses: its data granules and its placed parity. -/
def State.groupChans (s : State) (e : Pte) (j : Nat) : List Nat :=
  (List.range 16).map (fun i => paChannel (s.granPa e (16 * j + i))) ++
    (if e.plx = 0 then [] else
      ((s.cirrus.pls.getD e.plx {}).parity.filter (fun p => p.1 / 4 = j)).map
        (fun p => paChannel (p.2 * 4096)))

/-- Changes a placement record. -/
def State.modPl (s : State) (i : Nat) (f : PlRec → PlRec) : State :=
  { s with cirrus := { s.cirrus with pls := s.cirrus.pls.put i (f (s.cirrus.pls.getD i {})) } }

/-- Places one parity granule, or relocates one data granule, of group `j`. -/
def State.placeOne (s : State) (e : Pte) (parity : Bool) (j k : Nat) : State :=
  match s.freeGran e.ppn (s.groupChans e j) with
  | some g => s.modPl e.plx (fun r =>
      if parity then { r with parity := r.parity.put (4 * j + k) g }
      else { r with reloc := r.reloc.put (16 * j + k) g })
  | none => s

/-- The lowest index of a placement record that is not in use; 0 means none, and an entry holds 20 bits of
it (R339). -/
def State.plFree (s : State) : Nat :=
  ((natRange 1 (s.cirrus.pls.length + 2)).find? (fun i => (s.cirrus.pls.find? i).isNone)).getD 0

/-- The data of an entry takes physical page `p`, with relocation entries for granules that are not usable
and parity granules for its strength (R309, R356). -/
def State.seat (s : State) (e : Pte) (p : Nat) : State × Pte :=
  let bad := s.badGrans p
  if e.str = 0 && bad.isEmpty then (s, e.seatedAt p 0)
  else
    let i := s.plFree
    let e := e.seatedAt p i
    let s := { s with cirrus := { s.cirrus with pls := s.cirrus.pls.put i {} } }
    let s := bad.foldl (fun s g => s.placeOne e false (g / 16) (g % 16)) s
    ((List.range 32).foldl (fun s j =>
      (List.range e.str).foldl (fun s q => s.placeOne e true j q) s) s, e)

/-- Drops a page's placement record. -/
def State.unplace (s : State) (e : Pte) : State :=
  if e.plx = 0 then s
  else { s with cirrus := { s.cirrus with pls := s.cirrus.pls.erase e.plx } }

/-! ### Page contents and parity (R397, R398, R401) -/

/-- Physical address of the unit at offset `b` of a granule of group `j`, for each of the
16 data granules. -/
def State.groupUnits (s : State) (e : Pte) (j b : Nat) : List Nat :=
  (List.range 16).map (fun i => s.granPa e (16 * j + i) + b)

/-- The deltas for parity `q` of some data units that are still on their way (R398). -/
def State.deltaSum (s : State) (us : List Nat) (q : Nat) : List Byte :=
  (s.deltas.filter (fun d => d.2.1 = q && us.contains d.1)).foldl
    (fun acc d => if d.2.2.isEmpty then acc else xorBytes acc d.2.2) (List.replicate 64 0)

/-- Recomputes the parity units of one 64-byte offset of a group, less the deltas still on their
way, poisoned where a data unit is (R398, R401). -/
def State.syncUnit (s : State) (e : Pte) (j b : Nat) : State :=
  let us := s.groupUnits e j b
  let ds := us.map (fun pa => s.physRead pa 64)
  let bad := us.any (fun pa => s.poison.contains (pa / 64))
  ((s.cirrus.pls.getD e.plx {}).parity.filter (fun p => p.1 / 4 = j)).foldl (fun s p =>
    s.physWriteP (p.2 * 4096 + b)
      (xorBytes (parityOf (p.1 % 4) 64 ds) (s.deltaSum us (p.1 % 4))) (fun _ => bad)) s

/-- A data unit at an offset of a group is poisoned. -/
def State.offPoison (s : State) (e : Pte) (j b : Nat) : Bool :=
  (s.groupUnits e j b).any (fun pa => s.poison.contains (pa / 64))

/-- A parity unit at an offset of a group is poisoned. -/
def State.parityPoison (s : State) (e : Pte) (j b : Nat) : Bool :=
  ((s.cirrus.pls.getD e.plx {}).parity.filter (fun p => p.1 / 4 = j)).any (fun p =>
    s.poison.contains ((p.2 * 4096 + b) / 64))

/-- The parity that a write at an offset of the page reaches: `s` before the write and `s'` after it. Where
the write has replaced the last poisoned data unit, the parity stays poisoned until the next one (R401). -/
def State.syncParity (s s' : State) (e : Pte) (off len : Nat) : State :=
  if e.str = 0 || e.plx = 0 then s'
  else (unitsOf off len).foldl (fun t u =>
    let j := u / 1024
    let b := 64 * (u % 64)
    if s.offPoison e j b && !s'.offPoison e j b then t else t.syncUnit e j b) s'

/-- Recomputes the parity of a whole page (R398). -/
def State.syncPage (s : State) (e : Pte) : State :=
  if e.str = 0 || e.plx = 0 then s
  else (List.range 32).foldl (fun s j => (List.range 64).foldl (fun s b => s.syncUnit e j (64 * b)) s) s

/-- Writes bytes that lie in one granule of a page; `bad` gets the unit's PA div 64. -/
def State.pageWrite (s : State) (e : Pte) (off : Nat) (bs : List Byte) (bad : Nat → Bool) :
    State :=
  s.syncParity (s.physWriteP (s.paOf e off) bs bad) e off bs.length

/-- Zero-fills a page and its parity: every line is installed by the zero-line operation (R328, R340). -/
def State.pageZero (s : State) (e : Pte) : State :=
  let s := (List.range 512).foldl (fun s g =>
    (s.physZero (s.granPa e g) 4096).linesAccessed (s.granPa e g) 4096 .other (fun _ => .zeroLine)) s
  (if e.plx = 0 then [] else (s.cirrus.pls.getD e.plx {}).parity).foldl
    (fun s p => s.physZero (p.2 * 4096) 4096) s

/-- The poison map of a 4 KiB part (R463). -/
def State.partPmap (s : State) (pa : Nat) : BitVec 64 :=
  (List.range 64).foldl (fun m u => if s.poison.contains (pa / 64 + u) then bitSet m u true else m) 0

/-- Sub-pages in the order of R347. -/
def subOrder (critical : Nat) : List Nat := (List.range 32).map (fun i => (critical + i) % 32)

/-- Sends a page to a device as 512 PAGE operations, the critical sub-page first (R347, R463). -/
def State.sendPage (s : State) (d vpn : Nat) (e : Pte) (critical : Nat) : State :=
  ((subOrder critical).flatMap (fun sp => (List.range 16).map (fun i => 16 * sp + i))).zipIdx.foldl (fun s p =>
    let pa := s.granPa e p.1
    (s.granRead pa false).sendOp d 0x11 0 0 (BitVec.ofNat 64 (vpn * pageSize + 4096 * p.1))
      (if p.2 = 511 then 1 else 0) (s.partPmap pa) (s.physRead pa 4096)) s

/-- Sends a page that a device has asked for. The spec does not say how the sender learns the critical
sub-page: it is a free value (log 71). -/
def State.sendAsked (s : State) (d vpn : Nat) (e : Pte) : State :=
  let (x, s) := s.draw
  s.sendPage d vpn e (x.toNat % 32)

/-- Copies every granule of an entry's data to another place, poison included. -/
def State.copyPage (s : State) (e dst : Pte) : State :=
  (List.range 512).foldl (fun s g =>
    ((s.granRead (s.granPa e g) false).physMove (s.granPa e g) (s.granPa dst g) 4096).granWritten (s.granPa dst g)) s

/-! ### Allocations -/

/-- The allocation that holds a page, with its first page. -/
def State.allocOf (s : State) (vpn : Nat) : Option (Nat × Alloc) :=
  List.find? (fun (p : Nat × Alloc) => p.1 ≤ vpn && vpn < p.1 + p.2.npages) s.cirrus.allocs

/-- Host address of a HOST page (R344). -/
def Alloc.hostAddr (a : Alloc) (base vpn : Nat) : Nat := a.hbase + (vpn - base) * (pageSize + 4096)

/-- A page that the running checkpoint includes and that has not been streamed is frozen
(R357). -/
def State.frozen (s : State) (vpn : Nat) (e : Pte) : Bool :=
  s.cirrus.active && e.gen ≠ s.cirrus.cur &&
    match s.ckpt with
    | some c => c.todo.any (fun p => p.1 = vpn)
    | none => false

/-- The beacon of a checkpoint is in flight (R438). -/
def State.ckCut (s : State) : Bool := s.pilot.inflight && s.pilot.snapSrc = 4#3

/-- A page is frozen to a write of an agent at a physical address (R439): while the beacon of the checkpoint is
in flight, once the agent or the home tile cache has latched; by CUR once cirrus has latched, and before that
because no page has the new CUR, which the beacon carries to them (R438). -/
def State.frozenTo (s : State) (w : Writer) (pa vpn : Nat) (e : Pte) : Bool :=
  if s.ckCut then
    let cut := match w.src with
      | some b => s.hasLatched b
      | none => s.hasLatched 5
    (cut || s.hasLatched (readyTc (homeTc pa))) &&
      (if s.hasLatched 5 then s.frozen vpn e
       else decide (e.gen ≠ s.beacon.cur) && (e.res = .loc || e.res = .unbacked))
  else s.frozen vpn e

/-! ### Wakes -/

/-- Wakes every wick that waits for a page and whose sub-page `hit` picks; the page is then
held for each instruction among them that R173, R221 or R287 names. -/
def State.wake (s : State) (vpn : Nat) (hit : Nat → Bool) : State :=
  let held := (s.lans.filter (fun p => match p.2.wait with
    | .page v sp _ hold => v = vpn && hit sp && hold && !s.cirrus.holds.contains (vpn, p.1)
    | _ => false)).map (fun p => (vpn, p.1))
  { s with
    cirrus := { s.cirrus with holds := s.cirrus.holds ++ held }
    lans := s.lans.map (fun p => (p.1,
      match p.2.wait with
      | .page v sp _ _ => if v = vpn && hit sp then { p.2 with wait := .none } else p.2
      | _ => p.2)) }

/-- Wakes every wick that waits for a sub-page of a page (R347). -/
def State.wakePage (s : State) (vpn sub : Nat) : State := s.wake vpn (fun sp => sp = sub)

/-- Wakes every wick that waits for a page. -/
def State.wakeVpn (s : State) (vpn : Nat) : State := s.wake vpn (fun _ => true)

/-- Copy-on-write of a frozen page: takes a free page of the pool for the copy, or waits for
the streamer (R358). -/
def State.cowStart (s : State) (vpn : Nat) : State :=
  if (s.cirrus.cows.find? vpn).isSome || s.cirrus.cowWait.contains vpn then s
  else match s.poolPage 512 with
    | some p =>
      let (s, c) := { s with freeCtr := s.freeCtr + 1 }.seat (cowPte (p, 0)) p
      { s with cirrus := { s.cirrus with
          capFree := s.cirrus.capFree - 512
          cows := s.cirrus.cows.put vpn (c.ppn, c.plx) } }
    | none => { s with cirrus := { s.cirrus with cowWait := setIns s.cirrus.cowWait vpn } }

/-- Ends every reservation on a page (R258). -/
def State.breakResvPage (s : State) (e : Pte) : State :=
  (List.range 512).foldl (fun s g =>
    let pa := s.granPa e g
    { s with lans := s.lans.map (fun p => (p.1,
        match p.2.resv with
        | some (false, r) => if r * 128 / 4096 = pa / 4096 then { p.2 with resv := none } else p.2
        | _ => p.2)) }) s

/-! ### The home (R349, R351) -/

/-- Changes a page's directory. -/
def State.setDir (s : State) (vpn : Nat) (d : Dir) : State :=
  { s with cirrus := { s.cirrus with dirs := s.cirrus.dirs.put vpn d } }

/-- A page's directory. -/
def State.dir (s : State) (vpn : Nat) : Dir := s.cirrus.dirs.getD vpn {}

/-- Sets a home page's access and SHARED after a directory change. -/
def State.homeAcc (s : State) (vpn : Nat) (acc : Acc) : State :=
  match s.pte? vpn with
  | none => s
  | some e =>
    let d := s.dir vpn
    s.remap vpn { e with acc := acc, shared := d.owner.isSome || !d.readers.isEmpty }

/-- Takes the lead page of a first touch: backs an UNBACKED page, or a HOST page that has
never been written back, with zero lines (R328, R340). -/
def State.backZero (s : State) (vpn : Nat) (e : Pte) : State × Option Pte :=
  match (if e.res = Res.unbacked then s.freePage else s.poolPage (granPerPage e.str)) with
  | none => (s, none)
  | some p =>
    let e : Pte := { e with acc := .write, res := if e.res = Res.unbacked then Res.loc else e.res }
    let s := { s with
      freeCtr := s.freeCtr + 1
      cirrus := { s.cirrus with
        capFree := if e.res = Res.loc then s.cirrus.capFree else s.cirrus.capFree - granPerPage e.str
        recency := if e.res = Res.loc then s.cirrus.recency
          else s.cirrus.recency.filter (fun v => v ≠ vpn) ++ [vpn] } }
    let (s, e) := s.seat e p
    ((s.remap vpn e).pageZero e, some e)

/-- What the home does next for the request in progress. An exclusive change of a pinned
page waits (R337), as does a request for a page that is being moved (R316); a page that is frozen
is copied before a peer may write it (R358). An owner that asks again has no copy, and is sent the
home's. -/
def State.homeServe (s : State) (vpn : Nat) (r : HomeReq) : State :=
  let d := s.dir vpn
  let (s, eo) : State × Option Pte := match s.pte? vpn with
    | some e =>
      if s.cirrus.moving.contains vpn then (s, none)
      else if e.res = Res.unbacked then s.backZero vpn e else (s, some e)
    | none => (s, none)
  match eo with
  | none => s
  | some e =>
    let finish (s : State) (d : Dir) (acc : Acc) : State :=
      (s.setDir vpn { d with cur := none, await := [] }).homeAcc vpn acc
    let waitFor (s : State) (msg : Nat) (ds : List Nat) : State :=
      ds.foldl (fun s x => s.cir x msg vpn) (s.setDir vpn { d with cur := some r, await := ds })
    match r with
    | .rd x =>
      match d.owner with
      | some o =>
        if o = x then finish (s.sendAsked x vpn e) { d with owner := none, readers := [x] } .read
        else waitFor s msgRecallR [o]
      | none =>
        if e.acc = .write && s.pinned vpn then s.setDir vpn { d with cur := some r, await := [] }
        else finish (s.sendAsked x vpn e) { d with readers := setIns d.readers x } .read
    | .wr x =>
      match d.owner with
      | some o =>
        if o = x then finish (s.sendAsked x vpn e) d .none else waitFor s msgRecallW [o]
      | none =>
        let others := setDel d.readers x
        if s.frozen vpn e then (s.cowStart vpn).setDir vpn { d with cur := some r, await := [] }
        else if !others.isEmpty then waitFor s msgInv others
        else if s.pinned vpn then s.setDir vpn { d with cur := some r, await := [] }
        else
          let s := s.breakResvPage e
          let s := if d.readers.contains x then s.cir x msgGrant vpn else s.sendAsked x vpn e
          finish s { d with readers := [], owner := some x } .none
    | .localRead =>
      match d.owner with
      | some o => waitFor s msgRecallR [o]
      | none => (finish s d (if d.readers.isEmpty then .write else .read)).wakeVpn vpn
    | .localWrite =>
      match d.owner with
      | some o => waitFor s msgRecallW [o]
      | none =>
        if !d.readers.isEmpty then waitFor s msgInv d.readers
        else if e.acc ≠ .write && s.pinHeld vpn then s.setDir vpn { d with cur := some r, await := [] }
        else (finish s d .write).wakeVpn vpn

/-- Serves queued requests of a page until one has to wait (R351). -/
def State.homePump : Nat → Nat → State → State
  | 0, _, s => s
  | k + 1, vpn, s =>
    let d := s.dir vpn
    match d.cur with
    | some r => if d.await.isEmpty then
        let s' := s.homeServe vpn r
        if (s'.dir vpn).cur = some r then s' else State.homePump k vpn s'
      else s
    | none =>
      match d.queue with
      | [] => s
      | r :: q =>
        State.homePump k vpn (s.setDir vpn { d with cur := some r, await := [], queue := q })

/-- Puts a request behind those of its page and serves what can be served. -/
def State.homeAsk (s : State) (vpn : Nat) (r : HomeReq) : State :=
  let d := s.dir vpn
  if d.cur = some r || d.queue.contains r then s
  else State.homePump (2 * d.queue.length + 4) vpn (s.setDir vpn { d with queue := d.queue ++ [r] })

/-! ### Fetches (R347, R348) -/

/-- Changes a fetch. -/
def State.setFetch (s : State) (vpn : Nat) (f : Fetch) : State :=
  { s with cirrus := { s.cirrus with fetches := s.cirrus.fetches.put vpn f } }

/-- Requests the sealed parts of one HOST page: its tag block, then each sub-page in order
(R344, R353). -/
def State.hostReads (s : State) (h addr vpn critical : Nat) : State :=
  let s := s.sendReq (hostCid h) 0x07 (BitVec.ofNat 64 (addr + pageSize)) 0 4096 (.sealedPage vpn 512)
  (subOrder critical).foldl (fun s sp => (List.range 16).foldl (fun s i =>
    s.sendReq (hostCid h) 0x07 (BitVec.ofNat 64 (addr + 65536 * sp + 4096 * i)) 0 4096
      (.sealedPage vpn (16 * sp + i))) s) s

/-- Sends the request of a fetch: RD or WR to the home, or reads of the host's sealed copy. -/
def State.askHome (s : State) (vpn : Nat) (e : Pte) (f : Fetch) : State :=
  if e.res = .peer then s.cir e.home (if f.write then msgWr else msgRd) vpn
  else match s.allocOf vpn with
    | some (base, a) => s.hostReads e.home (a.hostAddr base vpn) vpn f.critical
    | none => s

/-- A fetch ends without its data: its physical page goes back to the pool. -/
def State.dropFetch (s : State) (vpn : Nat) (e : Pte) : State :=
  match s.cirrus.fetches.find? vpn with
  | none => s
  | some f =>
    let s := { s with cirrus := { s.cirrus with fetches := s.cirrus.fetches.erase vpn } }
    if f.data && !f.starved then
      { s with cirrus := { s.cirrus with capFree := s.cirrus.capFree + granPerPage e.str } }.unplace (e.on f)
    else s

/-- A fetch sets FAIL (R348, R353): the entry is marked and counted. -/
def State.failFetch (s : State) (vpn : Nat) (e : Pte) : State :=
  let s := s.dropFetch vpn e
  { s with cirrus := { s.cirrus with
      ptes := s.cirrus.ptes.put vpn { e with fail := true }
      fails := satAdd 16 s.cirrus.fails 1 } }

/-- A fetch takes a free page of the pool and asks for the data. -/
def State.seatFetch (s : State) (vpn : Nat) (e : Pte) (f : Fetch) (p : Nat) : State :=
  let (s, e') := { s with
    freeCtr := s.freeCtr + 1
    cirrus := { s.cirrus with capFree := s.cirrus.capFree - granPerPage e.str } }.seat e p
  let f := { f with ppn := p, plx := e'.plx, starved := false }
  (s.setFetch vpn f).askHome vpn e f

/-- A UE or INFO record of cirrus about a page (R404, LOCKIND 6). -/
def pageRec (cls code vpn ep aux : Nat) : RecIn :=
  { src := 5, cls := cls, code := code, va := true, lockind := 6, devaddr := vpn * pageSize
    loc := locPage ep 0 vpn, aux := aux }

/-- Starts a fetch of a PEER or HOST page (R350, R353). Without a free page it waits for one, and its time
runs (R355). -/
def State.startFetch (s : State) (vpn sub : Nat) (write : Bool) (e : Pte) : State :=
  if e.acc = .read then
    let f : Fetch := { write := true, critical := sub, ppn := e.ppn, plx := e.plx, data := false }
    (s.setFetch vpn f).askHome vpn e f
  else if e.res = .host && !e.held then
    (s.failFetch vpn e).record (pageRec clsUe 0x0209 vpn e.home e.sealver)
  else
    let f : Fetch := { write := write, critical := sub, ppn := 0, starved := true }
    match s.poolPage (granPerPage e.str) with
    | none => s.setFetch vpn f
    | some p => s.seatFetch vpn e f p

/-- Fetches that wait for a page take one each while the pool has any. -/
def State.feed (s : State) : State :=
  (s.cirrus.fetches.filter (fun p => p.2.starved)).foldl (fun s p =>
    match s.pte? p.1 with
    | some e => match s.poolPage (granPerPage e.str) with
      | some g => s.seatFetch p.1 e p.2 g
      | none => s
    | none => s) s

/-- The pool has grown: fetches that wait take their pages, and every wick that waits for a page for which
no fetch runs replays (R221, R355). -/
def State.wakeStuck (s : State) : State :=
  let s := s.feed
  let vpns := s.lans.filterMap (fun p => match p.2.wait with
    | .page v _ _ _ => some v
    | _ => none)
  (vpns.eraseDups.filter (fun v => (s.cirrus.fetches.find? v).isNone && !s.cirrus.moving.contains v &&
    (s.cirrus.cows.find? v).isNone && !s.cirrus.cowWait.contains v &&
    !(match s.pte? v with | some e => e.fail | none => false))).foldl State.wakeVpn s

/-! ### Access by an agent of the device -/

/-- What an access to a page finds. -/
inductive Access where
  | ok (e : Pte)
  | unmapped
  | stall
  deriving DecidableEq, Repr

/-- The tile that serves a page with no hint is that of the lantern that first touches it
(R345). -/
def firstTile (e : Pte) (who : Writer) : Pte :=
  match who.lan? with
  | some n => if e.anyt then { e with tile := n / 64, anyt := false } else e
  | none => e

/-- A write to a frozen page stalls while cirrus copies it, which begins once cirrus has latched (R358,
R438). -/
def State.frozenStall (s : State) (vpn : Nat) : State × Access :=
  (if s.cirrus.active then s.cowStart vpn else s, .stall)

/-- An agent touches a DV address, to read or to write it: what its page allows (R336 to R358). -/
def State.touchPage (s : State) (who : Writer) (va : Nat) (write : Bool) : State × Access :=
  let vpn := vpnOf va
  let sub := subOf va
  match s.pte? vpn with
  | none => (s, .unmapped)
  | some e0 =>
    if !e0.v || inReg (vpn * pageSize) || vpn = 0 then (s, .unmapped)
    else if s.cirrus.moving.contains vpn then (s, .stall)
    else
      let e := firstTile e0 who
      let s := if e = e0 then s else s.setPte vpn e
      match s.cirrus.fetches.find? vpn with
      | some f =>
        if e.acc = .read && !write then (s, .ok e)
        else if f.data && f.arrived.getLsbD sub && (!write || f.write) then
          (s, .ok (e.on f))
        else (s, .stall)
      | none =>
        if e.fail then (s, .stall)
        else if write && (e.acc = .write || e.res = .unbacked) &&
            s.frozenTo who (s.paOf e (va % pageSize)) vpn e then s.frozenStall vpn
        else if e.acc = .write || (e.acc = .read && !write) then (s, .ok e)
        else match e.res with
          | .unbacked =>
            let (s, r) := s.backZero vpn e
            (s, match r with | some e => .ok e | none => .stall)
          | .loc =>
            let s := s.homeAsk vpn (if write then .localWrite else .localRead)
            match s.pte? vpn with
            | some e => (s, if e.acc = .write || (e.acc = .read && !write) then .ok e else .stall)
            | none => (s, .stall)
          | .peer => (s.startFetch vpn sub write e, .stall)
          | .host =>
            if e.sealver = 0 && !e.held then
              let (s, r) := s.backZero vpn e
              (s, match r with | some e => .ok e | none => .stall)
            else (s.startFetch vpn sub write e, .stall)

/-- An agent touches a DV address: what its page allows, and the access then waits while the home tile cache
holds the agent's input for a cut (R426). -/
def State.touch (s : State) (who : Writer) (va : Nat) (write : Bool) : State × Access :=
  match s.touchPage who va write with
  | (s, .ok e) => (s, if s.cutHeld who (s.paOf e (va % pageSize)) then .stall else .ok e)
  | r => r

/-- Ends every reservation on the granule of a physical address (R258). -/
def State.breakResv (s : State) (pa : Nat) : State :=
  if s.lans.any (fun p => p.2.resv = some (false, pa / 128)) then
    { s with lans := s.lans.map (fun p =>
        (p.1, if p.2.resv = some (false, pa / 128) then { p.2 with resv := none } else p.2)) }
  else s

/-- Pieces of a DV range that each lie in one granule: address and length. -/
def granPieces : Nat → Nat → Nat → List (Nat × Nat)
  | 0, _, _ => []
  | k + 1, va, len =>
    if len = 0 then []
    else
      let n := min len (4096 - va % 4096)
      (va, n) :: granPieces k (va + n) (len - n)

/-- Pieces of a range of any length. -/
def pieces (va len : Nat) : List (Nat × Nat) := granPieces (len / 4096 + 2) va len

/-- Outcome of a range access by an agent other than a wick. -/
inductive RangeRes where
  | ok
  | unmapped (va : Nat)
  | stall (va : Nat)
  deriving DecidableEq, Repr

/-- Touches every page of a DV range; stops at the first that is not there. -/
def State.touchRange (s : State) (who : Writer) (write : Bool) : List (Nat × Nat) → State × RangeRes
  | [] => (s, .ok)
  | (va, _) :: ps =>
    if va ≥ dvEnd then (s, .unmapped va)
    else match s.touch who va write with
      | (s, .ok _) => s.touchRange who write ps
      | (s, .unmapped) => (s, .unmapped va)
      | (s, .stall) => (s, .stall va)

/-- The entry through which a touched page is accessed. -/
def State.view (s : State) (vpn : Nat) : Option Pte :=
  match s.pte? vpn with
  | some e => match s.cirrus.fetches.find? vpn with
    | some f => if e.acc = .none then some (e.on f) else some e
    | none => some e
  | none => none

/-- Physical address of a touched DV byte. -/
def State.vaPa (s : State) (va : Nat) : Nat :=
  match s.view (vpnOf va) with
  | some e => s.paOf e (va % pageSize)
  | none => 0

/-- Bytes of a DV range that has been touched. -/
def State.dvRead (s : State) (va len : Nat) : List Byte :=
  (pieces va len).flatMap (fun p => s.physRead (s.vaPa p.1) p.2)

/-- The first DV address of a poisoned unit in a touched range. -/
def State.dvPoison? (s : State) (va len : Nat) : Option Nat :=
  (pieces va len).findSome? (fun p =>
    let pa := s.vaPa p.1
    ((unitsOf pa p.2).find? (fun u => s.poison.contains u)).map
      (fun u => p.1 + (max (64 * u) pa - pa)))

/-- Writes bytes to a DV range that has been touched for writing; `bad` says by DV address
div 64 which units receive poisoned data. Reservations on the granules end (R258). -/
def State.dvWriteP (s : State) (va : Nat) (bs : List Byte) (bad : Nat → Bool) : State :=
  ((pieces va bs.length).foldl (fun (acc : State × List Byte) p =>
    let s := acc.1
    match s.view (vpnOf p.1) with
    | none => (s, acc.2.drop p.2)
    | some e =>
      let pa := s.paOf e (p.1 % pageSize)
      let s := s.pageWrite e (p.1 % pageSize) (acc.2.take p.2)
        (fun u => bad (p.1 / 64 + (u - pa / 64)))
      ((natRange (pa / 128) ((pa + p.2 - 1) / 128 + 1)).foldl (fun s g => s.breakResv (128 * g)) s,
        acc.2.drop p.2)) (s, bs)).1

/-- Writes good bytes to a DV range. -/
def State.dvWrite (s : State) (va : Nat) (bs : List Byte) : State := s.dvWriteP va bs (fun _ => false)

/-- An agent stores to a DV range that has been touched for writing: the bytes, the poison of units by DV
address div 64, and the lines of the home tile caches (R320, R321, R327); `stream` is the mark of R323. -/
def State.dvStoreK (s : State) (w : Writer) (kind : Bool → CacheKind) (va : Nat) (bs : List Byte)
    (bad : Nat → Bool) : State :=
  (pieces va bs.length).foldl (fun s p => s.linesAccessed (s.vaPa p.1) p.2 w kind) (s.dvWriteP va bs bad)

/-- A store of a lantern to device memory: it always passes on to the home tile cache, in requests of at most
128 bytes, and sets the age of the L1 line that it updates (R320, R323, R327). -/
def State.dvStore (s : State) (w : Writer) (va : Nat) (bs : List Byte) (bad : Nat → Bool) : State :=
  let s := s.dvStoreK w (fun _ => .write) va bs bad
  match w.lan? with
  | none => s
  | some n => (pieces va bs.length).foldl (fun s p =>
      (natRange (s.vaPa p.1 / 128) ((s.vaPa p.1 + p.2 + 127) / 128)).foldl (fun s k =>
        if (s.lan n).l1Has (128 * k) then s.modLan n (fun l => l.l1Access (128 * k)) else s) s) s

/-- An agent reads a DV range past the L1 caches: its lines in the home tile caches. -/
def State.dvLoadLines (s : State) (va len : Nat) (stream : Bool) : State :=
  ((pieces va len).filter (fun p => (s.view (vpnOf p.1)).isSome)).foldl
    (fun s p => s.linesAccessed (s.vaPa p.1) p.2 .other (readKind stream)) s

/-- The lines of a page leave the tile caches and the L1 caches (R350). -/
def State.dropPageLines (s : State) (e : Pte) : State :=
  let mine := fun (a : Nat) => (List.range 512).any (fun g => s.granPa e g = a / 4096 * 4096)
  { s with
    tcs := s.tcs.map (fun p => (p.1, { p.2 with lines := p.2.lines.filter (fun x =>
      !mine (lineAddr p.1 (x.1 / 16) x.2.tag)) }))
    lans := s.lans.map (fun p => (p.1, { p.2 with l1 := p.2.l1.filter (fun x =>
      !mine (x.2.tag * 8192 + x.1 / 8 * 128)) })) }

/-! ### The holder (R350) -/

/-- An upgrade that loses its read copy before the grant keeps the physical page: the home will send
the page. -/
def upgradeLost (e : Pte) (f : Fetch) : Fetch :=
  { f with data := true, ppn := e.ppn, plx := e.plx, got := 0, arrived := 0, ended := false }

/-- A holder of a PEER page gives up its copy, or its right to write; HOST pages are given up in the
same way. -/
def State.holderDrop (s : State) (vpn : Nat) (acc : Acc) : State :=
  match s.pte? vpn with
  | none => s
  | some e =>
    let s := s.breakResvPage e
    let s := if acc = .none then
        let s := s.dropPageLines e
        let s := { s with cirrus := { s.cirrus with recency := s.cirrus.recency.filter (fun v => v ≠ vpn) } }
        match s.cirrus.fetches.find? vpn with
        | some f => s.setFetch vpn (upgradeLost e f)
        | none => { s with cirrus := { s.cirrus with capFree := s.cirrus.capFree + granPerPage e.str } }.unplace e
      else s
    s.remap vpn { e with acc := acc, plx := if acc = .none then 0 else e.plx }

/-- GONE (R346): the copy is discarded, V clears, and every waiter replays. -/
def State.goneNow (s : State) (vpn : Nat) (e : Pte) : State :=
  let s := s.dropFetch vpn e
  let s := if e.acc = .none then s else s.holderDrop vpn .none
  ((s.remap vpn { e with v := false, acc := .none, plx := 0, fail := false }).wakeVpn vpn).wakeStuck

/-- Does what is owed for a page that no pin holds: the answer to an INV or a recall of home `d`, or what
its GONE says. -/
def State.holderAnswer (s : State) (d vpn : Nat) (k : Owed) : State :=
  match s.pte? vpn with
  | none => if k = .gone then s else s.cir d msgNocopy vpn
  | some e =>
    match k with
    | .inv => (s.holderDrop vpn .none).cir d msgInvAck vpn
    | .recall w => (s.sendAsked d vpn e).holderDrop vpn (if w then .none else .read)
    | .gone => s.goneNow vpn e

/-! ### The end of a fetch (R347, R350) -/

/-- A fetch is complete: its parity stands (R398), the copy is a read copy, or writable, and every waiter
wakes. The change of the entry of a pinned page waits (R337). -/
def State.fetchDone (s : State) (vpn : Nat) (e : Pte) (f : Fetch) : State :=
  if s.pinHeld vpn then
    (s.setFetch vpn { f with
      ended := true, arrived := if f.data then BitVec.allOnes 32 else f.arrived }).wakeVpn vpn
  else
    let acc : Acc := if f.write || e.res = .host then .write else .read
    let s := if f.data then s.syncPage (e.on f) else s
    let s := { s with cirrus := { s.cirrus with
      fetches := s.cirrus.fetches.erase vpn
      recency := s.cirrus.recency.filter (fun v => v ≠ vpn) ++ [vpn] } }
    (s.remap vpn { e.on f with acc := acc }).wakeVpn vpn

/-- Changes of entries that have waited for a pin are made: a fetch that has ended, and a home page whose
last reader has dropped it (R337, R349). -/
def State.settlePins (s : State) : State :=
  let s := (s.cirrus.fetches.filter (fun p => p.2.ended && !s.pinHeld p.1)).foldl (fun s p =>
    match s.pte? p.1 with
    | some e => s.fetchDone p.1 e p.2
    | none => s) s
  (s.cirrus.dirs.filter (fun p => p.2.owner.isNone && p.2.readers.isEmpty && p.2.cur.isNone)).foldl (fun s p =>
    match s.pte? p.1 with
    | some e => if e.res = .loc && e.acc = .read && !s.pinHeld p.1 then s.homeAcc p.1 .write else s
    | none => s) s

/-- Does what is owed for pages that no pin holds any more, and lets the home's own
waiting requests go on (R172, R350). -/
def State.pumpPins (s : State) : State :=
  let s := s.cirrus.owed.foldl (fun s o =>
    if (if o.2.2 = .gone then s.pinHeld o.2.1 else s.pinned o.2.1) then s
    else
      let s := { s with cirrus := { s.cirrus with owed := s.cirrus.owed.filter (fun x => x ≠ o) } }
      s.holderAnswer o.1 o.2.1 o.2.2) s
  let s := s.settlePins
  (s.cirrus.dirs.filter (fun p => p.2.cur.isSome && p.2.await.isEmpty)).foldl
    (fun s p => State.homePump (2 * p.2.queue.length + 4) p.1 s) s

end Sys2Proof.Machine
end

