-- ==== Sys2Proof/Machine/Lantern.lean ====
section
/-!
DEFINITION. Lantern.lean: the line buffer of instruction fetch (R211), completion of an instruction (R243), taking an event and returning from one (R271 to
R276), and the halt of a lantern (R278, R279).
-/

namespace Sys2Proof.Machine

open Sys2Proof

/-- PC uses bits [47:0] (R197). -/
def pcMask (v : Dword) : Dword := v &&& 0xFFFFFFFFFFFF#64

/-- An instruction of `len` bytes completes without a taken transfer (R243). -/
def Wick.advance (k : Wick) (len : Nat) : Wick :=
  let succ := pcMask (k.pc + BitVec.ofNat 64 len)
  if k.lcnt ≠ 0 && succ = k.lend then
    let c := k.lcnt - 1
    { k with lcnt := c, pc := if c ≠ 0 then pcMask k.lbeg else succ }
  else { k with pc := succ }

/-- Sticky exceptions that the wick itself has set or written are no longer a queued vector instruction's
to undo (R267). -/
def Lantern.keepFx (l : Lantern) (x : BitVec 5) : Lantern :=
  { l with vq := l.vq.map (fun e => { e with fxNew := e.fxNew &&& ~~~x }) }

/-! ### Instruction fetch (R211) -/

/-- The line buffer with a line added: four lines, of which the one that holds LBEG stays
while LCNT is not 0 (R211, R242). -/
def Lantern.lineBufAdd (l : Lantern) (line : Nat) : List Nat :=
  let keep (x : Nat) : Bool := l.wick.lcnt ≠ 0 && x = l.wick.lbeg.toNat / 128
  let xs := l.lineBuf.filter (fun x => x ≠ line) ++ [line]
  if xs.length ≤ 4 then xs else delFirst (fun x => !keep x) xs

/-- The instruction cache holds a line of 128 bytes, by VA div 128. -/
def Lantern.icHas (l : Lantern) (line : Nat) : Bool := (lineKey l.icache 4 (line % 64) (line / 64)).isSome

/-- Fetch enters a line: a line that the line buffer lacks comes from the instruction cache, where that
counts as a hit, and the next sequential line is copied into the line buffer where it is cached (R211,
R323). -/
def Lantern.enterLine (l : Lantern) (line : Nat) : Lantern :=
  let l := if !l.lineBuf.contains line && l.icHas line then
      { l with icache := lineAccess l.icache 4 (line % 64) (line / 64) 1, lineBuf := l.lineBufAdd line }
    else l
  if l.icHas (line + 1) then { l with lineBuf := l.lineBufAdd (line + 1) } else l

/-- The wick's registers change to `k`, whose PC fetch follows. -/
def Lantern.follow (l : Lantern) (k : Wick) : Lantern :=
  if k.pc.toNat / 128 = l.wick.pc.toNat / 128 then { l with wick := k }
  else { l with wick := k }.enterLine (k.pc.toNat / 128)

/-- An instruction has completed with the registers `k`: nothing waits, no pin of its own is held, and the
next boundary is one (R268). -/
def Lantern.done (l : Lantern) (k : Wick) : Lantern :=
  { l.follow k with wait := .none, entered := false, pins := [] }

/-- An instruction of `len` bytes completes on lantern `n`. -/
def State.complete (s : State) (n len : Nat) : State :=
  s.modLan n (fun l => l.done (l.wick.advance len))

/-- A taken transfer completes (R238, R243). -/
def State.transfer (s : State) (n : Nat) (target : Dword) : State :=
  s.modLan n (fun l => l.done { l.wick with pc := pcMask target })

/-- The wick is in supervisor mode (R199). -/
def Wick.sup (k : Wick) : Bool := k.mode.getLsbD 31

/-- A handler fetch at this address raises cause 0x11: invalid, in the REG window, not a
multiple of 4 or unmapped (R211). -/
def State.fetchBad (s : State) (va : Nat) : Bool :=
  va ≥ dvEnd || inReg va || va % 4 ≠ 0 || vpnOf va = 0 ||
    match s.pte? (vpnOf va) with
    | some e => !e.v
    | none => true

/-- Bank of a local-store byte (R333). -/
def lsBank (a : Nat) : Nat := (a / 32 % 32) ^^^ (a / 1024 % 32)
/-- Row of a local-store byte within its bank. -/
def lsRow (a : Nat) : Nat := a / 1024
/-- The first byte of a local-store row of a bank (R333). -/
def lsRowAddr (bank row : Nat) : Nat := row * 1024 + ((bank ^^^ (row % 32)) % 32) * 32

/-- A claim of R419 on a lantern is in force. -/
def Lantern.claimed (l : Lantern) : Bool :=
  l.svc.quarPend || l.svc.spareTest || l.svc.fusePend.isSome || l.arrs.any (fun a => a.2.quarReq)

/-- The lantern halts (R278, R279). HALTPC holds the SPC that the entry or return would
have used. -/
def State.haltLan (s : State) (n : Nat) (cause : Nat) (pc : Dword) : State :=
  let l := s.lan n
  let s := s.setLan n { l with
    run := if l.run = .running then .idle else l.run
    wait := .none
    rep := none
    entered := false
    pins := []
    vq := [], mq := [], lq := [], sb := []
    resv := none
    fifo := []
    out := none
    defNan := false, defFx := none, defRf := none, fxRep := [], nanQ := [], nanLate := []
    arrs := l.arrs.map (fun p => (p.1, { p.2 with slots := [], shadow := [] }))
    halt := { halted := true, cl := l.cl, cause := BitVec.ofNat 8 cause, pc := pc.setWidth 48 } }
  let s := s.pumpPins
  if cause = 0x45 then
    let a := l.wick.sstk.toNat
    s.record { src := readyLan n, cls := clsUe, code := 0x0207, lockind := 4
               loc := s.locSram n 0 (lsBank a) (lsRow a), aux := a }
  else s.record { src := readyLan n, cls := clsInfo, code := 0x040D, aux := cause }

/-- Level of a cause (R266). -/
def causeLevel (cause : Nat) : Nat :=
  if cause = 0x42 then 3 else if cause < 0x10 then 1 else 2

/-- Save set of a level. -/
def Lantern.sv (l : Lantern) (lv : Nat) : SaveSet :=
  if lv = 1 then l.sv1 else if lv = 2 then l.sv2 else l.sv3
/-- Sets the save set of a level. -/
def Lantern.setSv (l : Lantern) (lv : Nat) (v : SaveSet) : Lantern :=
  if lv = 1 then { l with sv1 := v } else if lv = 2 then { l with sv2 := v } else { l with sv3 := v }
/-- BUSY of a level. -/
def Lantern.busy (l : Lantern) (lv : Nat) : Bool :=
  if lv = 1 then l.busy1 else if lv = 2 then l.busy2 else l.busy3
/-- Sets BUSY of a level. -/
def Lantern.setBusy (l : Lantern) (lv : Nat) (b : Bool) : Lantern :=
  if lv = 1 then { l with busy1 := b } else if lv = 2 then { l with busy2 := b }
  else { l with busy3 := b }

/-- SVL.CAUSE (R273). -/
def SaveSet.causeWord (v : SaveSet) : Nat :=
  v.sflags.toNat * 2 ^ 28 + b2n v.pushed * 2 ^ 27 + v.pl.toNat * 2 ^ 25 + v.trapno.toNat * 256 +
    v.cause.toNat

/-- A save set as a save-stack frame (R274). -/
def SaveSet.frame (v : SaveSet) (lv : Nat) : List Byte :=
  leBytes 4 (v.spc.toNat % 2 ^ 32) ++ leBytes 4 (v.spc.toNat / 2 ^ 32) ++ leBytes 4 v.smode.toNat ++
    leBytes 4 v.causeWord ++ leBytes 8 v.saddr.toNat ++ leBytes 4 v.selem.toNat ++ leBytes 4 lv

/-- Sets the fields of SVL.CAUSE. -/
def SaveSet.withCause (v : SaveSet) (w : Nat) : SaveSet :=
  { v with
    sflags := BitVec.ofNat 4 (natField w 28 4)
    pushed := natBit w 27
    pl := BitVec.ofNat 2 (natField w 25 2)
    trapno := BitVec.ofNat 8 (natField w 8 8)
    cause := BitVec.ofNat 8 (natField w 0 8) }

/-- A frame read back (R274, R276). -/
def SaveSet.ofFrame (bs : List Byte) : SaveSet :=
  let at_ (o n : Nat) : Nat := leNat ((bs.drop o).take n)
  ({ spc := BitVec.ofNat 48 (at_ 0 4 + at_ 4 2 * 2 ^ 32)
     smode := BitVec.ofNat 32 (at_ 8 4)
     saddr := BitVec.ofNat 64 (at_ 16 8)
     selem := BitVec.ofNat 16 (at_ 24 2) } : SaveSet).withCause (at_ 12 4)

/-- MODE after event entry: SUP set, FXE, RM, FTZ and E4NAN cleared, FXS kept (R271). -/
def entryMode (m : Word) : Word := (m &&& 0x00003E00#32) ||| 0x80000000#32

/-- Address of a handler (R272). -/
def Lantern.handler (l : Lantern) (lv cause trapno : Nat) : Nat :=
  l.evbase.toNat + (if cause = 0x01 then 0x1000 + 16 * trapno else 0x40 * lv)

/-- Entry into an event (R271). -/
def State.takeEvent (s : State) (n cause : Nat) (spc saddr : Dword) (selem trapno : Nat) : State :=
  let l := s.lan n
  let lv := causeLevel cause
  if l.busy lv && l.wick.sstk.toNat < l.lsguard.toNat * 65536 + 32 then s.haltLan n 0x40 spc
  else
    let pushed := l.busy lv
    let l1 := if pushed then
        let sp := l.wick.sstk - 32
        { l.lsWrite sp.toNat ((l.sv lv).frame lv) with wick := { l.wick with sstk := sp } }
      else l
    let set : SaveSet := {
      spc := spc.setWidth 48, smode := l.wick.mode, sflags := l.wick.flags, pushed := pushed
      pl := l.cl, trapno := BitVec.ofNat 8 trapno, cause := BitVec.ofNat 8 cause
      saddr := saddr, selem := BitVec.ofNat 16 selem }
    let l2 := (l1.setSv lv set).setBusy lv true
    let h := l.handler lv cause trapno
    let l3 := { l2.follow { l2.wick with mode := entryMode l.wick.mode, pc := pcMask (BitVec.ofNat 64 h) } with
      cl := BitVec.ofNat 2 lv
      resv := none
      wait := .none
      entered := true
      pins := []
      rep := none }
    let s := s.setLan n l3
    if s.fetchBad h then s.haltLan n 0x44 spc else s

/-- An asynchronous source is pending and enabled: its cause, in the order of R270. -/
def Lantern.async (l : Lantern) : Option Nat :=
  if l.pendSvc && l.enSvc then some 0x0A
  else if l.pendBeat && l.enBeat then some 0x09
  else if !l.fifo.isEmpty && l.enMsg then some 0x08
  else none

/-- RTE in supervisor mode at CL ≠ 0 (R275, R276). -/
def State.rte (s : State) (n : Nat) : State :=
  let l := s.lan n
  let lv := l.cl.toNat
  let v := l.sv lv
  match if !v.pushed && v.pl = 0 && lv = 1 then l.async else none with
  | some c =>
    let h := l.handler 1 c 0
    let l1 := l.follow { l.wick with pc := pcMask (BitVec.ofNat 64 h) }
    let s := s.setLan n { l1.setSv 1 { v with cause := BitVec.ofNat 8 c, trapno := 0, saddr := 0, selem := 0 } with
      resv := none
      wait := .none
      entered := true
      pins := [] }
    if s.fetchBad h then s.haltLan n 0x44 (v.spc.setWidth 64) else s
  | none =>
    let l1 := { l.done { l.wick with
        pc := v.spc.setWidth 64, flags := v.sflags, mode := v.smode &&& 0x80003FFF#32 } with
      cl := v.pl
      resv := none }
    let l1 := l1.keepFx 0x1F
    if v.pushed then
      let sp := l.wick.sstk
      if l.lsPoisoned sp.toNat 32 then (s.setLan n l1).haltLan n 0x45 (v.spc.setWidth 64)
      else
        s.setLan n { l1.setSv lv (SaveSet.ofFrame (l.lsRead sp.toNat 32)) with
          wick := { l1.wick with sstk := sp + 32 } }
    else s.setLan n (l1.setBusy lv false)

end Sys2Proof.Machine
end

