-- ==== Sys2Proof/Machine/Zenith.lean ====
section
/-!
DEFINITION. Zenith.lean: event counters (R360 to R362), work-queue entries and their checks
(R363 to R367, R378, R380), selection and placement (R368 to R371), completion and abort of
kernels and copies (R373, R374, R381, R382).
-/

namespace Sys2Proof.Machine

open Sys2Proof

/-! ### Event counters -/

/-- Counter value `c` reaches target `t` (R360). -/
def reaches (c t : Dword) : Bool := (c - t).toNat < 2 ^ 63

/-- Event counter `e`. -/
def State.counter (s : State) (e : Nat) : Dword := s.disp.counters.getD e 0

/-- Sets a counter and completes every parked EWAIT that it satisfies (R361). -/
def State.setCounter (s : State) (e : Nat) (v : Dword) : State :=
  { s with
    disp := { s.disp with counters := s.disp.counters.putD e v 0 }
    lans := s.lans.map (fun p => (p.1,
      match p.2.wait with
      | .event x t =>
        if x = e && reaches v t then p.2.done (p.2.wick.advance 4) else p.2
      | _ => p.2)) }

/-! ### Work-queue entries (R366) -/

/-- A little-endian field of an entry. -/
def entF (e : List Byte) (off n : Nat) : Nat := leNat ((e.drop off).take n)

/-- PRIO. -/
def entPrio (e : List Byte) : Nat := entF e 2 2 % 4
/-- KIND. -/
def entKind (e : List Byte) : Nat := entF e 2 2 / 4 % 4
/-- AFF, with 0 allowing every tile. -/
def entAff (e : List Byte) : Nat := if entF e 4 1 % 16 = 0 then 15 else entF e 4 1 % 16
/-- Gang size. -/
def entGang (e : List Byte) : Nat := entF e 6 2 + 1
/-- CEVT with its EN. -/
def entCevtEn (e : List Byte) : Bool := natBit (entF e 0x30 2) 15
/-- CEVT counter. -/
def entCevt (e : List Byte) : Nat := entF e 0x30 2 % 4096
/-- CADD. -/
def entCadd (e : List Byte) : Dword := BitVec.ofNat 64 (entF e 0x38 8)

/-- A signed 48-bit field. -/
def sx48 (v : Nat) : Int := if v < 2 ^ 47 then v else (v : Int) - 2 ^ 48

/-- A copy descriptor (R378). -/
structure CopyDesc where
  op : Nat
  esz : Nat
  stream : Bool
  src : Nat
  dst : Nat
  n0 : Nat
  n1 : Nat
  n2 : Nat
  ss1 : Int
  ss2 : Int
  ds1 : Int
  ds2 : Int
  deriving DecidableEq, Repr

/-- Reads a descriptor from the 64 payload bytes. -/
def copyDesc (p : List Byte) : CopyDesc :=
  { op := entF p 0 1, esz := 2 ^ (entF p 1 1 % 4), stream := natBit (entF p 2 2) 0
    src := entF p 8 8, dst := entF p 0x10 8, n0 := entF p 0x18 4, n1 := entF p 0x1C 4
    n2 := entF p 0x20 4, ss1 := sx48 (entF p 0x28 6), ss2 := sx48 (entF p 0x2E 6)
    ds1 := sx48 (entF p 0x34 6), ds2 := sx48 (entF p 0x3A 6) }

/-- Lowest and highest byte of rows laid out from `base`: `n1` rows and `n2` planes of `len`
bytes. -/
def extent (base : Nat) (len n1 n2 : Nat) (s1 s2 : Int) : Int × Int :=
  let r := s1 * ((n1 : Int) - 1)
  let q := s2 * ((n2 : Int) - 1)
  ((base : Int) + min 0 r + min 0 q, (base : Int) + max 0 r + max 0 q + len - 1)

/-- The `k`-th row start of a strided layout. -/
def rowAt (base : Nat) (s1 s2 : Int) (i1 i2 : Nat) : Int := base + s2 * i2 + s1 * i1

/-- A byte range keeps out of the page at 0, the REG window and the addresses above 48
bits. -/
def rangeOk (lo hi : Int) : Bool :=
  (pageSize : Int) ≤ lo && hi < dvEnd && (hi < regLo || (regHi : Int) ≤ lo)

/-- Every row of a layout keeps to R380. -/
def rowsOk (base len n1 n2 : Nat) (s1 s2 : Int) : Bool :=
  let x := extent base len n1 n2 s1 s2
  rangeOk x.1 x.2 ||
    (List.range n2).all (fun i2 => (List.range n1).all (fun i1 =>
      let a := rowAt base s1 s2 i1 i2
      rangeOk a (a + len - 1)))

/-- Check 2 of R367 for a copy entry (R380). -/
def copyOk (p : List Byte) : Bool :=
  let d := copyDesc p
  let e := d.esz
  d.op ≤ 4 && entF p 1 1 < 4 && entF p 2 2 < 2 && entF p 4 4 = 0 && entF p 0x24 4 = 0 &&
  d.src < 2 ^ 48 && d.dst < 2 ^ 48 &&
  d.n0 ≠ 0 && d.n1 ≠ 0 && d.n2 ≠ 0 &&
  (if d.op = 3 || d.op = 4 then d.n1 = 1 && d.n2 = 1 && d.dst = 0 else true) &&
  (if d.op = 2 then d.src = 0 else true) &&
  (if d.op = 1 then
    d.n0 % 32 = 0 && d.n1 % 32 = 0 && d.src % e = 0 && d.dst % e = 0 &&
    [d.ss1, d.ss2, d.ds1, d.ds2].all (fun x => x % (e : Int) = 0) &&
    ((d.n0 * e : Nat) : Int) ≤ d.ss1 && ((d.n1 * e : Nat) : Int) ≤ d.ds1 &&
    rowsOk d.src (d.n0 * e) d.n1 d.n2 d.ss1 d.ss2 && rowsOk d.dst (d.n1 * e) d.n0 d.n2 d.ds1 d.ds2
  else
    entF p 1 1 = 0 &&
    (d.op = 2 || rowsOk d.src d.n0 d.n1 d.n2 d.ss1 d.ss2) &&
    (d.op ≥ 3 || rowsOk d.dst d.n0 d.n1 d.n2 d.ds1 d.ds2))

/-- The 128 bytes at a queue's head, once its ring page is there, with their poison. -/
def State.headEntry (s : State) (q : Queue) : State × Option (List Byte × Bool) :=
  let va := q.base + 128 * (q.head.toNat % 2 ^ q.logn)
  match s.touchRange (.unit 4) false (pieces va 128) with
  | (s, .ok) => (s, some (s.dvRead va 128, (s.dvPoison? va 128).isSome))
  | (s, _) => (s, none)

/-- The head of a queue as zenith has read and checked it. -/
def Queue.entry (q : Queue) : List Byte := q.held.getD []

/-- Check 1 of R367. -/
def entReserved (e : List Byte) : Bool :=
  let kind := entKind e
  entF e 0 2 = 1 && kind ≠ 3 && entF e 2 2 < 16 && entF e 4 1 < 16 && entF e 5 1 = 0 &&
  (kind = 0 || entF e 6 2 = 0) &&
  (List.range 4).all (fun i => natField (entF e (8 + 2 * i) 2) 12 3 = 0) &&
  natField (entF e 0x30 2) 12 3 = 0 && entF e 0x32 6 = 0 &&
  (kind ≠ 0 || (entF e 0x46 2 = 0 && (e.drop 0x60).all (fun b => b = 0))) &&
  (kind ≠ 2 || (e.drop 0x40).all (fun b => b = 0))

/-- Logical lanterns of the tiles of AFF, ascending. -/
def affLans (aff : Nat) : List Nat := (List.range 256).filter (fun n => natBit aff (n / 64))

/-- A lantern counts for check 3 of R367: ready, halted, or held for a spare remap, which it is once it has
no kernel (R376). -/
def State.lanCounts (s : State) (n : Nat) : Bool :=
  let l := s.lan n
  s.isReady (readyLan n) || l.halt.halted || (l.svc.quarPend && l.gang.isNone)

/-- The subcode of the first check of R367 that fails; 0 when the head passes. -/
def State.launchCheck (s : State) (e : List Byte) (poisoned : Bool) : Nat :=
  if poisoned || !entReserved e then 0x01
  else if entKind e = 0 then
    let code := entF e 0x40 6
    if code % 4 ≠ 0 || code < pageSize || inReg code then 0x02
    else if entGang e > ((affLans (entAff e)).filter s.lanCounts).length then 0x03 else 0
  else if entKind e = 1 then if copyOk (e.drop 0x40) then 0 else 0x02
  else 0

/-- An INFO record about a queue (R364, R367, R374, R381). -/
def queueRec (code q idx aux : Nat) : RecIn :=
  { src := 4, cls := clsInfo, code := code, lockind := 6, loc := locPage q idx 0, aux := aux }

/-- Stops a queue; one that is stopped keeps its subcode (R367). -/
def State.stopQueue (s : State) (q sub : Nat) : State :=
  match s.queue? q with
  | some v => if v.stop then s else s.setQueue q { v with stop := true, sub := BitVec.ofNat 8 sub }
  | none => s

/-- Checks the head of a queue when it first becomes the head (R367). -/
def State.checkHead (s : State) (q : Nat) : State :=
  match s.queue? q with
  | none => s
  | some v =>
    if v.stop || v.held.isSome || v.head = v.tail then s
    else match s.headEntry v with
      | (s, none) => s
      | (s, some (e, bad)) =>
        let sub := s.launchCheck e bad
        if sub = 0 then s.setQueue q { v with held := some e }
        else (s.stopQueue q sub).record (queueRec 0x040A q v.head.toNat sub)

/-- Every wait of an entry reaches its target (R368). -/
def State.waitsMet (s : State) (e : List Byte) : Bool :=
  (List.range 4).all (fun i =>
    let w := entF e (8 + 2 * i) 2
    !natBit w 15 || reaches (s.counter (w % 4096)) (BitVec.ofNat 64 (entF e (0x10 + 8 * i) 8)))

/-- A queue's head is eligible, at a priority (R368). -/
def State.eligible (s : State) (q prio : Nat) : Bool :=
  match s.queue? q with
  | some v => !v.stop && v.held.isSome && entPrio v.entry = prio && s.waitsMet v.entry
  | none => false

/-- A lantern is free (R370), and no repair of its local store waits (R416). -/
def State.lanFree (s : State) (n : Nat) : Bool :=
  let l := s.lan n
  s.isReady (readyLan n) && s.lanOn n && l.gang.isNone && !l.halt.halted &&
    l.arrs.all (fun p => !p.2.bypPend) && !s.disp.hold && !l.svc.quarPend &&
    l.svc.fusePend.isNone

/-- The lanterns that a gang of `g` takes, in rank order (R371). -/
def State.placeGang (s : State) (aff g : Nat) : Option (List Nat) :=
  let free (xs : List Nat) : Option (List Nat) :=
    let f := xs.filter (fun n => natBit aff (n / 64) && s.lanFree n)
    if g ≤ f.length then some (f.take g) else none
  let quad := if g ≤ 16 then (List.range 16).findSome? (fun d => free (natRange (16 * d) (16 * d + 16)))
    else none
  let tile := if g ≤ 64 then (List.range 4).findSome? (fun t => free (natRange (64 * t) (64 * t + 64)))
    else none
  match quad, tile with
  | some x, _ => some x
  | none, some x => some x
  | none, none => free (List.range 256)

/-- An engine is free for a copy entry (R377, R533). -/
def State.engFree (s : State) (e : Nat) : Bool :=
  let v := s.eng e
  s.engOn e && v.en && !v.clrPend && !v.busy && s.isReady (readyEng e)

/-- The engine that a copy entry takes (R377). -/
def State.placeCopy (s : State) (aff : Nat) : Option Nat :=
  (List.range 16).find? (fun e => natBit aff (e / 4) && s.engFree e)

/-- The head can be placed now. -/
def State.placeable (s : State) (e : List Byte) : Bool :=
  match entKind e with
  | 0 => (s.placeGang (entAff e) (entGang e)).isSome
  | 1 => (s.placeCopy (entAff e)).isSome
  | _ => true

/-- Queues of one priority in round-robin order, from the one after the last started. -/
def State.rrQueues (s : State) (prio : Nat) : List Nat :=
  let first := (s.disp.lastQ.getD prio 63 + 1) % 64
  (List.range 64).map (fun i => (first + i) % 64)

/-- A blocked head of a priority. -/
def State.blockedHead (s : State) (prio : Nat) : Option Nat :=
  (s.rrQueues prio).find? (fun q => match s.queue? q with
    | some v => v.blocked && s.eligible q prio
    | none => false)

/-- The head that zenith takes next (R368, R369): a blocked head before any other of its
priority, and none of equal or lower priority past one that cannot be placed. -/
def State.nextHead (s : State) : Option Nat :=
  let rec go : List Nat → Option Nat
    | [] => none
    | p :: ps =>
      match s.blockedHead p with
      | some q => some q
      | none =>
        match (s.rrQueues p).find? (fun q => s.eligible q p) with
        | some q => some q
        | none => go ps
  go [3, 2, 1, 0]

/-- The entry at the head of queue `q`. -/
def State.headBytes (s : State) (q : Nat) : List Byte :=
  match s.queue? q with
  | some v => v.entry
  | none => []

/-- The head of queue `q` starts: HEAD advances and the queue counts as the last started at
its priority (R365, R368). -/
def State.headStarts (s : State) (q : Nat) : State :=
  match s.queue? q with
  | none => s
  | some v =>
    let s := { s with disp := { s.disp with lastQ := s.disp.lastQ.put (entPrio v.entry) q } }
    s.setQueue q { v with head := v.head + 1, held := none, blocked := false }

/-- The completion event of an entry: CADD is added to CEVT where EN is set. -/
def State.addCevt (s : State) (en : Bool) (c : Nat) (d : Dword) : State :=
  if en then s.setCounter c (s.counter c + d) else s

/-- DONE of a queue increments. -/
def State.addDone (s : State) (q : Nat) : State :=
  match s.queue? q with
  | some v => s.setQueue q { v with done := v.done + 1 }
  | none => s

/-- Zenith examines the heads (R361, R367 to R369): new heads are checked, markers complete,
and a head that cannot be placed becomes blocked. -/
def State.examineN : Nat → State → State
  | 0, s => s
  | k + 1, s =>
    let s := (List.range 64).foldl State.checkHead s
    match s.nextHead with
    | none => s
    | some q =>
      let e := s.headBytes q
      if entKind e = 2 then
        let s := (s.headStarts q).addCevt (entCevtEn e) (entCevt e) (entCadd e)
        State.examineN k (s.addDone q)
      else if s.placeable e then s
      else match s.queue? q with
        | some v => s.setQueue q { v with blocked := true }
        | none => s

/-- Zenith examines the heads while it is in service. -/
def State.examine (s : State) : State :=
  if s.disp.queues.isEmpty then s
  else State.examineN
    (s.disp.queues.foldl (fun n p => n + (p.2.tail - p.2.head).toNat) 1) s

/-- A change of an event counter (R361). -/
def State.changeEvent (s : State) (e : Nat) (v : Dword) : State := (s.setCounter e v).examine

/-- An add to an event counter, modulo 2^64 (R360, R361). -/
def State.addEvent (s : State) (e : Nat) (d : Dword) : State := s.changeEvent e (s.counter e + d)

/-- A doorbell with a new TAIL (R363, R364). -/
def State.ringBell (s : State) (q : Nat) (tail : Half) : State :=
  match s.queue? q with
  | none => { s with xpt := { s.xpt with dropHdr := satAdd 8 s.xpt.dropHdr 1 } }
  | some v =>
    let n := 2 ^ v.logn
    let ahead := (tail - v.head).toNat
    if ahead > n || ahead < (v.tail - v.head).toNat then
      (s.stopQueue q 0x07).record (queueRec 0x040A q v.head.toNat 0x07)
    else (s.setQueue q { v with tail := tail }).examine

/-! ### Completion and abort -/

/-- The gang of a lantern. -/
def State.gangOf (s : State) (n : Nat) : Option Gang :=
  match (s.lan n).gang with
  | some id => s.disp.gangs.find? (fun g => g.id = id)
  | none => none

/-- Changes a gang. -/
def State.setGang (s : State) (g : Gang) : State :=
  { s with disp := { s.disp with gangs := updFirst (fun x => x.id = g.id) (fun _ => g) s.disp.gangs } }

/-- Frees the lanterns of a gang. The clear of EN, where one is pending, is carried out by
BLOCK_IDLE. -/
def State.dropGang (s : State) (g : Gang) : State :=
  let s := g.members.foldl (fun s n => s.modLan n (fun l =>
    { l with gang := none, run := .idle, wait := .none })) s
  { s with disp := { s.disp with gangs := s.disp.gangs.filter (fun x => x.id ≠ g.id) } }

/-- A lantern's kernel is reported complete; the last report of a gang completes the kernel
(R373). -/
def State.kernelDone (s : State) (n : Nat) : State :=
  match s.gangOf n with
  | none => s
  | some g =>
    let g := { g with finished := setIns g.finished n }
    let s := s.setGang g
    if g.members.all (fun m => g.finished.contains m) then
      (((s.addCevt g.cevtEn g.cevt g.cadd).addDone g.q).dropGang g).examine
    else s

/-- Zenith aborts a kernel after a halt of one of its lanterns: the others halt with cause
0x47, the queue stops, and KERNEL_ABORT is written (R374). -/
def State.abortKernel (s : State) (g : Gang) : State :=
  let others := g.members.filter (fun m => !(s.lan m).halt.halted)
  let s := others.foldl (fun s m => s.haltLan m 0x47 (s.lan m).wick.pc) s
  let wd := g.members.any (fun m => (s.lan m).halt.cause = 0x46)
  let s := s.stopQueue g.q (if wd then 0x04 else 0x05)
  let s := s.record (queueRec 0x040B g.q g.idx.toNat g.tag.toNat)
  (s.dropGang g).examine

end Sys2Proof.Machine
end

