-- ==== Sys2Proof/Machine/Sec.lean ====
section
/-!
DEFINITION. Sec.lean: the keys that SEC derives (R500, R513, R515, R516), the membership
list and the identities that the device accepts (R505 to R509), and decode-table bundles
(R291 to R294).
-/

namespace Sys2Proof.Machine

open Sys2Proof

/-- The ASCII bytes of a text. -/
def ascii (t : String) : List Byte := t.toList.map (fun c => BitVec.ofNat 8 c.toNat)

/-! ### Keys -/

/-- ROOTPRK (R500). -/
def rootPrk : List Byte := Config.hkdfExtract Config.fseed (Config.pufr.getD [])
/-- Seed of the identity key. -/
def idSeed : List Byte := Config.hkdfExpand rootPrk (ascii "NQ288 id") 32
/-- DEVKEY. -/
def devKey : List Byte := Config.edPub idSeed
/-- Private half of the agreement key. -/
def agreePriv : List Byte := Config.hkdfExpand rootPrk (ascii "NQ288 agree") 32
/-- AGREEKEY. -/
def agreeKey : List Byte := Config.xPub agreePriv
/-- The sealing root SR. -/
def sealRoot : List Byte := Config.hkdfExpand rootPrk (ascii "NQ288 seal") 64

/-- OWNERKEY, or 32 zero bytes while no owner is enrolled. -/
def State.ownerBytes (s : State) : List Byte := s.flash.owner.getD (List.replicate 32 0)

/-- The page-sealing key (R515). -/
def State.pageKey (s : State) : List Byte :=
  Config.hkdfExpand sealRoot (ascii "NQ288 page" ++ s.ownerBytes ++ beBytes 8 s.flash.bootcnt.toNat) 32

/-! ### The membership list (R505) -/

/-- A field of a list in device memory: little-endian (R500). -/
def bfield (bs : List Byte) (off n : Nat) : Nat := leNat ((bs.drop off).take n)
/-- Bytes of a list. -/
def bslice (bs : List Byte) (off n : Nat) : List Byte := (bs.drop off).take n

/-- Peer entries of a list, as bytes. -/
def listPeers (bs : List Byte) : List (List Byte) :=
  (List.range (bfield bs 6 2)).map (fun i => bslice bs (0x40 + 120 * i) 120)
/-- Host entries of a list, as bytes. -/
def listHosts (bs : List Byte) : List (List Byte) :=
  (List.range (bfield bs 8 1)).map (fun i => bslice bs (0x40 + 120 * bfield bs 6 2 + 40 * i) 40)

/-- The installed list, or none. -/
def State.peerEntry (s : State) (idx : Nat) : Option (List Byte) :=
  match s.flash.list with
  | some bs => (listPeers bs).find? (fun e => bfield e 0 2 = idx)
  | none => none

/-- DEVKEY of a member (R505). -/
def State.peerKey (s : State) (idx : Nat) : Option (List Byte) :=
  (s.peerEntry idx).map (fun e => bslice e 8 32)

/-- HOSTKEY of an endpoint (R505). -/
def State.hostKey (s : State) (h : Nat) : Option (List Byte) :=
  match s.flash.list with
  | some bs => ((listHosts bs).find? (fun e => bfield e 0 1 = h)).map (fun e => bslice e 8 32)
  | none => none

/-- The device accepts a remote identity on a conduit (R509). -/
def State.acceptsId (s : State) (cid : Nat) (role : Nat) (idkey : List Byte) : Bool :=
  if cid < 1024 then role = 0 && s.peerKey cid = some idkey
  else
    match s.flash.owner with
    | some o => role = 1 && (idkey = o || s.hostKey (cid - 1024) = some idkey)
    | none => role = 2 && idkey.all (fun b => b = 0)

/-- A checkpoint ends without a manifest: ACTIVE clears, and the copies of frozen pages go back to the
pool (R440, R443). -/
def State.ckStop (s : State) : State :=
  let waits := s.cirrus.cowWait ++ s.cirrus.cows.map (·.1)
  let s := s.cirrus.cows.foldl (fun s c => s.unplace (cowPte c.2)) s
  let s := { s with
    ckpt := none
    cirrus := { s.cirrus with
      active := false
      capFree := s.cirrus.capFree + 512 * s.cirrus.cows.length
      cows := [], cowWait := [] } }
  (waits.foldl State.wakeVpn s).pumpPins.wakeStuck

/-- The stream stops, and CKERR is set (R443). -/
def State.ckAbort (s : State) : State :=
  let s := s.ckStop
  { s with cirrus := { s.cirrus with ckerr := true } }

/-- RESTORE cannot read what it needs; the spec does not say with which status it ends. -/
def State.restoreEnd (s : State) : State :=
  match s.pilot.restore with
  | some r =>
    if r.result.isSome then s
    else
      let (x, s) := s.draw
      { s with pilot := { s.pilot with restore := some { r with result := some (x.toNat % 65536) } } }
  | none => s

/-- The reply to the command in progress is discarded, where its conduit is the one that is gone (R479). -/
def State.replyLost (s : State) (gone : Nat → Bool) : State :=
  match s.pilot.busy with
  | some b => if gone b.pkt.ep then { s with pilot := { s.pilot with busy := some { b with lost := true } } } else s
  | none => s

/-- A conduit becomes LOST: its packets are discarded, its requests end with STATUS 0x06,
its keys are gone, and the host is told (R465, R501, R498). -/
def State.loseConduit (s : State) (cid : Nat) : State :=
  let k := s.con cid
  if k.st = .lost || k.st = .closed then s
  else
    let s := (s.setCon cid { st := .lost, retxCnt := k.retxCnt }).replyLost (fun h => hostCid h = cid)
    let s := k.reqs.foldl (fun s r =>
      match r.2.2 with
      | .xrq n =>
        let l := s.lan n
        if !s.lanOn n then s else
        let s := s.setLan n { l with xrq := { l.xrq with busy := false, status := 0x06 } }
        if l.xrq.cen then s.addEvent l.xrq.cevt.toNat 1 else s
      | .restore _ _ => s.restoreEnd
      | _ => s) s
    let s := match s.ckpt with
      | some c =>
        if c.streaming && c.dests.any (fun d => hostCid d.ep = cid) then s.ckAbort else s
      | none => s
    s.notify 3 (beBytes 2 cid ++ [3] ++ List.replicate 5 0)

/-- CKS and SYSID where a list is installed, the device-bound secret otherwise (R516). -/
def State.ckSecret (s : State) (bound : Bool) : List Byte × List Byte :=
  match s.flash.list with
  | some b =>
    if bound then (Config.hkdfExpand sealRoot (ascii "NQ288 ck" ++ s.ownerBytes) 32, List.replicate 64 0)
    else (s.flash.cks, bslice b 0x18 16)
  | none => (Config.hkdfExpand sealRoot (ascii "NQ288 ck" ++ s.ownerBytes) 32, List.replicate 64 0)

/-- The checkpoint key of a generation (R516). -/
def ckKey (sec salt devkey : List Byte) (stamp gen : Nat) : List Byte :=
  Config.hkdfExpand (Config.hkdfExtract salt sec)
    (ascii "NQ288 gen" ++ devkey ++ beBytes 8 stamp ++ beBytes 2 gen) 32

/-! ### Decode-table bundles (R291, R292, R294) -/

/-- NWORDS. -/
def bunWords (b : List Byte) : Nat := bfield b 6 2
/-- Entry of slot `k`. -/
def bunEntry (b : List Byte) (k : Nat) : Nat := bfield b (0x10 + 4 * k) 4
/-- Microcode word `i`. -/
def bunCode (b : List Byte) (i : Nat) : Nat := bfield b (0x90 + 8 * i) 8

/-- VALID of an entry. -/
def entValid (e : Nat) : Bool := natBit e 31
/-- AMMASK. -/
def entAm (e : Nat) : Nat := natField e 23 8
/-- LENM1. -/
def entLen (e : Nat) : Nat := natField e 15 8
/-- START. -/
def entStart (e : Nat) : Nat := natField e 0 14

/-- UOPs of the table Micro-operations. -/
def uopListed (u : Nat) : Bool :=
  (1 ≤ u && u ≤ 0x11) || (0x18 ≤ u && u ≤ 0x1B) || u = 0x20 || u = 0x3F

/-- A micro-operation word meets R292 at index `i` of a routine of `len` words. -/
def uopOk (w i len : Nat) : Bool :=
  let u := natField w 58 6
  let rd := natField w 50 4
  let sz := natField w 38 2
  let imm := natField w 0 32
  uopListed u && natField w 32 6 = 0 && rd ≠ 6 && rd ≠ 7 &&
    (!(0x18 ≤ u && u ≤ 0x1B) || sz ≥ 2) &&
    (u ≠ 0x20 || (imm < 2 ^ 31 && i + 1 + imm < len))

/-- One entry of a bundle is valid (R292). -/
def bunEntryOk (b : List Byte) (k : Nat) : Bool :=
  let e := bunEntry b k
  if !entValid e then e = 0
  else
    let st := entStart e
    let len := entLen e + 1
    let ws := (List.range len).map (fun i => bunCode b (st + i))
    st + entLen e < bunWords b && natBit e 14 = false && entAm e ≠ 0 &&
      ((List.range len).zip ws).all (fun p => uopOk p.2 p.1 len) &&
      natField (bunCode b (st + entLen e)) 58 6 = 0x3F &&
      (ws.filter (fun w => natField w 58 6 = 0x11)).length ≤ 4

/-- The header and every entry of a bundle are valid (check 2 of R293). -/
def bunOk (b : List Byte) : Bool :=
  bfield b 0 4 = 0x5444514E && bfield b 4 2 = 1 && 1 ≤ bunWords b && bunWords b ≤ 16384 &&
    bfield b 0x0C 4 = 0 && (List.range 32).all (bunEntryOk b)

/-- Writes the installed bundle, or the empty table, into a lantern (R293, R294). -/
def State.loadTable (s : State) (n : Nat) : State :=
  let b := s.flash.bundle
  s.modLan n (fun l => { l with
    ucBad := []
    ucslots := if b.isEmpty then [] else
      (List.range 32).foldl (fun t k => t.putD k (BitVec.ofNat 32 (bunEntry b k)) 0) []
    ucstore := if b.isEmpty then [] else
      (List.range (bunWords b)).foldl (fun t i => t.putD i (BitVec.ofNat 64 (bunCode b i)) 0) [] })

end Sys2Proof.Machine
end

