-- ==== Sys2Proof/Machine/Registers.lean ====
section
/-!
DEFINITION. Registers.lean: the block map (R536, R537), the value of every register, and
what a write to each does (R525 to R533, and the register tables of the owning chapters).
-/

namespace Sys2Proof.Machine

open Sys2Proof

/-- A block of the map (R536). -/
inductive Blk where
  | pilot | sec | eth | xpt | disp | cirrus | scrub | pwr | therm
  | copy (e : Nat) | tc (t : Nat) | dch (c : Nat) | lan (n : Nat) | arr (n m : Nat)
  deriving DecidableEq, Repr

/-- The block and offset of a REG-window address (R536). -/
def blkOf (addr : Nat) : Option (Blk × Nat) :=
  if addr < regLo then none
  else
    let a := addr - regLo
    if a < 0x90000 then
      let off := a % 0x10000
      match a / 0x10000 with
      | 0 => some (.pilot, off)
      | 1 => some (.sec, off)
      | 2 => some (.eth, off)
      | 3 => some (.xpt, off)
      | 4 => some (.disp, off)
      | 5 => some (.cirrus, off)
      | 6 => some (.scrub, off)
      | 7 => some (.pwr, off)
      | _ => some (.therm, off)
    else if 0x100000 ≤ a && a < 0x200000 then some (.copy ((a - 0x100000) / 0x10000), a % 0x10000)
    else if 0x200000 ≤ a && a < 0x240000 then some (.tc ((a - 0x200000) / 0x10000), a % 0x10000)
    else if 0x1000000 ≤ a && a < 0x2000000 then some (.dch ((a - 0x1000000) / 0x10000), a % 0x10000)
    else if 0x10000000 ≤ a && a < 0x20000000 then
      let n := (a - 0x10000000) / 0x100000
      let o := a % 0x100000
      if 0x80000 ≤ o && o < 0x88000 then some (.arr n ((o - 0x80000) / 0x1000), o % 0x1000)
      else some (.lan n, o)
    else none

/-- The block has power (R536); AON blocks always have. -/
def State.blkOn (s : State) (b : Blk) : Bool :=
  match b with
  | .pilot | .sec | .pwr | .therm => true
  | .eth => s.powered 28
  | .xpt => s.powered 29
  | .disp | .cirrus | .scrub => s.tc0On
  | .copy e => s.engOn e
  | .tc t => s.tcOn t
  | .dch c => s.chOn c
  | .lan n => s.lanOn n
  | .arr n _ => s.lanOn n

/-- A register lies at this offset (R537). -/
def regExists (b : Blk) (off : Nat) : Bool :=
  let span (lo hi : Nat) : Bool := lo ≤ off && off ≤ hi
  off % 4 = 0 && (match b with
    | .arr _ _ => span 0 0x10
    | .pilot => span 0 4 || span 0x10 0x2C || span 0x40 0x88
    | .sec => span 0 4 || span 0x10 0x14
    | .eth => span 0 4 || span 0x10 0x18
    | .xpt => span 0 4 || span 0x10 0x18
    | .disp => span 0 4 || span 0x10 0x1C || (span 0x1000 0x13FC && off % 16 ≠ 12)
    | .cirrus => span 0 4 || span 0x10 0x38
    | .scrub => span 0 4 || span 0x10 0x14
    | .pwr => span 0 4 || span 0x10 0x24 || span 0x40 0x7C
    | .therm => span 0 4 || span 0x10 0x18 || span 0x20 0x6C
    | .copy _ => span 0 4 || span 0x10 0x14
    | .tc _ => span 0 4 || span 0x10 0x1C
    | .dch _ => span 0 4 || span 0x10 0x24
    | .lan _ => span 0 4 || span 0x10 0x28 || span 0x30 0x58 || span 0x60 0x80 || span 0x90 0xA4 ||
        (span 0x100 0x158 && off % 0x20 ≠ 0x1C) || span 0x200 0x27C)

/-! ### Values derived from the state -/

/-- NARR, WMIN, NEFF and MEFF of a lantern (R88). -/
def Lantern.neff (l : Lantern) : Nat := if l.narr = 0 then 0 else if l.chk then l.wmin - 1 else l.wmin
/-- MEFF. -/
def Lantern.meff (l : Lantern) : Nat := if l.chk then 31 else 32

/-- LANn.MCAP (R88). -/
def Lantern.mcap (l : Lantern) : Nat :=
  l.amask.toNat * 2 ^ 24 + (if l.narr = 0 then 0 else l.wmin) * 2 ^ 18 + l.meff * 2 ^ 12 +
    l.neff * 2 ^ 6 + b2n l.chk * 2 ^ 5 + l.narr

/-- Shadow banks that hold tiles (R99). -/
def Arr.shad (a : Arr) : Nat := a.shadow.foldl (fun n t => n + t.banks) 0

/-- Effective voltage of a quadrant domain, 0 while unpowered (R32, R577). -/
def State.veff (s : State) (q : Nat) : Nat :=
  if s.powered q then s.pwr.effMv.getD q 750 else 0

/-- The latest reading of a sensor. -/
def State.reading (s : State) (i : Nat) : Option Int :=
  if s.therm.excluded.contains i then none else (s.therm.readings.getD i []).head?

/-- The hottest of a list of sensors as an unsigned byte; 0 where none reads. -/
def State.hottest (s : State) (is : List Nat) : Nat :=
  (is.filterMap s.reading).foldl (fun m v => max m v.toNat) 0

/-- Sensors of a quadrant's lantern sites: 16 lanterns and the spare (R376, R568). That quadrant q of a
tile has the sites 16 q to 16 q + 15 and the spare site 64 + q is the model's choice (log 139). -/
def quadSensors (q : Nat) : List Nat :=
  (List.range 16).map (fun i => 68 * (q / 4) + 16 * (q % 4) + i) ++ [68 * (q / 4) + 64 + q % 4]
/-- Sensors of a base die. -/
def baseSensors (t : Nat) : List Nat := (List.range 16).map (fun k => 272 + 16 * t + k)
/-- Sensors of a stack. -/
def stackSensors (x : Nat) : List Nat := (List.range 12).map (fun d => 336 + 12 * x + d)

/-- Snapshot status word (R433). -/
def State.snapstat (s : State) : Nat :=
  let p := s.pilot
  b2n p.inflight * 2 ^ 31 + b2n p.snapValid * 2 ^ 30 + b2n p.incomplete * 2 ^ 29 +
    p.snapSrc.toNat * 2 ^ 26 + p.snapId.toNat

/-- CIRRUS.GEN (R359). -/
def State.genWord (s : State) : Nat :=
  b2n s.cirrus.active * 2 ^ 31 + b2n s.cirrus.ckerr * 2 ^ 30 + s.cirrus.cur.toNat

/-- DISP.Qq.PTR (R385). -/
def Queue.ptr (q : Queue) : Nat := q.head.toNat * 65536 + q.tail.toNat

/-- Pages that cirrus works on: those that fetches bring, those under a move, and the page that the
checkpoint streams next (R383). -/
def State.cirPages (s : State) : List Nat :=
  (s.cirrus.fetches.filter (fun p => p.2.data && !p.2.starved)).map (·.1) ++ s.cirrus.moving ++
    (match s.ckpt with
      | some c => if c.streaming then (c.todo.map (·.1)).take 1 else []
      | none => [])

/-- The engines that begin cirrus work on a page of a tile: those of the tile with EN = 1 and no clear pending, else
the lowest-numbered such engine of the device (R345, R383, R533). -/
def State.cirOn (s : State) (tile : Nat) : List Nat :=
  let on := (List.range 16).filter (fun k => (s.eng k).en && !(s.eng k).clrPend)
  let own := on.filter (fun k => k / 4 = tile)
  if own.isEmpty then on.take 1 else own

/-- The cirrus work on a page has begun on an engine, in turns with the copy entry that show only in time
(R383; log 169). An engine whose clear is pending holds only what it had begun (R533). -/
def State.cirPageOn (s : State) (k v : Nat) : Bool :=
  if (s.eng k).clrPend then (s.eng k).cirHeld.contains v
  else match s.pte? v with
    | some e => (s.cirOn e.tile).contains k
    | none => false

/-- Cirrus work runs on an engine. -/
def State.cirRuns (s : State) (k : Nat) : Bool := s.cirPages.any (s.cirPageOn k)

/-- Cirrus has an engine for the work on a page; with no engine in service it waits (R533). -/
def State.cirGoes (s : State) (v : Nat) : Bool :=
  (List.range 16).any (fun k => (s.eng k).en && (!(s.eng k).clrPend || (s.eng k).cirHeld.contains v))

/-- COPYn.STAT (R385). -/
def State.engStat (s : State) (k : Nat) : Nat :=
  let e := s.eng k
  b2n e.busy * 2 ^ 31 + b2n (s.cirRuns k) * 2 ^ 30 + e.q * 2 ^ 24 + e.idx.toNat

/-- SCRUB.STAT and SCRUB.CNT (R396). -/
def Scrub.stat (c : Scrub) : Nat := c.passes.toNat * 2 ^ 19 + c.run % 2 ^ 19
/-- SCRUB.CNT. -/
def Scrub.cnt (c : Scrub) : Nat := c.ce * 65536 + c.ue * 256 + c.pois

/-- TCACHEt.CECNT (R331). -/
def TCache.cecnt (t : TCache) : Nat := t.ceData * 65536 + t.ceTag

/-- XPT.CSTAT of a conduit (R472). -/
def Conduit.cstat (k : Conduit) : Nat :=
  (match k.st with | .closed => 0 | .opening => 1 | .opened => 2 | .lost => 3) * 2 ^ 30 +
    k.rc * 65536 + k.retxCnt

/-- EN of a block (R532). -/
def State.blkEn (s : State) (b : Blk) : Bool :=
  match b with
  | .pilot => s.pilot.en
  | .sec => s.sec.en
  | .eth => s.xpt.ethEn
  | .xpt => s.xpt.en
  | .disp => s.disp.en
  | .cirrus => s.cirrus.en
  | .scrub => s.scrub.en
  | .pwr | .therm => s.pilot.en
  | .copy e => (s.eng e).en
  | .tc t => (s.tc t).en
  | .dch c => (s.ch c).en
  | .lan n | .arr n _ => (s.lan n).svc.en

/-- RSTAT as WIE and VOTEDIS (R532). -/
def State.blkRstat (s : State) (b : Blk) : Bool × Nat :=
  match b with
  | .pilot => (s.pilot.wie, s.pilot.votedis)
  | .sec => (s.sec.wie, s.sec.votedis)
  | .eth => (s.xpt.ethWie, s.xpt.ethVotedis)
  | .xpt => (s.xpt.wie, s.xpt.votedis)
  | .disp => (s.disp.wie, s.disp.votedis)
  | .cirrus => (s.cirrus.wie, s.cirrus.votedis)
  | .scrub => (s.scrub.wie, s.scrub.votedis)
  | .pwr => (s.pwr.wie, s.pwr.votedis)
  | .therm => (s.therm.wie, s.therm.votedis)
  | .copy e => ((s.eng e).wie, (s.eng e).votedis)
  | .tc t => ((s.tc t).wie, (s.tc t).votedis)
  | .dch c => ((s.ch c).wie, (s.ch c).votedis)
  | .lan n | .arr n _ => ((s.lan n).svc.wie, (s.lan n).svc.votedis)

/-- Sets WIE and VOTEDIS of a block. -/
def State.setRstat (s : State) (b : Blk) (w : Bool) (v : Nat) : State :=
  match b with
  | .pilot => { s with pilot := { s.pilot with wie := w, votedis := v } }
  | .sec => { s with sec := { s.sec with wie := w, votedis := v } }
  | .eth => { s with xpt := { s.xpt with ethWie := w, ethVotedis := v } }
  | .xpt => { s with xpt := { s.xpt with wie := w, votedis := v } }
  | .disp => { s with disp := { s.disp with wie := w, votedis := v } }
  | .cirrus => { s with cirrus := { s.cirrus with wie := w, votedis := v } }
  | .scrub => { s with scrub := { s.scrub with wie := w, votedis := v } }
  | .pwr => { s with pwr := { s.pwr with wie := w, votedis := v } }
  | .therm => { s with therm := { s.therm with wie := w, votedis := v } }
  | .copy e => s.modEng e (fun x => { x with wie := w, votedis := v })
  | .tc t => s.modTc t (fun x => { x with wie := w, votedis := v })
  | .dch c => s.modCh c (fun x => { x with wie := w, votedis := v })
  | .lan n | .arr n _ =>
    s.modLan n (fun l => { l with svc := { l.svc with wie := w, votedis := v } })

/-- Sets WIE of a block (R532). -/
def State.setWie (s : State) (b : Blk) : State := s.setRstat b true (s.blkRstat b).2

/-- Value of a lantern's register (R537). -/
def Lantern.reg (l : Lantern) (off : Nat) : Nat :=
  let lo (v : Nat) : Nat := v % 2 ^ 32
  let hi (v : Nat) : Nat := v / 2 ^ 32 % 2 ^ 32
  match off with
  | 0x10 => lo l.beat.toNat
  | 0x14 => hi l.beat.toNat
  | 0x18 => lo l.work.toNat
  | 0x1C => hi l.work.toNat
  | 0x20 => l.beatcmp.toNat
  | 0x24 => b2n l.enSvc * 1024 + b2n l.enBeat * 512 + b2n l.enMsg * 256 + b2n l.pendSvc * 4 +
      b2n l.pendBeat * 2 + b2n (!l.fifo.isEmpty)
  | 0x28 => l.refused * 65536 + l.fifo.length
  | 0x30 => l.lsguard.toNat
  | 0x34 => l.sslim.toNat
  | 0x38 => lo l.evbase.toNat
  | 0x3C => hi l.evbase.toNat
  | 0x40 => l.cl.toNat * 2 ^ 30 + b2n l.busy3 * 2 ^ 29 + b2n l.busy2 * 2 ^ 28 + b2n l.busy1 * 2 ^ 27
  | 0x44 => b2n l.halt.halted * 2 ^ 31 + l.halt.cl.toNat * 2 ^ 29 + l.halt.cause.toNat
  | 0x48 => lo l.halt.pc.toNat
  | 0x4C => hi l.halt.pc.toNat
  | 0x50 => l.mcap
  | 0x54 => b2n l.chk * 2 ^ 31
  | 0x58 => l.ucFcode.toNat * 2 ^ 24 + l.ucSlot.toNat * 65536 + l.ucAborts
  | 0x60 => b2n l.nan.trapEn * 2 ^ 31 + b2n l.nan.valid * 2 ^ 30
  | 0x64 => lo l.nan.pc.toNat
  | 0x68 => hi l.nan.pc.toNat
  | 0x6C => l.nan.insn.toNat
  | 0x70 => l.nan.src.toNat
  | 0x74 => l.nan.tile.toNat
  | 0x78 => l.nan.elem.toNat
  | 0x7C => l.nan.k.toNat
  | 0x80 => l.nan.cnt
  | 0x90 => b2n l.xrq.busy * 2 ^ 30 + l.xrq.status.toNat * 2 ^ 24 + l.xrq.op.toNat * 65536 +
      l.xrq.peer.toNat
  | 0x94 => lo l.xrq.addr.toNat
  | 0x98 => hi l.xrq.addr.toNat
  | 0x9C => lo l.xrq.opnd.toNat
  | 0xA0 => hi l.xrq.opnd.toNat
  | 0xA4 => b2n l.xrq.cen * 2 ^ 31 + l.xrq.cevt.toNat
  | _ =>
    if 0x200 ≤ off then (l.ucslots.getD ((off - 0x200) / 4) 0).toNat
    else
      let v := l.sv ((off - 0x100) / 0x20 + 1)
      match off % 0x20 with
      | 0x00 => lo v.spc.toNat
      | 0x04 => hi v.spc.toNat
      | 0x08 => v.smode.toNat
      | 0x0C => v.causeWord
      | 0x10 => lo v.saddr.toNat
      | 0x14 => hi v.saddr.toNat
      | _ => v.selem.toNat

/-- Value of an array's register (R90, R99). -/
def Arr.reg (a : Arr) (off : Nat) : Nat :=
  match off with
  | 0x00 => b2n a.quar * 2 ^ 31 + b2n a.bypPend * 2 ^ 30 + a.nbyp * 2 ^ 28 + a.byp0.toNat * 2 ^ 22 +
      a.byp1.toNat * 2 ^ 17 + a.pendCol.toNat * 2 ^ 12
  | 0x04 => a.strike.toNat
  | 0x08 => a.recomp * 65536 + a.stable
  | 0x0C => (a.slots.filter (fun p => !p.2.deferred)).foldl (fun v p => v + 2 ^ (16 + p.1)) 0 + a.shad * 2 ^ 11
  | _ => a.howait

/-- Value of a CIRRUS register. -/
def State.cirrusReg (s : State) (off : Nat) : Nat :=
  let c := s.cirrus
  match off with
  | 0x10 => c.capFree
  | 0x14 => c.capRes
  | 0x18 => c.minRemote.toNat * 65536 + c.lowmark.toNat
  | 0x1C => c.limit.toNat
  | 0x20 => s.genWord
  | 0x24 => b2n c.pteqMiss * 2 ^ 30 + c.pteqVpn.toNat
  | 0x38 => c.fails * 65536 + c.evicts.toNat
  | _ => if 0x28 ≤ off && off ≤ 0x34 then natField c.pted.toNat (32 * ((off - 0x28) / 4)) 32 else 0

/-- Value of a DISP register. -/
def State.dispReg (s : State) (off : Nat) : Nat :=
  if off = 0x14 then s.disp.evd.toNat % 2 ^ 32
  else if off = 0x18 then s.disp.evd.toNat / 2 ^ 32
  else if off = 0x1C then s.disp.relLan.toNat
  else if 0x1000 ≤ off then
    match s.queue? ((off - 0x1000) / 16) with
    | none => 0
    | some q =>
      match off % 16 with
      | 0 => 2 ^ 31 + b2n q.stop * 2 ^ 30 + q.sub.toNat * 65536 + q.logn
      | 4 => q.ptr
      | _ => q.done.toNat
  else 0

/-- Value of a PWR register (R577). -/
def State.pwrReg (s : State) (off : Nat) : Nat :=
  let p := s.pwr
  match off with
  | 0x10 => b2n p.shut * 2 ^ 31 + p.on.toNat
  | 0x14 => p.capW * 65536 + p.avgW
  | 0x18 => b2n (p.ceil = 650) * 2 ^ 31 + p.ceil
  | 0x1C => p.v0 * 65536 + p.v1
  | 0x20 => p.i0 * 65536 + p.i1
  | 0x24 => b2n p.uv * 2 ^ 31 + b2n p.ov * 2 ^ 30 + b2n p.oc * 2 ^ 29 + b2n p.range * 2 ^ 28 +
      b2n p.imbal * 2 ^ 27
  | _ =>
    let q := (off - 0x40) / 4
    p.setMv.getD q 750 * 2 ^ 20 + p.thermMv.getD q 800 * 2 ^ 10 + s.veff q

/-- Conditions of R571 that THERM.STAT shows: JUNC, FLOOR, COOL, SENS. -/
def State.thermConds (s : State) : Bool × Bool × Bool × Bool :=
  let junc := s.therm.groups.any (fun p => p.2.alert)
  let floor := (List.range 16).any (fun q => s.pwr.thermFloorMs.getD q 0 ≥ 100)
  let cool := [3, 4].any (fun k => 10000 ≤ (s.therm.watches.getD k {}).held) || [432, 433, 434].any s.therm.excluded.contains
  let sens := (List.range 16).any (fun q => (quadSensors q).all s.therm.excluded.contains)
  (junc, floor, cool, sens)

/-- Value of a THERM register (R577). -/
def State.thermReg (s : State) (off : Nat) : Nat :=
  match off with
  | 0x10 =>
    let (j, f, c, x) := s.thermConds
    b2n s.therm.alert * 2 ^ 31 + b2n j * 2 ^ 30 + b2n f * 2 ^ 29 + b2n c * 2 ^ 28 + b2n x * 2 ^ 27 +
      s.hottest ((List.range 16).flatMap quadSensors ++ (List.range 4).flatMap baseSensors) % 256 * 256 +
      s.hottest ((List.range 8).flatMap stackSensors) % 256
  | 0x14 => s.hottest [432] % 256 * 2 ^ 24 + s.hottest [433] % 256 * 65536 + s.hottest [434] % 65536
  | 0x18 => s.therm.excluded.length
  | _ =>
    if off < 0x60 then s.hottest (quadSensors ((off - 0x20) / 4)) % 256
    else s.hottest (baseSensors ((off - 0x60) / 4)) % 256

/-- Value of a PILOT register. -/
def State.pilotReg (s : State) (off : Nat) : Nat :=
  let p := s.pilot
  match off with
  | 0x10 => b2n p.rateBusy * 2 ^ 30 + b2n p.rateErr * 2 ^ 29 + b2n p.rateSel * 2 ^ 28 +
      p.rateTarget.toNat * 2 ^ 20 + p.rateWindow.toNat * 2 ^ 10
  | 0x14 => p.kbeats.toNat
  | 0x18 => p.stamp.toNat % 2 ^ 32
  | 0x1C => p.stamp.toNat / 2 ^ 32
  | 0x20 => s.errqWord.toNat
  | 0x24 => b2n p.trigStuck * 2 ^ 31 + b2n p.stuckSeen * 2 ^ 30 + b2n p.trigLevel * 2 ^ 29 +
      p.trigDrop * 256 + p.bcnDrop
  | 0x28 => b2n p.trigEn * 2 ^ 31 + b2n p.nanEn * 2 ^ 30 + p.snapClass.toNat * 2 ^ 25
  | 0x2C => s.snapstat
  | _ => natField p.ready.toNat (32 * ((off - 0x40) / 4)) 32

/-- The value of a register that exists (R524 to R538). -/
def State.regValue (s : State) (b : Blk) (off : Nat) : Nat :=
  match b with
  | .arr n m => ((s.lan n).arr m).reg off
  | _ =>
    if off = 0 then
      b2n (s.blkEn b) * 2 ^ 31 + (match b with | .scrub => s.scrub.hours.toNat | _ => 0)
    else if off = 4 then b2n (s.blkRstat b).1 * 2 ^ 31 + (s.blkRstat b).2
    else match b with
      | .pilot => s.pilotReg off
      | .sec =>
        if off = 0x10 then b2n s.flash.dbgOpen * 2 ^ 31
        else b2n s.flash.owner.isSome * 2 ^ 31 + b2n s.flash.list.isSome * 2 ^ 30 +
          b2n s.sec.dbgLive * 2 ^ 29 + b2n s.sec.staged.isSome * 2 ^ 28 +
          b2n s.sec.commitPend * 2 ^ 27 + s.flash.devidx.toNat
      | .eth =>
        match off with
        | 0x10 => b2n s.xpt.up * 2 ^ 31 + b2n s.xpt.held * 2 ^ 30 + b2n s.xpt.mode800 * 2 ^ 29 +
            b2n s.xpt.kr * 2 ^ 28 + s.xpt.lock.toNat * 2 ^ 20 + s.xpt.downs
        | 0x14 => s.xpt.feccorr
        | _ => s.xpt.fecunc
      | .xpt =>
        match off with
        | 0x10 => s.xpt.dropAuth * 2 ^ 24 + s.xpt.dropHdr * 65536 + s.xpt.dropWin * 256 + s.xpt.dropNorid
        | 0x14 => s.xpt.cq.toNat
        | _ => (s.con s.xpt.cq.toNat).cstat
      | .disp => s.dispReg off
      | .cirrus => s.cirrusReg off
      | .scrub => if off = 0x10 then s.scrub.stat else s.scrub.cnt
      | .pwr => s.pwrReg off
      | .therm => s.thermReg off
      | .copy e => if off = 0x10 then s.engStat e else (s.eng e).bytes / 1024 % 2 ^ 32
      | .tc t =>
        match off with
        | 0x10 => (s.tc t).beat.toNat % 2 ^ 32
        | 0x14 => (s.tc t).beat.toNat / 2 ^ 32
        | 0x18 => b2n (s.tc t).err * 2 ^ 31 + (s.tc t).clean.toNat * 256 + (s.tc t).on.toNat * 16 +
            (s.tc t).group.toNat
        | _ => (s.tc t).cecnt
      | .dch c =>
        let d := s.ch c
        match off with
        | 0x10 => d.eye.toNat
        | 0x14 => b2n d.mapout * 2 ^ 31 + b2n d.listed * 2 ^ 30 + d.maint.toNat * 2 ^ 27 +
            d.tfail.toNat * 2 ^ 24 + b2n d.refx2 * 2 ^ 23 + d.temp * 65536
        | 0x18 => d.cecnt
        | 0x1C => d.rmwcnt
        | 0x20 => d.bankret.toNat % 2 ^ 32
        | _ => d.bankret.toNat / 2 ^ 32
      | .lan n => (s.lan n).reg off
      | .arr _ _ => 0

/-! ### TMR fields (R529, R534, R535) -/

/-- The bits of a register that are TMR fields. -/
def tmrMask (b : Blk) (off : Nat) : Nat :=
  match b with
  | .lan _ =>
    if off = 0x50 then 0xFFFC0000
    else if off = 0x54 then 0x80000000
    else if 0x200 ≤ off && off ≤ 0x27C then 0xFFFFBFFF else 0
  | .arr _ _ => if off = 0 then 0xB7FE0000 else 0
  | .dch _ =>
    if off = 0x14 then 0xC0000000 else if off = 0x20 then 0xFFFFFFFF else if off = 0x24 then 0xFFFF else 0
  | .sec => if off = 0x10 then 0x80000000 else if off = 0x14 then 0xC0000000 else 0
  | _ => 0

/-- A register holds a TMR field. -/
def isTmr (b : Blk) (off : Nat) : Bool := tmrMask b off ≠ 0

/-- The width that a lantern's fuse map gives array `m` (R89). -/
def fuseWidth (n m : Nat) : Nat := 32 - (Config.fuseByp n m).length

/-- The site whose fuse map a lantern has: its own, or 256 plus the quadrant for a spare (R376). -/
def State.fuseSite (s : State) (n : Nat) : Nat := if s.flash.spared.contains n then 256 + n / 16 else n

/-- Reset value of the TMR fields of a register: from the fuse map or from flash where the
tables say so (R531, R535). -/
def State.tmrReset (s : State) (b : Blk) (off : Nat) : Nat :=
  match b with
  | .lan n =>
    if off = 0x50 then
      let inSvc := (List.range 8).filter (fun m => !Config.fuseQuar (s.fuseSite n) m)
      inSvc.foldl (fun v m => v + 2 ^ (24 + m)) 0 +
        (if inSvc.isEmpty then 0 else inSvc.foldl (fun w m => min w (fuseWidth (s.fuseSite n) m)) 32) * 2 ^ 18
    else 0
  | .arr n m =>
    if off = 0 then
      let bs := Config.fuseByp (s.fuseSite n) m
      b2n (Config.fuseQuar (s.fuseSite n) m) * 2 ^ 31 + bs.length % 4 * 2 ^ 28 + (bs.getD 0 0).toNat * 2 ^ 22 +
        (bs.getD 1 0).toNat * 2 ^ 17
    else 0
  | .dch c => if off = 0x14 then b2n (s.flash.mapout.contains c) * 2 ^ 30 else 0
  | .sec =>
    if off = 0x10 then b2n s.flash.dbgOpen * 2 ^ 31
    else b2n s.flash.owner.isSome * 2 ^ 31 + b2n s.flash.list.isSome * 2 ^ 30
  | _ => 0

/-- The value that a reader sees: a lost TMR field reads as its reset value (R535). -/
def State.regSeen (s : State) (addr : Nat) (b : Blk) (off : Nat) : Nat :=
  let v := s.regValue b off
  if s.pilot.tmrLost.contains addr then
    let m := tmrMask b off
    (v &&& (0xFFFFFFFF ^^^ m)) ||| (s.tmrReset b off &&& m)
  else v

/-! ### The latch of R22 -/

/-- The HI half that a LO half latches: BEAT, WORK and STAMP counters. -/
def loHi (b : Blk) (off : Nat) : Option Nat :=
  match b with
  | .lan _ => if off = 0x10 then some 0x14 else if off = 0x18 then some 0x1C else none
  | .tc _ => if off = 0x10 then some 0x14 else none
  | .pilot => if off = 0x18 then some 0x1C else none
  | _ => none

/-- Drops the latch of a requester for one HI address. -/
def latchDrop (xs : List ((Requester × Nat) × Word)) (k : Requester × Nat) :
    List ((Requester × Nat) × Word) := xs.filter (fun p => p.1 ≠ k)

/-- A read of an existing register by a requester, with the latch of R22. -/
def State.regRead (s : State) (rq : Requester) (addr : Nat) (b : Blk) (off : Nat) : Word × State :=
  let v := BitVec.ofNat 32 (s.regSeen addr b off)
  match loHi b off with
  | some h =>
    let hiAddr := addr - off + h
    let hv := BitVec.ofNat 32 (s.regSeen hiAddr b h)
    (v, { s with pilot := { s.pilot with
      latches := ((rq, hiAddr), hv) :: latchDrop s.pilot.latches (rq, hiAddr) } })
  | none =>
    match s.pilot.latches.find? (fun p => p.1 = (rq, addr)) with
    | some p => (p.2, { s with pilot := { s.pilot with latches := latchDrop s.pilot.latches (rq, addr) } })
    | none => (v, s)

/-! ### Writes with behaviour of their own -/

/-- PILOT.RATECTL (R24). -/
def State.rateWrite (s : State) (v : Word) : State :=
  let p := s.pilot
  let p := if v.getLsbD 29 then { p with rateErr := false } else p
  let p := { p with
    rateSel := v.getLsbD 28
    rateTarget := BitVec.ofNat 8 (natField v.toNat 20 8)
    rateWindow := BitVec.ofNat 10 (natField v.toNat 10 10) }
  let on := if p.rateSel then s.tcOn p.rateTarget.toNat else s.lanOn p.rateTarget.toNat
  let p := if v.getLsbD 31 then
      if p.rateBusy then { p with rateErr := true }
      else if on then { p with rateBusy := true, rateFirst := none } else { p with rateErr := true }
    else p
  { s with pilot := p }

/-- Clears the NaN record of a lantern (R69). -/
def NanRegs.clear (r : NanRegs) : NanRegs := { trapEn := r.trapEn }

/-- Outcome of a FETCH_ADD at this device (R463, R466). -/
inductive FaRes where
  | done (old : Dword)
  | status (st : Byte)
  | stall
  deriving DecidableEq, Repr

/-- FETCH_ADD by a writer on a word that this device homes (R466). -/
def State.fetchAdd (s : State) (w : Writer) (va : Nat) (d : Dword) : State × FaRes :=
  if va % 8 ≠ 0 then (s, .status 0x04)
  else if va ≥ dvEnd then (s, .status 0x01)
  else match s.pte? (vpnOf va) with
    | none => (s, .status 0x01)
    | some e =>
      if !e.v || inReg va || vpnOf va = 0 then (s, .status 0x01)
      else if e.res = .peer || e.res = .host then (s, .status 0x03)
      else match s.touch w va true with
        | (s, .unmapped) => (s, .status 0x01)
        | (s, .stall) => (s, .stall)
        | (s, .ok _) =>
          if (s.dvPoison? va 8).isSome then (s, .status 0x05)
          else
            let old := BitVec.ofNat 64 (leNat (s.dvRead va 8))
            ((s.dvLoadLines va 8 false).dvStoreK w (wholeKind false) va (leBytes 8 (old + d).toNat) (fun _ => false),
              .done old)

/-- A remote request ends: STATUS, the old value, CEVT, BUSY (R470, R471). -/
def State.xrqEnd (s : State) (n : Nat) (st : Byte) (old : Option Dword) : State :=
  let l := s.lan n
  let x := l.xrq
  let s := s.setLan n { l with xrq := { x with
    busy := false, status := st.setWidth 6, opnd := old.getD x.opnd } }
  if x.cen then s.addEvent x.cevt.toNat 1 else s

/-- GO of a remote request (R470, R471). -/
def State.xrqGo (s : State) (n : Nat) : State :=
  let x := (s.lan n).xrq
  let peer := x.peer.toNat
  if x.op ≠ 0x05 && x.op ≠ 0x06 then s.xrqEnd n 0x02 none
  else if (s.peerEntry peer).isNone then s.xrqEnd n 0x02 none
  else if peer = s.flash.devidx.toNat then
    if x.op = 0x05 then (s.addEvent (x.addr.toNat % 4096) x.opnd).xrqEnd n 0 none
    else match s.fetchAdd (.lantern n) x.addr.toNat x.opnd with
      | (s, .done old) => s.xrqEnd n 0 (some old)
      | (s, .status st) => s.xrqEnd n st none
      | (s, .stall) =>
        let k := s.con peer
        let s := s.setCon peer { k with
          ops := k.ops ++ [{ op := 0x06, status := 0, len := 0, rid := BitVec.ofNat 32 n
                             addr := x.addr.setWidth 64, opnd := x.opnd, pmap := 0, data := [] }] }
        s.modLan n (fun l => { l with xrq := { l.xrq with busy := true } })
  else if (s.con peer).st ≠ .opened then s.xrqEnd n 0x06 none
  else
    let s := s.modLan n (fun l => { l with xrq := { l.xrq with busy := true } })
    if x.op = 0x05 then
      -- EVENT_ADD has no response (R463): the request completes when it has been sent
      (s.sendOp peer 0x05 0 0 (x.addr.setWidth 64 &&& 0xFFF#64) x.opnd 0 []).xrqEnd n 0 none
    else s.sendReq peer 0x06 (x.addr.setWidth 64) x.opnd 0 (.xrq n)

/-- LANn.XRQ0 (R470): a GO while BUSY is ignored. -/
def State.xrqWrite (s : State) (n : Nat) (v : Word) : State :=
  let was := (s.lan n).xrq.busy
  let s := s.modLan n (fun l => { l with xrq := { l.xrq with
    op := BitVec.ofNat 8 (natField v.toNat 16 8), peer := BitVec.ofNat 10 (natField v.toNat 0 10) } })
  if v.getLsbD 31 && !was then s.xrqGo n else s

/-- The 16 bytes of a page-table entry as a number (R339). -/
def Pte.encode (e : Pte) : Nat :=
  let res := match e.res with | .unbacked => 0 | .loc => 1 | .peer => 2 | .host => 3
  let acc := match e.acc with | .none => 0 | .read => 1 | .write => 2
  let w0 := res + acc * 4 + e.str * 16 + b2n e.v * 128 + b2n e.fail * 512 + b2n e.shared * 1024 +
    b2n e.held * 2048 + e.tile * 4096 + b2n e.anyt * 16384 + e.home * 65536 + e.ppn * 2 ^ 28
  let w1 := e.plx + e.gen.toNat * 2 ^ 24 + e.sealver * 2 ^ 40
  w0 + w1 * 2 ^ 64

/-- CIRRUS.PTEQ (R359). -/
def State.pteqWrite (s : State) (v : Word) : State :=
  let vpn := BitVec.ofNat 27 (natField v.toNat 0 27)
  let c := { s.cirrus with pteqVpn := vpn }
  { s with cirrus :=
      if v.getLsbD 31 then
        match s.pte? vpn.toNat with
        | some e => { c with pteqMiss := false, pted := BitVec.ofNat 128 e.encode }
        | none => { c with pteqMiss := true, pted := 0 }
      else c }

/-- RETRY (R348, R359): FAIL clears on every page, and the fetches restart when the waiting
accesses replay; the waiters are woken. -/
def State.fetchRetry (s : State) : State :=
  let failed := (s.cirrus.ptes.filter (fun p => p.2.fail)).map (·.1)
  let s := { s with cirrus := { s.cirrus with
    ptes := s.cirrus.ptes.map (fun p => (p.1, { p.2 with fail := false })) } }
  failed.foldl (fun s vpn =>
    match s.pte? vpn with
    | some e =>
      let w := s.lans.findSome? (fun p => match p.2.wait with
        | .page v sp wr _ => if v = vpn then some (sp, wr) else none
        | _ => none)
      let (sp, wr) := w.getD (0, false)
      s.startFetch vpn sp wr e
    | none => s) s

/-- DISP.EVCMD (R385). -/
def State.evcmd (s : State) (v : Word) : State :=
  let e := natField v.toNat 0 12
  match natField v.toNat 30 2 with
  | 0 => { s with disp := { s.disp with evd := s.counter e } }
  | 1 => s.changeEvent e s.disp.evd
  | 2 => s.addEvent e s.disp.evd
  | _ => s

/-- DISP.RELEASE (R375). -/
def State.releaseWrite (s : State) (v : Word) : State :=
  let n := natField v.toNat 0 8
  let s := { s with disp := { s.disp with relLan := BitVec.ofNat 8 n } }
  if v.getLsbD 31 && (s.lan n).halt.halted then
    let s := match s.gangOf n with
      | some g => s.abortKernel g
      | none => s
    (s.modLan n (fun l => { l with halt := { l.halt with halted := false }, run := .idle })).examine
  else s

/-- RESUME of a queue (R367). -/
def State.resumeQueue (s : State) (q : Nat) : State :=
  match s.queue? q with
  | some v => (s.setQueue q { v with stop := false, sub := 0, held := none, blocked := false }).examine
  | none => s

/-- TCACHEt.WAYPWR (R329, R331): each changed GROUP bit starts a clean, powers a group, or
sets ERR where the group is under clean. A clean waits while a repair claims the tile cache
(R420). -/
def TCache.wayWrite (t : TCache) (v : Word) : TCache :=
  let t := if v.getLsbD 31 then { t with err := false } else t
  [1, 2, 3].foldl (fun t g =>
    let want := v.getLsbD g
    if want = t.group.getLsbD g then t
    else if want then
      if t.clean.getLsbD g then { t with err := true } else { t with group := bitSet t.group g true }
    else if t.on.getLsbD g && t.fuse.isNone then
      { t with group := bitSet t.group g false, clean := bitSet t.clean g true }
    else { t with group := bitSet t.group g false }) t

/-- A TMR field of the block is lost: only a device reset returns it to service (R535). -/
def State.blkLost (s : State) (b : Blk) : Bool :=
  s.pilot.tmrLost.any (fun a => match blkOf a, b with
    | some (.arr n _, _), .lan k => n = k
    | some (x, _), y => x = y
    | none, _ => false)

/-- The lantern has no kernel assigned (R533); a halted lantern is idle at once. -/
def Lantern.idle (l : Lantern) : Bool := l.gang.isNone || l.halt.halted
/-- The engine holds no copy entry and no cirrus work (R533). -/
def State.engIdle (s : State) (k : Nat) : Bool := !(s.eng k).busy && !s.cirRuns k

/-- EN of a lantern is written 0 (R533). -/
def State.lanDisable (s : State) (n : Nat) : State :=
  let l := s.lan n
  if l.svc.en then
    let s := s.setReady (readyLan n) false
    s.modLan n (fun l => { l with svc :=
      if l.idle then { l.svc with en := false, clrPend := false } else { l.svc with clrPend := true } })
  else s

/-- EN of a lantern is written 1 (R533). -/
def State.lanEnable (s : State) (n : Nat) : State :=
  let l := s.lan n
  if s.blkLost (.lan n) then s
  else if l.svc.clrPend then
    ((s.setLan n { l with svc := { l.svc with clrPend := false } }).setReady (readyLan n)
      (!l.svc.quarPend)).examine
  else if l.svc.en then s
  else if l.svc.failed || !l.svc.wasReady then
    s.setLan n { l with svc := { l.svc with en := true, testing := true, passed := false } }
  else
    (((s.setLan n { l with svc := { l.svc with en := true } }).loadTable n).setReady (readyLan n)
      (!l.svc.quarPend)).examine

/-- EN of an engine is written 0 (R533). -/
def State.engDisable (s : State) (e : Nat) : State :=
  let v := s.eng e
  if v.en then
    (s.setReady (readyEng e) false).modEng e (fun v =>
      if s.engIdle e then { v with en := false, clrPend := false, cirHeld := [] }
      else { v with clrPend := true, cirHeld := if v.clrPend then v.cirHeld else s.cirPages.filter (s.cirPageOn e) })
  else s

/-- EN of an engine is written 1 (R533). -/
def State.engEnable (s : State) (e : Nat) : State :=
  let v := s.eng e
  if v.en && !v.clrPend then s
  else ((s.modEng e (fun v => { v with en := true, clrPend := false, cirHeld := [] })).setReady
    (readyEng e) true).examine

/-- A write to a CTL register (R532, R533). -/
def State.ctlWrite (s : State) (b : Blk) (v : Word) : State :=
  match b with
  | .lan n => if v.getLsbD 31 then s.lanEnable n else s.lanDisable n
  | .copy e => if v.getLsbD 31 then s.engEnable e else s.engDisable e
  | .scrub => { s with scrub := { s.scrub with
      en := v.getLsbD 31, hours := BitVec.ofNat 8 (natField v.toNat 0 8) } }
  | b => if v.getLsbD 31 = s.blkEn b then s else s.setWie b

/-! ### The write of one register -/

/-- Sets the low or the high half of a 64-bit value. -/
def setHalf {w : Nat} (x : BitVec w) (hi : Bool) (v : Word) : BitVec w :=
  if hi then BitVec.ofNat w (x.toNat % 2 ^ 32 + v.toNat * 2 ^ 32)
  else BitVec.ofNat w (x.toNat / 2 ^ 32 * 2 ^ 32 + v.toNat)

/-- A write to a register of lantern `n` (R470, R224, R273 and the register tables). -/
def State.lanWrite (s : State) (n off : Nat) (v : Word) : State :=
  let l := s.lan n
  let rwe (f : Lantern → Lantern) : State :=
    if l.svc.en then s.setWie (.lan n) else s.setLan n (f l)
  match off with
  | 0x20 => s.setLan n { l with beatcmp := v }
  | 0x24 => s.setLan n { l with
      enSvc := v.getLsbD 10, enBeat := v.getLsbD 9, enMsg := v.getLsbD 8
      pendSvc := l.pendSvc && !v.getLsbD 2, pendBeat := l.pendBeat && !v.getLsbD 1 }
  | 0x30 => rwe (fun l => { l with lsguard := v.setWidth 6 })
  | 0x34 => rwe (fun l => { l with sslim := (v.setWidth 22) &&& ~~~7#22 })
  | 0x38 => s.setLan n { l with evbase := setHalf l.evbase false (v &&& 0xFFFFE000#32) }
  | 0x3C => s.setLan n { l with evbase := setHalf l.evbase true (v &&& 0xFFFF#32) }
  | 0x54 => rwe (fun l => { l with chk := v.getLsbD 31 })
  | 0x60 =>
    let r := { l.nan with trapEn := v.getLsbD 31 }
    s.setLan n { l with nan := if v.getLsbD 30 then r.clear else r }
  | 0x90 => s.xrqWrite n v
  | 0x94 => s.setLan n { l with xrq := { l.xrq with addr := setHalf l.xrq.addr false v } }
  | 0x98 => s.setLan n { l with xrq := { l.xrq with addr := setHalf l.xrq.addr true (v &&& 0xFFFF#32) } }
  | 0x9C => s.setLan n { l with xrq := { l.xrq with opnd := setHalf l.xrq.opnd false v } }
  | 0xA0 => s.setLan n { l with xrq := { l.xrq with opnd := setHalf l.xrq.opnd true v } }
  | 0xA4 => s.setLan n { l with xrq := { l.xrq with cen := v.getLsbD 31, cevt := v.setWidth 12 } }
  | _ =>
    if 0x100 ≤ off && off < 0x160 then
      let lv := (off - 0x100) / 0x20 + 1
      let x := l.sv lv
      s.setLan n (l.setSv lv (match off % 0x20 with
        | 0x00 => { x with spc := setHalf x.spc false v }
        | 0x04 => { x with spc := setHalf x.spc true (v &&& 0xFFFF#32) }
        | 0x08 => { x with smode := v }
        | 0x0C => x.withCause v.toNat
        | 0x10 => { x with saddr := setHalf x.saddr false v }
        | 0x14 => { x with saddr := setHalf x.saddr true v }
        | 0x18 => { x with selem := v.setWidth 16 }
        | _ => x))
    else s

/-- A write to an existing register of a powered block takes effect under its access code
(R529). -/
def State.regWrite (s : State) (addr : Nat) (b : Blk) (off : Nat) (v : Word) : State :=
  if s.pilot.tmrLost.contains addr then s
  else match b with
  | .arr _ _ => s
  | _ =>
    if off = 0 then s.ctlWrite b v
    else if off = 4 then
      if v.getLsbD 31 then s.setRstat b false (s.blkRstat b).2 else s
    else match b with
      | .pilot =>
        let p := s.pilot
        match off with
        | 0x10 => s.rateWrite v
        | 0x24 =>
          let p := if v.getLsbD 30 then { p with stuckSeen := false } else p
          { s with pilot := if v.getLsbD 28 then { p with trigDrop := 0, bcnDrop := 0 } else p }
        | 0x28 => { s with pilot := { p with
            trigEn := v.getLsbD 31, nanEn := v.getLsbD 30, snapClass := BitVec.ofNat 5 (natField v.toNat 25 5) } }
        | _ => s
      | .sec => if off = 0x10 then { s with flash := { s.flash with dbgOpen := v.getLsbD 31 } } else s
      | .xpt => if off = 0x14 then { s with xpt := { s.xpt with cq := v.setWidth 11 } } else s
      | .disp =>
        match off with
        | 0x10 => s.evcmd v
        | 0x14 => { s with disp := { s.disp with evd := setHalf s.disp.evd false v } }
        | 0x18 => { s with disp := { s.disp with evd := setHalf s.disp.evd true v } }
        | 0x1C => s.releaseWrite v
        | _ =>
          if 0x1000 ≤ off && off % 16 = 0 && v.getLsbD 29 then s.resumeQueue ((off - 0x1000) / 16) else s
      | .cirrus =>
        match off with
        | 0x18 => { s with cirrus := { s.cirrus with
            minRemote := (v >>> 16).setWidth 16, lowmark := v.setWidth 16 } }
        | 0x1C =>
          let s := { s with cirrus := { s.cirrus with limit := v.setWidth 16 } }
          if v.getLsbD 31 then s.fetchRetry else s
        | 0x24 => s.pteqWrite v
        | _ => s
      | .pwr =>
        if off = 0x24 then
          let p := s.pwr
          { s with pwr := { p with
            uv := p.uv && !v.getLsbD 31, ov := p.ov && !v.getLsbD 30, oc := p.oc && !v.getLsbD 29
            range := p.range && !v.getLsbD 28, imbal := p.imbal && !v.getLsbD 27 } }
        else s
      | .tc t => if off = 0x18 then s.modTc t (fun x => x.wayWrite v) else s
      | .lan n => s.lanWrite n off v
      | _ => s

/-! ### Accesses by requester (R525, R527, R528) -/

/-- A supervisor wick may write this register (R525). R24 speaks of a supervisor wick's write of
PILOT.RATECTL that takes effect, and R525 lets no wick write it: the model follows R525 (log 140). -/
def wickMayWrite (n : Nat) (b : Blk) (off : Nat) : Bool :=
  match b with
  | .lan k => k = n && off ≠ 0 && !isTmr b off
  | .arr k _ => k = n && !isTmr b off
  | _ => false

/-- A read by a wick: 0 where there is no register or no power (R528). -/
def State.wickRead (s : State) (n addr : Nat) : Word × State :=
  match blkOf addr with
  | some (b, off) =>
    if regExists b off && s.blkOn b then s.regRead (.wick n) addr b off else (0, s)
  | none => (0, s)

/-- A write by a wick: ignored where there is no register or no power, and ignored with
WIE where R525 forbids it. -/
def State.wickWrite (s : State) (n addr : Nat) (v : Word) : State :=
  match blkOf addr with
  | some (b, off) =>
    if regExists b off && s.blkOn b then
      if wickMayWrite n b off then s.regWrite addr b off v else s.setWie b
    else s
  | none => s

/-- A write by the pilot for REG_WRITE. -/
def State.pilotWrite (s : State) (addr : Nat) (v : Word) : State :=
  match blkOf addr with
  | some (b, off) => if regExists b off && s.blkOn b then s.regWrite addr b off v else s
  | none => s

end Sys2Proof.Machine
end

