-- ==== Sys2Proof/Machine/Dram.lean ====
section
/-!
DEFINITION. Dram.lean: the memory controllers (R300 to R311), parity deltas and the rebuild
of a unit from its page group (R397 to R401).
-/

namespace Sys2Proof.Machine

open Sys2Proof

/-! ### Page groups by physical address -/

/-- Where a granule stands: page, entry, group, and index in the group (0 to 15 data, from 16
parity) (R356, R397). -/
structure GranUse where
  vpn : Nat
  pte : Pte
  group : Nat
  idx : Nat
  deriving DecidableEq, Repr

/-- What a page uses granule `g` of the device for. -/
def State.pageGran (s : State) (g vpn : Nat) (e : Pte) : Option GranUse :=
  if !e.backed then none
  else
    let r : PlRec := if e.plx = 0 then {} else s.cirrus.pls.getD e.plx {}
    if g / 512 = e.ppn && (r.reloc.find? (g % 512)).isNone then
      some { vpn := vpn, pte := e, group := g % 512 / 16, idx := g % 16 }
    else match List.find? (fun (p : Nat × Nat) => p.2 = g) r.reloc with
      | some p => some { vpn := vpn, pte := e, group := p.1 / 16, idx := p.1 % 16 }
      | none => match List.find? (fun (p : Nat × Nat) => p.2 = g) r.parity with
        | some p => some { vpn := vpn, pte := e, group := p.1 / 4, idx := 16 + p.1 % 4 }
        | none => none

/-- The use of the granule of a physical address, if a page uses it. -/
def State.granUse (s : State) (pa : Nat) : Option GranUse :=
  s.cirrus.ptes.findSome? (fun p => s.pageGran (pa / 4096) p.1 p.2)

/-- The strength that protects a physical address; 0 where no page uses it. -/
def State.strOf (s : State) (pa : Nat) : Nat :=
  match s.granUse pa with
  | some u => u.pte.str
  | none => 0

/-- Physical address of granule `idx` of a group. -/
def State.groupPa (s : State) (u : GranUse) (idx : Nat) : Option Nat :=
  if idx < 16 then some (s.granPa u.pte (16 * u.group + idx))
  else if u.pte.plx = 0 then none
  else ((s.cirrus.pls.getD u.pte.plx {}).parity.find? (4 * u.group + (idx - 16))).map (· * 4096)

/-- Recomputes the parity of the offset at which a physical address stands in its group. -/
def State.syncPa (s : State) (pa : Nat) : State :=
  match s.granUse pa with
  | some u => if u.pte.str = 0 || u.pte.plx = 0 then s else s.syncUnit u.pte u.group (pa % 4096 / 64 * 64)
  | none => s

/-- Writes a unit with the poison encoding, and the matching parity units with it (R389, R401). -/
def State.poisonPa (s : State) (pa : Nat) : State :=
  let s := s.poisonUnit (pa / 64)
  match s.granUse pa with
  | some u => if u.idx < 16 then s.syncPa pa else s
  | none => s

/-- A parity delta of the unit's offset in its group has not been acknowledged (R398, R400). -/
def State.deltaAtOffset (s : State) (pa : Nat) : Bool :=
  match s.granUse pa with
  | some u =>
    let us := s.groupUnits u.pte u.group (pa % 4096 / 64 * 64)
    s.deltas.any (fun d => us.contains d.1)
  | none => false

/-- The unit is excluded until every parity controller has acknowledged (R398). -/
def State.excluded (s : State) (pa : Nat) : Bool := s.deltas.any (fun d => d.1 = pa / 64 * 64)

/-! ### Records of a controller (R405) -/

/-- A record about a physical address. -/
def dramRec (pa cls code aux : Nat) : RecIn :=
  { src := readyCh (paChannel pa), cls := cls, code := code, lockind := 1, devaddr := pa
    loc := locOfPa pa, aux := aux }

/-- The codewords of a unit that decode as CE: their numbers and syndromes. -/
def unitCes (poisoned : Bool) (errs : List (BitVec 80)) : List (Nat × BitVec 16) :=
  (List.range 8).filterMap (fun i => match eccDecode poisoned (errs.getD i 0) with
    | (.ce _, syn) => some (i, syn)
    | _ => none)

/-- The controller can serve its channel. -/
def State.chServes (s : State) (pa : Nat) : Bool :=
  let c := paChannel pa
  s.chOn c && (s.ch c).en && pa < paEnd

/-- The controller holds the input on which its home tile cache sends, for a cut (R426). -/
def State.chHeld (s : State) (pa : Nat) : Bool := s.inputHeld (readyCh (paChannel pa)) (readyTc (homeTc pa))

/-- The row of a unit is open after an access (R301). -/
def State.rowOpen (s : State) (pa : Nat) : State :=
  let ca := paCa pa
  s.modCh (paChannel pa) (fun d => { d with openRows := d.openRows.put (caBankIdx ca) (caRow ca) })

/-- What a controller does with a unit that has read uncorrectable: it waits to rebuild it, or
poisons it (R389, R400). -/
def State.unitUe (s : State) (pa syn : Nat) : State :=
  if s.strOf pa = 0 then (s.poisonPa pa).record (dramRec pa clsUe 0x0201 syn)
  else { s with rebuilds := s.rebuilds.put (pa / 64) syn }

/-- A controller takes a unit from the write-back queue of its home tile cache. -/
def State.wbTaken (s : State) (pa : Nat) : State :=
  if (s.tc (homeTc pa)).wbs.contains pa then s.modTc (homeTc pa) (fun c => { c with wbs := c.wbs.erase pa }) else s

/-- Readers of a unit get what its decoder returns, which differs from what was written where it takes an
error of many bits for a good or a correctable one (R387). Memory holds what readers get (log 158). -/
def State.asDecoded (s : State) (pa : Nat) (poisoned : Bool) (errs : List (BitVec 80)) : State :=
  let x := unitLeft poisoned errs
  if !poisoned && x.all (fun b => b = 0) then s else s.physWrite pa (xorBytes (s.physRead pa 64) x)

/-- DRAM_READ (R300, R301, R307, R387 to R389, R400): corrected codewords are counted and reported;
an uncorrectable unit is poisoned, or waits for its rebuild. -/
def execDramRead (pa : Nat) (errs : List (BitVec 80)) (s : State) : Out :=
  .next (
    let pa := pa / 64 * 64
    if !s.chServes pa || s.chHeld pa || s.excluded pa || (s.rebuilds.find? (pa / 64)).isSome then s
    else
      let s := s.rowOpen pa
      let poisoned := s.poison.contains (pa / 64)
      match unitDecode poisoned errs with
      | (.ce, _, _) =>
        let ces := unitCes poisoned errs
        ((s.asDecoded pa poisoned errs).modCh (paChannel pa) (fun d =>
          { d with cecnt := satAdd 32 d.cecnt ces.length })).records
          (ces.map (fun c => dramRec (pa + 8 * c.1) clsCe 0x0101 c.2.toNat))
      | (.ue, _, syn) => s.unitUe pa syn
      | (.good, _, _) => s.asDecoded pa poisoned errs
      | (.poisoned, _, _) => s)

/-- Bytes of a unit after a write of the bytes that `mask` names. -/
def mergeUnit (old : List Byte) (mask : BitVec 64) (data : BitVec 512) : List Byte :=
  (old.zip (List.range 64)).map (fun p =>
    if mask.getLsbD p.2 then (data >>> (8 * p.2)).setWidth 8 else p.1)

/-- A write covers part of an 8-byte word (R305). -/
def partWord (mask : BitVec 64) : Bool :=
  (List.range 8).any (fun w =>
    let m := (mask >>> (8 * w)).setWidth 8
    m ≠ 0#8 && m ≠ 255#8)

/-- The parity deltas of a data unit that changes by `x` (R398). -/
def unitDeltas (pa idx str : Nat) (x : List Byte) : List (Nat × Nat × List Byte) :=
  (List.range str).map (fun q => (pa, q, scaleBytes (rsCoef q idx) x))

/-- A write that reaches a data unit of a page group with parity (R398, R401): while poison stands at the
offset, the parity there is poisoned, and it stays so when the last poisoned data unit is replaced; the next
write recomputes it from every data unit; otherwise the deltas go out. -/
def State.parityOnWrite (s s' : State) (pa : Nat) : State :=
  match s.granUse pa with
  | some u =>
    if u.pte.str = 0 || u.idx ≥ 16 then s'
    else
      let b := pa % 4096
      if s'.offPoison u.pte u.group b then s'.syncPa pa
      else if s.offPoison u.pte u.group b then s'
      else if s'.parityPoison u.pte u.group b then s'.syncPa pa
      else
        let ds := unitDeltas pa u.idx u.pte.str (xorBytes (s.physRead pa 64) (s'.physRead pa 64))
        { s' with deltas := s'.deltas ++ ds }
  | none => s'

/-- DRAM_WRITE (R300, R304 to R306, R389, R398): the bytes that `mask` names are written; a write
of part of a word, or of part of a poisoned unit, reads, merges and writes the unit. -/
def execDramWrite (pa : Nat) (mask : BitVec 64) (data : BitVec 512) (errs : List (BitVec 80))
    (s : State) : Out :=
  .next (
    let pa := pa / 64 * 64
    let parity := match s.granUse pa with
      | some u => decide (16 ≤ u.idx)
      | none => false
    if !s.chServes pa || s.chHeld pa || s.excluded pa || (s.rebuilds.find? (pa / 64)).isSome || mask = 0 ||
        parity then s
    else
      let s := (s.rowOpen pa).wbTaken pa
      let whole := decide (mask = BitVec.allOnes 64)
      let was := s.poison.contains (pa / 64)
      let rmw := partWord mask || (was && !whole)
      let (out, _, syn) := unitDecode was errs
      let ue := decide (out = UnitOut.ue)
      if ue && !rmw && s.strOf pa ≠ 0 then s.unitUe pa syn
      else
        let bad := (ue && rmw) || (was && !whole)
        let read := if rmw then xorBytes (s.physRead pa 64) (unitLeft was errs) else s.physRead pa 64
        let bs := mergeUnit read mask data
        let s' := s.physWriteP pa bs (fun _ => bad)
        let s' := if rmw then
            s'.modCh (paChannel pa) (fun d => { d with rmwcnt := satAdd 32 d.rmwcnt 1 }) else s'
        let s' := s.parityOnWrite s' pa
        if ue && rmw then s'.record (dramRec pa clsUe 0x0201 syn) else s')

/-- PARITY_DELTA (R398): the parity controller adds the delta to its unit; the acknowledgement is
then on its way. -/
def execParityDelta (pa q : Nat) (s : State) : Out :=
  .next (
    let pa := pa / 64 * 64
    let hit := fun (d : Nat × Nat × List Byte) => d.1 = pa && d.2.1 = q && !d.2.2.isEmpty
    if s.deltas.any hit then
      { s with deltas := updFirst hit (fun d => (d.1, d.2.1, [])) s.deltas }.syncPa pa
    else s)

/-- PARITY_ACKNOWLEDGEMENT (R398): the delta is no longer outstanding; the last acknowledgement
ends the exclusion of the unit. -/
def execParityAcknowledgement (pa q : Nat) (s : State) : Out :=
  .next { s with
    deltas := delFirst (fun d => d.1 = pa / 64 * 64 && d.2.1 = q && d.2.2.isEmpty) s.deltas }

/-- Granules of the group, the unit's own left out, whose units at its offset can be used: on a
channel in service, not poisoned, and neither missing nor read as uncorrectable (R400). -/
def State.usable (s : State) (u : GranUse) (b : Nat) (bad : List Nat) : List Nat :=
  (List.range (16 + u.pte.str)).filter (fun i => i ≠ u.idx && !bad.contains i &&
    match s.groupPa u i with
    | some g => (s.ch (paChannel g)).en && !s.poison.contains ((g + b) / 64)
    | none => false)

/-- A unit of a page with parity is rebuilt from its group, or poisoned when fewer than 16 granules
are usable (R400); the record says which. The bytes are those that the unit was written with, since
any 16 granules determine them. -/
def State.rebuildUnit (s : State) (pa syn : Nat) (bad : List Nat) : State × RecIn :=
  match s.granUse pa with
  | some u =>
    if 16 ≤ (s.usable u (pa % 4096) bad).length then (s, dramRec pa clsCe 0x0102 u.pte.str)
    else (s.poisonPa pa, dramRec pa clsUe 0x0201 syn)
  | none => (s.poisonPa pa, dramRec pa clsUe 0x0201 syn)

/-- UNIT_REBUILD (R400). -/
def execUnitRebuild (pa : Nat) (bad : List Nat) (s : State) : Out :=
  .next (
    let pa := pa / 64 * 64
    match s.rebuilds.find? (pa / 64) with
    | some syn =>
      if s.deltaAtOffset pa then s
      else
        let (s, x) := { s with rebuilds := s.rebuilds.erase (pa / 64) }.rebuildUnit pa syn bad
        s.record x
    | none => s)

/-- ROW_CLOSE (R301). -/
def execRowClose (ch bank : Nat) (s : State) : Out :=
  .next (s.modCh ch (fun d => { d with openRows := d.openRows.erase bank }))

/-- The hottest die of a channel's die group (R6, R308). -/
def State.dieTemp (s : State) (ch : Nat) : Nat :=
  s.hottest ((List.range 3).map (fun k => 336 + 12 * (ch / 32) + 3 * (ch % 32 / 8) + k))

/-- Refresh doubles above 85 °C and returns to the normal rate below 82 °C (R308). -/
def State.refreshRate (s : State) (ch : Nat) : State :=
  let t := s.dieTemp ch
  s.modCh ch (fun d => { d with refx2 := if t > 85 then true else if t < 82 then false else d.refx2 })

/-- REFRESH (R308): data are kept, and the rate follows the temperature of the die group. -/
def execRefresh (ch _bank : Nat) (s : State) : Out :=
  .next (if s.chOn ch then s.refreshRate ch else s)

/-- The least eye is below R310. -/
def eyeBad (eye : Word) : Bool :=
  natField eye.toNat 24 8 < 16 || natField eye.toNat 16 8 < 16 ||
    natField eye.toNat 8 8 < 20 || natField eye.toNat 0 8 < 20

/-- Writes every unit of a channel with zero data and valid check bits (R309 step 6). -/
def State.zeroChannel (s : State) (ch : Nat) : State :=
  { s with
    mem := s.mem.filter (fun c => paChannel c.1 ≠ ch)
    poison := s.poison.filter (fun u => paChannel (64 * u) ≠ ch) }

/-- A training pass fails at step `fs`: the first time it is repeated, and the second time the channel
stays out of service with its record (R309 steps 8 and 9). -/
def State.trainFailed (s : State) (ch fs : Nat) : State :=
  let d := s.ch ch
  if !d.failedOnce then s.modCh ch (fun d => { d with failedOnce := true })
  else
    (s.modCh ch (fun d => { d with maint := 0, tfail := BitVec.ofNat 3 fs })).record
      { src := readyCh ch, cls := clsInfo, code := 0x0404, aux := fs }

/-- CHANNEL_TRAINING_PASS_END (R309): a pass that fails for the first time is repeated; one that
fails again leaves the channel out of service. -/
def execChannelTrainingPassEnd (ch failStep : Nat) (eye : Word) (s : State) : Out :=
  .next (
    let d := s.ch ch
    if !s.chOn ch || d.en || d.listed || d.maint ≠ 1#3 then s
    else
      let measured := failStep = 0 || 5 ≤ failStep
      let fs := if (failStep = 0 || failStep = 6) && eyeBad eye then 5 else failStep
      let d := if measured then { d with eye := eye } else d
      let s := s.modCh ch (fun _ => d)
      if fs = 0 then
        ((s.modCh ch (fun _ => { d with en := true, maint := 0 })).zeroChannel ch).setReady (readyCh ch) true
      else s.trainFailed ch fs)

/-- DELAY_RECENTRE (R311): each pin that has moved by more than 6 taps gives a DCH_DRIFT record. -/
def execDelayRecentre (ch : Nat) (moved : List (Nat × Nat)) (s : State) : Out :=
  .next (if s.chOn ch && (s.ch ch).en then
    s.records ((moved.filter (fun p => 6 < p.2)).map (fun p =>
      { src := readyCh ch, cls := clsInfo, code := 0x0405, aux := p.1 }))
  else s)

end Sys2Proof.Machine
end

