-- ==== Sys2Proof/Machine/Cache.lean ====
section
/-!
DEFINITION. Cache.lean: the tile caches' accesses and fills, the errors found in their lines, the
invalidation of L1 copies, and way-group power (R319 to R332).
-/

namespace Sys2Proof.Machine

open Sys2Proof

/-- Zeroes the bytes of a line, poison and parity included, and ends the reservations on it (R258,
R328, R398). -/
def State.zeroLine (s : State) (line : Nat) : State :=
  let s := s.physZero line 256
  let s := (List.range 4).foldl (fun s i => s.syncPa (line + 64 * i)) s
  (s.breakResv line).breakResv (line + 128)

/-- Who makes an access of TILE_CACHE_ACCESS. -/
def accessor (agent : Option Nat) : Writer :=
  match agent with
  | some n => .wick n
  | none => .other

/-- The home tile cache serves an access to a line (R319, R321, R323, R325, R327, R328). -/
def State.cacheAccess (s : State) (pa : Nat) (kind : CacheKind) (agent : Option Nat) : State :=
  let s := s.lineAccessed pa kind (accessor agent) none
  if kind = .zeroLine then s.zeroLine (pa / 256 * 256) else s

/-- The set whose row of the bank is under repair; accesses to it wait (R416). A row of 4 KiB of a
bank is one set. -/
def TCache.held (c : TCache) (pa : Nat) : Bool :=
  match c.fuse with
  | some (bank, row) => homeSet pa = 32 * row + bank
  | none => false

/-- Poisons the four units of a line. -/
def State.poisonLine (s : State) (line : Nat) : State :=
  (List.range 4).foldl (fun s i => s.poisonPa (line + 64 * i)) s

/-! ### Errors in a line that an access hits (R332) -/

/-- A record about a unit of a tile-cache line. -/
def lineRec (src t set way unit pa cls code aux : Nat) : RecIn :=
  { src := src, cls := cls, code := code, lockind := 2, devaddr := pa
    loc := locTc t (set % 32) way unit set (set / 32), aux := aux }

/-- A line with an error that is not corrected: a clean line is invalidated with its L1 copies and
the access misses; a dirty line is poisoned (R332). -/
def State.lineLost (s : State) (pa key unit cleanCode aux : Nat) : State :=
  let t := homeTc pa
  let line := pa / 256 * 256
  let upa := line + 64 * unit
  match (s.tc t).lines.find? key with
  | some x =>
    if x.dirty then
      (s.poisonLine line).record (lineRec (readyTc t) t (key / 16) (key % 16) unit upa clsUe 0x0203 0)
    else
      ((s.dropCopies x.pres line).modTc t (fun c => { c with lines := c.lines.erase key })).record
        (lineRec (readyTc t) t (key / 16) (key % 16) unit upa clsCe cleanCode aux)
  | none => s

/-- What an access finds in the line that it hits (R332, R388): a correction is counted and leaves the
stored copy; a unit of which some but fewer than five codewords are POISON is uncorrectable. -/
def State.lineRead (s : State) (pa : Nat) (err : LineErr) : State :=
  let t := homeTc pa
  match (s.tc t).find pa with
  | none => s
  | some key =>
    match err with
    | .good => s
    | .data unit errs =>
      let unit := unit % 4
      let upa := pa / 256 * 256 + 64 * unit
      let poisoned := s.poison.contains (upa / 64)
      match unitDecode poisoned errs with
      | (.good, _, _) => s.asDecoded upa poisoned errs
      | (.poisoned, _, _) => s
      | (.ce, _, _) =>
        ((s.asDecoded upa poisoned errs).modTc t (fun c => { c with ceData := satAdd 16 c.ceData 1 })).records
          ((unitCes poisoned errs).map (fun x =>
            lineRec (readyTc t) t (key / 16) (key % 16) unit upa clsCe 0x0103 x.2.toNat))
      | (.ue, _, syn) => s.lineLost pa key unit 0x0103 syn
    | .tag =>
      (s.modTc t (fun c => { c with ceTag := satAdd 16 c.ceTag 1 })).lineLost pa key 0 0x0104 0

/-- The access replaces every byte of the line and reads none of them. -/
def replacesLine (k : CacheKind) : Bool := k = .wholeWrite || k = .streamWholeWrite || k = .zeroLine

/-- What is found in the line by an access of a kind: one that replaces the line reads its tag
only. -/
def errSeen (e : LineErr) (k : CacheKind) : LineErr :=
  match e with
  | .data _ _ => if replacesLine k then .good else e
  | e => e

/-- Lines of sets `lo` to `hi - 1` in way group `g` leave the cache, dirty ones by write-back, with their L1 copies
(R322, R329). -/
def State.dropLines (s : State) (t g lo hi : Nat) : State :=
  let mine := fun (p : Nat × TcLine) =>
    decide (p.1 % 16 / 4 = g) && decide (lo ≤ p.1 / 16) && decide (p.1 / 16 < hi)
  let s := ((s.tc t).lines.filter mine).foldl (fun s p =>
    (s.dropCopies p.2.pres (lineAddr t (p.1 / 16) p.2.tag)).modTc t (fun c => c.writeBack t (p.1 / 16) p.2)) s
  s.modTc t (fun c => { c with lines := c.lines.filter (fun p => !mine p) })

/-- Sets of a tile cache. -/
def tcSets : Nat := 131072

/-- The walks of the way groups under clean go on. How far they have come is timing that the spec leaves
open: a free value, which never goes back (log 157). A set that a walk has passed holds nothing of its group
(R330). -/
def State.walkOn (s : State) (t : Nat) : State :=
  (List.range 4).foldl (fun s g =>
    if (s.tc t).clean.getLsbD g then
      let (x, s) := s.draw
      let at_ := (s.tc t).walk.getD g 0
      let next := at_ + x.toNat % (tcSets + 1 - at_)
      (s.dropLines t g at_ next).modTc t (fun c => { c with walk := c.walk.put g next })
    else s) s

/-- A walk holds the set of a physical address: an access waits until the walk leaves it (R330). -/
def TCache.walked (c : TCache) (pa : Nat) : Bool :=
  (List.range 4).any (fun g => c.clean.getLsbD g && c.walk.getD g 0 = homeSet pa)

/-- TILE_CACHE_ACCESS; an access waits while the tile cache holds its input for a cut (R426). -/
def execTileCacheAccess (pa : Nat) (kind : CacheKind) (agent : Option Nat) (err : LineErr)
    (s : State) : Out :=
  .next (
    let t := homeTc pa
    if !s.tcOn t || paEnd ≤ pa || (s.tc t).held pa || s.cutHeld (accessor agent) pa then s
    else
      let s := s.walkOn t
      if (s.tc t).walked pa then s
      else (s.lineRead pa (errSeen err kind)).cacheAccess pa kind agent)

/-- TILE_CACHE_FILL (R322 to R326): the oldest fill arrives and is installed. A prefetch that the
controller returns as uncorrectable is installed poisoned, and a demand has the unit poisoned; the
record is written once for a unit. -/
def execTileCacheFill (t : Nat) (err : FillErr) (s : State) : Out :=
  .next (match (s.tc t).fills with
    | [] => s
    | f :: rest =>
      if !s.tcOn t || (s.tc t).held f.pa then s
      else
        let s := s.modTc t (fun c => { c with fills := rest })
        let s := match err with
          | .good => s
          | .uncorrectable u syn =>
            let pa := f.pa + 64 * (u % 4)
            let told := s.poison.contains (pa / 64)
            let s := if f.prefetch then s.poisonLine f.pa else s.poisonPa pa
            if told then s else s.record (dramRec pa clsUe 0x0201 syn.toNat)
        let s := if ((s.tc t).find f.pa).isSome then
            s.modLine f.pa (fun x => { x with dirty := x.dirty || f.dirty, pres := x.pres ||| f.quads })
          else s.installLine f.pa f.age f.dirty f.quads
        f.l1s.foldl (fun s p => if s.lanOn p.1 then s.modLan p.1 (fun l => l.l1Fill p.2) else s) s)

/-- L1_INVALIDATION (R321): the lantern's L1 loses the line, and the lantern acknowledges. -/
def execL1Invalidation (n pa : Nat) (s : State) : Out :=
  .next (
    let line := pa / 256 * 256
    let hit := fun (i : Inval) => decide (i.pa = line) && i.lans.contains n
    if (s.tc (homeTc pa)).invals.any hit then
      (s.modLan n (fun l => l.l1DropLine line)).modTc (homeTc pa) (fun c =>
        { c with invals := updFirst hit (fun i => { i with lans := setDel i.lans n }) c.invals })
    else s)

/-- L1_INVALIDATION_ACK (R321): once every lantern has acknowledged, the write is visible to every
agent. -/
def execL1InvalidationAck (pa : Nat) (s : State) : Out :=
  .next (s.modTc (homeTc pa) (fun c => { c with
    invals := delFirst (fun i => i.pa = pa / 256 * 256 && i.lans.isEmpty) c.invals }))

/-! ### Way groups (R329 to R331) -/

/-- WAY_GROUP_POWER_DOWN (R329): a write of GROUP that clears one bit. -/
def execWayGroupPowerDown (t g : Nat) (s : State) : Out :=
  .next (if s.tcOn t then
    s.modTc t (fun c => c.wayWrite ((bitSet c.group g false).setWidth 32)) else s)

/-- WAY_GROUP_POWER_UP (R331): a write of GROUP that sets one bit; while the group is under clean it
is ignored and sets ERR. -/
def execWayGroupPowerUp (t g : Nat) (s : State) : Out :=
  .next (if s.tcOn t then
    s.modTc t (fun c => c.wayWrite ((bitSet c.group g true).setWidth 32)) else s)

/-- WAY_GROUP_CLEAN_END (R329): the walk is complete, and the group loses power. -/
def execWayGroupCleanEnd (t g : Nat) (s : State) : Out :=
  .next (if s.tcOn t && (s.tc t).clean.getLsbD g then
    (s.dropLines t g 0 tcSets).modTc t (fun c => { c with
      clean := bitSet c.clean g false, on := bitSet c.on g false, walk := c.walk.erase g })
  else s)

/-- WAY_GROUP_ON (R331): the group's ways become eligible, all invalid. -/
def execWayGroupOn (t g : Nat) (s : State) : Out :=
  .next (if s.tcOn t && (s.tc t).group.getLsbD g && !(s.tc t).clean.getLsbD g then
    s.modTc t (fun c => { c with on := bitSet c.on g true })
  else s)

end Sys2Proof.Machine
end

