-- ==== Sys2Proof/Machine/Float.lean ====
section
/-!
DEFINITION. Float.lean: the number formats of R38 to R64 as exact arithmetic on
m * 2^e, and every rounding, conversion, quantization and exception the spec gives them.
-/

namespace Sys2Proof.Machine

open Sys2Proof

/-! ### Formats -/

/-- How a format spends its all-ones exponent (R42). -/
inductive FKind where
  | ieee | e4m3 | finite
  deriving DecidableEq, Repr

/-- Exponent bits, mantissa bits, bias and the use of the all-ones exponent (R42). -/
structure Fmt where
  eb : Nat
  mb : Nat
  bias : Nat
  kind : FKind
  deriving DecidableEq, Repr

/-- The floating-point element layouts of R42 by format code; MX codes give their element
format. -/
def fmtOf (code : Nat) : Option Fmt :=
  match code with
  | 0x0 => some ⟨11, 52, 1023, .ieee⟩
  | 0x1 => some ⟨8, 23, 127, .ieee⟩
  | 0x2 => some ⟨8, 7, 127, .ieee⟩
  | 0x3 => some ⟨5, 10, 15, .ieee⟩
  | 0x4 => some ⟨4, 3, 7, .e4m3⟩
  | 0x5 => some ⟨5, 2, 15, .ieee⟩
  | 0x6 => some ⟨4, 3, 7, .e4m3⟩
  | 0x7 => some ⟨5, 2, 15, .ieee⟩
  | 0x8 => some ⟨3, 2, 3, .finite⟩
  | 0x9 => some ⟨2, 3, 1, .finite⟩
  | 0xA => some ⟨2, 1, 1, .finite⟩
  | _ => none

/-- Element bits of a format code, without the scale (R38). -/
def fmtBits (code : Nat) : Nat :=
  match code with
  | 0x0 => 64 | 0x1 => 32 | 0x2 => 16 | 0x3 => 16 | 0x4 => 8 | 0x5 => 8 | 0x6 => 8 | 0x7 => 8
  | 0x8 => 6 | 0x9 => 6 | 0xA => 4 | 0xB => 8 | 0xC => 8 | 0xD => 32 | 0xE => 64 | _ => 0

/-- The code names an MX format (R38). -/
def isMx (code : Nat) : Bool := (6 ≤ code && code ≤ 0xA) || code = 0xC

/-- The canonical quiet NaN of a format (R43); E3M2, E2M3 and E2M1 hold none and get +0
(R59, R61). -/
def canonNan (code : Nat) : Nat :=
  match code with
  | 0x0 => 0x7FF8000000000000
  | 0x1 => 0x7FC00000
  | 0x2 => 0x7FC0
  | 0x3 => 0x7E00
  | 0x4 => 0x7F
  | 0x6 => 0x7F
  | 0x5 => 0x7E
  | 0x7 => 0x7E
  | _ => 0

/-- A value: NaN (signalling or quiet), infinity, or `(-1)^neg * m * 2^e` (R42, R43). -/
inductive FV where
  | nan (signalling : Bool)
  | inf (neg : Bool)
  | num (neg : Bool) (m : Nat) (e : Int)
  deriving DecidableEq, Repr

/-- Positive zero. -/
def FV.zero : FV := .num false 0 0

/-- The value is a NaN. -/
def FV.isNan : FV → Bool
  | .nan _ => true
  | _ => false

/-- The value is an infinity. -/
def FV.isInf : FV → Bool
  | .inf _ => true
  | _ => false

/-- The value is a zero of either sign. -/
def FV.isZero : FV → Bool
  | .num _ 0 _ => true
  | _ => false

/-- The sign of a value; a NaN has none. -/
def FV.sign : FV → Bool
  | .nan _ => false
  | .inf n => n
  | .num n _ _ => n

/-- The value with its sign complemented; a NaN stays. -/
def FV.negate : FV → FV
  | .nan s => .nan s
  | .inf n => .inf (!n)
  | .num n m e => .num (!n) m e

/-- The value of the bits of a floating-point format (R42). -/
def decodeFmt (f : Fmt) (bits : Nat) : FV :=
  let s := natBit bits (f.eb + f.mb)
  let ef := natField bits f.mb f.eb
  let mf := natField bits 0 f.mb
  let top := 2 ^ f.eb - 1
  let fin : FV :=
    if ef = 0 then .num s mf (1 - (f.bias : Int) - f.mb)
    else .num s (2 ^ f.mb + mf) ((ef : Int) - f.bias - f.mb)
  match f.kind with
  | .ieee =>
    if ef = top then if mf = 0 then .inf s else .nan (!natBit mf (f.mb - 1)) else fin
  | .e4m3 => if ef = top ∧ mf = 2 ^ f.mb - 1 then .nan false else fin
  | .finite => fin

/-- The value of the low bits of an element of a format code; integer codes give their
integer, and 0xC its element value n * 2^-6 before scaling (R42). -/
def decodeCode (code bits : Nat) : FV :=
  match fmtOf code with
  | some f => decodeFmt f (bits % 2 ^ fmtBits code)
  | none =>
    let w := fmtBits code
    let b := bits % 2 ^ w
    let neg := natBit b (w - 1)
    let m := if neg then 2 ^ w - b else b
    .num neg m (if code = 0xC then -6 else 0)

/-- The element is a subnormal of its format. -/
def isSubnormal (f : Fmt) (bits : Nat) : Bool :=
  natField bits f.mb f.eb = 0 && natField bits 0 f.mb ≠ 0

/-- Subnormals of this code are flushed where a context flushes (R62, R64). -/
def flushable (code : Nat) : Bool := code ≤ 3

/-- The value of an element as an operand, flushed where the context flushes (R62, R64). -/
def readOperand (flush : Bool) (code bits : Nat) : FV :=
  match fmtOf code with
  | some f =>
    let b := bits % 2 ^ fmtBits code
    if flush && flushable code && isSubnormal f b then .num (natBit b (f.eb + f.mb)) 0 0
    else decodeFmt f b
  | none => decodeCode code bits

/-! ### Rounding -/

/-- Rounding modes (R50 to R53); `sr` carries the 16 random bits R. -/
inductive RMode where
  | rne | rtz | rdn | rup
  | sr (r : Nat)
  deriving DecidableEq, Repr

/-- MODE.RM (R51). -/
def rmOf (rm : BitVec 2) : RMode :=
  if rm = 0 then .rne else if rm = 1 then .rtz else if rm = 2 then .rdn else .rup

/-- The bits of a value `m * 2^e` at quantum 2^q, rounded: the integer count of quanta and
whether the rounding was inexact. -/
def roundAt (mode : RMode) (neg : Bool) (m : Nat) (e q : Int) : Nat × Bool :=
  if q ≤ e then (m * 2 ^ (e - q).toNat, false)
  else
    let d := (q - e).toNat
    let hi := m / 2 ^ d
    let lo := m % 2 ^ d
    let half := 2 ^ (d - 1)
    let up : Bool :=
      match mode with
      | .rne => lo > half || (lo = half && hi % 2 = 1)
      | .rtz => false
      | .rdn => neg && lo ≠ 0
      | .rup => !neg && lo ≠ 0
      | .sr r => lo * 65536 / 2 ^ d + r ≥ 65536
    (if up then hi + 1 else hi, lo ≠ 0)

/-- The exponent of the leading bit of `m * 2^e`, for m > 0. -/
def leadExp (m : Nat) (e : Int) : Int := (Nat.log2 m : Int) + e

/-- `m1 * 2^e1 < m2 * 2^e2`. -/
def magLt (m1 : Nat) (e1 : Int) (m2 : Nat) (e2 : Int) : Bool :=
  if e1 ≤ e2 then m1 < m2 * 2 ^ (e2 - e1).toNat else m1 * 2 ^ (e1 - e2).toNat < m2

/-- Largest finite magnitude of a format, as mantissa and exponent (R42). -/
def maxFin (f : Fmt) : Nat × Int :=
  match f.kind with
  | .ieee => (2 ^ (f.mb + 1) - 1, (2 ^ f.eb - 2 : Int) - f.bias - f.mb)
  | .e4m3 => (2 ^ (f.mb + 1) - 2, (2 ^ f.eb - 1 : Int) - f.bias - f.mb)
  | .finite => (2 ^ (f.mb + 1) - 1, (2 ^ f.eb - 1 : Int) - f.bias - f.mb)

/-- Smallest normal exponent. -/
def eMin (f : Fmt) : Int := 1 - (f.bias : Int)

/-- The bits of a value that the format holds exactly as n quanta of 2^q, where q is the
quantum of its binade or of the subnormals. -/
def packBits (f : Fmt) (neg : Bool) (n : Nat) (q : Int) : Nat :=
  let s := if neg then 2 ^ (f.eb + f.mb) else 0
  if n = 0 then s
  else
    let le := leadExp n q
    if le < eMin f then s + n
    else
      let frac := if q ≤ le - f.mb then n / 2 ^ (le - f.mb - q).toNat else n * 2 ^ (q - (le - f.mb)).toNat
      s + (le + f.bias).toNat * 2 ^ f.mb + (frac - 2 ^ f.mb)

/-- The bits of an infinity, for a format that has one. -/
def infBits (f : Fmt) (neg : Bool) : Nat :=
  (if neg then 2 ^ (f.eb + f.mb) else 0) + (2 ^ f.eb - 1) * 2 ^ f.mb

/-- The bits of the largest finite magnitude with a sign. -/
def maxBits (f : Fmt) (neg : Bool) : Nat := packBits f neg (maxFin f).1 (maxFin f).2

/-- Exception flags in the order of MODE.FXS [13:9] (R199): invalid 16, divide by zero 8,
overflow 4, underflow 2, inexact 1. -/
abbrev Exc := BitVec 5
/-- Invalid operation. -/
def Exc.invalid : Exc := 16
/-- Divide by zero. -/
def Exc.dz : Exc := 8
/-- Overflow with inexact. -/
def Exc.ovf : Exc := 5
/-- Underflow with inexact. -/
def Exc.unf : Exc := 3
/-- Inexact. -/
def Exc.nx : Exc := 1

/-- The context of a conversion (R56): rounding, flushing, E4NAN. -/
structure FCtx where
  mode : RMode := .rne
  flush : Bool := false
  e4nan : Bool := false
  deriving DecidableEq, Repr

/-- The context of arrays and chain stages: RNE, flushing (R50, R62). -/
def matCtx : FCtx := { mode := .rne, flush := true, e4nan := false }

/-- Overflow results (R57). -/
def overflowBits (ctx : FCtx) (code : Nat) (f : Fmt) (neg srcInf : Bool) : Nat :=
  match code with
  | 0x4 => if ctx.e4nan then canonNan 4 else maxBits f neg
  | 0x5 => infBits f neg
  | _ =>
    if code ≤ 3 then
      if srcInf then infBits f neg
      else match ctx.mode with
        | .rtz => maxBits f neg
        | .rdn => if neg then infBits f neg else maxBits f neg
        | .rup => if neg then maxBits f neg else infBits f neg
        | _ => infBits f neg
    else maxBits f neg

/-- The conversion of R56 of an exact value to a floating-point format code, with the
exceptions of R57 and R193. -/
def toFmt (ctx : FCtx) (code : Nat) (x : FV) : Nat × Exc :=
  match fmtOf code with
  | none => (0, 0)
  | some f =>
    match x with
    | .nan s => (canonNan code, if s then Exc.invalid else 0)
    | .inf neg => (overflowBits ctx code f neg true, if code = 4 then Exc.ovf else 0)
    | .num neg m e =>
      if m = 0 then (packBits f neg 0 0, 0)
      else
        let le := leadExp m e
        let q := max le (eMin f) - f.mb
        let (n, nx) := roundAt ctx.mode neg m e q
        let (mn, me) := maxFin f
        if magLt mn me n q then (overflowBits ctx code f neg false, Exc.ovf)
        else
          let qu := le - f.mb
          let (nu, _) := roundAt ctx.mode neg m e qu
          let tiny := magLt nu qu 1 (eMin f)
          if ctx.flush && flushable code && tiny then (packBits f neg 0 0, Exc.unf)
          else (packBits f neg n q, if nx then (if tiny then Exc.unf else Exc.nx) else 0)

/-- Conversion of an exact value to INT8, INT32 or the MXINT8 element, saturating, with
NaN giving 0 (R57, R59). -/
def toInt (mode : RMode) (code : Nat) (x : FV) : Nat × Exc :=
  let w := fmtBits code
  let q : Int := if code = 0xC then -6 else 0
  let lim (neg : Bool) : Nat := if neg then 2 ^ (w - 1) else 2 ^ (w - 1) - 1
  match x with
  | .nan _ => (0, Exc.invalid)
  | .inf neg => (lim neg, Exc.invalid)
  | .num neg m e =>
    let (n, nx) := roundAt mode neg m e q
    if neg then
      if n > 2 ^ (w - 1) then (lim true, Exc.invalid)
      else ((2 ^ w - n) % 2 ^ w, if nx then Exc.nx else 0)
    else if n > 2 ^ (w - 1) - 1 then (lim false, Exc.invalid)
    else (n, if nx then Exc.nx else 0)

/-- Conversion of an exact value to any element code (R56, R57, R59). -/
def toCode (ctx : FCtx) (code : Nat) (x : FV) : Nat × Exc :=
  match fmtOf code with
  | some _ => toFmt ctx code x
  | none => toInt ctx.mode code x

/-! ### Exact arithmetic -/

/-- An exact sum of m1 * 2^e1 and m2 * 2^e2 with signs, as an integer and an exponent. -/
def exactAdd (n1 : Bool) (m1 : Nat) (e1 : Int) (n2 : Bool) (m2 : Nat) (e2 : Int) : Int × Int :=
  let e := min e1 e2
  let a : Int := (m1 * 2 ^ (e1 - e).toNat : Nat)
  let b : Int := (m2 * 2 ^ (e2 - e).toNat : Nat)
  ((if n1 then -a else a) + (if n2 then -b else b), e)

/-- A signed integer times a power of two as a value; zero takes the sign given. -/
def ofInt (z : Int) (e : Int) (zneg : Bool) : FV :=
  if z = 0 then .num zneg 0 0 else .num (z < 0) z.natAbs e

/-- The exact sum of two values. Opposite infinities give NaN; an exact zero of opposite
operands is +0, and −0 when rounding toward −∞ (IEEE 754-2019). -/
def fvAdd (mode : RMode) (x y : FV) : FV × Exc :=
  match x, y with
  | .nan s, .nan t => (.nan false, if s || t then Exc.invalid else 0)
  | .nan s, _ => (.nan false, if s then Exc.invalid else 0)
  | _, .nan s => (.nan false, if s then Exc.invalid else 0)
  | .inf a, .inf b => if a = b then (.inf a, 0) else (.nan false, Exc.invalid)
  | .inf a, _ => (.inf a, 0)
  | _, .inf b => (.inf b, 0)
  | .num n1 m1 e1, .num n2 m2 e2 =>
    if m1 = 0 ∧ m2 = 0 then
      (.num (if n1 = n2 then n1 else mode = .rdn) 0 0, 0)
    else
      let (z, e) := exactAdd n1 m1 e1 n2 m2 e2
      (ofInt z e (mode = .rdn), 0)

/-- The exact product of two values; infinity times zero gives NaN. -/
def fvMul (x y : FV) : FV × Exc :=
  match x, y with
  | .nan s, .nan t => (.nan false, if s || t then Exc.invalid else 0)
  | .nan s, _ => (.nan false, if s then Exc.invalid else 0)
  | _, .nan s => (.nan false, if s then Exc.invalid else 0)
  | .inf a, .inf b => (.inf (a != b), 0)
  | .inf a, .num n m _ => if m = 0 then (.nan false, Exc.invalid) else (.inf (a != n), 0)
  | .num n m _, .inf b => if m = 0 then (.nan false, Exc.invalid) else (.inf (n != b), 0)
  | .num n1 m1 e1, .num n2 m2 e2 => (.num (n1 != n2) (m1 * m2) (e1 + e2), 0)

/-- A quotient to 130 bits with a sticky bit below them, enough for one correct rounding
to any format of R42. -/
def fvDiv (x y : FV) : FV × Exc :=
  match x, y with
  | .nan s, .nan t => (.nan false, if s || t then Exc.invalid else 0)
  | .nan s, _ => (.nan false, if s then Exc.invalid else 0)
  | _, .nan s => (.nan false, if s then Exc.invalid else 0)
  | .inf _, .inf _ => (.nan false, Exc.invalid)
  | .inf a, .num n _ _ => (.inf (a != n), 0)
  | .num n _ _, .inf b => (.num (n != b) 0 0, 0)
  | .num n1 m1 e1, .num n2 m2 e2 =>
    if m2 = 0 then
      if m1 = 0 then (.nan false, Exc.invalid) else (.inf (n1 != n2), Exc.dz)
    else if m1 = 0 then (.num (n1 != n2) 0 0, 0)
    else
      let sh := 130 + Nat.log2 m2
      let a := m1 * 2 ^ sh
      let r := if a % m2 = 0 then 0 else 1
      (.num (n1 != n2) (2 * (a / m2) + r) (e1 - e2 - sh - 1), 0)

/-- Integer square root, bit by bit from bit `k` downward. -/
def isqrtFrom : Nat → Nat → Nat → Nat
  | 0, r, v => if (r + 1) * (r + 1) ≤ v then r + 1 else r
  | k + 1, r, v =>
    let c := r + 2 ^ (k + 1)
    isqrtFrom k (if c * c ≤ v then c else r) v

/-- The largest r with r * r ≤ v. -/
def isqrt (v : Nat) : Nat := isqrtFrom (Nat.log2 v / 2 + 1) 0 v

/-- A square root to more than 120 bits with a sticky bit below them. -/
def fvSqrt (x : FV) : FV × Exc :=
  match x with
  | .nan s => (.nan false, if s then Exc.invalid else 0)
  | .inf neg => if neg then (.nan false, Exc.invalid) else (.inf false, 0)
  | .num neg m e =>
    if m = 0 then (.num neg 0 0, 0)
    else if neg then (.nan false, Exc.invalid)
    else
      let odd := e % 2 ≠ 0
      let m1 := if odd then 2 * m else m
      let e1 := if odd then e - 1 else e
      let v := m1 * 2 ^ 240
      let r := isqrt v
      let st := if r * r = v then 0 else 1
      (.num false (2 * r + st) (e1 / 2 - 121), 0)

/-- Order of two values that are not NaN: −1, 0 or 1. Zeros of both signs are equal. -/
def fvCmp (x y : FV) : Int :=
  match x, y with
  | .inf a, .inf b => if a = b then 0 else if a then -1 else 1
  | .inf a, _ => if a then -1 else 1
  | _, .inf b => if b then 1 else -1
  | .num n1 m1 e1, .num n2 m2 e2 =>
    let (z, _) := exactAdd n1 m1 e1 (!n2) m2 e2
    if z < 0 then -1 else if z = 0 then 0 else 1
  | _, _ => 0

/-- Minimum or maximum of R179: −0 below +0, NaN if either operand is NaN. -/
def fvMinMax (isMax : Bool) (x y : FV) : FV × Exc :=
  match x, y with
  | .nan s, .nan t => (.nan false, if s || t then Exc.invalid else 0)
  | .nan s, _ => (.nan false, if s then Exc.invalid else 0)
  | _, .nan s => (.nan false, if s then Exc.invalid else 0)
  | _, _ =>
    let c := fvCmp x y
    let xLess := c < 0 || (c = 0 && x.sign && !y.sign)
    (if xLess != isMax then x else y, 0)

/-! ### Scalar and vector operations on elements (R179, R180, R233) -/

/-- An element as the vector unit and the wick read it: its value, flushed under FTZ. -/
def rdElem (ctx : FCtx) (code bits : Nat) : FV := readOperand ctx.flush code bits

/-- Rounds an exact result and joins the exceptions. -/
def finish (ctx : FCtx) (code : Nat) (r : FV × Exc) : Nat × Exc :=
  let (b, x) := toFmt ctx code r.1
  (b, r.2 ||| x)

/-- Addition (R179, R233). -/
def opAdd (ctx : FCtx) (code a b : Nat) : Nat × Exc :=
  finish ctx code (fvAdd ctx.mode (rdElem ctx code a) (rdElem ctx code b))

/-- Subtraction. -/
def opSub (ctx : FCtx) (code a b : Nat) : Nat × Exc :=
  finish ctx code (fvAdd ctx.mode (rdElem ctx code a) (rdElem ctx code b).negate)

/-- Multiplication. -/
def opMul (ctx : FCtx) (code a b : Nat) : Nat × Exc :=
  finish ctx code (fvMul (rdElem ctx code a) (rdElem ctx code b))

/-- Division. -/
def opDiv (ctx : FCtx) (code a b : Nat) : Nat × Exc :=
  finish ctx code (fvDiv (rdElem ctx code a) (rdElem ctx code b))

/-- Square root. -/
def opSqrt (ctx : FCtx) (code a : Nat) : Nat × Exc :=
  finish ctx code (fvSqrt (rdElem ctx code a))

/-- Minimum or maximum. -/
def opMinMax (ctx : FCtx) (isMax : Bool) (code a b : Nat) : Nat × Exc :=
  finish ctx code (fvMinMax isMax (rdElem ctx code a) (rdElem ctx code b))

/-- ± (a × b) ± c with one rounding. -/
def opFma (ctx : FCtx) (code : Nat) (negP negC : Bool) (a b c : Nat) : Nat × Exc :=
  let p := fvMul (rdElem ctx code a) (rdElem ctx code b)
  let pv := if negP then p.1.negate else p.1
  let cv := rdElem ctx code c
  let s := fvAdd ctx.mode pv (if negC then cv.negate else cv)
  finish ctx code (s.1, p.2 ||| s.2)

/-- The exception of a NaN operand under a quiet compare: invalid for a signalling NaN. -/
def snanExc (x y : FV) : Exc :=
  if x = .nan true || y = .nan true then Exc.invalid else 0

/-- Conversion between two codes by R56, R57 and R59 as the vector unit and the wick make
it (R187, R234). -/
def opConvert (ctx : FCtx) (src dst bits : Nat) : Nat × Exc :=
  let x := rdElem ctx src bits
  match fmtOf dst with
  | some _ => toFmt ctx dst x
  | none => toInt ctx.mode dst x

/-! ### Stochastic rounding (R54) -/

/-- Rotation of a 32-bit value to the left. -/
def rotl32 (v : Word) (n : Nat) : Word := v.rotateLeft n

/-- One round of the procedure of R54. -/
def srRound (st : Word × Word × Word × Word) : Word × Word × Word × Word :=
  let (a, b, c, d) := st
  let a := a + b
  let d := rotl32 (d ^^^ a) 16
  let c := c + d
  let b := rotl32 (b ^^^ c) 12
  let a := a + b
  let d := rotl32 (d ^^^ a) 8
  let c := c + d
  let b := rotl32 (b ^^^ c) 7
  (a, b, c, d)

/-- sr_hash (R54). -/
def srHash (seed : Dword) (row col stage : Word) : Word :=
  let st := (seed.setWidth 32 ^^^ 0x9E3779B9#32, (seed >>> 32).setWidth 32 ^^^ stage, row, col)
  let st := srRound (srRound (srRound (srRound (srRound (srRound st)))))
  st.1 ^^^ st.2.2.1

/-! ### MX blocks (R45 to R49, R60, R61) -/

/-- The value of an element times 2^(scale − 127); a scale of 0xFF gives NaN (R45, R48). -/
def scaled (scale : Nat) (x : FV) : FV :=
  if scale = 0xFF then .nan false
  else match x with
    | .num n m e => .num n m (e + scale - 127)
    | v => v

/-- emax of an MX element format (R61). -/
def mxEmax (code : Nat) : Int :=
  match code with
  | 0x6 => 8 | 0x7 => 15 | 0x8 => 4 | 0x9 => 2 | 0xA => 2 | _ => 0

/-- The magnitude comparison that R61's scan uses. -/
def magMax (x y : FV) : FV :=
  match x, y with
  | .num _ m1 e1, .num _ m2 e2 => if magLt m1 e1 m2 e2 then y else x
  | _, _ => x

/-- Quantizes a block of source values, each with its rounding (R52): the scale byte, and the
bits and exceptions of each element (R61). -/
def quantize (code : Nat) (xs : List (FV × RMode)) : Nat × List (Nat × Exc) :=
  if xs.any (fun p => p.1.isNan || p.1.isInf) then
    (0xFF, xs.map (fun p => (0, if p.1 = .nan true then Exc.invalid else 0)))
  else
    let m := xs.foldl (fun a p => magMax a p.1) FV.zero
    match m with
    | .num _ mm me =>
      if mm = 0 then
        (0, xs.map (fun p => (if p.1.sign && code ≠ 0xC then 2 ^ (fmtBits code - 1) else 0, 0)))
      else
        let xe := max (-127) (min 127 (leadExp mm me - mxEmax code))
        let el (p : FV × RMode) : Nat × Exc :=
          match p.1 with
          | .num n m e =>
            let v : FV := .num n m (e - xe)
            match fmtOf code with
            | some _ => toFmt { mode := p.2, flush := false, e4nan := false } code v
            | none => toInt p.2 code v
          | _ => (0, 0)
        ((xe + 127).toNat, xs.map el)
    | _ => (0, [])

/-! ### Accumulator arithmetic (R106 to R116) -/

/-- Rounds an exact value to FP32 or FP64 with RNE and the flush of R62, and gives the
rounded value back as a value. -/
def rnd (code : Nat) (x : FV) : FV := decodeCode code (toFmt matCtx code x).1

/-- Rounded addition in an accumulator format (R107, R108). -/
def accAdd (code : Nat) (x y : FV) : FV := rnd code (fvAdd .rne x y).1

/-- two_sum of R114: every operation rounded to the accumulator format. -/
def twoSum (code : Nat) (x y : FV) : FV × FV :=
  let r := accAdd code x y
  let xp := accAdd code r y.negate
  let yp := accAdd code r xp.negate
  let d := accAdd code (accAdd code x xp.negate) (accAdd code y yp.negate)
  (r, d)

/-- The exact sum of a list of values, with the special values of R109: NaN for any NaN or
infinities of both signs, an infinity otherwise. An exact zero is +0. -/
def exactSum (xs : List FV) : FV :=
  if xs.any FV.isNan then .nan false
  else if xs.any (fun v => v = .inf true) then
    if xs.any (fun v => v = .inf false) then .nan false else .inf true
  else if xs.any (fun v => v = .inf false) then .inf false
  else
    let r := xs.foldl (fun (acc : Int × Int) v =>
      match v with
      | .num n m e =>
        let e0 := min acc.2 e
        let a := acc.1 * (2 ^ (acc.2 - e0).toNat : Nat)
        let b : Int := (m * 2 ^ (e - e0).toNat : Nat)
        if m = 0 then acc else ((if n then a - b else a + b), e0)
      | _ => acc) (0, 0)
    ofInt r.1 r.2 false

/-- One level of a fixed tree: adjacent pairs combine (R107, R136, R191). -/
def pairUp {α : Type} (f : α → α → α) : List α → List α
  | a :: b :: t => f a b :: pairUp f t
  | [a] => [a]
  | [] => []

/-- `k` levels of a fixed tree. -/
def treeLevels {α : Type} (f : α → α → α) : Nat → List α → List α
  | 0, xs => xs
  | k + 1, xs => treeLevels f k (pairUp f xs)

/-- The fixed tree of R107 over 32 leaves, each node rounded to the accumulator format,
with the special values of R109. -/
def treeSum (code : Nat) (xs : List FV) : FV :=
  if xs.any FV.isNan || (xs.any (fun v => v = .inf true) && xs.any (fun v => v = .inf false)) then
    .nan false
  else if xs.any FV.isInf then (if xs.any (fun v => v = .inf true) then .inf true else .inf false)
  else ((treeLevels (fun a b => accAdd code a b) 5 xs).head?.getD FV.zero)

/-- The paired trees of R114 for tree formats: values with errors. -/
def treePair (code : Nat) (ps : List FV) : FV × FV :=
  let leaf (p : FV) : FV × FV :=
    let h := rnd code p
    (h, (fvAdd .rne p h.negate).1)
  let node (a b : FV × FV) : FV × FV :=
    let (v, d) := twoSum code a.1 b.1
    (v, rnd code (exactSum [a.2, b.2, d]))
  ((treeLevels node 5 (ps.map leaf)).head?.getD (FV.zero, FV.zero))

end Sys2Proof.Machine
end

