-- ==== Sys2Proof/Machine/Ranges.lean ====
section
/-!
DEFINITION. Ranges.lean: the layout of matrix operands and outputs (R70 to R75, R86, R87),
the chain descriptor (R127 to R133), and the local-store ranges that queued matrix,
chain and loader work holds (R81, R125, R195, R254).
-/

namespace Sys2Proof.Machine

open Sys2Proof

/-! ### Shapes (R70, R71, R88) -/

/-- Arrays along M of a ganged shape. -/
def shapeMA (sh : Nat) : Nat := match sh with | 1 => 8 | 2 => 4 | 3 => 2 | 4 => 1 | _ => 1
/-- Arrays along N of a ganged shape. -/
def shapeNB (sh : Nat) : Nat := match sh with | 1 => 1 | 2 => 2 | 3 => 4 | 4 => 8 | _ => 1
/-- The shape is one of the four ganged ones. -/
def ganged (sh : Nat) : Bool := 1 ≤ sh && sh ≤ 4
/-- Panels of A. -/
def aPanels (sh : Nat) : Nat := if sh = 0 then 8 else if sh = 5 then 32 else shapeMA sh
/-- Panels of B. -/
def bPanels (sh : Nat) : Nat := if sh = 0 then 8 else if sh = 5 then 32 else shapeNB sh
/-- Rows of a panel. -/
def panelRows (sh : Nat) : Nat := if sh = 5 then 16 else 32

/-- K rounded up to blocks of 32 (R73). -/
def kpOf (k : Nat) : Nat := (k + 31) / 32 * 32
/-- Row pitch of an operand of a format code (R73). -/
def pitchOf (code k : Nat) : Nat := kpOf k * fmtBits code / 8

/-- A byte range: start and length. -/
abbrev Rng := Nat × Nat

/-- Bytes of a panel set with its scale panels. -/
def panelRanges (base sbase panels rows code k : Nat) : List Rng :=
  (base, panels * rows * pitchOf code k) ::
    (if isMx code then [(sbase, panels * rows * (kpOf k / 32))] else [])

/-- Read ranges of a multiply (R81). -/
def MmaReq.reads (r : MmaReq) : List Rng :=
  panelRanges r.ab r.asb (aPanels r.shape) (panelRows r.shape) r.fa r.k ++
    panelRanges r.bb r.bsb (bPanels r.shape) (panelRows r.shape) r.fb r.k

/-- Output element bytes of a format code. -/
def outBytes (code : Nat) : Nat := (fmtBits code + 7) / 8

/-! ### Chain descriptor (R127 to R131) -/

/-- A stream slot (R131). -/
structure StreamSlot where
  base : Nat
  fmt : Nat
  shape : Nat
  dirOut : Bool
  resv : Nat
  pitch : Nat
  deriving DecidableEq, Repr

/-- A chain descriptor with its fields named. -/
structure ChainD where
  p2 : Bool
  m : Nat
  k1 : Nat
  l : Nat
  n2 : Nat
  fa1 : Nat
  f1 : Nat
  fb1 : Nat
  sfmt : Nat
  fp : Nat
  fb2 : Nat
  fo : Nat
  rfunc : Nat
  ruse : Nat
  rmask : Nat
  mstr : Nat
  ostr : Nat
  osen : Bool
  ract : Nat
  rscale : Nat
  eps : Nat
  moff : Int
  seed : Dword
  a1 : Nat
  a1s : Nat
  b1 : Nat
  b1s : Nat
  b2 : Nat
  b2s : Nat
  ob : Nat
  osb : Nat
  opitch : Nat
  const0 : Nat
  const1 : Nat
  streams : List StreamSlot
  pro : List Nat
  epi : List Nat
  deriving DecidableEq, Repr

/-- A little-endian field of a descriptor. -/
def dfield (d : List Byte) (off n : Nat) : Nat := leNat ((d.drop off).take n)

/-- A signed 32-bit number. -/
def sx32 (v : Nat) : Int := if v < 2 ^ 31 then v else (v : Int) - 2 ^ 32

/-- Reads the fields of a descriptor. -/
def chainD (d : List Byte) : ChainD :=
  let f := dfield d 0x0C 4
  let r := dfield d 0x10 4
  let p2 := natBit (dfield d 2 2) 0
  { p2 := p2, m := dfield d 4 2 + 1, k1 := dfield d 6 2 + 1, l := dfield d 8 2 + 1
    n2 := dfield d 0x0A 1 + 1
    fa1 := natField f 0 4, f1 := natField f 4 4, fb1 := natField f 8 4, sfmt := natField f 12 4
    fp := natField f 16 4, fb2 := natField f 20 4, fo := natField f 24 4
    rfunc := natField r 0 3, ruse := natField r 3 3, rmask := natField r 6 2
    mstr := natField r 8 2, ostr := natField r 10 2, osen := natBit r 12, ract := natField r 13 3
    rscale := dfield d 0x14 4, eps := dfield d 0x18 4, moff := sx32 (dfield d 0x1C 4)
    seed := BitVec.ofNat 64 (dfield d 0x20 8)
    a1 := dfield d 0x28 4, a1s := dfield d 0x2C 4, b1 := dfield d 0x30 4, b1s := dfield d 0x34 4
    b2 := dfield d 0x38 4, b2s := dfield d 0x3C 4, ob := dfield d 0x40 4, osb := dfield d 0x44 4
    opitch := dfield d 0x48 4, const0 := dfield d 0x50 4, const1 := dfield d 0x54 4
    streams := (List.range 4).map (fun i =>
      let w0 := dfield d (0x58 + 8 * i) 4
      let w1 := dfield d (0x5C + 8 * i) 4
      { base := natField w0 0 22, fmt := natField w0 22 4, shape := natField w0 26 2
        dirOut := natBit w0 28, resv := natField w0 29 3 + natField w1 22 10
        pitch := natField w1 0 22 })
    pro := (List.range 4).map (fun i => dfield d (0x78 + i) 1)
    epi := (List.range 4).map (fun i => dfield d (0x7C + i) 1) }

/-- Output width: N2, or L without product 2 (R119). -/
def ChainD.w (c : ChainD) : Nat := if c.p2 then c.n2 else c.l

/-- OP of an operation byte. -/
def opOf (b : Nat) : Nat := b / 16
/-- IDX of an operation byte. -/
def opIdx (b : Nat) : Nat := b / 4 % 4

/-- Columns that a stream of SHAPE 2 or 3 spans in a list of operations over `cols`. -/
def streamCols (ops : List Nat) (i cols : Nat) : Nat :=
  if ops.any (fun b => (opOf b = 2 || opOf b = 3 || opOf b = 4) && opIdx b = i) then cols else 0

/-- Bytes of stream slot `i` as the chain uses it (R131). -/
def ChainD.streamLen (c : ChainD) (i : Nat) (s : StreamSlot) : Nat :=
  let e := outBytes s.fmt
  let cols := max (max (streamCols c.pro i c.k1) (streamCols c.epi i c.w))
    (if c.rmask ≥ 2 && c.mstr = i then c.l else 0)
  if (c.osen && c.ostr = i) || c.pro.any (fun b => opOf b = 9 && opIdx b = i) then 8 * c.m
  else match s.shape with
    | 1 => e * c.m
    | 2 => e * cols
    | 3 => if cols = 0 then 0 else s.pitch * (c.m - 1) + e * cols
    | _ => 0

/-- Streams with their numbers. -/
def ChainD.slots (c : ChainD) : List (Nat × StreamSlot) := (List.range 4).zip c.streams

/-- The chain reads stream slot `i`: an operation or the row stage's mask refers to it (R131, R133). -/
def ChainD.refersTo (c : ChainD) (i : Nat) : Bool :=
  (c.pro ++ c.epi).any (fun b => (opOf b = 2 || opOf b = 3 || opOf b = 4 || opOf b = 9) && opIdx b = i) ||
    (c.rmask ≥ 2 && c.mstr = i)

/-- Ranges of the streams that a chain reads (R125). -/
def ChainD.streamReads (c : ChainD) : List Rng :=
  (c.slots.filter (fun p => p.2.shape ≠ 0 && !p.2.dirOut && c.refersTo p.1)).map
    (fun p => (p.2.base, c.streamLen p.1 p.2))

/-- Read ranges of a chain (R125). -/
def ChainD.reads (c : ChainD) : List Rng :=
  panelRanges c.a1 c.a1s 1 c.m c.fa1 c.k1 ++ panelRanges c.b1 c.b1s 1 c.l c.fb1 c.k1 ++
    (if c.p2 then panelRanges c.b2 c.b2s 1 c.n2 c.fb2 c.l else []) ++ c.streamReads

/-- Bytes of one output row (R128). -/
def ChainD.rowBytes (c : ChainD) : Nat := (c.w * fmtBits c.fo + 7) / 8

/-- Write ranges of a chain (R125). -/
def ChainD.writes (c : ChainD) : List Rng :=
  (c.ob, c.opitch * (c.m - 1) + c.rowBytes) ::
    ((if isMx c.fo then [(c.osb, c.m * ((c.w + 31) / 32))] else []) ++
      (c.slots.filter (fun p => p.2.shape ≠ 0 && p.2.dirOut)).map
        (fun p => (p.2.base, c.streamLen p.1 p.2)))

/-! ### Ranges held (R81, R125, R254) -/

/-- Read ranges of a queue entry. -/
def MqEntry.reads (e : MqEntry) : List Rng :=
  match e.op with
  | .mma r => r.reads
  | .drain _ => []
  | .chain d _ => (chainD d).reads

/-- Write ranges of a queue entry. -/
def MqEntry.writes (e : MqEntry) : List Rng :=
  match e.op with
  | .mma _ => []
  | .drain r => [(r.ob, r.ext)]
  | .chain d _ => (chainD d).writes

/-- Operand ranges that tiles keep in checksum mode until their drain has passed (R81). -/
def Lantern.heldReads (l : Lantern) : List Rng :=
  if l.chk then
    l.arrs.flatMap (fun p =>
      (p.2.slots.map (·.2) ++ p.2.shadow.map (·.tile)).flatMap (fun t =>
        match t.req with
        | some r => r.reads
        | none => []))
  else []

/-- Local-store bytes that a loader iteration writes (R254). -/
def LoaderItem.lsWrites (i : LoaderItem) : List Rng :=
  if i.dirOut then []
  else if i.t then
    (List.range 32).map (fun c => (i.dst.toNat + c * i.y.toNat, 32 * i.sz))
  else [(i.dst.toNat, 256)]

/-- Local-store bytes that a loader iteration reads. -/
def LoaderItem.lsReads (i : LoaderItem) : List Rng := if i.dirOut then [(i.src.toNat, 256)] else []

/-- Device-memory bytes that a loader iteration writes. -/
def LoaderItem.dvWrites (i : LoaderItem) : List Rng := if i.dirOut then [(i.dst.toNat, 256)] else []

/-- Device-memory bytes that a loader iteration reads. -/
def LoaderItem.dvReads (i : LoaderItem) : List Rng :=
  if i.dirOut then []
  else if i.t then (List.range 32).map (fun r => (i.src.toNat + r * i.x.toNat, 32 * i.sz))
  else [(i.src.toNat, 256)]

/-- A range meets one of a list. -/
def meets (a len : Nat) (rs : List Rng) : Bool :=
  rs.any (fun r => r.2 ≠ 0 && len ≠ 0 && a < r.1 + r.2 && r.1 < a + len)

/-- A local-store access of the wick, the vector unit or the loader waits on the matrix unit
(R81). -/
def Lantern.mqBlocks (l : Lantern) (write : Bool) (a len : Nat) : Bool :=
  l.mq.any (fun e => meets a len e.writes || (write && meets a len e.reads)) ||
    (write && meets a len l.heldReads)

/-- A queued vector store whose write phase has not ended writes bytes of a range (R195). -/
def Lantern.vqStores (l : Lantern) (dv : Bool) (a len : Nat) : Bool :=
  l.vq.any (fun e => e.stores.any (fun r => r.1 = dv && meets a len [(r.2.1, r.2.2.length)]))

/-- A local-store access of the wick or the vector unit waits on matrix, loader or vector work. -/
def Lantern.lsBlocked (l : Lantern) (write : Bool) (a len : Nat) : Bool :=
  l.mqBlocks write a len || l.vqStores false a len ||
    l.lq.any (fun i => meets a len i.lsWrites || (write && meets a len i.lsReads))

/-- A device-memory access of the wick or the vector unit waits on loader or vector work (R195,
R254). -/
def Lantern.dvBlocked (l : Lantern) (write : Bool) (a len : Nat) : Bool :=
  l.vqStores true a len || l.lq.any (fun i => meets a len i.dvWrites || (write && meets a len i.dvReads))

/-- An access waits on queued work of its lantern. -/
def Lantern.blocked (l : Lantern) (dv write : Bool) (a len : Nat) : Bool :=
  if dv then l.dvBlocked write a len else l.lsBlocked write a len

/-! ### Local-store writes of an agent -/

/-- Writes local-store bytes; `bad` names the words that receive poison. A reservation on a
granule that is written ends (R258). -/
def Lantern.lsStoreP (l : Lantern) (a : Nat) (bs : List Byte) (bad : Nat → Bool) : Lantern :=
  let l := l.lsWriteP a bs bad
  match l.resv with
  | some (true, g) =>
    if bs.length ≠ 0 && a / 128 ≤ g && g ≤ (a + bs.length - 1) / 128 then { l with resv := none } else l
  | _ => l

/-- Writes good local-store bytes. -/
def Lantern.lsStore (l : Lantern) (a : Nat) (bs : List Byte) : Lantern :=
  l.lsStoreP a bs (fun _ => false)

end Sys2Proof.Machine
end

