-- ==== Sys2Proof/Machine/Cells.lean ====
section
/-!
DEFINITION. Cells.lean: what the cells of a matrix array compute: operand rows from local
store (R73 to R75), block sums and accumulator updates (R105 to R116), the tile that a share
forms (R79, R86, R88), checksum cells and the check of R92, and drain conversion (R41, R116).
-/

namespace Sys2Proof.Machine

open Sys2Proof

/-! ### Accumulator formats (R97) -/

/-- The accumulator carries an error term (R113). -/
def compAcc (fc : Nat) (comp : Bool) : Bool := fc = 0xE || (fc = 0 && comp)

/-- Banks of a tile. -/
def bankK (fc : Nat) (comp : Bool) : Nat :=
  if fc = 0 then (if comp then 4 else 2) else if fc = 0xE then 2 else 1

/-- Format code of the value of an accumulator element. -/
def accCode (fc : Nat) : Nat := if fc = 0xE then 1 else fc

/-- Bits of the value of an element, which are those of its error term too (R42, R97). -/
def accBits (fc : Nat) : Nat := if fc = 0 then 64 else 32

/-- Bits that an accumulator element of a format can hold in its 128-bit form. -/
def accMask (fc : Nat) (comp : Bool) : BitVec 128 :=
  BitVec.ofNat 128 (2 ^ (accBits fc * (if compAcc fc comp then 2 else 1)) - 1)

/-- Value of an element. -/
def accVal (fc : Nat) (x : BitVec 128) : FV := decodeCode (accCode fc) (natField x.toNat 0 (accBits fc))
/-- Error term of an element. -/
def accErr (fc : Nat) (x : BitVec 128) : FV :=
  decodeCode (accCode fc) (natField x.toNat (accBits fc) (accBits fc))
/-- An element from the bits of its value and its error term. -/
def accPack (fc v e : Nat) : BitVec 128 := BitVec.ofNat 128 (v + e * 2 ^ accBits fc)

/-! ### Operand rows -/

/-- Values of one row of a panel in blocks of 32, flushed under R62; a position at or past K
holds zero, and an MX element takes its scale (R45, R46, R73 to R75). -/
def Lantern.rowVals (l : Lantern) (code base sbase row k : Nat) : List (List FV) :=
  let bits := fmtBits code
  let v := leNat (l.lsRead (base + row * pitchOf code k) (pitchOf code k))
  (List.range (kpOf k / 32)).map (fun b =>
    let sc := (cellAt l.ls (sbase + row * (kpOf k / 32) + b)).toNat
    (List.range 32).map (fun j =>
      let i := 32 * b + j
      if i < k then
        let x := readOperand true code (natField v (i * bits) bits)
        if isMx code then scaled sc x else x
      else FV.zero))

/-- A row or its scales hold a poisoned word. -/
def Lantern.rowPoisoned (l : Lantern) (code base sbase row k : Nat) : Bool :=
  l.lsPoisoned (base + row * pitchOf code k) (pitchOf code k) ||
    (isMx code && l.lsPoisoned (sbase + row * (kpOf k / 32)) (kpOf k / 32))

/-! ### Blocks (R105 to R109, R114, R115) -/

/-- The formats whose block sums are exact (R106). -/
def exactBlocks (fa : Nat) : Bool := 3 ≤ fa

/-- The integer of an exact integer value. -/
def fvInt (x : FV) : Int :=
  match x with
  | .num n m e => if n then -((m * 2 ^ e.toNat : Nat) : Int) else ((m * 2 ^ e.toNat : Nat) : Int)
  | _ => 0

/-- The block sum, or the pair of R114. -/
def blockPair (fa c : Nat) (comp : Bool) (ps : List FV) : FV × FV :=
  if exactBlocks fa then
    let b := exactSum ps
    if comp then
      let t := rnd c b
      (t, rnd c (fvAdd .rne b t.negate).1)
    else (b, FV.zero)
  else if comp && !ps.any (fun p => p.isNan || p.isInf) then treePair c ps
  else (treeSum c ps, FV.zero)

/-- One accumulator addition. -/
def accStep (fa fc : Nat) (comp : Bool) (x : BitVec 128) (ps : List FV) : BitVec 128 :=
  if fc = 0xD then
    (BitVec.ofInt 32 ((x.setWidth 32).toNat + ps.foldl (fun z p => z + fvInt p) 0)).setWidth 128
  else
    let c := accCode fc
    let (t, cb) := blockPair fa c (compAcc fc comp) ps
    if compAcc fc comp then
      let (v, d) := twoSum c (accVal fc x) t
      let e := if v.isNan || v.isInf then 0 else (toFmt matCtx c (exactSum [accErr fc x, d, cb])).1
      accPack fc (toFmt matCtx c v).1 e
    else accPack fc (toFmt matCtx c (fvAdd .rne (accVal fc x) t).1).1 0

/-- A NaN that a cell meets: k step, GEN and the format code (R65, R69). -/
abbrev CellNan := Nat × Bool × Nat

/-- The first NaN among the products of block `b`. DESIGN CHOICE: of a NaN that a product of two formats
makes, the record shows the format of A (log 149). -/
def leafNan (fa fb b : Nat) (as bs : List FV) : Option CellNan :=
  ((as.zip bs).zip (List.range 32)).findSome? (fun p =>
    let (a, y) := p.1
    if a.isNan then some (32 * b + p.2, false, fa)
    else if y.isNan then some (32 * b + p.2, false, fb)
    else if (fvMul a y).1.isNan then some (32 * b + p.2, true, fa)
    else none)

/-- A value of the accumulator's format is NaN. -/
def accNan (fc : Nat) (x : BitVec 128) : Bool := fc ≠ 0xD && (accVal fc x).isNan

/-- A cell runs one row of A against one row of B from a start value (R105, R108). -/
def cellRun (fa fb fc : Nat) (comp : Bool) (as bs : List (List FV)) (x : BitVec 128) :
    BitVec 128 × Option CellNan :=
  ((as.zip bs).zip (List.range as.length)).foldl (fun acc p =>
    let (x, nan) := acc
    let (a, y) := p.1
    let ps := (a.zip y).map (fun q => (fvMul q.1 q.2).1)
    let x' := accStep fa fc comp x ps
    let nan := match nan with
      | some n => some n
      | none =>
        match leafNan fa fb p.2 a y with
        | some n => if p.2 = 0 && accNan fc x && (n.1 ≠ 0 || n.2.1) then some (0, false, fc) else some n
        | none =>
          if accNan fc x then some (32 * p.2, false, fc)
          else if accNan fc x' then some (32 * p.2, true, fc) else none
    (x', nan)) (x, none)

/-! ### Shares (R71, R86, R88) -/

/-- A panel of A of unit `q` of array `m`. -/
def aPanel (sh m q : Nat) : Nat :=
  if ganged sh then m / shapeNB sh else if sh = 5 then 4 * m + q else m
/-- A panel of B. -/
def bPanel (sh m q : Nat) : Nat :=
  if ganged sh then m % shapeNB sh else if sh = 5 then 4 * m + q else m
/-- Units of an array: four quadrants in S16. -/
def unitsOfShape (sh : Nat) : List Nat := if sh = 5 then [0, 1, 2, 3] else [0]

/-- Rows and columns of array `m` that lie below MLEN and NLEN. -/
def shareLim (sh mlen nlen meff neff m : Nat) : Nat × Nat :=
  if ganged sh then
    (min meff (mlen - m / shapeNB sh * meff), min neff (nlen - m % shapeNB sh * neff))
  else (mlen, nlen)

/-- Rows and columns that a multiply computes on array `m`. -/
def MmaReq.lim (r : MmaReq) (m : Nat) : Nat × Nat := shareLim r.shape r.mlen r.nlen r.meff r.neff m
/-- Rows and columns of a tile on array `m`. -/
def Tile.lim (t : Tile) (m : Nat) : Nat × Nat := shareLim t.shape t.mlen t.nlen t.meff t.neff m

/-- Rows of A, as values, of unit `q`. -/
def MmaReq.aRows (r : MmaReq) (l : Lantern) (m q : Nat) : List (List (List FV)) :=
  (List.range (r.lim m).1).map (fun i =>
    l.rowVals r.fa r.ab r.asb (aPanel r.shape m q * panelRows r.shape + i) r.k)
/-- Rows of B. -/
def MmaReq.bRows (r : MmaReq) (l : Lantern) (m q : Nat) : List (List (List FV)) :=
  (List.range (r.lim m).2).map (fun j =>
    l.rowVals r.fb r.bb r.bsb (bPanel r.shape m q * panelRows r.shape + j) r.k)

/-- The units of array `m` whose share reads a poisoned word (R390). -/
def MmaReq.poisoned (r : MmaReq) (l : Lantern) (m : Nat) : BitVec 4 :=
  (unitsOfShape r.shape).foldl (fun v q => bitSet v q (
    (List.range (r.lim m).1).any (fun i =>
      l.rowPoisoned r.fa r.ab r.asb (aPanel r.shape m q * panelRows r.shape + i) r.k) ||
    (List.range (r.lim m).2).any (fun j =>
      l.rowPoisoned r.fb r.bb r.bsb (bPanel r.shape m q * panelRows r.shape + j) r.k))) 0

/-- The record of a tile after a multiply adds to it or replaces it (R79, R99). -/
def MmaReq.joined (r : MmaReq) (old : Option Tile) : Tile :=
  match if r.acc then old else none with
  | some t => { t with mlen := max t.mlen r.mlen, nlen := max t.nlen r.nlen }
  | none => { shape := r.shape, fc := r.fc, comp := r.comp, mlen := r.mlen, nlen := r.nlen
              meff := r.meff, neff := r.neff, fa := r.fa, fb := r.fb
              req := if r.meff = 31 then some r else none }

/-! ### Columns (R88, R89, R91) -/

/-- Physical columns that carry results, in ascending order. -/
def Arr.healthy (a : Arr) : List Nat :=
  (List.range 32).filter (fun c =>
    !((1 ≤ a.nbyp && c = a.byp0.toNat) || (2 ≤ a.nbyp && c = a.byp1.toNat)))

/-- What the disturbances flip in the element at logical row and column of a whole array;
column 32 and row 32 stand for the checksum cells. -/
def flipsAt (a : Arr) (chk : Bool) (ups : List CellUpset) (row col : Nat) : BitVec 128 :=
  let pr := if row = 32 then 31 else row
  let pc := if col = 32 then a.healthy.getLast? else
    if chk then a.healthy.dropLast[col]? else a.healthy[col]?
  ups.foldl (fun x u => if u.row = pr && some u.col = pc then x ^^^ u.flip else x) 0

/-! ### Checksum operands (R91) -/

/-- 2^−5 times a value. -/
def div32 (x : FV) : FV :=
  match x with
  | .num n m e => .num n m (e - 5)
  | v => v

/-- The sum of the rows at each k. -/
def sumRows (k : Nat) (rows : List (List (List FV))) : List (List FV) :=
  (List.range (kpOf k / 32)).map (fun b =>
    (List.range 32).map (fun j => exactSum (rows.map (fun r => (r.getD b []).getD j FV.zero))))

/-- Checksum operand formed from the useful rows of an operand of a format. -/
def checkRow (code k : Nat) (rows : List (List (List FV))) : List (List FV) :=
  let sums := sumRows k rows
  if code = 0xB then
    sums.map (fun b => b.map (fun x => decodeCode 0xB (BitVec.ofInt 8 (fvInt x)).toNat))
  else if isMx code then
    (sums.zip (List.range sums.length)).map (fun p =>
      let (sc, els) := quantize code (p.1.map (fun x => (div32 x, RMode.rne)))
      (els.zip (List.range 32)).map (fun q =>
        if 32 * p.2 + q.2 < k then scaled sc (readOperand true code q.1.1) else FV.zero))
  else sums.map (fun b => b.map (fun x => readOperand true code (toFmt matCtx code (div32 x)).1))

/-! ### The share as a whole -/

/-- A NaN of a share: quadrant, k step, row, column, GEN, format. -/
structure ShareNan where
  quad : Nat
  k : Nat
  row : Nat
  col : Nat
  gen : Bool
  fmt : Nat
  deriving DecidableEq, Repr

/-- R68 places one NaN before another within one array. -/
def ShareNan.before (x y : ShareNan) : Bool :=
  x.quad < y.quad || (x.quad = y.quad && (x.k < y.k || (x.k = y.k &&
    (x.row < y.row || (x.row = y.row && x.col < y.col)))))

/-- The first of a list of NaNs. -/
def firstNan (xs : List ShareNan) : Option ShareNan :=
  xs.foldl (fun a x => match a with
    | none => some x
    | some y => if x.before y then some x else some y) none

/-- Elements of unit `q` that a share computes on array `m` with the columns of `a`: key, new
value and NaN. -/
def MmaReq.unit (r : MmaReq) (l : Lantern) (a : Arr) (m q : Nat) (ups : List CellUpset)
    (old : Tab (BitVec 128)) : List (Nat × BitVec 128 × Option ShareNan) :=
  let bs := r.bRows l m q
  ((r.aRows l m q).zip (List.range 32)).flatMap (fun pa =>
    (bs.zip (List.range 32)).map (fun pb =>
      let key := 1024 * q + 32 * pa.2 + pb.2
      let (x, nan) := cellRun r.fa r.fb r.fc r.comp pa.1 pb.1 (old.getD key 0)
      let (row, col) := if r.shape = 5 then (16 * (q / 2) + pa.2, 16 * (q % 2) + pb.2) else (pa.2, pb.2)
      let x := x ^^^ (flipsAt a (r.meff = 31) ups row col &&& accMask r.fc r.comp)
      (key, x, nan.map (fun n => { quad := q, k := n.1, row := pa.2, col := pb.2, gen := n.2.1, fmt := n.2.2 }))))

/-- The checksum column and the checksum row of a tile of these operand rows (R91). -/
def chkTabs (fa fb fc : Nat) (comp : Bool) (k : Nat) (a : Arr) (ups : List CellUpset)
    (as bs : List (List (List FV))) : Tab (BitVec 128) × Tab (BitVec 128) :=
  let cell (x y : List (List FV)) (row col : Nat) : BitVec 128 :=
    (cellRun fa fb fc comp x y 0).1 ^^^ (flipsAt a true ups row col &&& accMask fc comp)
  let ca := checkRow fa k as
  let cb := checkRow fb k bs
  ((as.zip (List.range 32)).map (fun p => (p.2, cell p.1 cb p.2 32)),
   (bs.zip (List.range 32)).map (fun p => (p.2, cell ca p.1 32 p.2)))

/-- Runs the share of a multiply that belongs to array `m`, on an array `a`: the tile that it
leaves and its first NaN. -/
def MmaReq.run (r : MmaReq) (l : Lantern) (a : Arr) (m : Nat) (ups : List CellUpset)
    (old : Option Tile) : Tile × Option ShareNan :=
  let t := r.joined old
  let cells := (unitsOfShape r.shape).flatMap (fun q => r.unit l a m q ups t.elems)
  let elems := cells.foldl (fun e c => Tab.putD e c.1 c.2.1 0) t.elems
  let (rowChk, colChk) := if r.meff = 31 then
      chkTabs r.fa r.fb r.fc r.comp r.k a ups (r.aRows l m 0) (r.bRows l m 0) else ([], [])
  ({ t with elems := elems, rowChk := rowChk, colChk := colChk, deferred := false
            poison := t.poison ||| r.poisoned l m },
   firstNan (cells.filterMap (fun c => c.2.2)))

/-! ### The check of R92 -/

/-- τ is 2 to minus this power. -/
def tauExp (code : Nat) : Nat :=
  match code with
  | 0xA => 1
  | 0x5 => 2 | 0x7 => 2 | 0x8 => 2
  | 0x4 => 3 | 0x6 => 3 | 0x9 => 3 | 0xC => 3
  | 0x2 => 7 | 0x3 => 10 | 0x1 => 20 | _ => 48

/-- A finite value in units of 2^−1200, of which every accumulator value is a multiple. -/
def fixed (x : FV) : Int :=
  match x with
  | .num n m e =>
    let v : Int := (m * 2 ^ (e + 1200).toNat : Nat)
    if n then -v else v
  | _ => 0

/-- Value of a cell with its error term, exactly. -/
def cellValue (t : Tile) (x : BitVec 128) : Int :=
  fixed (accVal t.fc x) + (if compAcc t.fc t.comp then fixed (accErr t.fc x) else 0)

/-- A row or column of elements mismatches its checksum element. -/
def lineBad (t : Tile) (xs : List (BitVec 128)) (h : BitVec 128) : Bool :=
  if t.fc = 0xD then
    (xs.foldl (fun z x => z + (x.setWidth 32).toNat) 0) % 256 ≠ h.toNat % 256
  else if (h :: xs).any (fun x => (accVal t.fc x).isNan || (accVal t.fc x).isInf) then false
  else
    let k := min (tauExp t.fa) (tauExp t.fb)
    let hv := cellValue t h
    let sum := xs.foldl (fun z x => z + cellValue t x) 0
    let mag : Nat := xs.foldl (fun z x => z + (cellValue t x).natAbs) 0
    let z := 2 ^ (1200 - (if t.fc = 0 then 1022 else 126))
    (sum - 32 * hv).natAbs * 2 ^ k > mag + 32 * hv.natAbs + 32 * z * 2 ^ k

/-- Rows and columns of a tile that mismatch. -/
def Tile.mismatches (t : Tile) (m : Nat) : List Nat × List Nat :=
  let (rows, cols) := t.lim m
  let el (i j : Nat) : BitVec 128 := t.elems.getD (32 * i + j) 0
  ((List.range rows).filter (fun i =>
      lineBad t ((List.range cols).map (fun j => el i j)) (t.rowChk.getD i 0)),
   (List.range cols).filter (fun j =>
      lineBad t ((List.range rows).map (fun i => el i j)) (t.colChk.getD j 0)))

/-- The tile passes the check (R92); an uncorrectable accumulator read counts as a mismatch (R392). -/
def Tile.passes (t : Tile) (m : Nat) : Bool :=
  !t.afe && (t.mismatches m).1.isEmpty && (t.mismatches m).2.isEmpty

/-! ### Drain conversion -/

/-- An accumulator element converted to an output format (R41, R56, R116), and GEN of a NaN
that it meets. -/
def drainElem (t : Tile) (fo : Nat) (e4nan : Bool) (x : BitVec 128) : Nat × Option Bool :=
  if t.fc = 0xD then
    ((toCode matCtx fo (decodeCode 0xD (x.setWidth 32).toNat)).1, none)
  else
    let c := accCode t.fc
    let v := accVal t.fc x
    let r := if compAcc t.fc t.comp && !v.isNan && !v.isInf then
        rnd c (exactSum [v, accErr t.fc x]) else v
    let b := (toFmt { matCtx with e4nan := e4nan && fo = 4 } fo r).1
    (b, if v.isNan then some false else if (decodeCode fo b).isNan then some true else none)

/-- Output row of row `i` of unit `q` of array `m` (R87, R88). -/
def outRow (sh meff m q i : Nat) : Nat :=
  if ganged sh then m / shapeNB sh * meff + i else if sh = 5 then 16 * (4 * m + q) + i else 32 * m + i
/-- Output column of column `j`. -/
def outCol (sh neff m j : Nat) : Nat := if ganged sh then m % shapeNB sh * neff + j else j

/-- The elements of unit `q` that a drain writes: local-store address, bytes and NaN. -/
def DrainReq.outputs (d : DrainReq) (t : Tile) (m q : Nat) :
    List (Nat × List Byte × Option ShareNan) :=
  let (rows, cols) := t.lim m
  let es := outBytes d.fo
  (List.range rows).flatMap (fun i =>
    (List.range cols).filterMap (fun j =>
      let c := outCol t.shape t.neff m j
      if d.pred.getLsbD c then
        let (b, nan) := drainElem t d.fo d.e4nan (t.elems.getD (1024 * q + 32 * i + j) 0)
        some (d.ob + outRow t.shape t.meff m q i * d.pitch + c * es, leBytes es b,
          nan.map (fun g => { quad := q, k := 0xFFFFFFFF, row := i, col := j, gen := g
                              fmt := if g then d.fo else t.fc }))
      else none))

end Sys2Proof.Machine
end

