-- ==== Sys2Proof/Machine/Elem.lean ====
section
/-!
DEFINITION. Elem.lean: the elementwise functions of R134 and R181. Their exact values are enclosed in fixed point
far below an ulp; the bits of a result are the maker's algorithm, held to the 2 ulp of R134.
-/

namespace Sys2Proof.Machine

open Sys2Proof

/-! ### Exact values, in units of 2^-400 -/

/-- One. -/
def fixOne : Int := 2 ^ 400

/-- ln 2. -/
def fixLn2 : Int :=
  1789879222497203190815761498240779176894896805856420935579692301363062920687047601279850318367644315849030039181347319086

/-- Terms `k` and up of the series of exp, of which `t` is the first. -/
def expTerms (r : Int) : Nat → Nat → Int → Int
  | 0, _, _ => 0
  | n + 1, k, t => t + expTerms r n (k + 1) (t * r / fixOne / (k + 1))

/-- exp of a value of at most a few hundred, to about 2^-240 of itself: 2^n times the series of the rest. -/
def fixExp (y : Int) : Int :=
  let n := y / fixLn2
  let s := expTerms (y - n * fixLn2) 90 0 fixOne
  if 0 ≤ n then s * 2 ^ n.toNat else s / 2 ^ (-n).toNat

/-- 1 / (1 + exp(-y)). Beyond 400 it is 0 or 1 to within a unit. -/
def fixLogi (y : Int) : Int :=
  fixOne * fixOne / (fixOne + fixExp (-(max (-400 * fixOne) (min (400 * fixOne) y))))

/-- An interval that holds the exact value which `v` approximates; `x` is the operand by which an error of
`v` has been multiplied. -/
def around (v x : Int) : Int × Int :=
  let d : Int := (v.natAbs / 2 ^ 230 : Nat) + 16 + 4 * (x.natAbs / 2 ^ 400 : Nat)
  (v - d, v + d)

/-- A quotient or a root that may be exact. -/
def fixDown (v : Int) (exact : Bool) : Int × Int := (v, if exact then v else v + 1)

/-- An interval far narrower than an ulp that holds the exact value at the finite operand `x` of VEXP, VRECIP,
VRSQRT, VLOGI, VGELU or VSILU (R181). -/
def elemReal (f : ElemFun) (x : Int) : Int × Int :=
  match f with
  | .exp => around (fixExp x) 0
  | .recip => fixDown (fixOne * fixOne / x) (decide (fixOne * fixOne % x = 0))
  | .rsqrt =>
    let d := fixOne * fixOne * fixOne / x
    let r : Int := isqrt d.toNat
    fixDown r (decide (fixOne * fixOne * fixOne % x = 0) && decide (r * r = d))
  | .logi => around (fixLogi x) 0
  | .gelu =>
    let cube := x * x * x / (fixOne * fixOne)
    let y := 2 * 7978846 * (x + 44715 * cube / 1000000) / 10000000
    around (x * fixLogi y / fixOne) x
  | .silu => around (x * fixLogi x / fixOne) x

/-! ### Results -/

/-- The ulp of FP32 at an exact value. -/
def ulpAt (v : Int) : Int := 2 ^ (max ((Nat.log2 v.natAbs : Int) - 400) (-126) + 377).toNat

/-- A finite FP32 value; an infinity stands for 2^128. -/
def fixOf (c : FV) : Option Int :=
  match c with
  | .nan _ => none
  | .inf neg => some (if neg then -(2 ^ 528) else 2 ^ 528)
  | .num neg m e =>
    let v : Int := m * 2 ^ (e + 400).toNat
    some (if neg then -v else v)

/-- A result lies within 2 ulp of the exact value that an interval holds (R134). -/
def nearReal (v : Int × Int) (c : FV) : Bool :=
  match fixOf c with
  | none => false
  | some c => decide (v.2 - 2 * ulpAt v.1 ≤ c) && decide (c ≤ v.1 + 2 * ulpAt v.1)

/-- The correctly rounded result. -/
def roundReal (ctx : FCtx) (v : Int × Int) : Nat :=
  let exact := decide (v.1 = v.2)
  let m := if exact then 2 * v.1.natAbs else 2 * v.1.natAbs + 1
  (toFmt { ctx with flush := false } 1 (.num (decide (v.1 < 0)) m (-401))).1

/-- The number of a function in `Config.elemFun`. -/
def elemCode (f : ElemFun) : Nat :=
  match f with
  | .exp => 0 | .recip => 1 | .rsqrt => 2 | .logi => 3 | .gelu => 4 | .silu => 5

/-- The number of a rounding mode. -/
def RMode.code (m : RMode) : Nat :=
  match m with
  | .rne => 0 | .rtz => 1 | .rdn => 2 | .rup => 3 | .sr _ => 0

/-- Infinity in FP32. -/
def inf32 (neg : Bool) : Nat := if neg then 0xFF800000 else 0x7F800000

/-- A zero in FP32. -/
def zero32 (neg : Bool) : Nat := if neg then 0x80000000 else 0

/-- The bits that the fixed algorithm of R181 gives: the spec bounds them by 2 ulp and does not give them (log
22). -/
def elemBits (f : ElemFun) (ctx : FCtx) (a : Nat) (v : Int × Int) : Nat :=
  let r := (Config.elemFun (elemCode f + 8 * ctx.mode.code) (BitVec.ofNat 32 a)).toNat
  if nearReal v (decodeCode 1 r) then r else roundReal ctx v

/-- A result for an exact value other than 0: subnormal results are flushed under FTZ, a finite non-zero result
is inexact, and an infinite one has overflowed (R181, R193). -/
def elemOpen (f : ElemFun) (ctx : FCtx) (a : Nat) (v : Int × Int) : Nat × Exc :=
  let r := elemBits f ctx a v
  match decodeCode 1 r with
  | .num neg m e =>
    if m = 0 then (r, Exc.unf)
    else if leadExp m e < -126 then (if ctx.flush then zero32 neg else r, Exc.unf)
    else (r, Exc.nx)
  | .nan _ => (canonNan 1, 0)
  | .inf _ => (r, Exc.ovf)

/-- The functions at an infinity (R43, R134, R181). x / (1 + exp(-x)) has no value at minus infinity, and the spec
states none: the bits are free there. -/
def elemInf (f : ElemFun) (ctx : FCtx) (neg : Bool) : Nat × Exc :=
  match f with
  | .exp => if neg then (0, 0) else (inf32 false, Exc.ovf)
  | .recip => (zero32 neg, 0)
  | .rsqrt => if neg then (canonNan 1, Exc.invalid) else (0, 0)
  | .logi => if neg then (0, 0) else elemOpen f ctx (inf32 false) (fixOne, fixOne)
  | .gelu | .silu =>
    if neg then ((Config.elemFun (elemCode f + 8 * ctx.mode.code) (BitVec.ofNat 32 (inf32 true))).toNat, 0)
    else (inf32 false, 0)

/-- A finite FP32 operand in units of 2^-400. -/
def fixArg (neg : Bool) (m : Nat) (e : Int) : Int :=
  let v : Int := m * 2 ^ (e + 400).toNat
  if neg then -v else v

/-- The functions at a finite operand. -/
def elemNum (f : ElemFun) (ctx : FCtx) (a : Nat) (neg : Bool) (m : Nat) (e : Int) : Nat × Exc :=
  let x := fixArg neg m e
  match f with
  | .exp =>
    if m = 0 then (0x3F800000, 0)
    else if 8872284 * fixOne < 100000 * x then (inf32 false, Exc.ovf)
    else if x < -104 * fixOne then (0, Exc.unf)
    else elemOpen f ctx a (elemReal f x)
  | .recip => if m = 0 then (inf32 neg, Exc.dz) else elemOpen f ctx a (elemReal f x)
  | .rsqrt =>
    if m = 0 then (inf32 neg, Exc.dz)
    else if neg then (canonNan 1, Exc.invalid)
    else elemOpen f ctx a (elemReal f x)
  | .logi => elemOpen f ctx a (elemReal f x)
  | .gelu | .silu => if m = 0 then (zero32 neg, 0) else elemOpen f ctx a (elemReal f x)

/-- An elementwise function of an FP32 operand: the special results of R181 and R134. -/
def elemOp (f : ElemFun) (ctx : FCtx) (a0 : Nat) : Nat × Exc :=
  match rdElem ctx 1 a0 with
  | .nan sg => (canonNan 1, if sg then Exc.invalid else 0)
  | .inf neg => elemInf f ctx neg
  | .num neg m e => elemNum f ctx (if m = 0 then zero32 neg else a0) neg m e

end Sys2Proof.Machine
end

