-- ==== Sys2Proof/Machine/Operands.lean ====
section
/-!
DEFINITION. Operands.lean: how a wick instruction runs to completion, an event or a wait
(R207, R221, R243, R266), the addressing modes and register codes (R203 to R205), and
scalar loads and stores with their checks, splits and store-buffer rules (R200 to R202,
R215 to R221).
-/

namespace Sys2Proof

/-- Length of a base or customer instruction (R225). -/
def BaseWord.len (w : BaseWord) : Nat := if w.am = 7 then 8 else 4

end Sys2Proof

namespace Sys2Proof.Machine

open Sys2Proof

/-! ### Running an instruction -/

/-- Why an instruction does not complete: an event that it raises itself, or a wait. Both
carry the state in which a page that it touched first, or a fetch that it started, stays. -/
inductive Abort where
  | trap (s : State) (cause : Nat) (saddr : Dword) (selem : Nat)
  | wait (s : State) (w : Wait)
  deriving DecidableEq, Repr

/-- A result, or why there is none. -/
abbrev Run (α : Type) := Except Abort α

/-- An event is present that the wick takes at a boundary (R269). -/
def State.eventDue (s : State) (n : Nat) : Bool :=
  let l := s.lan n
  l.defRf.isSome || l.defNan || l.defFx.isSome || (l.cl = 0 && l.async.isSome)

/-- The wick enters an event before it goes on: one is present, and the handler of the last entry has run
its first instruction (R268 to R270). -/
def State.entryDue (s : State) (n : Nat) : Bool := !(s.lan n).entered && s.eventDue n

/-- The wick runs a kernel and stands before the memory stage of the instruction at its PC: no EWAIT,
message answer or repeated block instruction holds it, and no event comes first. An instruction that
waits in that stage has passed its boundary. -/
def State.wickAt (s : State) (n : Nat) : Bool :=
  let l := s.lan n
  s.lanOn n && l.run = .running && !l.halt.halted && l.rep.isNone &&
    (match l.wait with
      | .none => !s.entryDue n
      | .page _ _ _ _ => !s.entryDue n
      | .fence => !s.entryDue n
      | .drain => true
      | .event _ _ => false
      | .answer => false)

/-- Fetch delivers the instruction word at an address: its page is mapped, and the word is cached or not
poisoned (R211). -/
def State.fetchOk (s : State) (n va : Nat) : Bool :=
  !s.fetchBad va && ((s.lan n).lineBuf.contains (va / 128) || (s.lan n).icHas (va / 128) ||
    (s.dvPoison? va 4).isNone)

/-- The wick can begin the instruction at its PC. -/
def State.wickReady (s : State) (n : Nat) : Bool := s.wickAt n && s.fetchOk n (s.lan n).wick.pc.toNat

/-- The wick can begin the instruction of `len` bytes at its PC: every word of it is delivered. -/
def State.wickCan (s : State) (n len : Nat) : Bool :=
  s.wickReady n && (len ≤ 4 || s.fetchOk n ((s.lan n).wick.pc.toNat + 4))

/-- WORK counts an instruction issued (R21). -/
def State.issued (s : State) (n : Nat) : State := s.modLan n (fun l => { l with work := l.work + 1 })

/-- What an instruction that does not complete leaves: the entry into its event with SPC
naming itself (R266), or the wait. EWAIT and MSEND count as issued when they park. -/
def Abort.land (n : Nat) : Abort → State
  | .trap s cause saddr selem =>
    (s.issued n).takeEvent n cause (s.lan n).wick.pc saddr selem 0
  | .wait s w =>
    (match w with
      | .event _ _ => s.issued n
      | .answer => s.issued n
      | _ => s).modLan n (fun l => { l with wait := w })

/-- Runs an instruction of `len` bytes under COND (R207, R228): a false condition only
completes it. -/
def State.runWick (s : State) (n len : Nat) (cond : BitVec 4) (body : State → Run State) : Out :=
  if s.wickCan n len then
    if condTrue cond (s.lan n).wick.flags then
      .next (match body s with
        | .ok t => t.issued n
        | .error a => a.land n)
    else .next ((s.issued n).complete n len)
  else .next s

/-- Raises an event whose SADDR is the instruction's own address (causes 0x21 and 0x22). -/
def State.illegal {α : Type} (s : State) (n cause : Nat) : Run α :=
  .error (.trap s cause (s.lan n).wick.pc 0)

/-- Continues where a check holds and raises an illegal-instruction event otherwise. -/
def State.need (s : State) (n : Nat) (ok : Bool) : Run Unit :=
  if ok then .ok () else s.illegal n 0x21

/-! ### Registers by code (R204) -/

/-- The full value of an F register (R159). -/
def Lantern.fReg (l : Lantern) (i : Nat) : Dword := (l.v.getD i 0).setWidth 64

/-- A scalar write to Fn: bits [63:0] of Vn (R159). -/
def Lantern.setF (l : Lantern) (i : Nat) (v : Dword) : Lantern :=
  let old := l.v.getD i 0
  { l with v := l.v.putD i ((old >>> 64) <<< 64 ||| v.setWidth 65536) 0 }

/-- Reads the register that a mode 6 code names. -/
def State.readReg (s : State) (n code : Nat) : Run Dword :=
  let l := s.lan n
  let k := l.wick
  if code ≥ 64 then s.illegal n 0x21
  else if code ≥ 32 then .ok (l.fReg (code - 32))
  else match code with
    | 0x00 => .ok k.a
    | 0x01 => .ok k.x
    | 0x02 => .ok k.y
    | 0x03 => .ok k.sp
    | 0x04 => .ok k.ssp
    | 0x05 => .ok (k.flags.setWidth 64)
    | 0x06 => .ok (k.mode.setWidth 64)
    | 0x07 => .ok k.cnt
    | 0x08 => .ok k.src
    | 0x09 => .ok k.dst
    | 0x0A => .ok k.lcnt
    | 0x0B => .ok k.lbeg
    | 0x0C => .ok k.lend
    | 0x0D => .ok (BitVec.ofNat 64 k.vl)
    | 0x0E => .ok (k.vew.setWidth 64)
    | 0x0F => if k.sup then .ok k.sstk else s.illegal n 0x22
    | _ => s.illegal n 0x21

/-- MODE after a write: SUP and the reserved bits do not change (R199, R264). -/
def modeWrite (old : Word) (v : Dword) : Word :=
  (old &&& 0x80000000#32) ||| (v.setWidth 32 &&& 0x3FFF#32)

/-- Writes the register that a mode 6 code names. -/
def State.writeReg (s : State) (n code : Nat) (v : Dword) : Run State :=
  let l := s.lan n
  let k := l.wick
  let put (k : Wick) : Run State := .ok (s.setLan n { l with wick := k })
  if code ≥ 64 then s.illegal n 0x21
  else if code ≥ 32 then .ok (s.setLan n (l.setF (code - 32) v))
  else match code with
    | 0x00 => put { k with a := v }
    | 0x01 => put { k with x := v }
    | 0x02 => put { k with y := v }
    | 0x03 => put { k with sp := v }
    | 0x04 => if k.sup then put { k with ssp := v } else s.illegal n 0x22
    | 0x05 => put { k with flags := v.setWidth 4 }
    | 0x06 => .ok (s.setLan n { l.keepFx 0x1F with wick := { k with mode := modeWrite k.mode v } })
    | 0x07 => put { k with cnt := v }
    | 0x08 => put { k with src := v }
    | 0x09 => put { k with dst := v }
    | 0x0A => put { k with lcnt := v }
    | 0x0B => put { k with lbeg := v }
    | 0x0C => put { k with lend := v }
    | 0x0F => if k.sup then put { k with sstk := v &&& ~~~31#64 } else s.illegal n 0x22
    | _ => s.illegal n 0x21

/-! ### Addressing modes (R203, R205) -/

/-- An operand: an immediate, a memory address (`true` for DV) or a register code. -/
inductive Operand where
  | imm
  | mem (dv : Bool) (a : Dword)
  | reg (code : Nat)
  deriving DecidableEq, Repr

/-- The effective address of mode 7 (R205). -/
def extAddr (k : Wick) (disp : Half) (ext : Word) : Dword :=
  let base : Dword :=
    match natField ext.toNat 28 2 with
    | 0 => 0
    | 1 => k.x
    | 2 => k.y
    | _ => k.sp
  let idx : Dword := if ext.getLsbD 27 then k.y <<< natField ext.toNat 25 2 else 0
  let d : BitVec 41 := (ext.setWidth 25).append disp
  base + idx + d.signExtend 64

/-- The operand that AM selects; none where the extension word's SPACE is illegal. -/
def operandOf (k : Wick) (w : BaseWord) : Option Operand :=
  let d := w.imm.signExtend 64
  match w.am.toNat with
  | 0 => some .imm
  | 1 => some (.mem false (w.imm.setWidth 64))
  | 2 => some (.mem false (k.x + d))
  | 3 => some (.mem false (k.y + d))
  | 4 => some (.mem true (k.x + d))
  | 5 => some (.mem true (k.y + d))
  | 6 => some (.reg w.imm.toNat)
  | _ =>
    match natField w.ext.toNat 30 2 with
    | 0 => some (.mem false (extAddr k w.imm w.ext))
    | 1 => some (.mem true (extAddr k w.imm w.ext))
    | _ => none

/-! ### Checks of a scalar access (R200 to R202, R218, R219) -/

/-- The parts of an access: two halves where it crosses a 128-byte boundary (R218). -/
def halves (a : Dword) (len : Nat) : List (Dword × Nat) :=
  let k := 128 - a.toNat % 128
  if len ≤ k then [(a, len)] else [(a, k), (a + BitVec.ofNat 64 k, len - k)]

/-- First byte of the guard (R202). -/
def Lantern.guardLo (l : Lantern) : Nat := l.lsguard.toNat * 65536

/-- A part of an access of `whole` bytes fails a check of R200 to R202, or its page lies in
no allocation. `reg` says whether the REG window may be reached at all. -/
def State.partBad (s : State) (n : Nat) (dv reg : Bool) (a : Dword) (len whole : Nat) : Bool :=
  let l := s.lan n
  let v := a.toNat
  if dv then
    v ≥ dvEnd ||
      (if inReg v then !(reg && l.wick.sup && whole = 4 && v % 4 = 0)
       else vpnOf v = 0 || (match s.pte? (vpnOf v) with
        | some e => !e.v
        | none => true))
  else v ≥ lsSize || (!l.wick.sup && v + len > l.guardLo)

/-- Checks every part before any is touched (R219). -/
def State.checkParts (s : State) (n : Nat) (dv reg : Bool) (a : Dword) (len : Nat) : Run Unit :=
  match (halves a len).find? (fun p => s.partBad n dv reg p.1 p.2 len) with
  | some p => .error (.trap s 0x11 p.1 0)
  | none => .ok ()

/-- Touches the page of every part of a DV access; a page that is not there stalls the
instruction, and is held for it where the access is split (R221). -/
def State.touchEach (s : State) (n : Nat) (write hold : Bool) : List (Dword × Nat) → Run State
  | [] => .ok s
  | (a, _) :: t =>
    match s.touch (.wick n) a.toNat write with
    | (s, .ok _) => s.touchEach n write hold t
    | (s, .unmapped) => .error (.trap s 0x11 a 0)
    | (s, .stall) => .error (.wait s (.page (vpnOf a.toNat) (subOf a.toNat) write hold))

/-- The pages that were held for lantern `n` are pinned, or used, by its instruction (R173). -/
def State.unhold (s : State) (n : Nat) (vpns : List Nat) : State :=
  { s with cirrus := { s.cirrus with
      holds := s.cirrus.holds.filter (fun h => !(h.2 = n && vpns.contains h.1)) } }

/-- Touches the parts of a scalar access; the holds of R173 end with it. -/
def State.touchParts (s : State) (n : Nat) (write : Bool) (ps : List (Dword × Nat)) : Run State :=
  match s.touchEach n write (ps.length = 2) ps with
  | .ok s => .ok (s.unhold n (ps.map (fun p => vpnOf p.1.toNat)))
  | .error e => .error e

/-! ### The store buffer (R215, R216) -/

/-- Two byte ranges share a byte. -/
def overlap (a la b lb : Nat) : Bool := a < b + lb && b < a + la

/-- The youngest buffered store that overlaps a range of a space. -/
def youngest (sb : List SbEntry) (ls : Bool) (a len : Nat) : Option SbEntry :=
  sb.reverse.find? (fun e => e.ls = ls && overlap e.addr e.bytes.length a len)

/-- A poisoned read: the record POISON_CONSUMED of R391 for a DV address. -/
def State.poisonDv (s : State) (n va : Nat) : State :=
  s.record { src := readyLan n, cls := clsUe, code := 0x0202, va := true, lockind := 1
             devaddr := va, loc := locOfPa (s.vaPa va), aux := n }
/-- The record POISON_CONSUMED of R391 for a local-store address. -/
def State.poisonLs (s : State) (n a : Nat) : State :=
  s.record { src := readyLan n, cls := clsUe, code := 0x0202, lockind := 4
             loc := s.locSram n 0 (lsBank a) (lsRow a), aux := n }

/-- Raises cause 0x41 for a poisoned address. -/
def State.poisoned {α : Type} (s : State) (n : Nat) (dv : Bool) (a : Dword) (selem : Nat) : Run α :=
  .error (.trap (if dv then s.poisonDv n a.toNat else s.poisonLs n a.toNat) 0x41 a selem)

/-! ### Loads and stores -/

/-- A part reads poisoned data. -/
def State.partPoisoned (s : State) (n : Nat) (dv : Bool) (p : Dword × Nat) : Bool :=
  if dv then (s.dvPoison? p.1.toNat p.2).isSome else (s.lan n).lsPoisoned p.1.toNat p.2

/-- Bytes of a part. -/
def State.partBytes (s : State) (n : Nat) (dv : Bool) (p : Dword × Nat) : List Byte :=
  if dv then s.dvRead p.1.toNat p.2 else (s.lan n).lsRead p.1.toNat p.2

/-- The checks and the touches of a scalar access, in the order of R219. -/
def State.reach (s : State) (n : Nat) (dv reg write : Bool) (a : Dword) (len : Nat) : Run State :=
  match s.checkParts n dv reg a len with
  | .error e => .error e
  | .ok _ => if dv && !inReg a.toNat then s.touchParts n write (halves a len) else .ok s

/-- Reads memory past the store buffer, with the poison check of R219 and the L1 of R325. -/
def State.readPort (s : State) (n : Nat) (dv : Bool) (a : Dword) (len : Nat) :
    Run (List Byte × State) :=
  let ps := halves a len
  match ps.find? (s.partPoisoned n dv) with
  | some p => s.poisoned n dv p.1 0
  | none =>
    .ok (ps.flatMap (s.partBytes n dv),
      if dv then ps.foldl (fun s p => s.l1Load n (s.vaPa p.1.toNat)) s else s)

/-- A load of memory that has been reached: forwarded from the youngest overlapping buffered
store, or read through the port (R81, R195, R216). -/
def State.readBuffered (s : State) (n : Nat) (dv : Bool) (a : Dword) (len : Nat) :
    Run (List Byte × State) :=
  let l := s.lan n
  if l.blocked dv false a.toNat len then .error (.wait s .drain)
  else match youngest l.sb (!dv) a.toNat len with
    | none => s.readPort n dv a len
    | some e =>
      if e.addr ≤ a.toNat && a.toNat + len ≤ e.addr + e.bytes.length then
        if e.poison then s.poisoned n dv a 0
        else .ok ((e.bytes.drop (a.toNat - e.addr)).take len, s)
      else .error (.wait s .drain)

/-- A scalar load of `len` bytes (R201, R216, R219). -/
def State.load (s : State) (n : Nat) (dv reg : Bool) (a : Dword) (len : Nat) :
    Run (List Byte × State) :=
  match s.reach n dv reg false a len with
  | .error e => .error e
  | .ok s =>
    if dv && inReg a.toNat then
      if (s.lan n).sb.isEmpty then
        let r := s.wickRead n a.toNat
        .ok (leBytes 4 r.1.toNat, r.2)
      else .error (.wait s .drain)
    else s.readBuffered n dv a len

/-- Store-buffer entries of a store. -/
def sbEntries (ls : Bool) (a : Dword) (bs : List Byte) : List SbEntry :=
  let ps := halves a bs.length
  match ps with
  | [p, q] =>
    let pins := if ls then [] else [vpnOf p.1.toNat, vpnOf q.1.toNat]
    [{ ls := ls, addr := p.1.toNat, bytes := bs.take p.2, pins := pins },
     { ls := ls, addr := q.1.toNat, bytes := bs.drop p.2, pins := pins }]
  | _ => [{ ls := ls, addr := a.toNat, bytes := bs }]

/-- A store waits at its instruction for the ranges of queued work that it overlaps: no later
instruction issues while it waits (R81, caution of R82). -/
def Lantern.storeWaits (l : Lantern) (es : List SbEntry) : Bool :=
  es.any (fun e => l.blocked (!e.ls) true e.addr e.bytes.length)

/-- Enters stores into the store buffer together, once no range holds them back and there is
room (R81, R215, R218). -/
def State.enterStores (s : State) (n : Nat) (es : List SbEntry) : Run State :=
  let l := s.lan n
  if !l.storeWaits es && l.sb.length + es.length ≤ 8 then .ok (s.setLan n { l with sb := l.sb ++ es })
  else .error (.wait s .drain)

/-- A scalar store (R201, R215, R219). -/
def State.store (s : State) (n : Nat) (dv reg : Bool) (a : Dword) (bs : List Byte) : Run State :=
  match s.reach n dv reg true a bs.length with
  | .error e => .error e
  | .ok s =>
    if dv && inReg a.toNat then
      if (s.lan n).sb.isEmpty then .ok (s.wickWrite n a.toNat (BitVec.ofNat 32 (leNat bs)))
      else .error (.wait s .drain)
    else s.enterStores n (sbEntries (!dv) a bs)

/-- The value of an operand: the extended immediate that the instruction takes, `len` bytes
of memory zero-extended, or the full register. -/
def State.operandValue (s : State) (n : Nat) (w : BaseWord) (immv : Dword) (len : Nat) :
    Run (Dword × State) :=
  match operandOf (s.lan n).wick w with
  | none => s.illegal n 0x21
  | some .imm => .ok (immv, s)
  | some (.mem dv a) =>
    match s.load n dv true a len with
    | .ok (bs, s) => .ok (BitVec.ofNat 64 (leNat bs), s)
    | .error e => .error e
  | some (.reg c) =>
    match s.readReg n c with
    | .ok v => .ok (v, s)
    | .error e => .error e

/-- Writes an operand of mode M or M6. -/
def State.operandStore (s : State) (n : Nat) (w : BaseWord) (v : Dword) (len : Nat) : Run State :=
  match operandOf (s.lan n).wick w with
  | none => s.illegal n 0x21
  | some .imm => s.illegal n 0x21
  | some (.mem dv a) => s.store n dv true a (leBytes len v.toNat)
  | some (.reg c) => s.writeReg n c v

/-- Changes the wick's registers. -/
def State.modWick (s : State) (n : Nat) (f : Wick → Wick) : State :=
  s.modLan n (fun l => { l with wick := f l.wick })

/-- Sticky exceptions join MODE.FXS (R193). -/
def Wick.addFx (k : Wick) (x : BitVec 5) : Wick :=
  { k with mode := k.mode ||| (x.setWidth 32 <<< 9) }

/-- MODE.FXE (R199). -/
def Wick.fxe (k : Wick) : BitVec 5 := (k.mode >>> 4).setWidth 5

end Sys2Proof.Machine
end

