-- ==== Sys2Proof/Machine/Wick.lean ====
section
/-!
DEFINITION. Wick.lean: the loads, stores, arithmetic, logic and compares of the base
instruction set (R229 to R232).
-/

namespace Sys2Proof

/-! ### Legality of AM and S (R229, R230, R237) -/

/-- AM column M: modes 1 to 5 and 7. -/
def BaseWord.amM (w : BaseWord) : Bool := w.am ≠ 0 && w.am ≠ 6
/-- AM column M6: memory modes and mode 6. -/
def BaseWord.amM6 (w : BaseWord) : Bool := w.am ≠ 0
/-- AM column I6: mode 0 or mode 6. -/
def BaseWord.amI6 (w : BaseWord) : Bool := w.am = 0 || w.am = 6
/-- AM column T: modes 4 to 7. -/
def BaseWord.amT (w : BaseWord) : Bool := 4 ≤ w.am.toNat
/-- AM 0 with IMM16 0. -/
def BaseWord.am00 (w : BaseWord) : Bool := w.am = 0 && w.imm = 0

/-- IMM16 sign-extended (R203). -/
def BaseWord.simm (w : BaseWord) : Dword := w.imm.signExtend 64
/-- IMM16 zero-extended (R231). -/
def BaseWord.zimm (w : BaseWord) : Dword := w.imm.setWidth 64

/-- Bytes of a size. -/
def SizeBHW.bytes : SizeBHW → Nat
  | .b => 1
  | .h => 2
  | .w => 4

end Sys2Proof

namespace Sys2Proof.Machine

open Sys2Proof

/-! ### Shapes of instruction -/

/-- An instruction that combines one operand of `len` bytes with the wick's registers. -/
def State.baseOp (s : State) (n : Nat) (w : BaseWord) (legal : Bool) (immv : Dword) (len : Nat)
    (f : Wick → Dword → Wick) : Out :=
  s.runWick n w.len w.cond (fun s => do
    s.need n legal
    let r ← s.operandValue n w immv len
    .ok ((r.2.modWick n (fun k => f k r.1)).complete n w.len))

/-- An instruction that stores `len` bytes of a register. A register that mode 6 names takes
its value after the completion check of this instruction (R245). -/
def State.baseStore (s : State) (n : Nat) (w : BaseWord) (legal : Bool) (len : Nat)
    (v : Wick → Dword) : Out :=
  s.runWick n w.len w.cond (fun s => do
    s.need n legal
    let d := v (s.lan n).wick
    if w.am = 6 then
      let _ ← s.writeReg n w.imm.toNat d
      (s.complete n w.len).writeReg n w.imm.toNat d
    else
      let s ← s.operandStore n w d len
      .ok (s.complete n w.len))

/-- FLAGS after an instruction that sets them when S = 1. -/
def Wick.setFlags (k : Wick) (s : Bool) (f : BitVec 4) : Wick := if s then { k with flags := f } else k

/-- A with flags NZ under S. -/
def Wick.putA (k : Wick) (s : Bool) (v : Dword) : Wick :=
  { k with a := v }.setFlags s (flagsNZ k.flags v)

/-- The low `len` bytes of a value, sign-extended. -/
def signLow (len : Nat) (v : Dword) : Dword :=
  match len with
  | 1 => (v.setWidth 8).signExtend 64
  | 2 => (v.setWidth 16).signExtend 64
  | 4 => (v.setWidth 32).signExtend 64
  | _ => v

/-! ### Loads and stores -/

/-- GET.B, GET.H, GET.W (R230). -/
def execGetBGetHGetW (n : Nat) (f : SizeBHW) (w : BaseWord) (s : State) : Out :=
  s.baseOp n w w.amM w.simm f.bytes (fun k v => k.putA w.s v)

/-- GET.D (R230). -/
def execGetD (n : Nat) (w : BaseWord) (s : State) : Out :=
  s.baseOp n w true w.simm 8 (fun k v => k.putA w.s v)

/-- GET.SB, GET.SH, GET.SW (R230). -/
def execGetSbGetShGetSw (n : Nat) (f : SizeBHW) (w : BaseWord) (s : State) : Out :=
  s.baseOp n w w.amM w.simm f.bytes (fun k v => k.putA w.s (signLow f.bytes v))

/-- GETX, GETY (R230). -/
def execGetxGety (n : Nat) (f : IdxXY) (w : BaseWord) (s : State) : Out :=
  s.baseOp n w true w.simm 8 (fun k v =>
    (match f with
      | .x => { k with x := v }
      | .y => { k with y := v }).setFlags w.s (flagsNZ k.flags v))

/-- A with one 16-bit field replaced. -/
def insertHalf (a : Dword) (h : Nat) (v : Half) : Dword :=
  (a &&& ~~~(0xFFFF#64 <<< (16 * h))) ||| (v.setWidth 64 <<< (16 * h))

/-- SETH.0 to SETH.3 (R230). -/
def execSeth (n : Nat) (h : BitVec 2) (w : BaseWord) (s : State) : Out :=
  s.runWick n w.len w.cond (fun s => do
    s.need n (w.am = 0 && !w.s)
    .ok ((s.modWick n (fun k => { k with a := insertHalf k.a h.toNat w.imm })).complete n w.len))

/-- PUT.B, PUT.H, PUT.W (R230). -/
def execPutBPutHPutW (n : Nat) (f : SizeBHW) (w : BaseWord) (s : State) : Out :=
  s.baseStore n w (w.amM && !w.s) f.bytes (fun k => k.a)

/-- PUT.D (R230, R231). -/
def execPutD (n : Nat) (w : BaseWord) (s : State) : Out :=
  s.baseStore n w (w.amM6 && !w.s) 8 (fun k => k.a)

/-- PUTX, PUTY (R230, R231). -/
def execPutxPuty (n : Nat) (f : IdxXY) (w : BaseWord) (s : State) : Out :=
  s.baseStore n w (w.amM6 && !w.s) 8 (fun k => match f with
    | .x => k.x
    | .y => k.y)

/-! ### Arithmetic and logic -/

/-- ADD, ADDC (R230). -/
def execAddAddc (n : Nat) (f : AddOp) (w : BaseWord) (s : State) : Out :=
  s.baseOp n w true w.simm 8 (fun k v =>
    let cin := match f with
      | .add => false
      | .addc => fC k.flags
    let r := addFlags k.a v cin
    { k with a := r.1 }.setFlags w.s r.2)

/-- SUB, SUBB: the borrow is 1 − C (R230). -/
def execSubSubb (n : Nat) (f : SubOp) (w : BaseWord) (s : State) : Out :=
  s.baseOp n w true w.simm 8 (fun k v =>
    let bin := match f with
      | .sub => false
      | .subb => !fC k.flags
    let r := subFlags k.a v bin
    { k with a := r.1 }.setFlags w.s r.2)

/-- A bitwise operation. -/
def bitOp {w : Nat} (f : VLogic) (a b : BitVec w) : BitVec w :=
  match f with
  | .and => a &&& b
  | .or => a ||| b
  | .xor => a ^^^ b

/-- AND, OR, XOR (R230, R231). -/
def execAndOrXor (n : Nat) (f : VLogic) (w : BaseWord) (s : State) : Out :=
  s.baseOp n w true w.zimm 8 (fun k v => k.putA w.s (bitOp f k.a v))

/-- CMP (R230). -/
def execCmp (n : Nat) (w : BaseWord) (s : State) : Out :=
  s.baseOp n w (!w.s) w.simm 8 (fun k v => { k with flags := (subFlags k.a v false).2 })

/-- TST (R230, R231). -/
def execTst (n : Nat) (w : BaseWord) (s : State) : Out :=
  s.baseOp n w (!w.s) w.zimm 8 (fun k v => { k with flags := flagsNZ k.flags (k.a &&& v) })

/-- MUL (R230). -/
def execMul (n : Nat) (w : BaseWord) (s : State) : Out :=
  s.baseOp n w true w.simm 8 (fun k v => k.putA w.s (k.a * v))

/-- High half of a product. -/
def mulHigh {w : Nat} (signed : Bool) (a b : BitVec w) : BitVec w :=
  if signed then BitVec.ofInt w (a.toInt * b.toInt / 2 ^ w)
  else BitVec.ofNat w (a.toNat * b.toNat / 2 ^ w)

/-- MULH, MULHU (R230). -/
def execMulhMulhu (n : Nat) (f : MulHOp) (w : BaseWord) (s : State) : Out :=
  s.baseOp n w true w.simm 8 (fun k v => k.putA w.s (mulHigh (f = .mulh) k.a v))

/-- Quotient or remainder with V of the special cases (R232). -/
def divide (f : DivOp) (a b : Dword) : Dword × Bool :=
  let ovf := a = 0x8000000000000000#64 && b = -1
  match f with
  | .div => if b = 0 then (-1, true) else if ovf then (a, true) else (a.sdiv b, false)
  | .divu => if b = 0 then (-1, true) else (a / b, false)
  | .rem => if b = 0 then (a, true) else if ovf then (0, true) else (a.srem b, false)
  | .remu => if b = 0 then (a, true) else (a % b, false)

/-- DIV, DIVU, REM, REMU (R230, R232). -/
def execDivDivuRemRemu (n : Nat) (f : DivOp) (w : BaseWord) (s : State) : Out :=
  s.baseOp n w true w.simm 8 (fun k v =>
    let r := divide f k.a v
    { k with a := r.1 }.setFlags w.s (flagsNZV k.flags r.1 r.2))

/-- A shift or rotate of `a` by a count below its width, with the last bit shifted out. -/
def shiftOut {w : Nat} (f : ShiftOp) (a : BitVec w) (c : Nat) : BitVec w × Bool :=
  match f with
  | .shl => (a <<< c, a.getLsbD (w - c))
  | .shr => (a >>> c, a.getLsbD (c - 1))
  | .sra => (a.sshiftRight c, a.getLsbD (c - 1))
  | .rol => (a.rotateLeft c, a.getLsbD (w - c))

/-- C after a shift: the last bit shifted out, unchanged for a count of 0 (R229). -/
def shiftC {w : Nat} (f : ShiftOp) (a : BitVec w) (c : Nat) (old : BitVec 4) : Bool :=
  if c = 0 then fC old else (shiftOut f a c).2

/-- SHL, SHR, SRA, ROL (R230, R231). -/
def execShlShrSraRol (n : Nat) (f : ShiftOp) (w : BaseWord) (s : State) : Out :=
  s.baseOp n w true w.zimm 8 (fun k v =>
    let c := v.toNat % 64
    let r := (shiftOut f k.a c).1
    { k with a := r }.setFlags w.s (flagsNZC k.flags r (shiftC f k.a c k.flags)))

/-- NOT, NEG (R230). -/
def execNotNeg (n : Nat) (f : NotNeg) (w : BaseWord) (s : State) : Out :=
  s.runWick n w.len w.cond (fun s => do
    s.need n w.am00
    .ok ((s.modWick n (fun k => match f with
      | .not => k.putA w.s (~~~k.a)
      | .neg =>
        let r := subFlags (0#64) k.a false
        { k with a := r.1 }.setFlags w.s r.2)).complete n w.len))

/-- Leading zeros of a value. -/
def leadZeros {w : Nat} (v : BitVec w) : Nat :=
  match (List.range w).find? (fun i => v.getLsbD (w - 1 - i)) with
  | some i => i
  | none => w

/-- Set bits of a value. -/
def popCount {w : Nat} (v : BitVec w) : Nat := ((List.range w).filter (fun i => v.getLsbD i)).length

/-- CLZ, POPC (R230). -/
def execClzPopc (n : Nat) (f : ClzPopc) (w : BaseWord) (s : State) : Out :=
  s.baseOp n w true w.simm 8 (fun k v => k.putA w.s (BitVec.ofNat 64 (match f with
    | .clz => leadZeros v
    | .popc => popCount v)))

/-- ADDX, ADDY (R230). -/
def execAddxAddy (n : Nat) (f : IdxXY) (w : BaseWord) (s : State) : Out :=
  s.baseOp n w true w.simm 8 (fun k v =>
    match f with
    | .x =>
      let r := addFlags k.x v false
      { k with x := r.1 }.setFlags w.s r.2
    | .y =>
      let r := addFlags k.y v false
      { k with y := r.1 }.setFlags w.s r.2)

/-- CMPX, CMPY (R230). -/
def execCmpxCmpy (n : Nat) (f : IdxXY) (w : BaseWord) (s : State) : Out :=
  s.baseOp n w (!w.s) w.simm 8 (fun k v =>
    { k with flags := (subFlags (match f with
      | .x => k.x
      | .y => k.y) v false).2 })

end Sys2Proof.Machine
end

