-- ==== Sys2Proof/Machine/WickCtl.lean ====
section
/-!
DEFINITION. WickCtl.lean: control transfers, the hardware loop, fences, event counters,
messages and reservations of the base instruction set (R213, R223, R238 to R243, R256 to
R260).
-/

namespace Sys2Proof.Machine

open Sys2Proof

/-- Continues where there is room, or where no earlier access is in the way, and waits otherwise. -/
def State.await (s : State) (ok : Bool) : Run Unit := if ok then .ok () else .error (.wait s .drain)

/-! ### Transfers (R238) -/

/-- A transfer to a target: one that is not a multiple of 4 raises event 0x11 and changes
nothing. -/
def State.transferTo (s : State) (n : Nat) (target : Dword) : Run State :=
  if target.toNat % 4 = 0 then .ok (s.transfer n target) else .error (.trap s 0x11 target 0)

/-- The target of JMP and CALLI: the effective DV address of modes 4, 5 and 7, which must be
valid under R200, or the register named in mode 6. -/
def State.target (s : State) (n : Nat) (w : BaseWord) : Run Dword :=
  match operandOf (s.lan n).wick w with
  | some (.mem true a) => if a.toNat < dvEnd then .ok a else .error (.trap s 0x11 a 0)
  | some (.reg c) => s.readReg n c
  | _ => s.illegal n 0x21

/-- The relative target of BR and CALL. -/
def relTarget (pc : Dword) (imm : Half) : Dword := pcMask (pc + (imm.signExtend 64 <<< 2))

/-- BR (R238). -/
def execBr (n : Nat) (w : BaseWord) (s : State) : Out :=
  s.runWick n w.len w.cond (fun s => do
    s.need n (w.am = 0 && !w.s)
    s.transferTo n (relTarget (s.lan n).wick.pc w.imm))

/-- JMP (R238). -/
def execJmp (n : Nat) (w : BaseWord) (s : State) : Out :=
  s.runWick n w.len w.cond (fun s => do
    s.need n (w.amT && !w.s)
    let t ← s.target n w
    s.transferTo n t)

/-- The push of a call: the checks of R239, the entries of both stacks together, and SP and
SSP each 8 lower. -/
def State.pushCall (s : State) (n : Nat) (ret : Dword) : Run State := do
  let k := (s.lan n).wick
  let sp := k.sp - 8
  let ssp := k.ssp - 8
  s.checkParts n false false sp 8
  if ssp.toNat < (s.lan n).sslim.toNat || ssp.toNat + 8 > lsSize then .error (.trap s 0x11 ssp 0)
  else
    let bs := leBytes 8 ret.toNat
    let s ← s.enterStores n (sbEntries true sp bs ++ sbEntries true ssp bs)
    .ok (s.modWick n (fun k => { k with sp := sp, ssp := ssp }))

/-- CALL, CALLI (R239). -/
def execCallCalli (n : Nat) (f : CallOp) (w : BaseWord) (s : State) : Out :=
  s.runWick n w.len w.cond (fun s => do
    s.need n (!w.s && (match f with
      | .call => w.am = 0
      | .calli => w.amT))
    let k := (s.lan n).wick
    let t ← match f with
      | .call => (.ok (relTarget k.pc w.imm) : Run Dword)
      | .calli => s.target n w
    if t.toNat % 4 = 0 then
      let s ← s.pushCall n (pcMask (k.pc + BitVec.ofNat 64 w.len))
      .ok (s.transfer n t)
    else .error (.trap s 0x11 t 0))

/-- RET (R240). -/
def execRet (n : Nat) (w : BaseWord) (s : State) : Out :=
  s.runWick n w.len w.cond (fun s => do
    s.need n (w.am00 && !w.s)
    let k := (s.lan n).wick
    if k.ssp.toNat ≥ lsSize then .error (.trap s 0x20 0 0)
    else
      let r ← s.load n false false k.sp 8
      let s := r.2
      if k.ssp.toNat + 8 > lsSize then .error (.trap s 0x11 (BitVec.ofNat 64 lsSize) 0)
      else
        let q ← s.readBuffered n false k.ssp 8
        let s := q.2
        let v := BitVec.ofNat 64 (leNat r.1)
        if r.1 ≠ q.1 then .error (.trap s 0x20 v 0)
        else if v.toNat % 4 = 0 then
          .ok ((s.modWick n (fun k => { k with sp := k.sp + 8, ssp := k.ssp + 8 })).transfer n v)
        else .error (.trap s 0x11 v 0))

/-! ### Events and the end of a kernel (R241) -/

/-- TRAP: it completes, loop-back included, and enters the event of cause 0x01 (R241, R277). -/
def execTrap (n : Nat) (w : BaseWord) (s : State) : Out :=
  s.runWick n w.len w.cond (fun s => do
    s.need n (w.am = 0 && !w.s && natField w.imm.toNat 8 8 = 0)
    let s := s.complete n w.len
    .ok (s.takeEvent n 0x01 (s.lan n).wick.pc 0 0 w.imm.toNat))

/-- RTE (R241, R275, R276); the read of a frame waits for the ranges that it overlaps (R81). -/
def execRte (n : Nat) (w : BaseWord) (s : State) : Out :=
  s.runWick n w.len w.cond (fun s => do
    s.need n (w.am00 && !w.s)
    if (s.lan n).wick.sup then
      if (s.lan n).cl = 0 then s.illegal n 0x21
      else
        s.await (!((s.lan n).sv (s.lan n).cl.toNat).pushed ||
          !(s.lan n).lsBlocked false (s.lan n).wick.sstk.toNat 32)
        .ok (s.rte n)
    else s.illegal n 0x22)

/-- The conditions of R196: the vector queue and the store buffer are empty, and every write
is visible. -/
def State.vfenceDone (s : State) (n : Nat) : Bool :=
  (s.lan n).vq.isEmpty && (s.lan n).sb.isEmpty && s.visible n

/-- The matrix queue is empty and every drain has written its output (R82, R104). -/
def Lantern.matrixDone (l : Lantern) : Bool :=
  l.mq.isEmpty && l.arrs.all (fun p => p.2.shadow.isEmpty)

/-- Continues where the conditions of a fence or of KEND hold; the wait for them is one of those in which
events are taken (R277). -/
def State.awaitFence (s : State) (ok : Bool) : Run Unit := if ok then .ok () else .error (.wait s .fence)

/-- Nothing is left that reports an event of the kernel: no report waits, and none is pending (R66,
R194, R267). -/
def Lantern.reportsDone (l : Lantern) : Bool :=
  l.nanQ.isEmpty && l.fxRep.isEmpty && !l.defNan && l.defFx.isNone && l.defRf.isNone

/-- KEND (R241): the lantern reports its kernel complete and executes nothing more. A pending
NaN trap is taken first (R66). -/
def execKend (n : Nat) (w : BaseWord) (s : State) : Out :=
  s.runWick n w.len w.cond (fun s => do
    s.need n (w.am00 && !w.s)
    s.awaitFence ((s.lan n).matrixDone && s.vfenceDone n && (s.lan n).lq.isEmpty &&
      (s.lan n).reportsDone)
    .ok ((s.modLan n (fun l => { l with run := .kended, wait := .none, resv := none })).kernelDone n))

/-- HLOOP (R242). The completion check of HLOOP itself uses the loop registers that it
finds (R245). -/
def execHloop (n : Nat) (w : BaseWord) (s : State) : Out :=
  s.runWick n w.len w.cond (fun s => do
    s.need n (w.am = 0 && !w.s && natField w.imm.toNat 9 7 = 0)
    let k := (s.lan n).wick
    let count := if natBit w.imm.toNat 8 then k.x else k.a
    let beg := k.pc + 4
    let lend := beg + BitVec.ofNat 64 (4 * (natField w.imm.toNat 0 8 + 1))
    let set (s : State) : State :=
      s.modWick n (fun k => { k with lbeg := beg, lend := lend, lcnt := count })
    .ok (if count = 0 then set (s.transfer n lend) else set (s.complete n w.len)))

/-- SYNC.I (R213). -/
def execSyncI (n : Nat) (w : BaseWord) (s : State) : Out :=
  s.runWick n w.len w.cond (fun s => do
    s.need n (w.am00 && !w.s)
    s.awaitFence (s.vfenceDone n)
    .ok ((s.modLan n (fun l => { l with icache := [], lineBuf := [] })).complete n w.len))

/-- FENCE (R259). -/
def execFence (n : Nat) (w : BaseWord) (s : State) : Out :=
  s.runWick n w.len w.cond (fun s => do
    s.need n (w.am00 && !w.s)
    s.awaitFence ((s.lan n).sb.isEmpty && (s.lan n).lq.isEmpty && s.visible n)
    .ok (s.complete n w.len))

/-! ### Event counters (R260) -/

/-- The counter operand of EWAIT and EADD. -/
def State.counterOperand (s : State) (n : Nat) (w : BaseWord) : Run Nat := do
  s.need n (w.amI6 && !w.s)
  let r ← s.operandValue n w w.zimm 8
  if r.1.toNat > 4095 then .error (.trap s 0x11 r.1 0) else .ok r.1.toNat

/-- EWAIT (R260). -/
def execEwait (n : Nat) (w : BaseWord) (s : State) : Out :=
  s.runWick n w.len w.cond (fun s => do
    let e ← s.counterOperand n w
    let t := (s.lan n).wick.a
    if reaches (s.counter e) t then .ok (s.complete n w.len) else .error (.wait s (.event e t)))

/-- EADD: the add follows the visibility of earlier wick stores (R217, R260). -/
def execEadd (n : Nat) (w : BaseWord) (s : State) : Out :=
  s.runWick n w.len w.cond (fun s => do
    let e ← s.counterOperand n w
    s.await ((s.lan n).sb.isEmpty && s.seenBy (.wick n))
    .ok ((s.complete n w.len).addEvent e (s.lan n).wick.a))

/-! ### Messages (R223, R261) -/

/-- MSEND: the message leaves, and the wick waits for the answer. -/
def execMsend (n : Nat) (w : BaseWord) (s : State) : Out :=
  s.runWick n w.len w.cond (fun s => do
    s.need n (w.am00 && !w.s)
    let l := s.lan n
    let r := l.wick.y
    match (if r.toNat < l.gsize then (s.gangOf n).bind (fun g => g.members[r.toNat]?) else none) with
    | some d =>
      .error (.wait (s.setLan n { l with
        out := some { dest := d, msg := { rank := l.rank, w0 := l.wick.a, w1 := l.wick.x }
                      answer := none } }) .answer)
    | none => .error (.trap s 0x11 r 0))

/-- MRECV. -/
def execMrecv (n : Nat) (w : BaseWord) (s : State) : Out :=
  s.runWick n w.len w.cond (fun s => do
    s.need n (w.am00 && !w.s)
    let l := s.lan n
    .ok ((match l.fifo with
      | [] => s.modWick n (fun k => { k with flags := withC k.flags false })
      | m :: t => s.setLan n { l with
          fifo := t
          wick := { l.wick with
            a := m.w0, x := m.w1, y := BitVec.ofNat 64 m.rank, flags := withC l.wick.flags true } }
      ).complete n w.len))

/-! ### Reservations (R256 to R258) -/

/-- The address of LR.D and SC.D: a multiple of 8 outside the REG window, in a space that
the wick may reach; on a DV page that is resident and writable. -/
def State.resvAddr (s : State) (n : Nat) (w : BaseWord) : Run ((Bool × Dword) × State) :=
  match operandOf (s.lan n).wick w with
  | some (.mem dv a) =>
    if a.toNat % 8 ≠ 0 then .error (.trap s 0x11 a 0)
    else match s.reach n dv false true a 8 with
      | .ok s => .ok ((dv, a), s)
      | .error e => .error e
  | _ => s.illegal n 0x21

/-- The granule of an address: physical for DV, local otherwise (R256). -/
def State.granuleOf (s : State) (dv : Bool) (a : Dword) : Bool × Nat :=
  if dv then (false, s.vaPa a.toNat / 128) else (true, a.toNat / 128)

/-- LR.D (R256). -/
def execLrD (n : Nat) (w : BaseWord) (s : State) : Out :=
  s.runWick n w.len w.cond (fun s => do
    s.need n (w.amM && !w.s)
    s.await (s.lan n).sb.isEmpty
    let r ← s.resvAddr n w
    let q ← r.2.readBuffered n r.1.1 r.1.2 8
    let g := q.2.granuleOf r.1.1 r.1.2
    .ok ((q.2.modLan n (fun l => { l with
      resv := some g
      wick := { l.wick with a := BitVec.ofNat 64 (leNat q.1) } })).complete n w.len))

/-- SC.D (R257). -/
def execScD (n : Nat) (w : BaseWord) (s : State) : Out :=
  s.runWick n w.len w.cond (fun s => do
    s.need n (w.amM && !w.s)
    s.await (s.lan n).sb.isEmpty
    let r ← s.resvAddr n w
    let s := r.2
    let dv := r.1.1
    let a := r.1.2.toNat
    s.await (!(s.lan n).blocked dv true a 8)
    let holds := (s.lan n).resv = some (s.granuleOf dv r.1.2)
    let bs := leBytes 8 (s.lan n).wick.a.toNat
    let s := if holds then
        if dv then s.dvStore (.wick n) a bs (fun _ => false) else s.modLan n (fun l => l.lsStore a bs)
      else s
    .ok ((s.modLan n (fun l => { l with
      resv := none
      wick := { l.wick with flags := withC l.wick.flags holds } })).complete n w.len))

end Sys2Proof.Machine
end

