-- ==== Sys2Proof/Machine/WickFp.lean ====
section
/-!
DEFINITION. WickFp.lean: the scalar floating-point instructions (R231, R233 to R236).
-/

namespace Sys2Proof.Machine

open Sys2Proof

/-- The conversion context of MODE (R51, R58, R64). -/
def Wick.fctx (k : Wick) : FCtx :=
  { mode := rmOf (k.mode.setWidth 2), flush := k.mode.getLsbD 2, e4nan := k.mode.getLsbD 3 }

/-- A BF16 immediate converted exactly to FP64 or FP32; a NaN keeps its payload (R231). -/
def immFloat (dbl : Bool) (imm : Half) : Dword :=
  if dbl then
    if imm.toNat / 128 % 256 = 255 then
      BitVec.ofNat 64 (imm.toNat / 32768 * 2 ^ 63 + 2047 * 2 ^ 52 + imm.toNat % 128 * 2 ^ 45)
    else BitVec.ofNat 64 (toFmt {} 0 (decodeCode 2 imm.toNat)).1
  else imm.setWidth 64 <<< 16

/-- An instruction detects exceptions and completes; an enabled one then raises cause 0x31,
with SPC at the next instruction and SADDR at this one (R235). -/
def State.fpComplete (s : State) (n len : Nat) (x : Exc) : State :=
  let k := (s.lan n).wick
  let s := ((s.modWick n (fun k => k.addFx x)).modLan n (fun l => l.keepFx x)).complete n len
  if x &&& k.fxe = 0 then s
  else s.takeEvent n 0x31 (s.lan n).wick.pc k.pc 0 0

/-- A scalar floating-point instruction on A and one operand: FP64, or FP32 with A[63:32]
written 0. `f` gives the new A, or none where A stays, with FLAGS and exceptions. -/
def State.fpOp (s : State) (n : Nat) (dbl : Bool) (w : BaseWord)
    (f : FCtx → Nat → Nat → Nat → Option Nat × Option (BitVec 4) × Exc) : Out :=
  s.runWick n w.len w.cond (fun s => do
    s.need n (!w.s)
    let r ← s.operandValue n w (immFloat dbl w.imm) (if dbl then 8 else 4)
    let s := r.2
    let k := (s.lan n).wick
    let m : Nat := if dbl then 2 ^ 64 else 2 ^ 32
    let o := f k.fctx (if dbl then 0 else 1) (k.a.toNat % m) (r.1.toNat % m)
    let s := s.modWick n (fun k => { k with
      a := match o.1 with
        | some v => BitVec.ofNat 64 v
        | none => k.a
      flags := o.2.1.getD k.flags })
    .ok (s.fpComplete n w.len o.2.2))

/-- A result that goes to A. -/
def fpA (r : Nat × Exc) : Option Nat × Option (BitVec 4) × Exc := (some r.1, none, r.2)

/-- FCMP (R233): NZCV, with invalid operation only for a signalling NaN. -/
def fpCompare (ctx : FCtx) (code a b : Nat) : Option Nat × Option (BitVec 4) × Exc :=
  let x := rdElem ctx code a
  let y := rdElem ctx code b
  let fl : BitVec 4 :=
    if x.isNan || y.isNan then 0b0011
    else if fvCmp x y = 0 then 0b0110
    else if fvCmp x y < 0 then 0b1000
    else 0b0010
  (none, some fl, snanExc x y)

/-- Addition, subtraction or multiplication. -/
def fpArith (f : VFArith) (ctx : FCtx) (code a b : Nat) : Nat × Exc :=
  match f with
  | .add => opAdd ctx code a b
  | .sub => opSub ctx code a b
  | .mul => opMul ctx code a b

/-- FADD.D, FSUB.D, FMUL.D (R233). -/
def execFaddDFsubDFmulD (n : Nat) (f : VFArith) (w : BaseWord) (s : State) : Out :=
  s.fpOp n true w (fun c code a b => fpA (fpArith f c code a b))

/-- FDIV.D (R233). -/
def execFdivD (n : Nat) (w : BaseWord) (s : State) : Out :=
  s.fpOp n true w (fun c code a b => fpA (opDiv c code a b))

/-- FSQRT.D (R233). -/
def execFsqrtD (n : Nat) (w : BaseWord) (s : State) : Out :=
  s.fpOp n true w (fun c code _ b => fpA (opSqrt c code b))

/-- FMIN.D, FMAX.D (R233). -/
def execFminDFmaxD (n : Nat) (f : FMinMax) (w : BaseWord) (s : State) : Out :=
  s.fpOp n true w (fun c code a b => fpA (opMinMax c (f = .max) code a b))

/-- FCMP.D (R233). -/
def execFcmpD (n : Nat) (w : BaseWord) (s : State) : Out := s.fpOp n true w fpCompare

/-- FADD.S to FCMP.S: the FP32 forms (R233). -/
def execFaddSToFcmpS (n : Nat) (f : FSOp) (w : BaseWord) (s : State) : Out :=
  s.fpOp n false w (fun c code a b =>
    match f with
    | .add => fpA (opAdd c code a b)
    | .sub => fpA (opSub c code a b)
    | .mul => fpA (opMul c code a b)
    | .div => fpA (opDiv c code a b)
    | .sqrt => fpA (opSqrt c code b)
    | .min => fpA (opMinMax c false code a b)
    | .max => fpA (opMinMax c true code a b)
    | .cmp => fpCompare c code a b)

/-- A format that FCVT converts (R234). -/
def fcvtCode (c : Nat) : Bool := c ≤ 5 || c = 0xD

/-- FCVT's value of A (R234). -/
def fcvtValue (ctx : FCtx) (src dst : Nat) (a : Nat) : Dword × Exc :=
  let r := opConvert ctx src dst (a % 2 ^ fmtBits src)
  (if dst = 0xD then (BitVec.ofNat 32 r.1).signExtend 64 else BitVec.ofNat 64 r.1, r.2)

/-- FCVT (R234). -/
def execFcvt (n : Nat) (w : BaseWord) (s : State) : Out :=
  s.runWick n w.len w.cond (fun s => do
    let src := natField w.imm.toNat 4 4
    let dst := natField w.imm.toNat 0 4
    s.need n (w.am = 0 && !w.s && natField w.imm.toNat 8 8 = 0 && fcvtCode src && fcvtCode dst &&
      src ≠ dst)
    let k := (s.lan n).wick
    let r := fcvtValue k.fctx src dst k.a.toNat
    .ok ((s.modWick n (fun k => { k with a := r.1 })).fpComplete n w.len r.2))

end Sys2Proof.Machine
end

