-- ==== Sys2Proof/Machine/WickBlk.lean ====
section
/-!
DEFINITION. WickBlk.lean: the block instructions and VBLK with their repeated forms (R246 to
R251), and the loader (R252 to R255).
-/

namespace Sys2Proof.Machine

open Sys2Proof

/-! ### Block instructions (R246 to R249) -/

/-- sz of a block instruction. -/
def blkSz (imm : Nat) : Nat := 2 ^ natField imm 0 2
/-- STOP. -/
def blkStop (imm : Nat) : Nat := natField imm 12 4
/-- RPT. -/
def blkRpt (imm : Nat) : Bool := natBit imm 11

/-- The fields of a block instruction are legal (R246 to R248). -/
def blkLegal (op : BlkOp) (imm : Nat) : Bool :=
  let cmp := op = .bcomp || op = .bseek
  natField imm 5 6 = 0 && (blkStop imm = 0xF || (cmp && blkRpt imm)) &&
    ((op ≠ .bfill && op ≠ .bseek) || !natBit imm 2) && (op ≠ .bread || !natBit imm 3)

/-- The next address of SRC or DST. -/
def blkStep (imm : Nat) (a : Dword) : Dword :=
  if natBit imm 4 then a - BitVec.ofNat 64 (blkSz imm) else a + BitVec.ofNat 64 (blkSz imm)

/-- Flags of a comparison at the width of the elements (R229, R247). -/
def sizedFlags (sz : Nat) (a b : Dword) : BitVec 4 :=
  match sz with
  | 1 => (subFlags (a.setWidth 8) (b.setWidth 8) false).2
  | 2 => (subFlags (a.setWidth 16) (b.setWidth 16) false).2
  | 4 => (subFlags (a.setWidth 32) (b.setWidth 32) false).2
  | _ => (subFlags a b false).2

/-- One iteration of a block instruction (R247). -/
def State.blkIter (s : State) (n : Nat) (op : BlkOp) (imm : Nat) : Run State := do
  let k := (s.lan n).wick
  let sz := blkSz imm
  let ss := natBit imm 2
  let ds := natBit imm 3
  match op with
  | .bcopy =>
    let r ← s.load n ss false k.src sz
    let s ← r.2.store n ds false k.dst r.1
    .ok (s.modWick n (fun k => { k with src := blkStep imm k.src, dst := blkStep imm k.dst }))
  | .bfill =>
    let s ← s.store n ds false k.dst (leBytes sz k.a.toNat)
    .ok (s.modWick n (fun k => { k with dst := blkStep imm k.dst }))
  | .bread =>
    let r ← s.load n ss false k.src sz
    .ok (r.2.modWick n (fun k => { k with
      a := BitVec.ofNat 64 (leNat r.1), src := blkStep imm k.src }))
  | .bcomp =>
    let r ← s.load n ss false k.src sz
    let q ← r.2.load n ds false k.dst sz
    .ok (q.2.modWick n (fun k => { k with
      flags := sizedFlags sz (BitVec.ofNat 64 (leNat r.1)) (BitVec.ofNat 64 (leNat q.1))
      src := blkStep imm k.src, dst := blkStep imm k.dst }))
  | .bseek =>
    let q ← s.load n ds false k.dst sz
    .ok (q.2.modWick n (fun k => { k with
      flags := sizedFlags sz k.a (BitVec.ofNat 64 (leNat q.1)), dst := blkStep imm k.dst }))
  | .vblk => .ok s

/-! ### VBLK (R252 to R254) -/

/-- The fields of a VBLK are legal. -/
def vblkLegal (imm : Nat) : Bool :=
  blkStop imm = 0 && natField imm 4 7 = 0 &&
    (if natBit imm 3 then !natBit imm 2 else natField imm 0 2 = 0)

/-- The first failing byte of a range that the loader reads or writes, if any (R200 to
R202, R252). -/
def State.rangeFault (s : State) (n : Nat) (dv : Bool) (a : Dword) (len : Nat) : Option Dword :=
  let l := s.lan n
  let v := a.toNat
  if dv then
    ((pieces v len).find? (fun p => s.partBad n true false (BitVec.ofNat 64 p.1) p.2 len ||
      p.1 ≥ dvEnd)).map (fun p => BitVec.ofNat 64 p.1)
  else if v ≥ lsSize then some a
  else if !l.wick.sup && v + len > l.guardLo then some (BitVec.ofNat 64 (max v l.guardLo))
  else if v + len > lsSize then some (BitVec.ofNat 64 lsSize)
  else none

/-- Ranges that an iteration reads from and writes to, as space, start and length. -/
def LoaderItem.parts (i : LoaderItem) : List (Bool × Dword × Nat) :=
  if i.t then
    (List.range 32).map (fun r => (true, i.src + BitVec.ofNat 64 r * i.x, 32 * i.sz)) ++
      (List.range 32).map (fun c => (false, i.dst + BitVec.ofNat 64 c * i.y, 32 * i.sz))
  else [(!i.dirOut, i.src, 256), (i.dirOut, i.dst, 256)]

/-- The failing register condition or address of an iteration (R252). -/
def State.vblkFault (s : State) (n : Nat) (i : LoaderItem) : Option Dword :=
  let q := if i.t then i.sz else 64
  let badXY (v : Dword) : Bool := v.toNat % i.sz ≠ 0 || v.toNat < 32 * i.sz
  if i.src.toNat % q ≠ 0 then some i.src
  else if i.dst.toNat % q ≠ 0 then some i.dst
  else if i.t && (badXY i.x || badXY i.y) then some i.src
  else i.parts.findSome? (fun p => s.rangeFault n p.1 p.2.1 p.2.2)

/-- Touches the DV pages of an iteration. -/
def State.touchDv (s : State) (n : Nat) (write : Bool) (ps : List (Nat × Nat)) : Run State :=
  match s.touchRange (.lantern n) write ps with
  | (s, .ok) => .ok s
  | (s, .unmapped va) => .error (.trap s 0x11 (BitVec.ofNat 64 va) 0)
  | (s, .stall va) => .error (.wait s (.page (vpnOf va) (subOf va) write false))

/-- One iteration of VBLK: checked, translated and handed off to the loader queue (R252,
R253). -/
def State.vblkIter (s : State) (n imm : Nat) : Run State := do
  let l := s.lan n
  let k := l.wick
  let t := natBit imm 3
  let out := natBit imm 2
  let i : LoaderItem := {
    t := t, dirOut := out, sz := 2 ^ natField imm 0 2, src := k.src, dst := k.dst
    x := k.x, y := k.y, pins := [] }
  match s.vblkFault n i with
  | some a => .error (.trap s 0x11 a 0)
  | none =>
    let dvs := (i.parts.filter (·.1)).flatMap (fun p => pieces p.2.1.toNat p.2.2)
    let s ← s.touchDv n out dvs
    s.await ((s.lan n).lq.length < 32 &&
      !i.parts.any (fun p => (s.lan n).vqStores p.1 p.2.1.toNat p.2.2) && !(s.lan n).sb.any (fun e => i.parts.any (fun p =>
      e.ls = !p.1 && overlap e.addr e.bytes.length p.2.1.toNat p.2.2)))
    let i := { i with pins := (dvs.map (fun p => vpnOf p.1)).eraseDups }
    let step (a : Dword) (isSrc : Bool) : Dword :=
      if t then a + (if isSrc then BitVec.ofNat 64 (32 * i.sz) else 32 * k.y) else a + 256
    .ok (s.modLan n (fun l => { l with
      lq := l.lq ++ [i]
      wick := { l.wick with src := step k.src true, dst := step k.dst false } }))

/-! ### Running -/

/-- One iteration of any block operation. -/
def State.anyIter (s : State) (n : Nat) (op : BlkOp) (imm : Nat) : Run State :=
  if op = .vblk then s.vblkIter n imm else s.blkIter n op imm

/-- A block instruction or VBLK: one iteration with RPT = 0; with RPT = 1 it begins to
repeat, or completes at once when CNT is 0 (R248). -/
def State.blkStart (s : State) (n : Nat) (op : BlkOp) (w : BaseWord) : Out :=
  s.runWick n w.len w.cond (fun s => do
    let imm := w.imm.toNat
    s.need n (w.am = 0 && !w.s && (if op = .vblk then vblkLegal imm else blkLegal op imm))
    if blkRpt imm then
      if (s.lan n).wick.cnt = 0 then .ok (s.complete n w.len)
      else .ok (s.modLan n (fun l => { l with rep := some (op, w.imm), wait := .none }))
    else
      let s ← s.anyIter n op imm
      .ok (s.complete n w.len))

/-- BCOPY (R247). -/
def execBcopy (n : Nat) (w : BaseWord) (s : State) : Out := s.blkStart n .bcopy w
/-- BFILL (R247). -/
def execBfill (n : Nat) (w : BaseWord) (s : State) : Out := s.blkStart n .bfill w
/-- BREAD (R247). -/
def execBread (n : Nat) (w : BaseWord) (s : State) : Out := s.blkStart n .bread w
/-- BCOMP (R247). -/
def execBcomp (n : Nat) (w : BaseWord) (s : State) : Out := s.blkStart n .bcomp w
/-- BSEEK (R247). -/
def execBseek (n : Nat) (w : BaseWord) (s : State) : Out := s.blkStart n .bseek w
/-- VBLK (R252). -/
def execVblk (n : Nat) (w : BaseWord) (s : State) : Out := s.blkStart n .vblk w

/-- The end of an iteration of a repeated operation: CNT falls by 1, and the instruction
completes when CNT is 0 or STOP holds (R248). -/
def State.iterEnd (s : State) (n : Nat) (op : BlkOp) (imm : Nat) : State :=
  let s := s.modLan n (fun l => { l with
    wait := .none, entered := false, wick := { l.wick with cnt := l.wick.cnt - 1 } })
  let k := (s.lan n).wick
  let stop := op ≠ .vblk && blkStop imm ≠ 0xF && condTrue (BitVec.ofNat 4 (blkStop imm)) k.flags
  if k.cnt = 0 || stop then (s.modLan n (fun l => { l with rep := none })).complete n 4 else s

/-- BLOCK_ITERATION (R248, R250): an event that is due is entered before the next iteration begins. -/
def execBlockIteration (n : Nat) (s : State) : Out :=
  let l := s.lan n
  .next (match l.rep with
    | some (op, imm) =>
      if s.lanOn n && l.run = .running && !l.halt.halted && (l.wait = .drain || !s.entryDue n) then
        match s.anyIter n op imm.toNat with
        | .ok t => t.iterEnd n op imm.toNat
        | .error (.trap t c a e) => t.takeEvent n c (t.lan n).wick.pc a e 0
        | .error (.wait t w) => t.modLan n (fun l => { l with wait := w })
      else s
    | none => s)

/-! ### The loader (R254, R255) -/

/-- The bytes and poison of one DV range, byte by byte. -/
def State.dvBytesP (s : State) (va len : Nat) : List (Byte × Bool) :=
  (s.dvRead va len).zip ((List.range len).map (fun i => s.poison.contains (s.vaPa (va + i) / 64)))

/-- Writes local-store bytes of which some are poisoned: every word that receives one is
written poisoned (R390). -/
def Lantern.lsStoreMarked (l : Lantern) (a : Nat) (bs : List (Byte × Bool)) : Lantern :=
  let bad := ((List.range bs.length).zip bs).filterMap (fun p => if p.2.2 then some ((a + p.1) / 8) else none)
  l.lsStoreP a (bs.map (·.1)) bad.contains

/-- The loader completes the iteration at the head of its queue. -/
def State.loaderMove (s : State) (n : Nat) (i : LoaderItem) : State :=
  if i.dirOut then
    let l := s.lan n
    let bs := l.lsRead i.src.toNat 256
    s.dvStore (.lantern n) i.dst.toNat bs
      (fun u => l.lsPoisoned (i.src.toNat + (64 * u - i.dst.toNat)) 64)
  else if i.t then
    let va := fun (r : Nat) => (i.src + BitVec.ofNat 64 r * i.x).toNat
    let rows := (List.range 32).map (fun r => s.dvBytesP (va r) (32 * i.sz))
    let s := (List.range 32).foldl (fun s r => s.dvLoadLines (va r) (32 * i.sz) false) s
    (List.range 32).foldl (fun s c =>
      s.modLan n (fun l => l.lsStoreMarked (i.dst + BitVec.ofNat 64 c * i.y).toNat
        (rows.flatMap (fun row => (row.drop (c * i.sz)).take i.sz)))) s
  else (s.dvLoadLines i.src.toNat 256 false).modLan n (fun l =>
    l.lsStoreMarked i.dst.toNat (s.dvBytesP i.src.toNat 256))

/-- LOADER_WRITE: an iteration that must wait under R81 waits in the queue (R254). -/
def execLoaderWrite (n : Nat) (s : State) : Out :=
  let l := s.lan n
  .next (match l.lq with
    | [] => s
    | i :: t =>
      if s.lanOn n && !i.lsWrites.any (fun r => l.mqBlocks true r.1 r.2) &&
          !i.lsReads.any (fun r => l.mqBlocks false r.1 r.2) then
        ((s.loaderMove n i).modLan n (fun l => { l with lq := t })).pumpPins
      else s)

end Sys2Proof.Machine
end

