-- ==== Sys2Proof/Machine/Events.lean ====
section
/-!
DEFINITION. Events.lean: what reaches a wick from other units: messages, store-buffer drains,
refills, interrupts, NaN and exception reports, register-file errors, event entry at a
boundary, and the halt reports that zenith acts on (R65 to R69, R194, R211, R215, R223,
R224, R266 to R271, R374).
-/

namespace Sys2Proof.Machine

open Sys2Proof

/-! ### Messages (R223) -/

/-- MESSAGE_ARRIVAL: the message that lantern `n` has sent reaches its destination. -/
def execMessageArrival (n : Nat) (s : State) : Out :=
  .next (match (s.lan n).out with
    | some o =>
      if o.answer.isSome then s
      else
        let d := s.lan o.dest
        let ok := d.fifo.length < 16 && d.run = .running && !d.halt.halted
        let s := s.setLan o.dest (if ok then { d with fifo := d.fifo ++ [o.msg] }
          else { d with refused := satAdd 16 d.refused 1 })
        s.modLan n (fun l => { l with out := some { o with answer := some ok } })
    | none => s)

/-- MESSAGE_ANSWER: C takes the answer and MSEND completes. -/
def execMessageAnswer (n : Nat) (s : State) : Out :=
  .next (match (s.lan n).out with
    | some o =>
      match o.answer with
      | some ok =>
        (s.modLan n (fun l => { l with
          out := none, wick := { l.wick with flags := withC l.wick.flags ok } })).complete n 4
      | none => s
    | none => s)

/-! ### The shared port (R211, R215, R390) -/

/-- The head of the store buffer reaches memory. An entry that waits on queued work, or whose
page is not there, stays. -/
def State.drainHead (s : State) (n : Nat) (e : SbEntry) (t : List SbEntry) : State :=
  let l := s.lan n
  let len := e.bytes.length
  if l.blocked (!e.ls) true e.addr len then s
  else if e.ls then
    s.setLan n ({ l with sb := t }.lsStoreP e.addr e.bytes (fun _ => e.poison))
  else match s.touch (.wick n) e.addr true with
    | (s, .ok _) =>
      ((s.modLan n (fun l => { l with sb := t })).dvStore (.wick n) e.addr e.bytes
        (fun _ => e.poison)).pumpPins
    | (s, .unmapped) => (s.modLan n (fun l => { l with sb := t })).pumpPins
    | (s, .stall) => s

/-- STORE_BUFFER_DRAIN; an entry whose data is uncorrectable drains as a poisoned write (R332). -/
def execStoreBufferDrain (n : Nat) (bad : Bool) (s : State) : Out :=
  .next (match (s.lan n).sb with
    | e :: t => if s.lanOn n then s.drainHead n { e with poison := e.poison || bad } t else s
    | [] => s)

/-- INSTRUCTION_REFILL: the missed line and the next line enter the instruction cache at the
age of a demand fill, and the line buffer. -/
def execInstructionRefill (n va : Nat) (s : State) : Out :=
  let line := va / 128
  .next (if s.lanOn n then
    (s.dvLoadLines (128 * line) 256 false).modLan n (fun l =>
      let ic := [line, line + 1].foldl (fun t x => lineAccess t 4 (x % 64) (x / 64) 1) l.icache
      let l := { l with icache := ic }
      let l := { l with lineBuf := l.lineBufAdd line }
      { l with lineBuf := l.lineBufAdd (line + 1) })
  else s)

/-! ### Interrupt sources (R224) -/

/-- BEAT_COMPARE_MATCH: BEAT has counted up to the next value whose low half is CMP. -/
def execBeatCompareMatch (n : Nat) (s : State) : Out :=
  .next (if s.lanOn n then
    s.modLan n (fun l => { l with
      pendBeat := true
      beat := l.beat + (l.beatcmp - l.beat.setWidth 32).setWidth 64 })
  else s)

/-- SVC_REQUEST. -/
def execSvcRequest (n : Nat) (s : State) : Out :=
  .next (if s.lanOn n then s.modLan n (fun l => { l with pendSvc := true }) else s)

/-! ### NaN reports (R65 to R69) -/

/-- The record registers of a report. -/
def NanRegs.fill (r : NanRegs) (p : NanRep) : NanRegs :=
  { r with
    valid := true
    pc := p.pc.setWidth 48
    insn := p.insn
    src := BitVec.ofNat 32 (b2n p.gen * 2 ^ 31 + p.unit.toNat * 2 ^ 29 + p.arr.toNat * 2 ^ 26 +
      p.quad.toNat * 2 ^ 24 + p.stage.toNat * 2 ^ 20 + p.fmt.toNat * 2 ^ 16 + p.lgrp.toNat)
    tile := BitVec.ofNat 32 (p.trow.toNat * 65536 + p.tcol.toNat)
    elem := BitVec.ofNat 32 (p.row.toNat * 65536 + p.col.toNat)
    k := p.kstep }

/-- The collector accepts a report. A NaN trap starts a beacon where SNAPCTL.NANEN is 1
(R430). -/
def State.nanAccept (s : State) (n : Nat) (p : NanRep) : State :=
  let l := s.lan n
  if !l.nan.trapEn then s
  else if l.nan.valid then s.setLan n { l with nan := { l.nan with cnt := satAdd 32 l.nan.cnt 1 } }
  else
    let s := s.setLan n { l with nan := l.nan.fill p, defNan := true }
    if s.pilot.nanEn then s.beaconTrigger 3 else s

/-- NAN_REPORT: the collector's arbiter accepts report `k` of those that wait. -/
def execNanReport (n k : Nat) (s : State) : Out :=
  let l := s.lan n
  .next (match l.nanQ[k]? with
    | some p => (s.setLan n { l with nanQ := l.nanQ.eraseIdx k }).nanAccept n p
    | none => s)

/-- NAN_RECORD_CLEAR. -/
def execNanRecordClear (n : Nat) (s : State) : Out :=
  .next (if s.lanOn n then s.modLan n (fun l => { l with nan := l.nan.clear }) else s)

/-! ### Reports of the vector unit (R194, R196, R267) -/

/-- FP_EXCEPTION_REPORT: the oldest report becomes a deferred event, unless one of cause 0x31
is pending. -/
def execFpExceptionReport (n : Nat) (s : State) : Out :=
  let l := s.lan n
  .next (match l.fxRep with
    | r :: t => s.setLan n { l with
        fxRep := t
        defFx := match l.defFx with
          | some d => some d
          | none => some r }
    | [] => s)

/-- The write phase of a queued vector store (R164, R169). -/
def State.writePhase (s : State) (n : Nat) (e : VqEntry) : State :=
  e.stores.foldl (fun s r =>
    if r.1 then s.dvStore (.lantern n) r.2.1 r.2.2 (fun _ => false)
    else s.modLan n (fun l => l.lsStore r.2.1 r.2.2)) s

/-- VECTOR_INSTRUCTION_COMPLETE: the oldest queued instruction ends with its write phase; its reports
go to the wick and the collector. DESIGN CHOICE: instructions of different pipes end in program order
too (log 144). -/
def execVectorInstructionComplete (n : Nat) (s : State) : Out :=
  .next (match (s.lan n).vq with
    | e :: t =>
      let s := s.writePhase n e
      let l := s.lan n
      (s.setLan n { l with
        vq := t
        fxRep := l.fxRep ++ (match e.fx with
          | some i => [(e.pc, i)]
          | none => [])
        nanQ := l.nanQ ++ e.nan.toList }).pumpPins
    | [] => s)

/-- The wick without what a discarded vector instruction gave it: A, Z, VL and VEW where they still
have the value that it wrote, and the sticky flags that it was the first to set (R267). DEDUCED (log
147). -/
def Wick.undo (k : Wick) (e : VqEntry) : Wick :=
  { k with
    a := if k.a = e.after.a then e.before.a else k.a
    flags := if k.flags.getLsbD 2 = e.after.flags.getLsbD 2 then
        (k.flags &&& 0b1011#4) ||| (e.before.flags &&& 0b0100#4) else k.flags
    vl := if k.vl = e.after.vl then e.before.vl else k.vl
    vew := if k.vew = e.after.vew then e.before.vew else k.vew
    mode := k.mode &&& ~~~(e.fxNew.setWidth 32 <<< 9) }

/-- REGISTER_FILE_ERROR: the oldest queued instruction has read a bad register; it and those behind it
are discarded. The bank and row of the record are not fixed by the spec. -/
def execRegisterFileError (n lg : Nat) (s : State) : Out :=
  let l := s.lan n
  .next (match l.vq with
    | e :: _ =>
      let (d, s) := s.draw
      let s := s.setLan n { l with
        wick := l.vq.reverse.foldl Wick.undo l.wick
        vq := []
        v := []
        p := l.p.filter (fun q => q.1 = 0)
        defRf := some (e.pc, lg) }
      let struct := if d.getLsbD 63 then 2 else 1
      (s.record { src := readyLan n, cls := clsUe, code := 0x0205, lockind := 4
                  loc := s.locSram n struct (natField d.toNat 0 8) (natField d.toNat 8 16)
                  aux := lg }).pumpPins
    | [] => s)

/-! ### Event entry (R266 to R271) -/

/-- The wick stands at a boundary: between two instructions, at an iteration boundary or in one of the
waits of R277, and not right after an entry (R268). -/
def State.atBoundary (s : State) (n : Nat) : Bool :=
  let l := s.lan n
  s.lanOn n && l.run = .running && !l.halt.halted && !l.entered &&
    (match l.wait with
      | .none => true
      | .page _ _ _ _ => true
      | .event _ _ => true
      | .fence => true
      | .drain => false
      | .answer => false)

/-- The event that the wick enters at a boundary (R269, R270). -/
def State.boundaryEvent (s : State) (n : Nat) : State :=
  let l := s.lan n
  let pc := l.wick.pc
  match l.defRf with
  | some (a, lg) => (s.modLan n (fun l => { l with defRf := none })).takeEvent n 0x42 pc a lg 0
  | none =>
    if l.defNan then
      (s.modLan n (fun l => { l with defNan := false })).takeEvent n 0x30 pc
        (l.nan.pc.setWidth 64) 0 0
    else match l.defFx with
      | some (a, i) => (s.modLan n (fun l => { l with defFx := none })).takeEvent n 0x31 pc a i 0
      | none =>
        if l.cl = 0 then
          match l.async with
          | some c => s.takeEvent n c pc 0 0 0
          | none => s
        else s

/-- What the fetch of one word or two at PC raises (R211). -/
def State.fetchEvent (s : State) (n : Nat) (long : Bool) : State :=
  let pc := (s.lan n).wick.pc
  let ws := pc.toNat :: (if long then [pc.toNat + 4] else [])
  if ws.any s.fetchBad then s.takeEvent n 0x11 pc pc 0 0
  else match s.touchRange (.wick n) false (ws.map (fun a => (a, 4))) with
    | (s, .ok) =>
      match ws.find? (fun a => (s.dvPoison? a 4).isSome) with
      | some a => (s.poisonDv n a).takeEvent n 0x41 pc (BitVec.ofNat 64 a) 0 0
      | none => s
    | (s, .unmapped _) => s.takeEvent n 0x11 pc pc 0 0
    | (s, .stall va) => s.modLan n (fun l => { l with wait := .page (vpnOf va) (subOf va) false false })

/-- Opcodes that R226 and the owning chapters assign; a vector opcode with functions also
needs a listed function (R178). -/
def opAssigned (op func : Nat) : Bool :=
  let span (lo hi : Nat) : Bool := lo ≤ op && op ≤ hi
  if op < 0x80 then
    span 0x01 0x0D || span 0x10 0x15 || span 0x20 0x3B || span 0x40 0x4A || span 0x4C 0x55 ||
      span 0x58 0x59 || span 0x60 0x70
  else if op < 0xA0 then
    match op with
    | 0x80 => func = 0
    | 0x81 => func ≤ 6
    | 0x8A => func ≤ 0x0D
    | 0x8B => func ≤ 7
    | 0x8C => func ≤ 3
    | 0x8D => func ≤ 7
    | 0x8E => func ≤ 5 || (8 ≤ func && func ≤ 0x0C)
    | 0x8F => func = 0
    | 0x90 => func ≤ 1
    | 0x91 => func ≤ 3
    | 0x92 => func ≤ 1
    | 0x93 => func ≤ 3 || (8 ≤ func && func ≤ 0x0F)
    | 0x94 => func ≤ 3
    | 0x95 => func ≤ 3
    | 0x96 => func = 0
    | _ => op ≤ 0x89
  else span 0xA0 0xA3 || op = 0xB0 || 0xE0 ≤ op

/-- Bytes of an instruction by its first word (R225). -/
def wordLen (w0 : Nat) : Nat :=
  let op := natField w0 20 8
  if 0x80 ≤ op && op < 0xC0 then 8
  else if op ≠ 0 && (op < 0x80 || 0xE0 ≤ op) && natField w0 17 3 = 7 then 8
  else 4

/-- An instruction without an assigned opcode or function runs under COND and raises event
0x21 (R226, R228). -/
def State.unassigned (s : State) (n : Nat) (w0 w1 : Word) : Out :=
  if opAssigned (natField w0.toNat 20 8) (natField w1.toNat 8 6) then .next s
  else s.runWick n (wordLen w0.toNat) (BitVec.ofNat 4 (natField w0.toNat 28 4))
    (fun s => s.illegal n 0x21)

/-- EVENT_ENTRY. -/
def execEventEntry (n : Nat) (src : EntrySrc) (s : State) : Out :=
  match src with
  | .boundary => .next (if s.atBoundary n then s.boundaryEvent n else s)
  | .fetch long => .next (if s.wickAt n then s.fetchEvent n long else s)
  | .unassigned w0 w1 => s.unassigned n w0 w1

/-! ### Halts of a gang (R374) -/

/-- MACHINE_CHECK_REPORT: zenith aborts the kernel of a halted lantern. -/
def execMachineCheckReport (n : Nat) (s : State) : Out :=
  .next (if (s.lan n).halt.halted then
    match s.gangOf n with
    | some g => s.abortKernel g
    | none => s
  else s)

/-- KERNEL_WATCHDOG: a lantern that has not executed KEND halts with cause 0x46, and zenith aborts its
kernel. -/
def execKernelWatchdog (n : Nat) (s : State) : Out :=
  .next (match s.gangOf n with
    | some g =>
      if g.wdlimit ≠ 0 && !g.finished.contains n && !(s.lan n).halt.halted then
        (s.haltLan n 0x46 (s.lan n).wick.pc).abortKernel g
      else s
    | none => s)

end Sys2Proof.Machine
end

