-- ==== Sys2Proof/Machine/Vector.lean ====
section
/-!
DEFINITION. Vector.lean: elements of vector registers and predicates (R148 to R150), the
outcome of each destination element (R155, R156), reports of exceptions and NaNs (R65, R68,
R193, R194), and the issue of a vector instruction (R153, R162, R174 to R178).
-/

namespace Sys2Proof.Machine

open Sys2Proof

/-! ### Elements and predicates -/

/-- Bits of an element under VEW (R148). -/
def Wick.ewBits (k : Wick) : Nat := 8 * 2 ^ k.vew.toNat

/-- Replaces `w` bits of a register at bit `pos`. -/
def regPut (r : BitVec 65536) (pos w v : Nat) : BitVec 65536 :=
  (r &&& ~~~(BitVec.ofNat 65536 (2 ^ w - 1) <<< pos)) ||| (BitVec.ofNat 65536 (v % 2 ^ w) <<< pos)

/-- Element `i` of width `w` of the register or group that begins at `g` (R148, R177). -/
def Lantern.elem (l : Lantern) (g w i : Nat) : Nat :=
  ((l.v.getD (g + i * w / 65536) 0).extractLsb' (i * w % 65536) w).toNat

/-- Writes element `i` of width `w`. -/
def Lantern.setElem (l : Lantern) (g w i v : Nat) : Lantern :=
  let r := g + i * w / 65536
  { l with v := l.v.putD r (regPut (l.v.getD r 0) (i * w % 65536) w v) 0 }

/-- A predicate register; P0 reads as all ones (R155). -/
def Lantern.pred (l : Lantern) (i : Nat) : BitVec 8192 :=
  if i = 0 then BitVec.allOnes 8192 else l.p.getD i 0

/-- Writes a predicate register. -/
def Lantern.setPred (l : Lantern) (i : Nat) (v : BitVec 8192) : Lantern :=
  { l with p := l.p.putD i v 0 }

/-- Element `i` is active under predicate `pg` (R150). -/
def Lantern.active (l : Lantern) (pg i : Nat) : Bool := i < l.wick.vl && (l.pred pg).getLsbD i

/-- Active elements, ascending. -/
def Lantern.actives (l : Lantern) (pg : Nat) : List Nat := (List.range l.wick.vl).filter (l.active pg)

/-- The low `vl` bits of a predicate, made from a function. -/
def predOf (vl : Nat) (f : Nat → Bool) : BitVec 8192 :=
  BitVec.ofNat 8192 ((List.range vl).foldl (fun m i => if f i then m + 2 ^ i else m) 0)

/-! ### Results -/

/-- A NaN that an element met (R65): GEN, and the format in which it was seen. -/
abbrev NanSeen := Option (Bool × Nat)

/-- The result of one element. -/
structure ERes where
  bits : Nat
  exc : Exc := 0
  nan : NanSeen := none
  deriving DecidableEq, Repr

/-- The bits of a code hold a NaN. -/
def bitsNan (code bits : Nat) : Bool := (decodeCode code bits).isNan

/-- The NaN that an operation shows: an input before the result (R65). -/
def nanOf (ins : List (Nat × Nat)) (code bits : Nat) : NanSeen :=
  match ins.find? (fun p => bitsNan p.1 p.2) with
  | some p => some (false, p.1)
  | none => if bitsNan code bits then some (true, code) else none

/-- An element result of a floating-point operation. -/
def fpRes (ins : List (Nat × Nat)) (code : Nat) (r : Nat × Exc) : ERes :=
  { bits := r.1, exc := r.2, nan := nanOf ins code r.1 }

/-- What an instruction does: the lantern's registers, exceptions with their elements in
ascending order, and the first NaN with its element (none for the scalar start value). -/
structure VRes where
  l : Lantern
  excs : List (Nat × Exc) := []
  nan : Option (Option Nat × Bool × Nat) := none
  deriving DecidableEq, Repr

/-- Adds what element `i` reports. -/
def VRes.note (r : VRes) (i : Nat) (e : ERes) : VRes :=
  { r with
    excs := if e.exc = 0 then r.excs else r.excs ++ [(i, e.exc)]
    nan := match r.nan, e.nan with
      | some x, _ => some x
      | none, some (g, f) => some (some i, g, f)
      | none, none => none }

/-- Every active element gets its result; inactive ones keep their bits or are zeroed (R156). -/
def Lantern.vmap (l : Lantern) (w : VOp) (wd : Nat) (f : Nat → ERes) : VRes :=
  (List.range l.wick.vl).foldl (fun r i =>
    if l.active w.pg.toNat i then
      let e := f i
      VRes.note { r with l := r.l.setElem w.vd.toNat wd i e.bits } i e
    else if w.zf then { r with l := r.l.setElem w.vd.toNat wd i 0 } else r) { l := l }

/-- A compare into a predicate: inactive elements below VL keep their bits (R155, R156). -/
def Lantern.vcompare (l : Lantern) (w : VOp) (f : Nat → ERes) : VRes :=
  let d := w.vd.toNat % 16
  let rs := (l.actives w.pg.toNat).map (fun i => (i, f i))
  let r : VRes := rs.foldl (fun r p => r.note p.1 p.2) { l := l }
  { r with l := l.setPred d (predOf l.wick.vl (fun i =>
      match rs.find? (fun p => p.1 = i) with
      | some p => p.2.bits = 1
      | none => (l.pred d).getLsbD i)) }

/-! ### Operands -/

/-- Element `i` of VB, or the low bits of Fb where SB is 1 (R174). -/
def Lantern.vbElem (l : Lantern) (w : VOp) (wd i : Nat) : Nat :=
  if w.sb then (l.fReg w.vb.toNat).toNat % 2 ^ wd else l.elem w.vb.toNat wd i

/-- A group of registers is aligned, and lies below V32 (R177, R178). -/
def groupOk (g n : Nat) : Bool := g % n = 0 && g + n ≤ 32

/-- Two groups share a register. -/
def groupsMeet (a n b m : Nat) : Bool := a < b + m && b < a + n

/-- Pred column of R179. -/
inductive PredUse where | none | gu | g
  deriving DecidableEq, Repr

/-- PG and ZF meet the Pred column. -/
def PredUse.ok (u : PredUse) (zf : Bool) (pg : BitVec 4) : Bool :=
  match u with
  | .none => !zf && pg = 0
  | .gu => !zf
  | .g => true

/-- VD names a predicate that may be written (R155, R178). -/
def predDest (vd : BitVec 5) : Bool := !vd.getLsbD 4 && vd ≠ 0

/-- FMT is one of the formats of a row and has the width of VEW (R178). -/
def fmtFits (k : Wick) (fmt : BitVec 4) (lo hi : Nat) : Bool :=
  lo ≤ fmt.toNat && fmt.toNat ≤ hi && fmtBits fmt.toNat = k.ewBits

/-! ### Issue -/

/-- Word 0 of a vector instruction (R174). -/
def vecWord (cond : BitVec 4) (opc : Nat) (am : BitVec 3) (zf : Bool) (pg : BitVec 4)
    (vd va : BitVec 5) (ew : BitVec 2) : Word :=
  BitVec.ofNat 32 (cond.toNat * 2 ^ 28 + opc * 2 ^ 20 + am.toNat * 2 ^ 17 + b2n zf * 2 ^ 16 +
    pg.toNat * 2 ^ 12 + vd.toNat * 2 ^ 7 + va.toNat * 4 + ew.toNat)

/-- Word 0 of an operate instruction. -/
def vopWord (w : VOp) (opc : Nat) : Word := vecWord w.cond opc w.am w.zf w.pg w.vd w.va w.ew

/-- The report of the vector unit's first NaN (R68, R69), of an instruction with elements of `wd` bits. -/
def vecNan (wd : Nat) (pc : Dword) (insn : Word) (x : Option Nat × Bool × Nat) : NanRep :=
  let row : Half := match x.1 with
    | some i => BitVec.ofNat 16 i
    | none => 0xFFFF
  let lg : Half := match x.1 with
    | some i => BitVec.ofNat 16 (i * wd / 2048)
    | none => 0xFFFF
  { pc := pc, insn := insn, gen := x.2.1, unit := 0, arr := 0, quad := 0, stage := 0
    fmt := BitVec.ofNat 4 x.2.2, lgrp := lg, trow := 0, tcol := 0, row := row, col := 0
    kstep := 0xFFFFFFFF }

/-- The union of the exceptions of an instruction. -/
def VRes.all (r : VRes) : Exc := r.excs.foldl (fun x p => x ||| p.2) 0

/-- The lowest element with an exception that FXE enables (R194). -/
def VRes.enabled (r : VRes) (fxe : BitVec 5) : Option Nat :=
  (r.excs.find? (fun p => p.2 &&& fxe ≠ 0)).map (·.1)

/-- MODE.FXS (R199). -/
def Wick.fxs (k : Wick) : BitVec 5 := (k.mode >>> 9).setWidth 5

/-- A vector instruction enters the queue with its results and with what its write phase stores (R153,
R162, R164); the sticky flags are set (R193). -/
def State.vecEnter (s : State) (n : Nat) (insn : Word) (r : VRes) (pins : List Nat)
    (stores : List (Bool × Nat × List Byte)) : State :=
  let l := r.l
  let k := (s.lan n).wick
  let k' := l.wick.addFx r.all
  s.setLan n { l with
    wick := k'
    vq := l.vq ++ [{ pc := k.pc, insn := insn, stores := stores, pins := pins
                     before := k, after := k', fxNew := k'.fxs &&& ~~~k.fxs
                     fx := r.enabled k.fxe
                     nan := r.nan.map (vecNan k.ewBits k.pc insn) }] }

/-- The vector queue has room (R162). -/
def Lantern.vqRoom (l : Lantern) : Bool := l.vq.length < 8

/-- Neither format field names the unassigned code (R39). -/
def fmtsOk (w : VOp) : Bool := w.fmt ≠ 0xF && w.fmt2 ≠ 0xF

/-- An operate instruction: checked, queued and completed. -/
def State.vecOp (s : State) (n : Nat) (w : VOp) (opc : Nat) (u : PredUse) (legal : Wick → Bool)
    (f : Lantern → VRes) : Out :=
  s.runWick n 8 w.cond (fun s => do
    let l := s.lan n
    s.need n (fmtsOk w && w.am = 0 && w.zero = 0 && (w.ew = 0 || opc = 0x80) && u.ok w.zf w.pg && legal l.wick)
    s.await l.vqRoom
    .ok ((s.vecEnter n (vopWord w opc) (f l) [] []).complete n 8))

end Sys2Proof.Machine
end

