-- ==== Sys2Proof/Machine/VectorOps.lean ====
section
/-!
DEFINITION. VectorOps.lean: the operate instructions of the vector unit (R152, R154, R179 to
R181, R185 to R191, R196).
-/

namespace Sys2Proof.Machine

open Sys2Proof

/-! ### Length and predicates (R152, R154, R179) -/

/-- VSETL. -/
def execVsetl (n : Nat) (w : VOp) (s : State) : Out :=
  s.vecOp n w 0x80 .none (fun _ => true) (fun l =>
    let vl := min l.wick.a.toNat (8192 / 2 ^ w.ew.toNat)
    { l := { l with wick := { l.wick with
        vew := w.ew, vl := vl, a := BitVec.ofNat 64 vl, flags := withZ l.wick.flags (vl = 0) } } })

/-- PWHILE. -/
def execPwhile (n : Nat) (w : VOp) (s : State) : Out :=
  s.vecOp n w 0x81 .none (fun _ => predDest w.vd) (fun l =>
    let k := l.wick
    let v := predOf k.vl (fun e => k.x.toNat + e < k.y.toNat)
    { l := { l.setPred w.vd.toNat v with wick := { k with flags := withZ k.flags (!v.getLsbD 0) } } })

/-- One bit of a predicate combination. -/
def plogicBit (f : PLogic) (a b : Bool) : Bool :=
  match f with
  | .pand => a && b
  | .por => a || b
  | .pxor => a != b
  | .pandn => a && !b

/-- PAND, POR, PXOR, PANDN. -/
def execPandPorPxorPandn (n : Nat) (f : PLogic) (w : VOp) (s : State) : Out :=
  s.vecOp n w 0x81 .none
    (fun _ => predDest w.vd && !w.va.getLsbD 4 && !w.vb.getLsbD 4) (fun l =>
    let a := l.pred w.va.toNat
    let b := l.pred w.vb.toNat
    { l := l.setPred w.vd.toNat (predOf l.wick.vl (fun i => plogicBit f (a.getLsbD i) (b.getLsbD i))) })

/-- Writes A and Z. -/
def Lantern.setAZ (l : Lantern) (a : Nat) (z : Bool) : Lantern :=
  { l with wick := { l.wick with a := BitVec.ofNat 64 a, flags := withZ l.wick.flags z } }

/-- PCNT. -/
def execPcnt (n : Nat) (w : VOp) (s : State) : Out :=
  s.vecOp n w 0x81 .none (fun _ => !w.va.getLsbD 4) (fun l =>
    let c := (l.actives w.va.toNat).length
    { l := l.setAZ c (c = 0) })

/-- PFIRST. -/
def execPfirst (n : Nat) (w : VOp) (s : State) : Out :=
  s.vecOp n w 0x81 .none (fun _ => !w.va.getLsbD 4) (fun l =>
    match (l.actives w.va.toNat).head? with
    | some i => { l := l.setAZ i false }
    | none => { l := l.setAZ l.wick.vl true })

/-! ### Integer instructions (R179) -/

/-- A number of `w` bits as a signed integer. -/
def sInt (w v : Nat) : Int := if natBit v (w - 1) then (v : Int) - 2 ^ w else v

/-- The low `w` bits of an integer. -/
def uInt (w : Nat) (z : Int) : Nat := (z % (2 ^ w : Int)).toNat

/-- An integer operation on elements of VEW: the result from a and b. -/
def State.vecInt (s : State) (n : Nat) (w : VOp) (f : Nat → Nat → Nat → Nat) : Out :=
  s.vecOp n w 0x8A .g (fun _ => true) (fun l =>
    let e := l.wick.ewBits
    l.vmap w e (fun i => { bits := f e (l.elem w.va.toNat e i) (l.vbElem w e i) }))

/-- VADD, VSUB. -/
def execVaddVsub (n : Nat) (f : VAddSub) (w : VOp) (s : State) : Out :=
  s.vecInt n w (fun e a b => match f with
    | .add => (a + b) % 2 ^ e
    | .sub => (a + 2 ^ e - b) % 2 ^ e)

/-- VMUL, VMULH. -/
def execVmulVmulh (n : Nat) (f : VMulOp) (w : VOp) (s : State) : Out :=
  s.vecInt n w (fun e a b => match f with
    | .mul => a * b % 2 ^ e
    | .mulh => uInt e (sInt e a * sInt e b / 2 ^ e))

/-- Minimum and maximum of two numbers of `e` bits. -/
def minMaxPick (f : VMinMax) (e a b : Nat) : Nat :=
  match f with
  | .min => if sInt e a ≤ sInt e b then a else b
  | .max => if sInt e a ≤ sInt e b then b else a
  | .minu => min a b
  | .maxu => max a b

/-- VMIN, VMAX, VMINU, VMAXU. -/
def execVminVmaxVminuVmaxu (n : Nat) (f : VMinMax) (w : VOp) (s : State) : Out :=
  s.vecInt n w (minMaxPick f)

/-- A bitwise operation. -/
def logicNat (f : VLogic) (a b : Nat) : Nat :=
  match f with
  | .and => a &&& b
  | .or => a ||| b
  | .xor => a ^^^ b

/-- VAND, VOR, VXOR. -/
def execVandVorVxor (n : Nat) (f : VLogic) (w : VOp) (s : State) : Out :=
  s.vecInt n w (fun _ a b => logicNat f a b)

/-- VSHL, VSHR, VSRA. -/
def execVshlVshrVsra (n : Nat) (f : VShift) (w : VOp) (s : State) : Out :=
  s.vecInt n w (fun e a b => match f with
    | .shl => a * 2 ^ (b % e) % 2 ^ e
    | .shr => a / 2 ^ (b % e)
    | .sra => uInt e (sInt e a / 2 ^ (b % e)))

/-! ### Floating-point instructions (R179, R180) -/

/-- A floating-point operation on elements of FMT. -/
def State.vecFp (s : State) (n : Nat) (w : VOp) (opc : Nat) (lo hi : Nat)
    (f : Lantern → FCtx → Nat → Nat → Nat → Nat → ERes) : Out :=
  s.vecOp n w opc .g (fun k => fmtFits k w.fmt lo hi) (fun l =>
    let e := l.wick.ewBits
    l.vmap w e (fun i => f l l.wick.fctx w.fmt.toNat i (l.elem w.va.toNat e i) (l.vbElem w e i)))

/-- VFADD, VFSUB, VFMUL. -/
def execVfaddVfsubVfmul (n : Nat) (f : VFArith) (w : VOp) (s : State) : Out :=
  s.vecFp n w 0x8B 0 5 (fun _ ctx c _ a b => fpRes [(c, a), (c, b)] c (match f with
    | .add => opAdd ctx c a b
    | .sub => opSub ctx c a b
    | .mul => opMul ctx c a b))

/-- VFMIN, VFMAX. -/
def execVfminVfmax (n : Nat) (f : FMinMax) (w : VOp) (s : State) : Out :=
  s.vecFp n w 0x8B 0 5 (fun _ ctx c _ a b =>
    fpRes [(c, a), (c, b)] c (opMinMax ctx (f = .max) c a b))

/-- The sign bit of an element. -/
def signBit (c : Nat) : Nat := 2 ^ (fmtBits c - 1)

/-- VFABS, VFNEG, VFSGNJ: only the sign bit changes, and a NaN operand gives the canonical
NaN (R180). -/
def signOp (f : VFSign) (c a b : Nat) : Nat :=
  let m := a % signBit c
  match f with
  | .abs => if bitsNan c a then canonNan c else m
  | .neg => if bitsNan c a then canonNan c else a ^^^ signBit c
  | .sgnj => if bitsNan c a || bitsNan c b then canonNan c else m + (b / signBit c) * signBit c

/-- VFABS, VFNEG, VFSGNJ. -/
def execVfabsVfnegVfsgnj (n : Nat) (f : VFSign) (w : VOp) (s : State) : Out :=
  s.vecFp n w 0x8B 0 5 (fun _ _ c _ a b =>
    fpRes ((c, a) :: (if f = .sgnj then [(c, b)] else [])) c (signOp f c a b, 0))

/-- VFMA, VFMS, VFNMA, VFNMS. -/
def execVfmaVfmsVfnmaVfnms (n : Nat) (f : VFmaOp) (w : VOp) (s : State) : Out :=
  s.vecFp n w 0x8C 0 5 (fun l ctx c i a b =>
    let d := l.elem w.vc.toNat l.wick.ewBits i
    fpRes [(c, a), (c, b), (c, d)] c
      (opFma ctx c (f = .fnma || f = .fnms) (f = .fms || f = .fnms) a b d))

/-- VFDIV, VFSQRT. -/
def execVfdivVfsqrt (n : Nat) (f : VDivSqrt) (w : VOp) (s : State) : Out :=
  s.vecFp n w 0x8D 0 3 (fun _ ctx c _ a b => match f with
    | .div => fpRes [(c, a), (c, b)] c (opDiv ctx c a b)
    | .sqrt => fpRes [(c, a)] c (opSqrt ctx c a))

/-! ### Elementwise functions (R134, R181) -/

/-- VEXP, VRECIP, VRSQRT, VLOGI, VGELU, VSILU. -/
def execVexpVrecipVrsqrtVlogi (n : Nat) (f : ElemFun) (w : VOp) (s : State) : Out :=
  s.vecFp n w 0x8D 1 1 (fun _ ctx c _ a _ => fpRes [(c, a)] c (elemOp f ctx a))

/-! ### Compares (R179, R180) -/

/-- An integer compare. -/
def cmpHolds (f : VCmpOp) (e a b : Nat) : Bool :=
  match f with
  | .eq => a = b
  | .ne => a ≠ b
  | .lt => sInt e a < sInt e b
  | .le => sInt e a ≤ sInt e b
  | .ltu => a < b
  | .leu => a ≤ b

/-- VCMP. -/
def execVcmp (n : Nat) (f : VCmpOp) (w : VOp) (s : State) : Out :=
  s.vecOp n w 0x8E .gu (fun _ => predDest w.vd) (fun l =>
    let e := l.wick.ewBits
    l.vcompare w (fun i => { bits := b2n (cmpHolds f e (l.elem w.va.toNat e i) (l.vbElem w e i)) }))

/-- A floating-point compare, with its exceptions. -/
def fcmpRes (f : VFCmpOp) (ctx : FCtx) (c a b : Nat) : ERes :=
  let x := rdElem ctx c a
  let y := rdElem ctx c b
  let un := x.isNan || y.isNan
  let quiet := f = .eq || f = .ne || f = .un
  let r := match f with
    | .eq => !un && fvCmp x y = 0
    | .ne => un || fvCmp x y ≠ 0
    | .lt => !un && fvCmp x y < 0
    | .le => !un && fvCmp x y ≤ 0
    | .un => un
  { bits := b2n r
    exc := if quiet then snanExc x y else if un then Exc.invalid else 0
    nan := if x.isNan || y.isNan then some (false, c) else none }

/-- VFCMP. -/
def execVfcmp (n : Nat) (f : VFCmpOp) (w : VOp) (s : State) : Out :=
  s.vecOp n w 0x8E .gu (fun k => predDest w.vd && fmtFits k w.fmt 0 5) (fun l =>
    let e := l.wick.ewBits
    l.vcompare w (fun i =>
      fcmpRes f l.wick.fctx w.fmt.toNat (l.elem w.va.toNat e i) (l.vbElem w e i)))

/-! ### Conversion and MX packing (R187 to R189) -/

/-- The formats of VCVT. -/
def cvtFmt (c : Nat) : Bool := c ≤ 5 || c = 0xB || c = 0xD

/-- VCVT is legal: its formats, the narrower width in VEW, and its groups (R177, R178,
R187). -/
def cvtLegal (k : Wick) (w : VOp) : Bool :=
  let fs := w.fmt2.toNat
  let fd := w.fmt.toNat
  let ws := fmtBits fs
  let wd := fmtBits fd
  let e := min ws wd
  cvtFmt fs && cvtFmt fd && fs ≠ fd && e = k.ewBits && max ws wd ≤ 4 * e &&
    groupOk w.va.toNat (ws / e) && groupOk w.vd.toNat (wd / e) &&
    (ws = wd || !groupsMeet w.vd.toNat (wd / e) w.va.toNat (ws / e))

/-- VCVT. -/
def execVcvt (n : Nat) (w : VOp) (s : State) : Out :=
  s.vecOp n w 0x8F .g (fun k => cvtLegal k w) (fun l =>
    let fs := w.fmt2.toNat
    let fd := w.fmt.toNat
    l.vmap w (fmtBits fd) (fun i =>
      let a := l.elem w.va.toNat (fmtBits fs) i
      fpRes [(fs, a)] fd (opConvert l.wick.fctx fs fd a)))

/-- The MX codes that VMXPACK and VMXUNPACK take. -/
def mxVec (c : Nat) : Bool := isMx c

/-- One block of VMXPACK that has an active element: its elements below VL, with the tail
keeping its bits (R156), and its scale (R188). A NaN scale that an infinity makes is a generated NaN of the
result's format, seen at the infinite elements (R65; log 154). -/
def Lantern.packBlock (l : Lantern) (w : VOp) (b : Nat) : List (Nat × ERes) × (Nat × Nat) :=
  let ctx := l.wick.fctx
  let is_ := natRange (32 * b) (32 * b + 32)
  let val (i : Nat) : FV :=
    if l.active w.pg.toNat i then rdElem ctx 1 (l.elem w.va.toNat 32 i) else FV.zero
  let q := quantize w.fmt.toNat (is_.map (fun i => (val i, ctx.mode)))
  let made := !is_.any (fun i => (val i).isNan)
  (((is_.zip q.2).filter (fun p => p.1 < l.wick.vl)).map (fun p =>
      (p.1, { bits := p.2.1, exc := p.2.2
              nan := if (val p.1).isNan then some (false, 1)
                else if made && (val p.1).isInf then some (true, w.fmt.toNat) else none })),
    (b, q.1))

/-- VMXPACK: elements go to VD and scales to VC. Where VC is VD, each bit that both write takes
one of the two values. -/
def execVmxpack (n : Nat) (w : VOp) (s : State) : Out :=
  let d := w.vd.toNat
  let c := w.vc.toNat
  let m := Config.freeVec s.freeCtr
  let go := s.wickCan n 8 && condTrue w.cond (s.lan n).wick.flags
  State.vecOp (if go then { s with freeCtr := s.freeCtr + 1 } else s) n w 0x90 .gu
    (fun k => k.vew = 2 && mxVec w.fmt.toNat && w.va ≠ w.vd && w.va ≠ w.vc) (fun l =>
    let bs := ((List.range ((l.wick.vl + 31) / 32)).filter (fun b =>
      (natRange (32 * b) (32 * b + 32)).any (l.active w.pg.toNat))).map (l.packBlock w)
    let els := bs.flatMap (·.1)
    let putEls (l : Lantern) : Lantern :=
      els.foldl (fun l p => l.setElem d (fmtBits w.fmt.toNat) p.1 p.2.bits) l
    let putScs (l : Lantern) : Lantern := bs.foldl (fun l b => l.setElem c 8 b.2.1 b.2.2) l
    let x := putScs (putEls l)
    let y := (putEls (putScs l)).v.getD d 0
    let x := if d = c then { x with v := x.v.putD d ((x.v.getD d 0 &&& m) ||| (y &&& ~~~m)) 0 } else x
    els.foldl (fun r p => r.note p.1 p.2) { l := x })

/-- VMXUNPACK. -/
def execVmxunpack (n : Nat) (w : VOp) (s : State) : Out :=
  s.vecOp n w 0x90 .g
    (fun k => k.vew = 2 && mxVec w.fmt.toNat && w.vd ≠ w.va && (w.sb || w.vd ≠ w.vb)) (fun l =>
    let code := w.fmt.toNat
    l.vmap w 32 (fun i =>
      let a := l.elem w.va.toNat (fmtBits code) i
      let sc := if w.sb then (l.fReg w.vb.toNat).toNat % 256 else l.elem w.vb.toNat 8 (i / 32)
      let x := scaled sc (decodeCode code a)
      let r := toFmt l.wick.fctx 1 x
      { bits := r.1, exc := r.2, nan := if x.isNan then some (false, code) else none }))

/-! ### Widening and dot products (R185, R186) -/

/-- VWMUL, VWMULU. -/
def execVwmulVwmulu (n : Nat) (f : VWMul) (w : VOp) (s : State) : Out :=
  s.vecOp n w 0x91 .g (fun k => k.vew ≠ 3 && groupOk w.vd.toNat 2 &&
      !groupsMeet w.vd.toNat 2 w.va.toNat 1 && (w.sb || !groupsMeet w.vd.toNat 2 w.vb.toNat 1))
    (fun l =>
    let e := l.wick.ewBits
    l.vmap w (2 * e) (fun i =>
      let a := l.elem w.va.toNat e i
      let b := l.vbElem w e i
      { bits := match f with
          | .signed => uInt (2 * e) (sInt e a * sInt e b)
          | .unsigned => a * b }))

/-- The format of twice the width (R185, R190). -/
def wideFmt (c : Nat) : Nat := if c = 1 then 0 else 1

/-- VFWMUL, VFWMA. -/
def execVfwmulVfwma (n : Nat) (f : VFWide) (w : VOp) (s : State) : Out :=
  s.vecOp n w 0x91 .g (fun k => fmtFits k w.fmt 1 3 && groupOk w.vd.toNat 2 &&
      !groupsMeet w.vd.toNat 2 w.va.toNat 1 && (w.sb || !groupsMeet w.vd.toNat 2 w.vb.toNat 1))
    (fun l =>
    let e := l.wick.ewBits
    let c := w.fmt.toNat
    let wc := wideFmt c
    let ctx := l.wick.fctx
    l.vmap w (2 * e) (fun i =>
      let a := l.elem w.va.toNat e i
      let b := l.vbElem w e i
      let p := fvMul (rdElem ctx c a) (rdElem ctx c b)
      match f with
      | .mul => fpRes [(c, a), (c, b)] wc (finish ctx wc p)
      | .ma =>
        let d := l.elem w.vd.toNat (2 * e) i
        let t := fvAdd ctx.mode (rdElem ctx wc d) p.1
        fpRes [(c, a), (c, b), (wc, d)] wc (finish ctx wc (t.1, p.2 ||| t.2))))

/-- A legal format pair of VDOT4 and VDOT2. -/
def dotLegal (f : VDot) (fa fb : Nat) : Bool :=
  match f with
  | .dot4 => ((fa = 4 || fa = 5) && (fb = 4 || fb = 5)) || (fa = 0xB && fb = 0xB)
  | .dot2 => fa = 2 && fb = 2

/-- The exact sum of products added to d with one rounding. -/
def dotFp (ctx : FCtx) (fa fb : Nat) (ps : List (Nat × Nat)) (d : Nat) : ERes :=
  let qs := ps.map (fun p => fvMul (rdElem ctx fa p.1) (rdElem ctx fb p.2))
  let sum := exactSum (qs.map (·.1))
  let ex := qs.foldl (fun x q => x ||| q.2) 0
  let gen : Exc := if sum.isNan && !qs.any (fun q => q.1.isNan) then Exc.invalid else 0
  let t := fvAdd ctx.mode (rdElem ctx 1 d) sum
  fpRes (ps.flatMap (fun p => [(fa, p.1), (fb, p.2)]) ++ [(1, d)]) 1
    (finish ctx 1 (t.1, ex ||| gen ||| t.2))

/-- VDOT4, VDOT2: FMT2 is the format of VA's elements, FMT that of VB's. -/
def execVdot4Vdot2 (n : Nat) (f : VDot) (w : VOp) (s : State) : Out :=
  s.vecOp n w 0x92 .g (fun k => k.vew = 2 && dotLegal f w.fmt2.toNat w.fmt.toNat) (fun l =>
    let fa := w.fmt2.toNat
    let fb := w.fmt.toNat
    let k := fmtBits fa
    l.vmap w 32 (fun i =>
      let a := l.elem w.va.toNat 32 i
      let b := l.vbElem w 32 i
      let d := l.elem w.vd.toNat 32 i
      let ps := (List.range (32 / k)).map (fun j => (natField a (k * j) k, natField b (k * j) k))
      if fa = 0xB then
        { bits := uInt 32 (ps.foldl (fun z p => z + sInt 8 p.1 * sInt 8 p.2) (d : Int)) }
      else dotFp l.wick.fctx fa fb ps d))

/-! ### Reductions (R190, R191) -/

/-- A node of the tree: its bits, the lowest active element that feeds it, and what its
operations reported. -/
structure RNode where
  bits : Nat
  idx : Nat
  log : List (Nat × ERes)
  deriving DecidableEq, Repr

/-- Combines two nodes; an empty one passes the other (R191). -/
def redNode (op : Nat → Nat → ERes) (x y : Option RNode) : Option RNode :=
  match x, y with
  | none, y => y
  | x, none => x
  | some a, some b =>
    let r := op a.bits b.bits
    let i := min a.idx b.idx
    some { bits := r.bits, idx := i, log := a.log ++ b.log ++ [(i, r)] }

/-- Levels of the tree: ceil(log2 VL). -/
def redLevels (vl : Nat) : Nat := if vl ≤ 1 then 0 else Nat.log2 (vl - 1) + 1

/-- A reduction: leaves, node operation, start value (R191). A NaN of the start value or of
the final combination has no element (R68). -/
def Lantern.reduce (l : Lantern) (w : VOp) (leaf : Nat → ERes) (op : Nat → Nat → ERes)
    (start : Nat) (startNan : NanSeen) : VRes :=
  let c := redLevels l.wick.vl
  let leaves := (List.range (2 ^ c)).map (fun i =>
    if l.active w.pg.toNat i then
      let e := leaf i
      some { bits := e.bits, idx := i, log := [(i, e)] : RNode }
    else none)
  let root := ((treeLevels (redNode op) c leaves).head?).join
  match root with
  | none => { l := l.setF w.vd.toNat (BitVec.ofNat 64 start)
              nan := startNan.map (fun x => (none, x)) }
  | some t =>
    let r := op start t.bits
    let res : VRes := { l := l.setF w.vd.toNat (BitVec.ofNat 64 r.bits) }
    let lowest (i : Nat) : List (Nat × ERes) := t.log.filter (fun p => p.1 = i)
    let res := (natRange 0 l.wick.vl).foldl (fun v i => (lowest i).foldl (fun v p => v.note i p.2) v) res
    let res := if r.exc = 0 then res else { res with excs := insExc (t.idx, r.exc) res.excs }
    match res.nan with
    | some _ => res
    | none => { res with nan := match startNan with
        | some x => some (none, x)
        | none => r.nan.map (fun x => (none, x)) }
where
  /-- Places an exception before those of higher elements. -/
  insExc (x : Nat × Exc) : List (Nat × Exc) → List (Nat × Exc)
    | [] => [x]
    | y :: t => if x.1 < y.1 then x :: y :: t else y :: insExc x t

/-- The reduction is one of the floating-point ones. -/
def redIsFp (f : RedOp) : Bool := f = .fsum || f = .fmax || f = .fmin || f = .fwsum

/-- The node operation of a floating-point reduction in format `c`. -/
def redFpNode (f : RedOp) (ctx : FCtx) (c a b : Nat) : ERes :=
  let r := fpRes [(c, a), (c, b)] c (match f with
    | .fmax => opMinMax ctx true c a b
    | .fmin => opMinMax ctx false c a b
    | _ => opAdd ctx c a b)
  { r with nan := match r.nan with
      | some (true, x) => some (true, x)
      | _ => none }

/-- The node operation of an integer reduction. -/
def redIntNode (f : RedOp) (e a b : Nat) : ERes :=
  { bits := match f with
      | .sum => (a + b) % 2 ^ e
      | .max => minMaxPick .max e a b
      | .min => minMaxPick .min e a b
      | .maxu => max a b
      | .minu => min a b
      | .and => a &&& b
      | .or => a ||| b
      | _ => a ^^^ b }

/-- The formats of a floating-point reduction. -/
def redLegal (f : RedOp) (k : Wick) (fmt : BitVec 4) : Bool :=
  match f with
  | .fsum => fmtFits k fmt 0 3
  | .fmax => fmtFits k fmt 0 5
  | .fmin => fmtFits k fmt 0 5
  | .fwsum => fmtFits k fmt 1 3
  | _ => true

/-- A leaf of a floating-point reduction: the element, converted exactly to the node format,
or its bits where that is its own. -/
def redLeaf (ctx : FCtx) (c wc a : Nat) : ERes :=
  let r := if c = wc then (a, (0 : Exc)) else toFmt ctx wc (rdElem ctx c a)
  { bits := r.1, exc := r.2, nan := if bitsNan c a then some (false, c) else none }

/-- The reductions of R190. -/
def execReduction (n : Nat) (f : RedOp) (w : VOp) (s : State) : Out :=
  s.vecOp n w 0x93 .gu (fun k => redLegal f k w.fmt) (fun l =>
    let e := l.wick.ewBits
    let fb := (l.fReg w.vb.toNat).toNat
    if redIsFp f then
      let c := w.fmt.toNat
      let wc := if f = .fwsum then wideFmt c else c
      let ctx := l.wick.fctx
      let st := fb % 2 ^ fmtBits wc
      l.reduce w (fun i => redLeaf ctx c wc (l.elem w.va.toNat e i)) (redFpNode f ctx wc) st
        (if bitsNan wc st then some (false, wc) else none)
    else
      l.reduce w (fun i => { bits := l.elem w.va.toNat e i }) (redIntNode f e) (fb % 2 ^ e) none)

/-! ### Permutations and moves (R179) -/

/-- VSLUP, VSLDN. -/
def execVslupVsldn (n : Nat) (f : VSlide) (w : VOp) (s : State) : Out :=
  s.vecOp n w 0x94 .gu (fun _ => w.vd ≠ w.va) (fun l =>
    let e := l.wick.ewBits
    let k := l.wick.a.toNat
    l.vmap w e (fun i => match f with
      | .up => { bits := if i < k then l.elem w.vd.toNat e i else l.elem w.va.toNat e (i - k) }
      | .down => { bits := if i + k < l.wick.vl then l.elem w.va.toNat e (i + k) else 0 }))

/-- VPERM. Its index register is no destination (R178). -/
def execVperm (n : Nat) (w : VOp) (s : State) : Out :=
  s.vecOp n w 0x94 .g (fun _ => w.vd ≠ w.va && (w.sb || w.vd ≠ w.vb)) (fun l =>
    let e := l.wick.ewBits
    l.vmap w e (fun i =>
      let j := l.vbElem w e i
      { bits := if j < l.wick.vl then l.elem w.va.toNat e j else 0 }))

/-- VCOMPRESS. -/
def execVcompress (n : Nat) (w : VOp) (s : State) : Out :=
  s.vecOp n w 0x94 .gu (fun _ => w.vd ≠ w.va) (fun l =>
    let e := l.wick.ewBits
    let as_ := l.actives w.pg.toNat
    let l' := ((List.range as_.length).zip as_).foldl
      (fun l' p => l'.setElem w.vd.toNat e p.1 (l.elem w.va.toNat e p.2)) l
    { l := { l' with wick := { l'.wick with a := BitVec.ofNat 64 as_.length } } })

/-- VMV, VBCAST, VIOTA. -/
def execVmvVbcastViota (n : Nat) (f : VMove) (w : VOp) (s : State) : Out :=
  s.vecOp n w 0x95 .g (fun _ => true) (fun l =>
    let e := l.wick.ewBits
    l.vmap w e (fun i => { bits := match f with
      | .mv => l.elem w.va.toNat e i
      | .bcast => (l.fReg w.vb.toNat).toNat % 2 ^ e
      | .iota => i % 2 ^ e }))

/-- VSEL: every element below VL is written. -/
def execVsel (n : Nat) (w : VOp) (s : State) : Out :=
  s.vecOp n w 0x95 .gu (fun _ => true) (fun l =>
    let e := l.wick.ewBits
    { l := (List.range l.wick.vl).foldl (fun r i => r.setElem w.vd.toNat e i
        (if l.active w.pg.toNat i then l.elem w.va.toNat e i else l.vbElem w e i)) l })

/-- VFENCE (R196). -/
def execVfence (n : Nat) (w : VOp) (s : State) : Out :=
  s.runWick n 8 w.cond (fun s => do
    s.need n (fmtsOk w && w.am = 0 && w.zero = 0 && w.ew = 0 && PredUse.none.ok w.zf w.pg)
    s.awaitFence (s.vfenceDone n)
    .ok (s.complete n 8))

end Sys2Proof.Machine
end

