-- ==== Sys2Proof/Machine/VectorMem.lean ====
section
/-!
DEFINITION. VectorMem.lean: the memory instructions of the vector unit in their phases (R164 to
R173, R176, R182 to R184, R195).
-/

namespace Sys2Proof.Machine

open Sys2Proof

/-! ### Addresses (R176, R182 to R184) -/

/-- The four address forms. -/
inductive VForm where | unit | stride | index | seg
  deriving DecidableEq, Repr

/-- The fields of a memory word are legal (R174, R176 to R178). -/
def vmemLegal (k : Wick) (w : VMem) (form : VForm) (store : Bool) : Bool :=
  let iw := max k.ewBits 32
  1 ≤ w.am.toNat && w.am.toNat ≤ 5 && w.zero = 0 && w.ew = 0 && (!store || !w.zf) &&
    (match form with
      | .index => groupOk w.vb.toNat (iw / k.ewBits) && w.nfm1 = 0
      | .seg => w.vb = 0 && w.nfm1 ≠ 0 && w.vd.toNat + w.nfm1.toNat < 32
      | _ => w.vb = 0 && w.nfm1 = 0)

/-- Base address (R176). -/
def vmemBase (k : Wick) (w : VMem) : Dword :=
  let d := w.disp.signExtend 64
  match w.am.toNat with
  | 1 => w.disp.setWidth 64
  | 2 => k.x + d
  | 3 => k.y + d
  | 4 => k.x + d
  | _ => k.y + d

/-- Stride register (R176). -/
def vmemStride (k : Wick) (w : VMem) : Dword :=
  if w.am = 2 || w.am = 4 then k.y else k.x

/-- One access of a vector memory instruction: element or record, register, address. -/
structure VAcc where
  i : Nat
  reg : Nat
  addr : Dword
  deriving DecidableEq, Repr

/-- The accesses of the active elements, in the order of translation. -/
def Lantern.vaccs (l : Lantern) (w : VMem) (form : VForm) : List VAcc :=
  let k := l.wick
  let wb := k.ewBits / 8
  let b := vmemBase k w
  let vd := w.vd.toNat
  (l.actives w.pg.toNat).flatMap (fun i =>
    match form with
    | .unit => [{ i := i, reg := vd, addr := b + BitVec.ofNat 64 (wb * i) }]
    | .stride => [{ i := i, reg := vd, addr := b + vmemStride k w * BitVec.ofNat 64 i }]
    | .index => [{ i := i, reg := vd
                   addr := b + BitVec.ofNat 64 (l.elem w.vb.toNat (max k.ewBits 32) i) }]
    | .seg =>
      let nf := w.nfm1.toNat + 1
      (List.range nf).map (fun f =>
        { i := i, reg := vd + f, addr := b + BitVec.ofNat 64 (wb * (nf * i + f)) }))

/-! ### Phases -/

/-- The translate phase (R165, R166, R171): the first failing element raises its event, and a
page that is not there stalls the instruction. -/
def State.vtranslate (s : State) (n : Nat) (dv write : Bool) (wb : Nat) : List VAcc → Run State
  | [] => .ok s
  | x :: t =>
    if s.partBad n dv false x.addr wb wb then .error (.trap s 0x11 x.addr x.i)
    else if x.addr.toNat % wb ≠ 0 then .error (.trap s 0x13 x.addr x.i)
    else if dv then
      match s.touch (.lantern n) x.addr.toNat write with
      | (s, .ok _) => s.vtranslate n dv write wb t
      | (s, .unmapped) => .error (.trap s 0x11 x.addr x.i)
      | (s, .stall) => .error (.wait s (.page (vpnOf x.addr.toNat) (subOf x.addr.toNat) write true))
    else s.vtranslate n dv write wb t

/-- The instruction at the wick's PC holds no pin: what waited for one goes on (R172). -/
def State.unpin (s : State) (n : Nat) : State :=
  if (s.lan n).pins.isEmpty then s else (s.modLan n (fun l => { l with pins := [] })).pumpPins

/-- The instruction at the wick's PC has translated its pages and holds them as pins, which ends the hold
of R173 (R172). -/
def State.pin (s : State) (n : Nat) (dv : Bool) (xs : List VAcc) : State :=
  if dv then
    let ps := (xs.map (fun x => vpnOf x.addr.toNat)).eraseDups
    (s.unhold n ps).modLan n (fun l => { l with pins := ps })
  else s

/-- An access waits for queued work or a buffered store that it overlaps (R81, R195). -/
def Lantern.vwaits (l : Lantern) (dv write : Bool) (wb : Nat) (xs : List VAcc) : Bool :=
  xs.any (fun x => l.blocked dv write x.addr.toNat wb ||
    l.sb.any (fun e => e.ls = !dv && overlap e.addr e.bytes.length x.addr.toNat wb))

/-- Bytes of one element. -/
def State.vread (s : State) (n : Nat) (dv : Bool) (a wb : Nat) : List Byte :=
  if dv then s.dvRead a wb else (s.lan n).lsRead a wb

/-- An element's data is poisoned. -/
def State.vpoison (s : State) (n : Nat) (dv : Bool) (a wb : Nat) : Bool :=
  if dv then (s.dvPoison? a wb).isSome else (s.lan n).lsPoisoned a wb

/-- The first instruction word of a memory instruction. -/
def vmemWord (w : VMem) (opc : Nat) : Word := vecWord w.cond opc w.am w.zf w.pg w.vd w.va w.ew

/-- Writes the destination registers of a load (R156, R184). -/
def Lantern.vloadWrite (l : Lantern) (w : VMem) (form : VForm) (vals : List (VAcc × Nat)) : Lantern :=
  let e := l.wick.ewBits
  let regs := if form = .seg then natRange w.vd.toNat (w.vd.toNat + w.nfm1.toNat + 1) else [w.vd.toNat]
  let z := if w.zf then
      regs.foldl (fun l' r => (List.range l.wick.vl).foldl (fun l' i =>
        if l.active w.pg.toNat i then l' else l'.setElem r e i 0) l') l
    else l
  vals.foldl (fun l' p => l'.setElem p.1.reg e p.1.i p.2) z

/-- A load or gather (R164 to R169). -/
def State.vload (s : State) (n : Nat) (w : VMem) (opc : Nat) (form : VForm) : Out :=
  s.runWick n 8 w.cond (fun s => do
    let l := s.lan n
    s.need n (vmemLegal l.wick w form false)
    s.await l.vqRoom
    let dv := 4 ≤ w.am.toNat
    let wb := l.wick.ewBits / 8
    let xs := l.vaccs w form
    let s ← (s.unpin n).vtranslate n dv false wb xs
    let s := s.pin n dv xs
    s.await (!(s.lan n).vwaits dv false wb xs)
    match xs.find? (fun x => s.vpoison n dv x.addr.toNat wb) with
    | some x => s.poisoned n dv x.addr x.i
    | none =>
      let vals := xs.map (fun x => (x, leNat (s.vread n dv x.addr.toNat wb)))
      let s := if dv then
          ((xs.map (fun x => s.vaPa x.addr.toNat / 128)).eraseDups).foldl (fun s a => s.l1Load n (128 * a)) s
        else s
      .ok ((s.vecEnter n (vmemWord w opc) { l := (s.lan n).vloadWrite w form vals }
        (s.lan n).pins []).complete n 8))

/-- Joins the bytes of accesses that follow one another in memory. -/
def joinRuns : List (Nat × List Byte) → List (Nat × List Byte)
  | [] => []
  | (a, bs) :: t =>
    match joinRuns t with
    | (b, cs) :: r => if b = a + bs.length then (a, bs ++ cs) :: r else (a, bs) :: (b, cs) :: r
    | [] => [(a, bs)]

/-- A store or scatter: its bytes are taken at issue and written in its write phase (R164). Of two
elements that share an address the higher one stays (R169; DESIGN CHOICE for a strided store, log 145). -/
def State.vstore (s : State) (n : Nat) (w : VMem) (opc : Nat) (form : VForm) : Out :=
  s.runWick n 8 w.cond (fun s => do
    let l := s.lan n
    s.need n (vmemLegal l.wick w form true)
    s.await l.vqRoom
    let dv := 4 ≤ w.am.toNat
    let wb := l.wick.ewBits / 8
    let xs := l.vaccs w form
    let s ← (s.unpin n).vtranslate n dv true wb xs
    let s := s.pin n dv xs
    s.await (!(s.lan n).vwaits dv true wb xs)
    let runs := joinRuns (xs.map (fun x => (x.addr.toNat, leBytes wb (l.elem x.reg l.wick.ewBits x.i))))
    .ok ((s.vecEnter n (vmemWord w opc) { l := s.lan n } (s.lan n).pins
      (runs.map (fun r => (dv, r.1, r.2)))).complete n 8))

/-- VLD. -/
def execVld (n : Nat) (w : VMem) (s : State) : Out := s.vload n w 0x82 .unit
/-- VST. -/
def execVst (n : Nat) (w : VMem) (s : State) : Out := s.vstore n w 0x83 .unit
/-- VLDS. -/
def execVlds (n : Nat) (w : VMem) (s : State) : Out := s.vload n w 0x84 .stride
/-- VSTS. -/
def execVsts (n : Nat) (w : VMem) (s : State) : Out := s.vstore n w 0x85 .stride
/-- VGATH. -/
def execVgath (n : Nat) (w : VMem) (s : State) : Out := s.vload n w 0x86 .index
/-- VSCAT. -/
def execVscat (n : Nat) (w : VMem) (s : State) : Out := s.vstore n w 0x87 .index
/-- VLDSEG. -/
def execVldseg (n : Nat) (w : VMem) (s : State) : Out := s.vload n w 0x88 .seg
/-- VSTSEG. -/
def execVstseg (n : Nat) (w : VMem) (s : State) : Out := s.vstore n w 0x89 .seg

end Sys2Proof.Machine
end

