-- ==== Sys2Proof/Machine/Matrix.lean ====
section
/-!
DEFINITION. Matrix.lean: the matrix instructions, the order in which the arrays take queued
work, hand-off and drain, and the checksum sequence with its quarantines and bypasses (R70
to R104).
-/

namespace Sys2Proof.Machine

open Sys2Proof

/-! ### Slots (R79, R97 to R99) -/

/-- A tile takes slot `i`: every other slot whose banks overlap becomes empty (R98). -/
def claimSlot (slots : Tab Tile) (i : Nat) (t : Tile) : Tab Tile :=
  let k := bankK t.fc t.comp
  Tab.put (slots.filter (fun p =>
    let j := bankK p.2.fc p.2.comp
    !overlap (i * k) k (p.1 * j) j)) i t

/-- Slots of array `m` once every queued instruction has run. -/
def Lantern.projected (l : Lantern) (m : Nat) : Tab Tile :=
  (l.mq.filter (fun e => !e.done.getLsbD m)).foldl (fun t e =>
    match e.op with
    | .mma r => if r.skip.getLsbD m then t else claimSlot t r.slot (r.joined (t.find? r.slot))
    | .drain d => t.erase d.slot
    | .chain _ _ => []) (l.arr m).slots

/-- The eight arrays. -/
def arrayNos : List Nat := List.range 8

/-- Array `m` is in service. -/
def Lantern.inSvc (l : Lantern) (m : Nat) : Bool := !(l.arr m).quar

/-- Tiles that slot `i` will hold: array and tile. -/
def Lantern.slotTiles (l : Lantern) (i : Nat) : List (Nat × Tile) :=
  arrayNos.filterMap (fun m => ((l.projected m).find? i).map (fun t => (m, t)))

/-- The slot will be empty on every array in service (R99). -/
def Lantern.slotEmpty (l : Lantern) (i : Nat) : Bool :=
  !(l.slotTiles i).any (fun p => l.inSvc p.1)

/-! ### MMA (R77, R78) -/

/-- Word 0 of a long-form matrix or chain instruction. -/
def longInsn (w : LongWord) (opc : Nat) : Word :=
  BitVec.ofNat 32 (w.cond.toNat * 2 ^ 28 + opc * 2 ^ 20 + w.lo.toNat)

/-- The multiply that a word and the wick's registers name. -/
def Lantern.mmaOf (l : Lantern) (w : LongWord) : MmaReq :=
  let lo := w.lo.toNat
  let w1 := w.w1.toNat
  let a := l.wick.a.toNat
  { shape := natField lo 17 3, fa := natField lo 13 4, fb := natField lo 9 4, fc := natField lo 5 4
    acc := natBit lo 4, slot := natField lo 0 4
    k := natField w1 16 16 + 1, mlen := natField w1 8 8 + 1, nlen := natField w1 0 8 + 1
    ab := natField l.wick.x.toNat 0 22, bb := natField l.wick.y.toNat 0 22
    asb := natField a 0 22, bsb := natField a 32 22
    skip := BitVec.ofNat 8 (natField a 54 8), comp := natBit a 63
    meff := l.meff, neff := l.neff, pc := l.wick.pc, insn := longInsn w 0xA0 }

/-- The pairs of R40. -/
def pairOk (fa fb fc : Nat) : Bool :=
  let f32 : Bool := fc = 1 || fc = 0xE
  match fa with
  | 0x0 => fb = 0 && fc = 0
  | 0x1 => fb = 1 && f32
  | 0x2 => fb = 2 && f32
  | 0x3 => fb = 3 && f32
  | 0x4 => (fb = 4 || fb = 5) && f32
  | 0x5 => (fb = 4 || fb = 5) && f32
  | 0x6 => (fb = 6 || fb = 7) && f32
  | 0x7 => (fb = 6 || fb = 7) && f32
  | 0x8 => (8 ≤ fb && fb ≤ 0xA) && f32
  | 0x9 => (8 ≤ fb && fb ≤ 0xA) && f32
  | 0xA => (8 ≤ fb && fb ≤ 0xA) && f32
  | 0xB => fb = 0xB && fc = 0xD
  | 0xC => fb = 0xC && f32
  | _ => false

/-- MLEN and NLEN within the limits of R88. -/
def Lantern.limitsOk (l : Lantern) (r : MmaReq) : Bool :=
  if ganged r.shape then
    r.mlen ≤ shapeMA r.shape * l.meff && r.nlen ≤ shapeNB r.shape * l.neff
  else if r.shape = 5 then r.mlen ≤ 16 && r.nlen ≤ l.wmin - 16
  else r.mlen ≤ l.meff && r.nlen ≤ l.neff

/-- Usable slots of a format (R97). -/
def Lantern.usableSlots (l : Lantern) (fc : Nat) (comp : Bool) : Nat := 16 / bankK fc comp - b2n l.chk

/-- Every range lies in the local store. -/
def rangesFit (rs : List Rng) : Bool := rs.all (fun r => r.1 + r.2 ≤ lsSize)

/-- A multiply has none of the faults of R78. -/
def Lantern.mmaLegal (l : Lantern) (r : MmaReq) : Bool :=
  let tiles := (l.slotTiles r.slot).filter (fun p => l.inSvc p.1)
  l.narr ≠ 0 && r.shape ≤ 5 && !(r.shape = 5 && l.chk) && pairOk r.fa r.fb r.fc &&
    (!r.comp || r.fc = 0) && l.limitsOk r &&
    r.ab % 64 = 0 && r.bb % 64 = 0 && (!isMx r.fa || r.asb % 16 = 0) && (!isMx r.fb || r.bsb % 16 = 0) &&
    rangesFit r.reads && r.slot < l.usableSlots r.fc r.comp && r.skip ≠ 0xFF &&
    (l.chk || arrayNos.all (fun m => l.inSvc m || r.skip.getLsbD m)) &&
    (if r.acc then
      !l.chk && !tiles.isEmpty &&
        tiles.all (fun p => p.2.shape = r.shape && p.2.fc = r.fc && p.2.comp = r.comp)
    else !l.chk || tiles.isEmpty)

/-- The lowest guard byte that ranges cover, for a user-mode instruction (R202). -/
def Lantern.guardHit (l : Lantern) (rs : List Rng) : Option Nat :=
  if l.wick.sup then none
  else
    (rs.filter (fun r => r.2 ≠ 0 && r.1 + r.2 > l.guardLo)).foldl (fun a r =>
      let v := max l.guardLo r.1
      match a with
      | some u => some (min u v)
      | none => some v) none

/-- Checks ranges against the guard. -/
def State.guardRanges (s : State) (n : Nat) (rs : List Rng) : Run Unit :=
  match (s.lan n).guardHit rs with
  | some a => .error (.trap s 0x11 (BitVec.ofNat 64 a) 0)
  | none => .ok ()

/-- The matrix queue holds 16 entries (R80). -/
def Lantern.mqRoom (l : Lantern) : Bool := l.mq.length < 16

/-- An entry joins the matrix queue. -/
def Lantern.mqAdd (l : Lantern) (insn : Word) (op : MqOp) : Lantern :=
  { l with
    mq := l.mq ++ [{ id := l.mqNext, pc := l.wick.pc, insn := insn, op := op, done := 0, written := 0 }]
    mqNext := l.mqNext + 1 }

/-! ### The order of an array (R80, R94) -/

/-- The entry that array `m` has reached. -/
def Lantern.mqHead (l : Lantern) (m : Nat) : Option MqEntry := l.mq.find? (fun e => !e.done.getLsbD m)

/-- Changes the entry of an identity. -/
def Lantern.modMq (l : Lantern) (id : Nat) (f : MqEntry → MqEntry) : Lantern :=
  { l with mq := updFirst (fun e => e.id = id) f l.mq }

/-- Array `m` has passed an entry. -/
def MqEntry.setDone (e : MqEntry) (m : Nat) : MqEntry := { e with done := bitSet e.done m true }
/-- Array `m` has nothing left to write for an entry. -/
def MqEntry.setWritten (e : MqEntry) (m : Nat) : MqEntry := { e with written := bitSet e.written m true }

/-- What array `m` passes over at its head without running: a skipped share, a drain of an
empty slot, and on a quarantined array in checksum mode a share, which is kept for the
substitute. -/
def Lantern.passOver (l : Lantern) (m : Nat) (e : MqEntry) : Option Lantern :=
  match e.op with
  | .mma r =>
    if r.skip.getLsbD m then some (l.modMq e.id (fun e => e.setDone m))
    else if !l.inSvc m then
      some ((l.modArr m (fun a => { a with
        slots := claimSlot a.slots r.slot { r.joined none with deferred := true, mma := e.id, req := some r } })).modMq
          e.id (fun e => e.setDone m))
    else none
  | .drain d =>
    match (l.arr m).slots.find? d.slot with
    | none => some (l.modMq e.id (fun e => (e.setDone m).setWritten m))
    | some t =>
      if t.deferred then
        some ((l.modArr m (fun a => { a with
          slots := a.slots.erase d.slot
          shadow := a.shadow ++ [{ tile := t, banks := 0, id := e.id, req := d, step := .substitute }]
          })).modMq e.id (fun e => e.setDone m))
      else none
  | .chain _ _ => none

/-- Array `m` passes over what it can. -/
def Lantern.pumpArr (m : Nat) : Nat → Lantern → Lantern
  | 0, l => l
  | k + 1, l =>
    match l.mqHead m with
    | some e => match l.passOver m e with
      | some l => Lantern.pumpArr m k l
      | none => l
    | none => l

/-- The entry has run on every array, and is written where it writes. -/
def MqEntry.over (e : MqEntry) : Bool :=
  match e.op with
  | .mma _ => e.done = 0xFF
  | .drain _ => e.done = 0xFF && e.written = 0xFF
  | .chain _ _ => e.done = 0xFF

/-- A share of multiply `id` waits for the substitute (R94). -/
def Lantern.shareLeft (l : Lantern) (id : Nat) : Bool :=
  l.arrs.any (fun p => (p.2.slots.map (·.2) ++ p.2.shadow.map (·.tile)).any (fun t =>
    t.deferred && t.mma = id))

/-- Every array passes over what it can, and finished entries leave the queue. An instruction reports its
first NaN once, when no share of it is left (R67, R68). -/
def Lantern.mqTidy (l : Lantern) : Lantern :=
  let l := arrayNos.foldl (fun l m => Lantern.pumpArr m l.mq.length l) l
  let late := l.nanLate ++ (l.mq.filter MqEntry.over).map (fun e => { id := e.id, nan := e.nan })
  { l with
    nanQ := l.nanQ ++ (late.filter (fun x => !l.shareLeft x.id)).filterMap (fun x => x.nan)
    nanLate := late.filter (fun x => l.shareLeft x.id)
    mq := l.mq.filter (fun e => !e.over) }

/-- Adds an entry and lets the arrays go on. -/
def State.mqEnter (s : State) (n : Nat) (insn : Word) (op : MqOp) : State :=
  s.modLan n (fun l => (l.mqAdd insn op).mqTidy)

/-- A matrix instruction waits for the earlier stores in the buffer that meet its ranges, and
for the queued vector stores that do, and for the loader writes that meet its reads (R81, the worked
example of R254). DEDUCED. -/
def Lantern.mqWaits (l : Lantern) (rs ws : List Rng) : Bool :=
  l.sb.any (fun e => e.ls && meets e.addr e.bytes.length (rs ++ ws)) ||
    (rs ++ ws).any (fun r => l.vqStores false r.1 r.2) ||
    l.lq.any (fun i => i.lsWrites.any (fun r => meets r.1 r.2 rs))

/-- MMA. -/
def execMma (n : Nat) (w : LongWord) (s : State) : Out :=
  s.runWick n 8 w.cond (fun s => do
    let l := s.lan n
    let r := l.mmaOf w
    s.need n (l.mmaLegal r)
    s.guardRanges n r.reads
    s.await (l.mqRoom && !l.mqWaits r.reads [])
    .ok ((s.mqEnter n r.insn (.mma r)).complete n 8))

/-! ### MDRAIN (R77, R78) -/

/-- Output formats of an accumulator format (R41). -/
def drainOk (fc fo : Nat) : Bool :=
  match fc with
  | 0x0 => fo ≤ 1
  | 0xD => fo = 0xD || fo = 0xB
  | _ => 1 ≤ fo && fo ≤ 5

/-- Output rows of the tile of array `m`, as one past the last. -/
def tileRows (m : Nat) (t : Tile) : Nat :=
  if ganged t.shape then t.mlen else if t.shape = 5 then 16 * (4 * m + 3) + t.mlen else 32 * m + t.mlen

/-- The drain that a word and the wick's registers name, for the tiles that it will drain. -/
def Lantern.drainOf (l : Lantern) (w : LongWord) : DrainReq :=
  let lo := w.lo.toNat
  let w1 := w.w1.toNat
  let fo := natField lo 13 4
  let slot := natField lo 8 4
  let pitch := natField w1 0 22
  let tiles := l.slotTiles slot
  let rows := tiles.foldl (fun r p => max r (tileRows p.1 p.2)) 0
  let nlen := tiles.foldl (fun r p => max r p.2.nlen) 0
  { shape := natField lo 17 3, fo := fo, e4nan := natBit lo 12, slot := slot
    pred := l.pred (natField lo 4 4), pitch := pitch, ob := natField l.wick.x.toNat 0 22
    ext := (rows - 1) * pitch + nlen * outBytes fo }

/-- A drain has none of the faults of R78. -/
def Lantern.drainLegal (l : Lantern) (w : LongWord) (d : DrainReq) : Bool :=
  let tiles := (l.slotTiles d.slot).map (·.2)
  let es := outBytes d.fo
  l.narr ≠ 0 && natField w.lo.toNat 0 4 = 0 && natField w.w1.toNat 22 10 = 0 &&
    !l.slotEmpty d.slot &&
    tiles.all (fun t => t.shape = d.shape && drainOk t.fc d.fo && t.nlen * es ≤ d.pitch) &&
    d.ob % es = 0 && d.pitch % es = 0 && d.ob + d.ext ≤ lsSize

/-- MDRAIN. -/
def execMdrain (n : Nat) (w : LongWord) (s : State) : Out :=
  s.runWick n 8 w.cond (fun s => do
    let l := s.lan n
    let d := l.drainOf w
    s.need n (l.drainLegal w d)
    s.guardRanges n [(d.ob, d.ext)]
    s.await (l.mqRoom && !l.mqWaits [] [(d.ob, d.ext)])
    .ok ((s.mqEnter n (longInsn w 0xA1) (.drain d)).complete n 8))

/-- MFENCE (R82). -/
def execMfence (n : Nat) (w : LongWord) (s : State) : Out :=
  s.runWick n 8 w.cond (fun s => do
    s.need n (w.lo = 0 && w.w1 = 0)
    s.awaitFence (s.lan n).matrixDone
    .ok (s.complete n 8))

/-- MCAP (R77). -/
def execMcap (n : Nat) (w : LongWord) (s : State) : Out :=
  s.runWick n 8 w.cond (fun s => do
    s.need n (w.lo = 0 && w.w1 = 0)
    .ok ((s.modWick n (fun k => { k with a := BitVec.ofNat 64 (s.lan n).mcap })).complete n 8))

/-! ### Shares -/

/-- A read waits on the output of an earlier entry (R81). -/
def Lantern.readsBlocked (l : Lantern) (id : Nat) (rs : List Rng) : Bool :=
  (l.mq.takeWhile (fun e => e.id ≠ id)).any (fun e => rs.any (fun r => meets r.1 r.2 e.writes))

/-- TCOL of a NaN in unit `q` of array `m`: the number of the output tile (R68). -/
def tileCol (sh m q : Nat) : Nat := if ganged sh then 0 else if sh = 5 then 4 * m + q else m

/-- ROW of a NaN: in a ganged shape it counts across the whole tile of the shape (R68). -/
def nanRow (sh meff m i : Nat) : Nat := if ganged sh then m / shapeNB sh * meff + i else i

/-- The report of a NaN that array `m` met (R68, R69). -/
def arrNan (pc : Dword) (insn : Word) (sh meff neff m : Nat) (x : ShareNan) : NanRep :=
  { pc := pc, insn := insn, gen := x.gen, unit := 1, arr := BitVec.ofNat 3 m
    quad := BitVec.ofNat 2 x.quad, stage := 0, fmt := BitVec.ofNat 4 x.fmt, lgrp := 0
    trow := 0, tcol := BitVec.ofNat 16 (tileCol sh m x.quad)
    row := BitVec.ofNat 16 (nanRow sh meff m x.row), col := BitVec.ofNat 16 (outCol sh neff m x.col)
    kstep := BitVec.ofNat 32 x.k }

/-- The NaN of the lower array comes first (R68). -/
def nanJoin (a b : Option NanRep) : Option NanRep :=
  match a, b with
  | none, x => x
  | x, none => x
  | some x, some y => if y.arr.toNat < x.arr.toNat then some y else some x

/-- Array `m` runs its share of the multiply at its head. -/
def Lantern.runShare (l : Lantern) (m : Nat) (e : MqEntry) (r : MmaReq) (ups : List CellUpset) :
    Lantern :=
  let a := l.arr m
  let (t, nan) := r.run l a m ups (a.slots.find? r.slot)
  ((l.modArr m (fun a => { a with slots := claimSlot a.slots r.slot t })).modMq e.id (fun e =>
    { e.setDone m with nan := nanJoin e.nan (nan.map (arrNan e.pc e.insn r.shape r.meff r.neff m)) })).mqTidy

/-- The lantern has power and its arrays run. -/
def State.arraysRun (s : State) (n : Nat) : Bool := s.lanOn n && !(s.lan n).halt.halted

/-- What a read of the accumulator file makes of its tile; `d` draws the quadrant tile of S16 to which
the bad word belongs, which the spec does not tie to its row (R392). -/
def Tile.accRead (t : Tile) (d : Dword) (acc : SramErr) : Tile :=
  match acc with
  | .uncorrectable _ _ =>
    if t.req.isSome then { t with afe := true }
    else { t with poison := bitSet t.poison (if t.shape = 5 then natField d.toNat 0 2 else 0) true }
  | _ => t

/-- The record of an accumulator-file read (R392); in checksum mode an uncorrectable read follows
R93 and writes no SRAM_UE. -/
def State.accRecord (s : State) (n : Nat) (chk : Bool) (acc : SramErr) : State :=
  match acc with
  | .good => s
  | .corrected bank row syn => s.record { src := readyLan n, cls := clsCe, code := 0x0105, lockind := 4
                                          loc := s.locSram n 3 bank row, aux := syn }
  | .uncorrectable bank row =>
    if chk then s
    else s.record { src := readyLan n, cls := clsUe, code := 0x0204, lockind := 4
                    loc := s.locSram n 3 bank row }

/-- A read of the accumulator file of array `m` while it forms the tile of a slot (R392). -/
def State.accShare (s : State) (n m slot : Nat) (acc : SramErr) : State :=
  match ((s.lan n).arr m).slots.find? slot with
  | some t =>
    if acc = .good then s
    else
      let (d, s) := s.draw
      (s.accRecord n t.req.isSome acc).modLan n (fun l => l.modArr m (fun a =>
        { a with slots := a.slots.put slot (t.accRead d acc) }))
  | none => s

/-- The lowest array in service other than `m`. -/
def Lantern.substitute (l : Lantern) (m : Nat) : Option Nat :=
  arrayNos.find? (fun j => j ≠ m && l.inSvc j)

/-- A share or self-test of R93 that array `m` runs ahead of its next queued share: for its own held
tile, or as the substitute for another array's (R103). A redirected share that still waits on an earlier
output has not begun (R81). -/
def Lantern.inserted (l : Lantern) (m : Nat) : Bool :=
  l.arrs.any (fun p => match p.2.shadow with
    | h :: _ =>
      match h.step with
      | .drain => false
      | .recompute => p.1 = m
      | .selftest j => j = m
      | .substitute => l.substitute p.1 = some m && (match h.tile.req with
        | some r => !l.readsBlocked h.id r.reads
        | none => false)
    | [] => false)

/-- The entry that array `m` runs next. -/
def State.shareHead (s : State) (n m : Nat) : Option MqEntry :=
  if s.arraysRun n && !(s.lan n).inserted m then (s.lan n).mqHead m else none

/-- MMA_SHARE_COMPLETE. -/
def execMmaShareComplete (n m : Nat) (upsets : List CellUpset) (acc : SramErr) (s : State) : Out :=
  let l := s.lan n
  .next (match s.shareHead n m with
    | some e =>
      match e.op with
      | .mma r =>
        if l.readsBlocked e.id r.reads then s
        else (s.setLan n (l.runShare m e r upsets)).accShare n m r.slot acc
      | _ => s
    | none => s)

/-! ### Hand-off and drain (R100 to R103) -/

/-- HAND_OFF: the tile moves to shadow banks where enough are free; otherwise HOWAIT has
counted the beats of a wait whose length the spec does not fix. -/
def execHandOff (n m : Nat) (s : State) : Out :=
  let l := s.lan n
  let a := l.arr m
  .next (match s.shareHead n m with
    | some e =>
      match e.op with
      | .drain d =>
        match a.slots.find? d.slot with
        | some t =>
          let k := bankK t.fc t.comp
          if a.shad + k ≤ 16 then
            s.setLan n ((l.modArr m (fun a => { a with
              slots := a.slots.erase d.slot
              shadow := a.shadow ++ [{ tile := t, banks := k, id := e.id, req := d }] })).modMq
                e.id (fun e => e.setDone m)).mqTidy
          else
            let (v, s) := s.draw
            s.modLan n (fun l => l.modArr m (fun a => { a with howait := satAdd 32 a.howait v.toNat }))
        | none => s
      | _ => s
    | none => s)

/-- Changes the tile at the head of array `m`'s shadow order. -/
def Lantern.modShadow (l : Lantern) (m : Nat) (f : ShadowTile → ShadowTile) : Lantern :=
  l.modArr m (fun a => { a with shadow := match a.shadow with
    | t :: ts => f t :: ts
    | [] => [] })

/-- The output of a tile reaches local store, and its banks are free. -/
def Lantern.writeTile (l : Lantern) (m : Nat) (h : ShadowTile) : Lantern :=
  let outs := (unitsOfShape h.tile.shape).map (fun q => (q, h.req.outputs h.tile m q))
  let l := outs.foldl (fun l u => (joinRuns (u.2.map (fun o => (o.1, o.2.1)))).foldl
    (fun l p => l.lsStoreP p.1 p.2 (fun _ => h.tile.poison.getLsbD u.1)) l) l
  let nan := firstNan (outs.flatMap (fun u => u.2.filterMap (fun o => o.2.2)))
  ((l.modArr m (fun a => { a with shadow := a.shadow.drop 1 })).modMq h.id (fun e =>
    { e.setWritten m with
      nan := nanJoin e.nan (nan.map (arrNan e.pc e.insn h.tile.shape h.tile.meff h.tile.neff m)) })).mqTidy

/-- The held tile at the head of array `m`, at a step of R93. -/
def State.heldAt (s : State) (n m : Nat) (p : HeldStep → Bool) : Option ShadowTile :=
  match if s.arraysRun n then (s.lan n).arr m |>.shadow else [] with
  | h :: _ => if p h.step then some h else none
  | [] => none

/-- TILE_DRAIN: the accumulator read of R392, then in checksum mode a tile that mismatches is held (R93 step 1), for a recompute or,
where the array has been quarantined since, for the substitute. -/
def execTileDrain (n m : Nat) (acc : SramErr) (s : State) : Out :=
  .next (match s.heldAt n m (fun x => x = .drain) with
    | some h =>
      let (d, s) := if acc = .good then (0, s) else s.draw
      let s := s.accRecord n h.tile.req.isSome acc
      let h := { h with tile := h.tile.accRead d acc }
      if h.tile.req.isSome && !h.tile.passes m then
        s.modLan n (fun l => l.modShadow m (fun t =>
          { t with tile := h.tile, step := if l.inSvc m then .recompute else .substitute }))
      else s.modLan n (fun l => l.writeTile m h)
    | none => s)

/-! ### Quarantine (R89, R93 to R95, R418) -/

/-- Width of an array (R89). -/
def Arr.width (a : Arr) : Nat := 32 - a.nbyp

/-- AMASK, WMIN and NARR from the arrays (R88). -/
def Lantern.recap (l : Lantern) : Lantern :=
  let ms := arrayNos.filter l.inSvc
  { l with
    amask := ms.foldl (fun v m => bitSet v m true) 0
    narr := ms.length
    wmin := if ms.isEmpty then 0 else ms.foldl (fun w m => min w (l.arr m).width) 32 }

/-- A record about array `m`; a row or column that the event does not name is left open. -/
def State.arrRecord (s : State) (n m cls code : Nat) (row col : Option Nat) (aux : Nat) : State :=
  let (v, s) := s.draw
  s.record { src := readyLan n, cls := cls, code := code, lockind := 3, sub := m
             loc := s.locArr n m 0 (row.getD (natField v.toNat 0 8)) (col.getD (natField v.toNat 8 8))
             aux := aux }

/-- All ones in AUX. -/
def auxNone : Nat := 0xFFFFFFFFFFFFFFFF

/-- SPARE_REQUEST, once, when more than two arrays are quarantined (R418). -/
def State.spareRequest (s : State) (n : Nat) : State :=
  let l := s.lan n
  let q := 8 - l.narr
  if q > 2 && !s.pilot.spareReqs.contains n then
    { s with pilot := { s.pilot with spareReqs := setIns s.pilot.spareReqs n } }.record
      { src := readyLan n, cls := clsInfo, code := 0x040E, aux := q }
  else s

/-- Array `m` is quarantined: the capability fields, the records, and the halt where no array
remains. -/
def State.quarantineArr (s : State) (n m : Nat) : State :=
  let s := s.modLan n (fun l => (l.modArr m (fun a => { a with quar := true, quarReq := false })).recap)
  let l := s.lan n
  let s := (s.arrRecord n m clsCe 0x0108 none none ((l.substitute m).getD auxNone)).spareRequest n
  if l.narr = 0 then s.haltLan n 0x48 (s.lan n).wick.pc
  else s.modLan n Lantern.mqTidy

/-- A strike against a physical column (R90). -/
def Arr.addStrike (a : Arr) (c : Nat) : Arr :=
  if a.strike.getLsbD c then
    if a.bypPend then a else { a with bypPend := true, pendCol := BitVec.ofNat 5 c }
  else { a with strike := bitSet a.strike c true }

/-- The physical column that a mismatch locates: exactly one column check fails (R90). -/
def Arr.located (a : Arr) (cols : List Nat) : Option Nat :=
  match cols with
  | [j] => a.healthy.dropLast[j]?
  | _ => none

/-- The tile without the record of its share. -/
def Tile.sameBits (t u : Tile) : Bool :=
  t.elems = u.elems && t.rowChk = u.rowChk && t.colChk = u.colChk

/-- Step 3 of R93 on array `m`, whose tile `t` mismatched while it formed its share of unit tile `u`:
RECOMP, the strike of a located column, and the record ARR_CHK. -/
def State.recomputePassed (s : State) (n m : Nat) (t : Tile) (u : Nat) : State :=
  let (rows, cols) := t.mismatches u
  let c := ((s.lan n).arr m).located cols
  (s.modLan n (fun l => l.modArr m (fun a =>
    let a := { a with recomp := satAdd 16 a.recomp 1 }
    match c with
    | some c => a.addStrike c
    | none => a))).arrRecord n m clsCe 0x0107 (match rows with | [i] => some i | _ => none) c
      (c.getD auxNone)

/-- Step 7 of R93 on array `j`: STABLE, and the record CHK_STABLE. -/
def State.stablePair (s : State) (n j : Nat) : State :=
  (s.modLan n (fun l => l.modArr j (fun a => { a with stable := satAdd 16 a.stable 1 }))).arrRecord
    n j clsInfo 0x0402 none none 0

/-- RECOMPUTE_COMPLETE: steps 2 to 4 and 6 of R93. DESIGN CHOICE: the located column is struck at step 3
only, as the table of R93 lists it (log 150). -/
def State.recomputed (s : State) (n m : Nat) (h : ShadowTile) (r : MmaReq) (ups : List CellUpset) :
    State :=
  let l := s.lan n
  let a := l.arr m
  let t := (r.run l a m ups none).1
  if t.passes m then (s.recomputePassed n m h.tile m).modLan n (fun l => l.writeTile m { h with tile := t })
  else if t.sameBits h.tile then
    s.modLan n (fun l => l.modShadow m (fun x => { x with step := .selftest m }))
  else
    (s.modLan n (fun l => l.modShadow m (fun x => { x with step := .substitute }))).quarantineArr n m

/-- RECOMPUTE_COMPLETE. -/
def execRecomputeComplete (n m : Nat) (upsets : List CellUpset) (s : State) : Out :=
  .next (match s.heldAt n m (fun x => x = .recompute) with
    | some h => match h.tile.req with
      | some r => s.recomputed n m h r upsets
      | none => s
    | none => s)

/-- The substitute has run a held or redirected share (R93 step 5, R94). DESIGN CHOICE: where it runs step
6 on itself, the first result of step 7 is its own, and its STABLE rises (log 151). -/
def State.substituted (s : State) (n m j : Nat) (h : ShadowTile) (r : MmaReq) (ups : List CellUpset) :
    State :=
  let l := s.lan n
  let (t, nan) := r.run l (l.arr j) m ups none
  let l := if h.tile.deferred then
      { l with nanLate := l.nanLate.map (fun y => if y.id = h.tile.mma then
          { y with nan := nanJoin y.nan (nan.map (fun x => { arrNan r.pc r.insn r.shape r.meff r.neff m x with
              arr := BitVec.ofNat 3 j })) }
        else y) }
    else l
  if t.passes m then s.setLan n (l.writeTile m { h with tile := t })
  else s.setLan n (l.modShadow m (fun x => { x with tile := t, step := .selftest j }))

/-- SUBSTITUTE_SHARE_COMPLETE. -/
def execSubstituteShareComplete (n m : Nat) (upsets : List CellUpset) (s : State) : Out :=
  .next (match s.heldAt n m (fun x => x = .substitute) with
    | some h => match h.tile.req, (s.lan n).substitute m with
      | some r, some j =>
        if (s.lan n).readsBlocked h.id r.reads then s else s.substituted n m j h r upsets
      | _, _ => s
    | none => s)

/-- PATTERN_SELFTEST_COMPLETE: step 7 or 8 of R93. -/
def execPatternSelftestComplete (n m : Nat) (pass : Bool) (s : State) : Out :=
  .next (match s.heldAt n m (fun x => match x with | .selftest _ => true | _ => false) with
    | some h =>
      match h.step with
      | .selftest j =>
        if pass then (s.stablePair n j).modLan n (fun l => l.writeTile m h)
        else
          (s.modLan n (fun l => l.modShadow m (fun x => { x with step := .substitute }))).quarantineArr n j
      | _ => s
    | none => s)

/-- ARRAY_QUARANTINE_EFFECT (R94). -/
def execArrayQuarantineEffect (n m : Nat) (s : State) : Out :=
  let l := s.lan n
  .next (if s.lanOn n && (l.arr m).quarReq && !(l.arr m).quar && (l.chk || l.gang.isNone) then
    s.quarantineArr n m
  else s)

/-- The pending column becomes a bypass: the entries, the capability fields and ARR_BYPASS. -/
def State.convertColumn (s : State) (n m : Nat) (a : Arr) : State :=
  let c := a.pendCol
  let s := s.modLan n (fun l => (l.modArr m (fun a => { a with
    bypPend := false, strike := bitSet a.strike c.toNat false, nbyp := a.nbyp + 1
    byp0 := if a.nbyp = 0 then c else a.byp0, byp1 := if a.nbyp = 0 then a.byp1 else c })).recap)
  let s := { s with flash := { s.flash with bypasses := s.flash.bypasses ++ [(s.fuseSite n, m, c)] } }
  s.arrRecord n m clsInfo 0x0401 none (some c.toNat) c.toNat

/-- BYPASS_CONVERSION (R89, R90); it waits while a claim of R419 on the lantern is in force (R420). -/
def execBypassConversion (n m : Nat) (s : State) : Out :=
  let l := s.lan n
  let a := l.arr m
  .next (if s.lanOn n && a.bypPend && l.gang.isNone && !l.claimed then
    (if a.nbyp < 2 then s.convertColumn n m a
    else
      (s.modLan n (fun l => l.modArr m (fun a => { a with
        bypPend := false, strike := bitSet a.strike a.pendCol.toNat false }))).quarantineArr n m).examine
  else s)

end Sys2Proof.Machine
end

