-- ==== Sys2Proof/Machine/Integrity.lean ====
section
/-!
DEFINITION. Integrity.lean: the lamplighter (R394 to R396), refused flits (R393), lantern sparing
(R376, R418) and the effect of a field repair (R416, R417).
-/

namespace Sys2Proof.Machine

open Sys2Proof

/-! ### Scrubbing (R394 to R396) -/

/-- SRC of the lamplighter (R404). -/
def srcScrub : Nat := 0x400

/-- Counts of SCRUB.CNT. -/
def Scrub.count (c : Scrub) (ce ue pois : Nat) : Scrub :=
  { c with ce := satAdd 16 c.ce ce, ue := satAdd 8 c.ue ue, pois := satAdd 8 c.pois pois }

/-- The lamplighter runs (R394). -/
def State.scrubs (s : State) : Bool := s.tc0On && s.scrub.en && s.isReady 5

/-- The channel is out of reach of the lamplighter (R396). -/
def State.chSkipped (s : State) (c : Nat) : Bool := !s.chOn c || !(s.ch c).en || (s.ch c).maint ≠ 0#3

/-- The lamplighter skips a physical address (R396): now, or for the rest of the pass. -/
def State.scrubSkips (s : State) (pa : Nat) : Bool :=
  let c := paChannel pa
  paEnd ≤ pa || s.chSkipped c || s.scrub.chOut.getLsbD c || (s.ch c).bankret.getLsbD (caBankIdx (paCa pa)) ||
    s.cirrus.retired.contains (pa / pageSize)

/-- The lamplighter skips a way of a set (R396). -/
def State.wayOut (s : State) (t set way : Nat) : Bool :=
  let c := s.tc t
  !s.tcOn t || !c.eligible way || s.scrub.groupOut.getLsbD (4 * t + way / 4) ||
    c.held (lineAddr t set 0) || s.scrub.setOut.contains (t, set)

/-- What is out of service as the pass goes on is skipped until its end (R396). -/
def State.noteSkips (s : State) : State :=
  let chs := (List.range 256).foldl (fun v c => if s.chSkipped c then bitSet v c true else v) s.scrub.chOut
  let groups := (List.range 16).foldl (fun v i =>
    if !s.tcOn (i / 4) || !(s.tc (i / 4)).eligible (4 * (i % 4)) then bitSet v i true else v) s.scrub.groupOut
  let sets := (List.range 4).filterMap (fun t => (s.tc t).fuse.map (fun f => (t, 32 * f.2 + f.1)))
  { s with scrub := { s.scrub with
      chOut := chs, groupOut := groups, setOut := (s.scrub.setOut ++ sets).eraseDups } }

/-- The pass goes on to unit `u` of DRAM. Units on the way that are good change nothing, and poisoned ones
are counted (R394, R395). -/
def State.scrubTo (s : State) (u : Nat) : State :=
  let met := (s.poison.filter (fun x => s.scrub.pos ≤ x && x < u && !s.scrubSkips (64 * x))).length
  { s with scrub := { s.scrub.count 0 0 met with pos := u } }

/-- Number of a unit of a tile cache. -/
def cacheUnit (t set way unit : Nat) : Nat := 4 * (16 * (131072 * t + set) + way) + unit

/-- Poisoned units of lines that the pass has still to read. -/
def State.poisonLeft (s : State) : Nat :=
  (s.tcs.flatMap (fun c => c.2.lines.flatMap (fun x => (List.range 4).filter (fun u =>
    !s.wayOut c.1 (x.1 / 16) (x.1 % 16) && !s.scrub.seen.contains (cacheUnit c.1 (x.1 / 16) (x.1 % 16) u) &&
      s.poison.contains (lineAddr c.1 (x.1 / 16) x.2.tag / 64 + u))))).length

/-- The record of the lamplighter about a unit of DRAM. -/
def scrubRec (pa cls code aux : Nat) : RecIn := { dramRec pa cls code aux with src := srcScrub }

/-- The lamplighter reads a unit of DRAM (R395): each corrected codeword is written back, counted and
reported, also beside one that is uncorrectable. -/
def State.scrubDram (s : State) (pa : Nat) (errs : List (BitVec 80)) (bad : List Nat) : State :=
  let poisoned := s.poison.contains (pa / 64)
  let ces := unitCes poisoned errs
  let fixed (s : State) : State := { s with scrub := s.scrub.count ces.length 0 0 }.records
    (ces.map (fun (c : Nat × BitVec 16) => scrubRec (pa + 8 * c.1) clsCe 0x0101 (c.2.toNat + 2 ^ 63)))
  match unitDecode poisoned errs with
  | (.poisoned, _, _) => { s with scrub := s.scrub.count 0 0 1 }
  | (.good, _, _) => s.asDecoded pa poisoned errs
  | (.ce, _, _) => fixed (s.asDecoded pa poisoned errs)
  | (.ue, _, syn) =>
    let s : State := { fixed s with scrub := (fixed s).scrub.count 0 1 0 }
    if s.strOf pa = 0 then (s.poisonPa pa).record (scrubRec pa clsUe 0x0201 syn)
    else
      let (s, x) := s.rebuildUnit pa syn bad
      s.record { x with src := srcScrub }

/-- A record of the lamplighter about a unit of a tile-cache line. -/
def tcRec (t set way unit pa cls code aux : Nat) : RecIn :=
  lineRec srcScrub t set way unit pa cls code aux

/-- The lamplighter reads a unit of a tile-cache line (R395). -/
def State.scrubCache (s : State) (t set way unit : Nat) (errs : List (BitVec 80)) : State :=
  let key := 16 * set + way
  match (s.tc t).lines.find? key with
  | none => s
  | some x =>
    let line := lineAddr t set x.tag
    let pa := line + 64 * unit
    let poisoned := s.poison.contains (pa / 64)
    let ces := unitCes poisoned errs
    let fixed (s : State) : State :=
      if ces.isEmpty then s
      else ({ s with scrub := s.scrub.count ces.length 0 0 }.modTc t (fun c =>
          { c with ceData := satAdd 16 c.ceData 1 })).records
        (ces.map (fun (c : Nat × BitVec 16) => tcRec t set way unit pa clsCe 0x0103 c.2.toNat))
    match unitDecode poisoned errs with
    | (.poisoned, _, _) => { s with scrub := s.scrub.count 0 0 1 }
    | (.good, _, _) => s.asDecoded pa poisoned errs
    | (.ce, _, _) => fixed (s.asDecoded pa poisoned errs)
    | (.ue, _, syn) =>
      let s : State := { fixed s with scrub := (fixed s).scrub.count 0 1 0 }
      if x.dirty then (s.poisonPa pa).record (tcRec t set way unit pa clsUe 0x0203 0)
      else ((s.dropCopies x.pres line).modTc t (fun c => { c with lines := c.lines.erase key })).record
        (tcRec t set way unit pa clsCe 0x0103 syn)

/-- SCRUB_READ (R394, R396): the pass goes on in ascending order and never back; what has been out of service
in a pass is read again from the next one on. -/
def execScrubRead (src : ScrubSrc) (s : State) : Out :=
  .next (if !s.scrubs then s
    else
      let s := s.noteSkips
      match src with
      | .dram pa errs bad =>
        let u := pa / 64
        if u < s.scrub.pos || s.scrubSkips (64 * u) || s.excluded (64 * u) || s.deltaAtOffset (64 * u) ||
            s.inputHeld (readyCh (paChannel (64 * u))) 0x400 then s
        else
          let s := s.scrubTo u
          { s with scrub := { s.scrub with run := u / 16384, pos := u + 1 } }.scrubDram (64 * u) errs bad
      | .cache t set way unit errs =>
        let set := set % 131072
        let way := way % 16
        let unit := unit % 4
        let k := cacheUnit t set way unit
        if s.wayOut t set way || s.scrub.seen.contains k || s.inputHeld (readyTc t) 0x400 then s
        else { s with scrub := { s.scrub with seen := setIns s.scrub.seen k } }.scrubCache t set way unit errs
      | .passEnd =>
        let left := s.poisonLeft
        let s := s.scrubTo (paEnd / 64)
        { s with scrub := { s.scrub.count 0 0 left with
            passes := s.scrub.passes + 1, run := 0, pos := 0, seen := [], chOut := 0, groupOut := 0, setOut := [] } })

/-! ### Network flits (R393) -/

/-- The payload of a flit arrives poisoned (R389, R393). -/
def State.flitPoisoned (s : State) (d : FlitData) : State :=
  match d with
  | .none => s
  | .unit pa => s.poisonPa (pa / 64 * 64)
  | .word n a => s.modLan n (fun l => { l with lsPoison := setIns l.lsPoison (a / 8) })

/-- FLIT_REFUSAL: a flit is refused once and sent again; a second failure poisons its payload, which a bad
one names, or stalls the channel where the header fails. With neither part bad the flit sent again has passed. -/
def execFlitRefusal (src chan : Nat) (headerBad : Bool) (payloadBad : Option FlitData) (s : State) : Out :=
  .next (
    let key := (src, chan)
    let twice := s.net.resent.contains key
    let clear := { s with net := { s.net with resent := s.net.resent.filter (fun x => x ≠ key) } }
    let rec_ := fun (cls code aux : Nat) => ({ src := src, cls := cls, code := code, lockind := 5
                                               loc := locChan src chan, aux := aux } : RecIn)
    if s.net.stuck.contains key then s
    else if !headerBad && payloadBad.isNone then clear
    else if !twice then
      let (x, s) := s.draw
      { s with net := { s.net with resent := s.net.resent ++ [key] } }.record
        (rec_ clsCe 0x0109 (x.toNat % 65536))
    else if headerBad then
      { clear with net := { clear.net with stuck := clear.net.stuck ++ [key] } }.record
        (rec_ clsFatal 0x0302 0)
    else (clear.flitPoisoned (payloadBad.getD .none)).record (rec_ clsUe 0x020A 0))

/-! ### Lanterns at power-up and after a remap -/

/-- An array as the fuse map and the bypass conversions kept in flash leave it (R89, R548). -/
def State.arrAtPower (s : State) (n m : Nat) : Arr :=
  let site := s.fuseSite n
  let bs := Config.fuseByp site m ++
    (s.flash.bypasses.filter (fun b => b.1 = site && b.2.1 = m)).map (·.2.2)
  { quar := Config.fuseQuar site m || 2 < bs.length, nbyp := min 2 bs.length
    byp0 := bs.getD 0 0, byp1 := bs.getD 1 0 }

/-- The first repair of a unit that has been programmed and not yet switched in. -/
def Flash.repairWaits (f : Flash) (kind unit : Nat) : Option (Nat × Nat) :=
  (f.repairs.find? (fun r => r.kind = kind && r.unit = unit && !r.done)).map (fun r => (r.bank, r.row))

/-- The repairs of a unit that have been switched in. -/
def Flash.repaired (f : Flash) (kind unit : Nat) : List (Nat × Nat) :=
  (f.repairs.filter (fun r => r.kind = kind && r.unit = unit && r.done)).map (fun r => (r.bank, r.row))

/-- A lantern whose domain has just been powered: its arrays from the fuse map, the spare rows of the fuse map
and of its repairs switched in, and every other register at its reset value (R415, R416, R531). A repair that
has not yet been carried out waits. -/
def State.lanAtPower (s : State) (n : Nat) : Lantern :=
  let site := s.fuseSite n
  ({ arrs := (List.range 8).map (fun m => (m, s.arrAtPower n m))
     svc := { quarPend := s.pilot.quars.contains n
              fusePend := s.flash.repairWaits 1 site
              rows := Config.fuseLanRows site ++ (s.flash.repaired 1 site).map (fun p => (0, p.1, p.2)) } } :
    Lantern).recap

/-- A tile cache whose domain has just been powered (R415, R416). -/
def State.tcAtPower (s : State) (t : Nat) : TCache :=
  { fuse := s.flash.repairWaits 0 t, rows := Config.fuseTcRows t ++ s.flash.repaired 0 t }

/-! ### Sparing (R376, R418) -/

/-- The spare site of a lantern's quadrant is free and good. -/
def State.spareFree (s : State) (n : Nat) : Bool :=
  !s.flash.badSpares.contains (n / 16) && !s.flash.spared.any (fun k => k / 16 = n / 16) &&
    !s.lans.any (fun p => p.1 / 16 = n / 16 && p.1 ≠ n && p.2.svc.spareTest)

/-- No spare takes the lantern's place: it stays not ready (R376). -/
def State.noSpareFor (s : State) (n : Nat) : State :=
  { s with pilot := { s.pilot with quars := setDel s.pilot.quars n } }.modLan n (fun l =>
    { l with svc := { l.svc with spareTest := false, quarPend := false, failed := true, noSpare := true } })

/-- SPARE_REMAP: the self-test of the spare starts once the lantern has no kernel and no repair of it
waits (R420); a lantern without a spare stays not ready (R376). -/
def execSpareRemap (n : Nat) (s : State) : Out :=
  .next (
    let l := s.lan n
    if !l.svc.quarPend || l.svc.spareTest || !l.idle || l.svc.testing || l.svc.fusePend.isSome then s
    else if s.spareFree n then s.setLan n { l with svc := { l.svc with spareTest := true } }
    else (s.noSpareFor n).examine)

/-- The record of a completed remap: physical tile, old and new site (R405). -/
def sparedRec (n tile old new : Nat) : RecIn :=
  { src := readyLan n, cls := clsInfo, code := 0x040F, aux := tile * 65536 + old * 256 + new }

/-! ### Self-test records (R546, R547) -/

/-- The structure byte of a lantern's failing code (R546); code 0x02 names vector registers or
predicates. -/
def bistStruct (code pick : Nat) : Nat :=
  match code with
  | 0x02 => 1 + pick % 2
  | 0x03 => 0
  | 0x04 => 4 + pick % 2
  | 0x05 => 3
  | 0x06 => 7
  | _ => 0xFF

/-- LAN_BIST of the lantern at a site of its tile. -/
def State.siteBist (s : State) (n site code bank row : Nat) : State :=
  let (x, s) := s.draw
  let st := bistStruct code x.toNat
  let (bank, row) := if st = 0xFF then (0, 0) else (bank, row)
  s.record { src := readyLan n, cls := clsInfo, code := 0x0412, lockind := 4
             loc := locSite n (s.site n).1 site st bank row, aux := code }

/-- LAN_BIST of a lantern. -/
def State.lanBist (s : State) (n code bank row : Nat) : State :=
  s.siteBist n (s.site n).2 code bank row

/-- Failing arrays are quarantined, with their records, which arrive on one edge (R37, R547). -/
def State.badArrays (s : State) (n : Nat) (ms : List Nat) : State :=
  let s := ms.foldl (fun s m => s.modLan n (fun l => (l.modArr m (fun a => { a with quar := true })).recap)) s
  s.records (ms.map (fun m =>
    { src := readyLan n, cls := clsInfo, code := 0x0412, lockind := 3
      loc := s.locArr n m 0 0 0, aux := 0x10 + m, sub := m }))

/-! ### The spare's self-test (R418) -/

/-- The lantern moves to the spare site: the map is rewritten, the spare's registers are as at
power-up, and the decode table is loaded (R294, R418). BEAT and WORK, which reset at power-up only, go on (R21,
log 148). -/
def State.toSpare (s : State) (n : Nat) (badArrays : List Nat) : State :=
  let (tile, old) := s.site n
  let was := s.lan n
  let s := { s with
    flash := { s.flash with spared := setIns s.flash.spared n }
    pilot := { s.pilot with
      spareReqs := setDel s.pilot.spareReqs n, quars := setDel s.pilot.quars n } }
  let l := s.lanAtPower n
  let s := (s.setLan n { l with
    beat := was.beat, work := was.work, svc := { l.svc with en := true, wasReady := true } }).loadTable n
  let s := s.badArrays n badArrays
  (((s.record (sparedRec n tile old (s.site n).2)).spareRequest n).setReady (readyLan n) true).examine

/-- SPARE_SELFTEST_END (R418, R546, R547): `code` 0 is a pass, in which some arrays may fail. -/
def execSpareSelftestEnd (n code bank row : Nat) (badArrays : List Nat) (s : State) : Out :=
  .next (
    let l := s.lan n
    if !l.svc.spareTest then s
    else if code = 0 then s.toSpare n badArrays
    else
      let s := s.siteBist n (64 + n % 64 / 16) code bank row
      ({ s with flash := { s.flash with badSpares := setIns s.flash.badSpares (n / 16) } }.noSpareFor n).examine)

/-! ### Field repair (R416, R417) -/

/-- Slots left of a bank of a tile cache, or of the local store of a lantern. -/
def State.fuseLeft (s : State) (kind unit bank : Nat) : Nat :=
  let used := s.flash.repairs.filter (fun r => r.kind = kind &&
    (if kind = 0 then r.unit = unit && r.bank = bank else r.unit = s.fuseSite unit))
  (if kind = 0 then 8 else 2) - used.length

/-- A repair has been carried out. -/
def Flash.repairDone (f : Flash) (kind unit bank row : Nat) : Flash :=
  let this := fun (r : Repair) => r.kind = kind && r.unit = unit && r.bank = bank && r.row = row && !r.done
  { f with repairs := updFirst this (fun r => { r with done := true }) f.repairs }

/-- The row's set is cleaned and its spare switched in; way groups whose clean has waited for the claim
start it (R416, R420). -/
def State.tcRepaired (s : State) (t bank row : Nat) : State :=
  let set := 32 * row + bank
  let flash := s.flash.repairDone 0 t bank row
  let s := { s with flash := flash }
  let keys := (List.range 16).map (fun w => 16 * set + w)
  let s := ((s.tc t).lines.filter (fun p => keys.contains p.1)).foldl (fun s p =>
    s.dropCopies p.2.pres (lineAddr t set p.2.tag)) s
  let s := s.modTc t (fun c =>
    { c with
      fuse := flash.repairWaits 0 t
      rows := c.rows ++ [(bank, row)]
      lines := c.lines.filter (fun p => !keys.contains p.1)
      clean := if (flash.repairWaits 0 t).isSome then c.clean else c.clean ||| (c.on &&& ~~~c.group) })
  s.record { src := readyTc t, cls := clsInfo, code := 0x0410, lockind := 2
             loc := locTc t bank 0 0 set row, aux := s.fuseLeft 0 t bank }

/-- The spare row of the local store is switched in; the spec does not say what it holds. -/
def State.lsRepaired (s : State) (n bank row : Nat) : State :=
  let (d0, s) := s.draw
  let (d1, s) := s.draw
  let (d2, s) := s.draw
  let (d3, s) := s.draw
  let flash := s.flash.repairDone 1 (s.fuseSite n) bank row
  let s := { s with flash := flash }.modLan n (fun l =>
    { (l.lsWrite (lsRowAddr bank row) ([d0, d1, d2, d3].flatMap (fun (d : Dword) => leBytes 8 d.toNat))) with
      svc := { l.svc with
        fusePend := flash.repairWaits 1 (s.fuseSite n), rows := l.svc.rows ++ [(0, bank, row)] } })
  (s.record { src := readyLan n, cls := clsInfo, code := 0x0410, lockind := 4
              loc := s.locSram n 0 bank row, aux := s.fuseLeft 1 n 0 }).examine

/-- FUSE_REPAIR_EFFECT (R416, R417). -/
def execFuseRepairEffect (kind unit : Nat) (s : State) : Out :=
  .next (
    if kind = 0 then
      match (s.tc unit).fuse with
      | some (bank, row) => if s.tcOn unit then s.tcRepaired unit bank row else s
      | none => s
    else
      let l := s.lan unit
      match l.svc.fusePend with
      | some (bank, row) => if l.idle then s.lsRepaired unit bank row else s
      | none => s)

end Sys2Proof.Machine
end

