-- ==== Sys2Proof/Machine/RegRows.lean ====
section
/-!
DEFINITION. RegRows.lean: the rows about registers and reports: the latch of R22, rate measurement
(R24), stalls (R28, R30), records and READY notifications (R406, R498), block control (R533), plain
writes (R529) and the votes of TMR fields (R534, R535).
-/

namespace Sys2Proof.Machine

open Sys2Proof

/-! ### Rates and the latch -/

/-- LO_HALF_READ (R22): a read of a LO half by a requester. -/
def execLoHalfRead (rq : Requester) (addr : Nat) (s : State) : Out :=
  .next (match blkOf addr with
    | some (b, off) =>
      if (loHi b off).isSome && s.blkOn b then (s.regRead rq addr b off).2 else s
    | none => s)

/-- RATE_MEASURE_START (R24). -/
def execRateMeasureStart (value : Word) (s : State) : Out := .next (s.rateWrite value)

/-- The window of a measurement in ms: 0 and values above 1,000 count as 1,000 (R24). -/
def rateMs (w : BitVec 10) : Nat := if w.toNat = 0 || 1000 < w.toNat then 1000 else w.toNat

/-- A lantern's ring counts `d` more beats. It counts by one, so a count that reaches CMP on its way sets
PEND.BEAT (R21, R224). -/
def Lantern.countBeats (l : Lantern) (d : Dword) : Lantern :=
  let gap := (l.beatcmp - l.beat.setWidth 32).toNat
  let gap := if gap = 0 then 2 ^ 32 else gap
  { l with beat := l.beat + d, pendBeat := l.pendBeat || decide (gap ≤ d.toNat) }

/-- The target of a measurement counts `d` more beats of its reference ring (R21). -/
def State.addBeats (s : State) (d : Dword) : State :=
  let t := s.pilot.rateTarget.toNat
  if s.pilot.rateSel then s.modTc t (fun c => { c with beat := c.beat + d })
  else s.modLan t (fun l => l.countBeats d)

/-- The counter that a measurement samples (R24). -/
def State.rateCounter (s : State) : Dword :=
  let t := s.pilot.rateTarget.toNat
  if s.pilot.rateSel then (s.tc t).beat else (s.lan t).beat

/-- The first sample of a measurement, on the first edge after GO has taken effect (R24). -/
def State.rateSample (s : State) : State :=
  if s.pilot.rateBusy && s.pilot.rateFirst.isNone then
    { s with pilot := { s.pilot with rateFirst := some s.rateCounter } }
  else s

/-- RATE_MEASURE_END (R24): the ring makes `beats` more beats to the second sample, and KBEATS is the
difference of the samples by the window in ms, rounded down. A target without power sets ERR and leaves
KBEATS. -/
def execRateMeasureEnd (beats : Dword) (s : State) : Out :=
  .next (
    let p := s.pilot
    if !p.rateBusy then s
    else
      let t := p.rateTarget.toNat
      if if p.rateSel then s.tcOn t else s.lanOn t then
        let first := p.rateFirst.getD s.rateCounter
        let d := s.rateCounter + beats - first
        { (s.addBeats beats) with pilot := { p with
          rateBusy := false, kbeats := BitVec.ofNat 32 (d.toNat / rateMs p.rateWindow) } }
      else { s with pilot := { p with rateBusy := false, rateErr := true } })

/-! ### Reference rings (R19 to R21) -/

/-- Typical beat rates in units of 10 M beats/s at 40, 60, 85 and 100 °C (R19). -/
def rateRow (mv : Nat) : List Int :=
  match mv with
  | 650 => [179, 172, 162, 155]
  | 700 => [200, 193, 182, 174]
  | 750 => [219, 211, 200, 192]
  | _ => [233, 225, 216, 208]

/-- The two temperature columns that a rate is read from, with their places. -/
def rateCols (t : Int) : (Nat × Int) × (Nat × Int) :=
  if t < 60 then ((0, 40), (1, 60)) else if t < 85 then ((1, 60), (2, 85)) else ((2, 85), (3, 100))

/-- The row of a voltage at a temperature, times the distance of the columns. -/
def rateAt (mv : Nat) (t : Int) : Int :=
  let ((i, a), (j, b)) := rateCols t
  (rateRow mv).getD i 0 * (b - t) + (rateRow mv).getD j 0 * (t - a)

/-- The typical rate as a numerator and a denominator (R19): bilinear between the tabled points, and
linear beyond 40 and 100 °C. -/
def typicalRate (mv : Nat) (t : Int) : Int × Int :=
  let ((_, a), (_, b)) := rateCols t
  let lo : Nat := if mv < 700 then 650 else if mv < 750 then 700 else 750
  let hi : Nat := lo + 50
  (rateAt lo t * ((hi : Int) - (mv : Int)) + rateAt hi t * ((mv : Int) - (lo : Int)), 50 * (b - a))

/-- The least and the greatest number of beats of a ring in 10 ns: 95 % to 105 % of the typical rate. -/
def ringBounds (mv : Nat) (t : Int) : Nat × Nat :=
  let (x, d) := typicalRate mv t
  ((95 * x / (1000 * d)).toNat, (105 * x / (1000 * d)).toNat + 1)

/-- The bounds at a temperature that may not be known, 20 to 105 °C by R19. -/
def ringBoundsAt (mv : Nat) (t : Option Int) : Nat × Nat :=
  match t with
  | some t => ringBounds mv t
  | none => ((ringBounds mv 105).1, (ringBounds mv 20).2)

/-- Beats of ring `k` on one edge of the slow clock: within the bounds, and otherwise free. -/
def State.ringStep (s : State) (k mv : Nat) (t : Option Int) : Dword :=
  let (lo, hi) := ringBoundsAt mv t
  BitVec.ofNat 64 (lo + Config.ringBeats s.freeCtr k % (hi - lo + 1))

/-- The temperature of a lantern's site. -/
def State.lanTemp (s : State) (n : Nat) : Option Int :=
  let (t, p) := s.site n
  s.reading (68 * t + p)

/-- The temperature of a base die: the hottest of its sensors. -/
def State.baseTemp (s : State) (t : Nat) : Option Int :=
  ((baseSensors t).filterMap s.reading).foldl (fun m v => match m with
    | some x => some (max x v)
    | none => some v) none

/-- One edge of the slow clock at the rings of the powered domains (R20, R21). -/
def State.ringEdge (s : State) : State :=
  { s with
    freeCtr := s.freeCtr + 1
    lans := s.lans.map (fun p =>
      if s.lanOn p.1 then
        (p.1, p.2.countBeats (s.ringStep p.1 (s.veff (p.1 / 16)) (s.lanTemp p.1)))
      else p)
    tcs := s.tcs.map (fun p =>
      if s.tcOn p.1 then
        (p.1, { p.2 with beat := p.2.beat + s.ringStep (256 + p.1) 750 (s.baseTemp p.1) })
      else p) }

/-! ### Stalls (R28 to R30) -/

/-- The block whose SRC this is (R404, R536). -/
def blkOfSrc (src : Nat) : Option Blk :=
  match src with
  | 0 => some .pilot
  | 1 => some .sec
  | 2 => some .eth
  | 3 => some .xpt
  | 4 => some .disp
  | 5 => some .cirrus
  | 0x400 => some .scrub
  | 0x401 => some .pwr
  | 0x402 => some .therm
  | _ =>
    if src < 22 then some (.copy (src - 6))
    else if src < 26 then some (.tc (src - 22))
    else if src < 282 then some (.dch (src - 26))
    else if src < 538 then some (.lan (src - 282))
    else none

/-- The SRC of a block (R404, R536). -/
def blkSrc (b : Blk) : Nat :=
  match b with
  | .pilot => 0
  | .sec => 1
  | .eth => 2
  | .xpt => 3
  | .disp => 4
  | .cirrus => 5
  | .scrub => 0x400
  | .pwr => 0x401
  | .therm => 0x402
  | .copy e => 6 + e
  | .tc t => 22 + t
  | .dch c => 26 + c
  | .lan n | .arr n _ => 282 + n

/-- The STALL record of a channel. R28 names the receiving block in LOC; that SRC is that block's bit too
is the model's choice (DESIGN CHOICE, log 141). -/
def stallRec (src chan : Nat) : RecIn :=
  { src := src, cls := clsStall, code := 0x0501, lockind := 5, loc := locChan src chan }

/-- The wait is none that R29 leaves out: a wick parked on EWAIT, a channel that cirrus holds while it
fetches the page, a receiving block in a way group under clean. -/
def State.isStall (s : State) (src : Nat) (w : StallWait) : Bool :=
  match w with
  | .other => true
  | .wick n => match (s.lan n).wait with
    | .event _ _ => false
    | _ => true
  | .page vpn => (s.cirrus.fetches.find? vpn).isNone
  | .wayGroup g => !(s.tc (src - readyTc 0)).clean.getLsbD g

/-- STALL_WATCHDOG (R28, R29): a channel of a powered block with EN = 1. -/
def execStallWatchdog (src : Nat) (chan : StallChan) (s : State) : Out :=
  .next (match blkOfSrc src with
    | some b =>
      if s.blkOn b && s.blkEn b && s.pilot.started && s.isStall src chan.serves then
        { s with pilot := { s.pilot with
          stalls := s.pilot.stalls.filter (fun x => x ≠ (src, chan.num)) ++ [(src, chan.num)] } }.record
            (stallRec src chan.num)
      else s
    | none => s)

/-- STALL_REPEAT (R30): the repeat count of the open record of the same stall. -/
def execStallRepeat (src chan : Nat) (s : State) : Out :=
  .next (if s.pilot.stalls.contains (src, chan) &&
      s.pilot.errq.any (fun r => sameLoc r (stallRec src chan)) then
    s.record (stallRec src chan)
  else s)

/-! ### Records and notifications -/

/-- A field of LOC, big-endian. -/
def recField (r : RecIn) (i k : Nat) : Nat :=
  ((r.loc.drop i).take k).foldl (fun v b => 256 * v + b.toNat) 0

/-- What a lantern does to its own copy in the error that it reports (R332): L1_REFETCH invalidates
the line of the L1 or of the instruction cache, and SRAM_UE of the local store poisons an 8-byte
word of the row. -/
def State.blockEffect (s : State) (r : RecIn) : State :=
  let n := r.src - readyLan 0
  let struct := recField r 4 1
  if r.src < readyLan 0 || !s.lanOn n || r.lockind ≠ 4 then s
  else if r.code = 0x0106 && struct = 4 then s.modLan n (fun l => l.l1Drop r.devaddr)
  else if r.code = 0x0106 && struct = 5 then
    s.modLan n (fun l => match lineKey l.icache 4 (l1Set r.devaddr) (l1Tag r.devaddr) with
      | some key => { l with icache := l.icache.erase key }
      | none => l)
  else if r.code = 0x0204 && struct = 0 then
    let (d, s) := s.draw
    let a := lsRowAddr (recField r 5 1) (recField r 6 2) + 8 * (d.toNat % 4)
    if a < lsSize then s.modLan n (fun l => { l with lsPoison := setIns l.lsPoison (a / 8) }) else s
  else s

/-- A record with the physical tile and site of its lantern in LOC, where its layout gives them (R4,
R404). -/
def State.sited (s : State) (r : RecIn) : RecIn :=
  if (r.lockind = 3 || r.lockind = 4) && readyLan 0 ≤ r.src && r.src < readyLan 256 then
    let n := r.src - readyLan 0
    { r with loc := beBytes 2 n ++ beBytes 1 (s.site n).1 ++ beBytes 1 (s.site n).2 ++ r.loc.drop 4 }
  else r

/-- ERROR_RECORD (R37, R404, R406): the records of one slow-clock edge, each with what the block
has done to its own copy (R332). -/
def execErrorRecord (recs : List RecIn) (s : State) : Out :=
  .next ((recs.foldl State.blockEffect s).records (recs.map s.sited))

/-- READY_NOTIFICATION (R498): the map as it stands, if a bit has changed. -/
def execReadyNotification (s : State) : Out :=
  .next (if s.pilot.started && s.pilot.readyChanged && s.msPast s.pilot.readySent then
    { s with pilot := { s.pilot with readyChanged := false, readySent := some s.pilot.stamp } }.notify 2 s.readyBytes
  else s)

/-! ### Block control (R533) -/

/-- The word of CTL with this EN, other fields kept. -/
def State.ctlWord (s : State) (b : Blk) (en : Bool) : Word :=
  bitSet (BitVec.ofNat 32 (s.regValue b 0)) 31 en

/-- A write of EN to the CTL register at an address. -/
def State.enWrite (s : State) (addr : Nat) (en : Bool) : State :=
  match blkOf addr with
  | some (b, off) =>
    if off = 0 && regExists b 0 && s.blkOn b then s.regWrite addr b 0 (s.ctlWord b en) else s
  | none => s

/-- BLOCK_DISABLE (R533). -/
def execBlockDisable (addr : Nat) (s : State) : Out := .next (s.enWrite addr false)

/-- BLOCK_ENABLE (R533). -/
def execBlockEnable (addr : Nat) (s : State) : Out := .next (s.enWrite addr true)

/-- BLOCK_IDLE (R533): EN reads 0 once a block whose clear is pending is idle. -/
def execBlockIdle (addr : Nat) (s : State) : Out :=
  .next (match blkOf addr with
    | some (.lan n, 0) =>
      let l := s.lan n
      if l.svc.clrPend && l.idle then
        s.setLan n { l with svc := { l.svc with en := false, clrPend := false } }
      else s
    | some (.copy e, 0) =>
      if (s.eng e).clrPend && s.engIdle e then s.modEng e (fun v => { v with en := false, clrPend := false, cirHeld := [] }) else s
    | _ => s)

/-- REGISTER_WRITE (R525, R528, R529). -/
def execRegisterWrite (rq : Requester) (addr : Nat) (value : Word) (s : State) : Out :=
  .next (match rq with
    | .pilot => s.pilotWrite addr value
    | .wick n => s.wickWrite n addr value)

/-! ### Votes (R534, R535) -/

/-- Sets the TMR fields of a register to the bits of a word. -/
def State.tmrPut (s : State) (b : Blk) (off v : Nat) : State :=
  match b with
  | .lan n => s.modLan n (fun l =>
      if off = 0x50 then { l with
        amask := BitVec.ofNat 8 (natField v 24 8)
        wmin := if l.narr = 0 then l.wmin else natField v 18 6 }
      else if off = 0x54 then { l with chk := natBit v 31 }
      else { l with
        ucslots := l.ucslots.putD ((off - 0x200) / 4) (BitVec.ofNat 32 v) 0
        ucBad := setDel l.ucBad ((off - 0x200) / 4) })
  | .arr n m => s.modLan n (fun l => l.modArr m (fun a => { a with
      quar := natBit v 31, nbyp := natField v 28 2
      byp0 := BitVec.ofNat 5 (natField v 22 5), byp1 := BitVec.ofNat 5 (natField v 17 5) }))
  | .dch c => s.modCh c (fun d =>
      if off = 0x14 then { d with mapout := natBit v 31, listed := natBit v 30 }
      else if off = 0x20 then { d with bankret := setHalf d.bankret false (BitVec.ofNat 32 v) }
      else { d with bankret := setHalf d.bankret true (BitVec.ofNat 32 v) })
  | .sec => if off = 0x10 then { s with flash := { s.flash with dbgOpen := natBit v 31 } } else s
  | _ => s

/-- The block leaves service: EN and the ready-map bit clear (R535). -/
def State.blkDown (s : State) (b : Blk) : State :=
  match b with
  | .lan n | .arr n _ =>
    (s.modLan n (fun l => { l with svc := { l.svc with en := false, clrPend := false } })).setReady
      (readyLan n) false
  | .dch c => (s.modCh c (fun d => { d with en := false })).setReady (readyCh c) false
  | .sec => ({ s with sec := { s.sec with en := false } }).setReady 1 false
  | _ => s

/-- A slot of the decode table: it follows R290 when no two copies agree. -/
def isSlot (b : Blk) (off : Nat) : Bool :=
  match b with
  | .lan _ => decide (0x200 ≤ off)
  | _ => false

/-- A slot of the decode table has no two copies that agree: its next use raises 0x50 (R290). -/
def State.markSlot (s : State) (b : Blk) (off : Nat) : State :=
  match b with
  | .lan n => s.modLan n (fun l => { l with ucBad := setIns l.ucBad ((off - 0x200) / 4) })
  | _ => s

/-- A slot of the decode table that no vote can restore until it is written again. -/
def State.slotLost (s : State) (b : Blk) (off : Nat) : Bool :=
  match b with
  | .lan n => isSlot b off && (s.lan n).ucBad.contains ((off - 0x200) / 4)
  | _ => false

/-- The array number by which R37 orders the records of a block. -/
def blkSub (b : Blk) : Nat :=
  match b with
  | .arr _ m => m
  | _ => 0

/-- One vote of a TMR field whose copies hold the value last written with some bits flipped: the state it
leaves and the records it reports. -/
def State.vote (s : State) (addr : Nat) (u : TmrUpset) : State × List RecIn :=
  match blkOf addr with
  | none => (s, [])
  | some (b, off) =>
    if !regExists b off || !s.blkOn b || !isTmr b off || s.pilot.tmrLost.contains addr || s.slotLost b off then
      (s, [])
    else
      let m := BitVec.ofNat 32 (tmrMask b off)
      let v := BitVec.ofNat 32 (s.regValue b off) &&& m
      let (c0, c1, c2) := (v ^^^ (u.u0 &&& m), v ^^^ (u.u1 &&& m), v ^^^ (u.u2 &&& m))
      let put := fun (s : State) (x : Word) => if x = v then s else s.tmrPut b off x.toNat
      let agreed : Option Word := if c0 = c1 || c0 = c2 then some c0 else if c1 = c2 then some c1 else none
      match agreed with
      | some x =>
        if c0 = c1 && c1 = c2 then (put s x, [])
        else
          let s := put s x
          (s.setRstat b (s.blkRstat b).1 (satAdd 16 (s.blkRstat b).2 1),
            [{ src := blkSrc b, cls := clsInfo, code := 0x0403, aux := addr, sub := blkSub b }])
      | none =>
        if isSlot b off then (s.markSlot b off, [])
        else
          let s := s.tmrPut b off (s.tmrReset b off)
          let s := { s with pilot := { s.pilot with tmrLost := setIns s.pilot.tmrLost addr } }
          (s.blkDown b,
            [{ src := blkSrc b, cls := clsFatal, code := 0x0301, aux := addr, sub := blkSub b }])

/-- TMR_FIELD_READ (R534): the read votes, and is then as any read. -/
def execTmrFieldRead (rq : Requester) (addr : Nat) (upsets : TmrUpset) (s : State) : Out :=
  .next (match blkOf addr with
    | some (b, off) =>
      if regExists b off && s.blkOn b && isTmr b off then
        let (t, rs) := s.vote addr upsets
        ((t.records rs).regRead rq addr b off).2
      else s
    | none => s)

/-- Votes of several fields on one edge, with the records that they report. -/
def State.votes (s : State) (us : List (Nat × TmrUpset)) : State × List RecIn :=
  us.foldl (fun (s, rs) p =>
    let (t, r) := s.vote p.1 p.2
    (t, rs ++ r)) (s, [])

/-- TMR_VOTE_SWEEP (R534): every TMR field is voted; those that are not listed have three equal
copies. The records of the sweep arrive on one edge (R37). -/
def execTmrVoteSweep (upsets : List (Nat × TmrUpset)) (s : State) : Out :=
  .next (if s.pilot.started then
    let (t, rs) := s.votes upsets
    t.records rs
  else s)

end Sys2Proof.Machine
end

