-- ==== Sys2Proof/Machine/Cmd.lean ====
section
/-!
DEFINITION. Cmd.lean: the command interface (R473 to R486): opcodes, parameter lengths, the common
checks, replies, and the end of the command in progress.
-/

namespace Sys2Proof

/-- A big-endian field of the parameters (R473). -/
def CmdPkt.f (p : CmdPkt) (off n : Nat) : Nat := beNat ((p.params.drop off).take n)

/-- Bytes of the parameters. -/
def CmdPkt.bytes (p : CmdPkt) (off n : Nat) : List Byte := (p.params.drop off).take n

/-- The trailer of R481 follows the parameters. -/
def CmdPkt.signed (p : CmdPkt) : Bool := p.flags.getLsbD 0

end Sys2Proof

namespace Sys2Proof.Machine

open Sys2Proof

/-! ### Status codes (R497) -/

/-- OK. -/
def stOk : Nat := 0x0000
/-- BUSY. -/
def stBusy : Nat := 0x0001
/-- BAD_OPCODE. -/
def stBadOpcode : Nat := 0x0002
/-- BAD_LENGTH. -/
def stBadLength : Nat := 0x0003
/-- RANGE. -/
def stRange : Nat := 0x0004
/-- AUTH. -/
def stAuth : Nat := 0x0005
/-- NOT_READY. -/
def stNotReady : Nat := 0x0006
/-- MAINT_CONFLICT. -/
def stMaint : Nat := 0x0007
/-- DEADLINE. -/
def stDeadline : Nat := 0x0008
/-- NO_RESOURCE. -/
def stNoResource : Nat := 0x0009
/-- STATE. -/
def stState : Nat := 0x000B
/-- INTERNAL. -/
def stInternal : Nat := 0x00FF

/-! ### The table Commands (R484) -/

/-- The opcodes of the table. -/
def opcodes : List Nat :=
  [0x01, 0x02, 0x03, 0x10, 0x11, 0x12, 0x13, 0x20, 0x21, 0x30, 0x31, 0x32, 0x40, 0x41, 0x50, 0x60, 0x61,
    0x62, 0x63] ++
  [0x70, 0x71, 0x72, 0x73, 0x74, 0x75, 0x76, 0x77, 0x80, 0x81, 0x90, 0xA0, 0xA1, 0xA2, 0xB0, 0xF0]

/-- The Signed column reads "yes". -/
def opSigned (op : Nat) : Bool := [0x20, 0x21, 0x50, 0x63, 0x74].contains op

/-- The Needs column, as ready-map bits: SEC 1, XPT 3, DISP 4 and CIRRUS 5. -/
def opNeeds (op : Nat) : List Nat :=
  if [0x10, 0x12, 0x21].contains op then [1]
  else if op = 0x11 then [3]
  else if op = 0x13 || op = 0x20 then [1, 5]
  else if [0x30, 0x31, 0x32, 0x70, 0x71, 0x72].contains op then [5]
  else if [0x40, 0x41, 0x75].contains op then [4]
  else if op = 0x62 || op = 0x63 then [3, 5]
  else if op = 0x90 then [4, 5]
  else []

/-- Opcodes that the pilot accepts until an owner is enrolled (R482). -/
def opUnclaimed (op : Nat) : Bool := [0x01, 0x02, 0x03, 0x10, 0x12, 0x76].contains op

/-- Opcodes that the boot ROM answers in recovery (R555). -/
def opRecovery (op : Nat) : Bool := [0x01, 0x02, 0x03, 0x10, 0x12, 0x20, 0x21, 0xF0].contains op

/-- LENGTH as the table Parameter layouts requires. -/
def lengthOk (op : Nat) (p : CmdPkt) : Bool :=
  let n := p.length.toNat
  if [0x01, 0x02, 0x03, 0x60].contains op then n = 0
  else if op = 0x10 then n = 96
  else if op = 0x12 then n = 32
  else if [0x13, 0x20, 0x90, 0x31, 0x40, 0x80].contains op then n = 16
  else if op = 0x21 then n = 64
  else if op = 0x30 || op = 0xA1 then n = 32
  else if op = 0x32 then n = 24
  else if [0x41, 0x61, 0x74, 0x76].contains op then n = 8
  else if [0x11, 0x70, 0x71, 0x72, 0x73, 0x75, 0x77, 0xA0, 0xA2, 0xB0, 0xF0].contains op then n = 4
  else if op = 0x50 then
    8 ≤ n && n ≤ 4032 && (match p.f 0 1 with
      | 0 => n = 40
      | 1 => n = 8 + 24 * p.f 4 2
      | 2 => n = 8 + 32 * p.f 4 2
      | _ => true)
  else if op = 0x62 then 16 ≤ n && n = 16 + 32 * p.f 6 1
  else if op = 0x63 then 88 ≤ n && n = 88 + 16 * p.f 1 1
  else if op = 0x81 then 16 ≤ n && n ≤ 4032 && n = 16 + 4 * p.f 8 2
  else false

/-! ### Common checks (R480 to R482, R489) -/

/-- The bytes that SIG covers: the identity key, then the payload up to and including OSEQ (R481). -/
def signedBytes (op : Nat) (p : CmdPkt) : List Byte :=
  devKey ++ beBytes 2 op ++ beBytes 2 p.length.toNat ++ beBytes 4 p.tag.toNat ++
    beBytes 4 p.deadline.toNat ++ beBytes 4 p.flags.toNat ++ p.params ++ beBytes 8 p.oseq.toNat

/-- A register that REG_WRITE writes only with SIGNED = 1 (R489). -/
def needsSig (addr : Nat) : Bool :=
  match blkOf addr with
  | some (.sec, _) => true
  | some (b, off) => isTmr b off
  | none => false

/-- The command must be signed: its Signed column, or R489. -/
def mustSign (op : Nat) (p : CmdPkt) : Bool :=
  opSigned op ||
    (op = 0x81 && (List.range (min 256 (p.f 8 2))).any (fun i => needsSig (p.f 0 8 + 4 * i)))

/-- Check 5: a signature that is present is verified and its OSEQ is stored; the Bool says that the
check passes (R481, R482). -/
def State.authCheck (s : State) (op : Nat) (p : CmdPkt) : State × Bool :=
  if p.signed then
    match s.flash.owner with
    | none => (s, false)
    | some key =>
      if s.flash.oseq.toNat < p.oseq.toNat && Config.edVerify key (signedBytes op p) p.sig then
        ({ s with flash := { s.flash with oseq := p.oseq } }, true)
      else (s, false)
  else (s, !mustSign op p && (s.flash.owner.isSome || opUnclaimed op))

/-- The recovery that R554 describes runs. -/
def State.recovering (s : State) : Bool := s.start.phase = .recovery

/-- Check 6: a ready-map bit that the command needs is clear; in recovery the boot ROM answers only
the opcodes of R555, and FW_STAGE needs SEC alone. -/
def State.needsMet (s : State) (op : Nat) : Bool :=
  if s.recovering then opRecovery op && (if op = 0x20 then s.isReady 1 else (opNeeds op).all s.isReady)
  else (opNeeds op).all s.isReady

/-- Checks 2 to 6 of R480: the state with any OSEQ stored, and the status of the first failure. -/
def State.commonChecks (s : State) (op : Nat) (p : CmdPkt) : State × Option Nat :=
  if !opcodes.contains op then (s, some stBadOpcode)
  else if !lengthOk op p || p.params.length ≠ p.length.toNat ||
      p.plen ≠ 16 + p.length.toNat + (if p.signed then 72 else 0) then (s, some stBadLength)
  else if p.deadline.toNat = 0 || 600000 < p.deadline.toNat || 1 < p.flags.toNat then (s, some stRange)
  else
    let (s, ok) := s.authCheck op p
    if !ok then (s, some stAuth)
    else if !s.needsMet op then (s, some stNotReady)
    else (s, none)

/-! ### Replies and the command in progress (R474 to R479) -/

/-- The command in a COMMAND payload, with its opcode and the endpoint of its conduit (R473). -/
def parseCommand (cid : Nat) (b : List Byte) : Nat × CmdPkt :=
  let n := beNat ((b.drop 2).take 2)
  let flags : Word := BitVec.ofNat 32 (beNat ((b.drop 12).take 4))
  let tail := if flags.getLsbD 0 then b.drop (16 + n) else []
  (beNat (b.take 2),
    { ep := cid - 1024, length := BitVec.ofNat 16 n, tag := BitVec.ofNat 32 (beNat ((b.drop 4).take 4))
      deadline := BitVec.ofNat 32 (beNat ((b.drop 8).take 4)), flags := flags, plen := b.length
      params := (b.drop 16).take n, oseq := BitVec.ofNat 64 (beNat (tail.take 8)), sig := (tail.drop 8).take 64 })

/-- A command arrives: it is the first that the transport has delivered (R469), or, where none waits, it comes on
its endpoint's open conduit (R475). -/
def State.arrives (s : State) (op : Nat) (p : CmdPkt) : Bool :=
  match s.pilot.inbox with
  | m :: _ => decide (parseCommand m.1 m.2 = (op, p))
  | [] => (s.con (hostCid p.ep)).st = .opened

/-- The pilot answers a command that arrives, or the boot ROM in recovery (R475, R552). -/
def State.hears (s : State) (op : Nat) (p : CmdPkt) : Bool :=
  (s.isReady 0 || s.recovering) && s.arrives op p

/-- The command has been taken from what the transport delivered. -/
def State.unbox (s : State) : State :=
  { s with pilot := { s.pilot with inbox := s.pilot.inbox.tail } }

/-- A command is the last completed one (R486). -/
def State.completed (s : State) (op : Nat) (p : CmdPkt) (status : Nat) : State :=
  { s with pilot := { s.pilot with last := some { ep := p.ep, opcode := op, tag := p.tag, status := status } } }

/-- The reply to a command, which becomes the last completed command (R474, R486). -/
def State.reply (s : State) (op : Nat) (p : CmdPkt) (status : Nat) (results : List Byte) : State :=
  (s.send (hostCid p.ep) typReply (replyBytes op status p.tag s.pilot.stamp results)).completed op p status

/-- The BUSY reply (R477). -/
def State.busyReply (s : State) (op : Nat) (p : CmdPkt) (b : Busy) : State :=
  s.send (hostCid p.ep) typReply (replyBytes op stBusy p.tag s.pilot.stamp
    (beBytes 2 b.opcode ++ beBytes 1 b.pkt.ep ++ [0] ++ beBytes 4 b.pkt.tag.toNat ++
      beBytes 4 ((s.pilot.stamp - b.since).toNat / 100000)))

/-- What a command's own meaning answers: a reply, or work that goes on, waiting or not. -/
inductive CmdRes where
  | reply (status : Nat) (results : List Byte)
  | run (waiting : Bool)
  deriving DecidableEq, Repr

/-- The work or the reply is not a failure. -/
def CmdRes.isOk (r : CmdRes) : Bool :=
  match r with
  | .reply st _ => st = stOk
  | .run _ => true

/-- The checks of a command and its own meaning (R480). -/
def State.judge (s : State) (op : Nat) (p : CmdPkt) (own : State → State × CmdRes) : State × CmdRes :=
  match s.commonChecks op p with
  | (s, some st) => (s, .reply st [])
  | (s, none) => own s

/-- The reply, or the interface taken by the command (R474, R476). -/
def State.conclude (s : State) (op : Nat) (p : CmdPkt) (r : CmdRes) : State :=
  match r with
  | .reply st rs => s.reply op p st rs
  | .run w => { s with pilot := { s.pilot with
      busy := some { opcode := op, pkt := p, since := s.pilot.stamp, waiting := w } } }

/-- A command is taken: BUSY, the common checks, then its own checks and actions (R476, R477, R480);
`after` follows a reply of OK or the acceptance. -/
def State.commandThen (s : State) (op : Nat) (p : CmdPkt) (own : State → State × CmdRes)
    (after : State → State) : State :=
  if !s.hears op p then s
  else match s.pilot.busy with
    | some b => s.unbox.busyReply op p b
    | none =>
      let (s, r) := s.unbox.judge op p own
      let s := s.conclude op p r
      if r.isOk then after s else s

/-- A command of which nothing is left to do after its reply. -/
def State.command (s : State) (op : Nat) (p : CmdPkt) (own : State → State × CmdRes) : State :=
  s.commandThen op p own id

/-- The command in progress ends with a reply, and the interface is free; the reply is discarded where its conduit
became LOST, whether it is open again or not (R479). -/
def State.finish (s : State) (status : Nat) (results : List Byte) : State :=
  match s.pilot.busy with
  | some b =>
    let s := { s with pilot := { s.pilot with busy := none, restore := none, object := [] } }
    if b.lost then s.completed b.opcode b.pkt status else s.reply b.opcode b.pkt status results
  | none => s

/-- The opcode of the command in progress. -/
def State.busyOp (s : State) : Option Nat := s.pilot.busy.map (·.opcode)

/-- The parameters of the command in progress. -/
def State.busyPkt (s : State) (op : Nat) : Option CmdPkt :=
  match s.pilot.busy with
  | some b => if b.opcode = op then some b.pkt else none
  | none => none

/-- BAD_OPCODE (R480): an opcode that the table lacks. -/
def execBadOpcode (p : CmdPkt) (opcode : Nat) (s : State) : Out :=
  .next (if opcodes.contains opcode then s
    else s.command opcode p (fun s => (s, .reply stBadOpcode [])))

end Sys2Proof.Machine
end

