-- ==== Sys2Proof/Machine/Reset.lean ====
section
/-!
DEFINITION. Reset.lean: what switching a domain off discards (R567), the protective shutdown (R572),
device reset (R540) and the reset inputs (R539 to R541, R560).
-/

namespace Sys2Proof.Machine

open Sys2Proof

/-! ### Domains off (R567) -/

/-- Drops the entries of a table whose key a test picks. -/
def Tab.drop {α : Type} (t : Tab α) (p : Nat → Bool) : Tab α := t.filter (fun x => !p x.1)

/-- Ready-map bits of the blocks of a domain (R536, R565). -/
def domBits (d : Nat) : List Nat :=
  if d < 16 then (List.range 16).map (fun i => readyLan (16 * d + i))
  else if d < 20 then
    readyTc (d - 16) :: (List.range 4).map (fun i => readyEng (4 * (d - 16) + i)) ++
      (if d = 16 then [4, 5] else [])
  else if d < 28 then (List.range 32).map (fun i => readyCh (32 * (d - 20) + i))
  else if d = 28 then [2]
  else [3]

/-- The conduits are gone with the transport's power, and the reply to a command in progress with them (R479). -/
def State.conduitsOff (s : State) : State :=
  { s.replyLost (fun _ => true) with xpt := { sent := s.xpt.sent } }

/-- What is left of cirrus when it loses its power or is reset: CKERR, where that cuts a checkpoint stream short
(R443, R572; log 161). -/
def State.cirLeft (s : State) : Cirrus :=
  { ckerr := match s.ckpt with
    | some c => c.streaming
    | none => false }

/-- Discards the state that lies in a domain. -/
def State.eraseDom (s : State) (d : Nat) : State :=
  if d < 16 then { s with lans := Tab.drop s.lans (fun n => n / 16 = d) }
  else if d < 20 then
    let t := d - 16
    let s := { s with
      tcs := Tab.drop s.tcs (fun k => k = t)
      engines := Tab.drop s.engines (fun e => e / 4 = t) }
    if t = 0 then { s with
      disp := {}, cirrus := s.cirLeft, scrub := {}, net := {}, ckpt := none
      beacon := { s.beacon with ckWait := false } } else s
  else if d < 28 then
    let x := d - 20
    let mine := fun (pa : Nat) => paChannel pa / 32 = x
    { s with
      chs := Tab.drop s.chs (fun c => c / 32 = x)
      mem := s.mem.filter (fun c => !mine c.1)
      poison := s.poison.filter (fun u => !mine (64 * u))
      deltas := s.deltas.filter (fun p => !mine p.1)
      rebuilds := Tab.drop s.rebuilds (fun u => mine (64 * u)) }
  else s.conduitsOff

/-- Snapshot sets of blocks without power are gone, and VALID of a block that has power again is 0 until it
latches (R434). -/
def State.dropSets (s : State) : State :=
  let off := fun (src : Nat) => match blkOfSrc src with
    | some b => !s.blkOn b
    | none => true
  { s with beacon := { s.beacon with
      sets := Tab.drop s.beacon.sets off
      latched := s.beacon.latched.filter (fun src => !off src) } }

/-- The domain of a measurement's target. -/
def Pilot.rateDomain (p : Pilot) : Nat :=
  if p.rateSel then 16 + p.rateTarget.toNat else p.rateTarget.toNat / 16

/-- A measurement whose target loses power ends with ERR, and KBEATS stays (R24). -/
def State.rateOff (s : State) (d : Nat) : State :=
  if s.pilot.rateBusy && s.pilot.rateDomain = d then
    { s with pilot := { s.pilot with rateBusy := false, rateErr := true } }
  else s

/-- Switches a domain off (R567): its state is discarded and its ready-map bits are clear. -/
def State.offDomain (s : State) (d : Nat) : State :=
  let s := (s.eraseDom d).rateOff d
  let s := (domBits d).foldl (fun s b => s.setReady b false) s
  { s with pwr := { s.pwr with
      on := bitSet s.pwr.on d false
      effMv := Tab.drop s.pwr.effMv (fun q => q = d)
      thermMv := Tab.drop s.pwr.thermMv (fun q => q = d)
      thermFloorMs := Tab.drop s.pwr.thermFloorMs (fun q => q = d) } }.dropSets

/-! ### The protective shutdown (R572) -/

/-- The command needs a domain that the shutdown switches off: its Needs column names DISP or CIRRUS,
it is MARGIN, or it switches such a domain on. -/
def needsOff (b : Busy) : Bool :=
  (opNeeds b.opcode).any (fun n => n = 4 || n = 5) || b.opcode = 0xB0 ||
    (b.opcode = 0xA0 && b.pkt.f 0 1 < 28)

/-- Steps 1 to 3 of the protective shutdown. -/
def State.protectiveOff (s : State) (x : RecIn) : State :=
  if s.pwr.shut then s
  else
    let s := (List.range 28).foldl (fun s d => s.offDomain d) s
    let s := { s with
      pwr := { s.pwr with shut := true }
      start := { s.start with
        eligible := s.start.eligible.filter (fun d => 28 ≤ d)
        switched := s.start.switched.filter (fun d => 28 ≤ d) } }
    let s := match s.pilot.busy with
      | some b => if needsOff b then s.finish stInternal [] else s
      | none => s
    s.record x

/-- Step 5 is due: a base-die sensor of tile 0 has read 115 °C or more for 1 s, or a supply condition that calls for
a shutdown has come after step 1 (log 170). -/
def State.secondDue (s : State) : Bool :=
  s.pwr.further || s.therm.hotRuns.any (fun p => 10000 ≤ p.2)

/-- Step 5: EP and ET go off, with a second THERM_SHUTDOWN record of group 3. -/
def State.secondStage (s : State) : State :=
  if s.pwr.shut && s.secondDue && (s.powered 28 || s.powered 29) then
    ((s.offDomain 28).offDomain 29).record
      { src := 0x402, cls := clsFatal, code := 0x0303
        aux := s.hottest (baseSensors 0) % 256 + 3 * 256 }
  else s

/-- SHUTDOWN_SECOND_STAGE (R572). -/
def execShutdownSecondStage (s : State) : Out := .next s.secondStage

/-! ### Device reset (R540) -/

/-- Everything but the waiting commands, the flash, the reset inputs and the TAP returns to its reset
state; the TAP is unlocked. A checkpoint that the reset cuts short leaves CKERR (R443; log 161). -/
def State.deviceReset (s : State) : State :=
  { pending := s.pending
    freeCtr := s.freeCtr
    flash := s.flash
    start := { pgIn := s.start.pgIn, resetN := s.start.resetN, refclk := s.start.refclk }
    tap := { s.tap with locked := false }
    cirrus := s.cirLeft
    xpt := { sent := s.xpt.sent } }

/-- The device leaves reset when both inputs are high; the controller then checks REFCLK (R539, R541). -/
def State.leaveReset (s : State) : State :=
  if s.start.phase = .reset && s.start.pgIn && s.start.resetN then
    { s with start := { s.start with phase := if s.start.refclk then .locking else .waitRef } }
  else s

/-- PG_IN_HIGH (R539). -/
def execPgInHigh (s : State) : Out :=
  .next { s with start := { s.start with pgIn := true } }.leaveReset

/-- PG_IN_LOW (R539, R540): AON has no power good, so the TAP stops too and comes up with IDCODE
selected (R573, R575). -/
def execPgInLow (s : State) : Out :=
  .next { { s with start := { s.start with pgIn := false } }.deviceReset with tap := {} }

/-- RESET_N_LOW (R540). -/
def execResetNLow (s : State) : Out :=
  .next { s with start := { s.start with resetN := false } }.deviceReset

/-- RESET_N_HIGH (R539). -/
def execResetNHigh (s : State) : Out :=
  .next { s with start := { s.start with resetN := true } }.leaveReset

/-- REFCLK_LOSS (R560). -/
def execRefclkLoss (s : State) : Out :=
  .next { s with start := { s.start with refclk := false } }.deviceReset.leaveReset

/-- REFCLK_PRESENT (R541): the wait ends, and the controller begins to lock the PLLs. -/
def execRefclkPresent (s : State) : Out :=
  .next (
    let st := { s.start with refclk := true }
    { s with start := if st.phase = .waitRef then { st with phase := .locking } else st })

/-- PLL_LOCK (R541): start proceeds to the boot ROM. -/
def execPllLock (s : State) : Out :=
  .next (if s.start.phase = .locking then { s with start := { s.start with phase := .bootRom } } else s)

/-- PLL_LOCK_RETRY (R541): nothing else starts until every PLL has locked. -/
def execPllLockRetry (s : State) : Out := .next s

/-- The reset of RESET takes place: as a pulse on RESET_N, but the PLLs stay locked (R496, R540). -/
def State.commandReset (s : State) : State :=
  let s := s.deviceReset
  { s with start := { s.start with phase := .bootRom } }

/-- The time since the last link up, up to the 200 ms that R450 asks about. -/
def State.linkAges (s : State) : State :=
  match s.xpt.upAge with
  | some k => if k < 20000000 then { s with xpt := { s.xpt with upAge := some (k + 1) } } else s
  | none => s

/-- An edge of the slow clock: the reference rings have counted on (R21), a measurement takes its first
sample (R24), the pilot stamp counts from pilot start (R36), and a RESET that has replied takes place after
1 ms (R496). -/
def State.tick (s : State) : State :=
  let s := s.ringEdge.rateSample.linkAges
  let s := if s.pilot.started then { s with pilot := { s.pilot with stamp := s.pilot.stamp + 1 } } else s
  match s.pilot.resetIn with
  | some k => if k ≤ 1 then s.commandReset else { s with pilot := { s.pilot with resetIn := some (k - 1) } }
  | none => s

/-! ### Boundary scan (R523, R573 to R575) -/

/-- A locked TAP decodes every instruction but BYPASS and IDCODE as BYPASS (R523). -/
def Tap.load (t : Tap) (i : TapInstr) : Tap :=
  { t with instr := if t.locked && i ≠ .idcode then .bypass else i }

/-- The TAP runs while PG_IN is filtered high (R575). -/
def State.tapLoad (s : State) (i : TapInstr) : State :=
  if s.start.pgIn then { s with tap := s.tap.load i } else s

/-- EXTEST: cells 0 to 3 decide both outputs (R561). -/
def execExtest (s : State) : Out := .next (s.tapLoad .extest)

/-- The cells that a capture reads: the two outputs as they are driven, then TRIGGER_N, PG_IN and
RESET_N (R574). The spec does not say what a capture reads in the cells of the outputs. -/
def State.capture (s : State) : BitVec 7 × State :=
  let (x, s) := s.draw
  let v := (BitVec.ofNat 7 (x.toNat % 16)) ||| (BitVec.ofNat 7
    (16 * b2n s.pilot.trigLevel + 32 * b2n s.start.pgIn + 64 * b2n s.start.resetN))
  (v, s)

/-- SAMPLE_PRELOAD: the register captures the contacts, and the shifted value is preloaded into the
output cells (R573, R574). -/
def execSamplePreload (shift : BitVec 7) (s : State) : Out :=
  .next (
    let s := s.tapLoad .samplePreload
    if s.tap.instr = .samplePreload && s.start.pgIn then
      let (v, s) := s.capture
      { s with tap := { s.tap with cells := shift, shift := v.setWidth 32 } }
    else s)

/-- IDCODE reads 0x1288_064F (R573). -/
def execIdcode (s : State) : Out :=
  .next (if s.start.pgIn then { s with tap := { s.tap.load .idcode with shift := 0x1288064F } } else s)

/-- CLAMP (R561). -/
def execClamp (s : State) : Out := .next (s.tapLoad .clamp)

/-- HIGHZ (R561). -/
def execHighz (s : State) : Out := .next (s.tapLoad .highz)

/-- The instruction that a code selects; every other code acts as BYPASS (R573). -/
def tapDecode (code : BitVec 4) : TapInstr :=
  match code.toNat with
  | 0 => .extest
  | 1 => .samplePreload
  | 2 => .idcode
  | 3 => .clamp
  | 4 => .highz
  | _ => .bypass

/-- BYPASS (R573): code 0xF or another code that no row names; a locked TAP takes every other code so
too. -/
def execBypass (code : BitVec 4) (s : State) : Out := .next (s.tapLoad (tapDecode code))

/-- TRST_N_LOW: Test-Logic-Reset selects IDCODE (R559, R573). -/
def execTrstNLow (s : State) : Out := .next { s with tap := { s.tap with instr := .idcode } }

/-- Level of FAULT_N: `some` level while driven, `none` released (R410, R561). -/
def State.faultPin (s : State) : Option Bool :=
  match s.tap.instr with
  | .extest | .clamp => if s.tap.cells.getLsbD 1 && !s.tap.cells.getLsbD 0 then some false else none
  | .highz => none
  | _ => if s.faultLow then some false else none

/-- Level of THERM_ALERT_N (R561, R571). -/
def State.alertPin (s : State) : Option Bool :=
  match s.tap.instr with
  | .extest | .clamp => if s.tap.cells.getLsbD 3 && !s.tap.cells.getLsbD 2 then some false else none
  | .highz => none
  | _ => if s.therm.alert then some false else none

end Sys2Proof.Machine
end

