-- ==== Sys2Proof/Machine/Power.lean ====
section
/-!
DEFINITION. Power.lean: the 1 ms evaluation (R33 to R35, R570), supply samples (R564) and temperature
readings (R568 to R572).
-/

namespace Sys2Proof.Machine

open Sys2Proof

/-- The monitors of AON run: the PLLs have locked since the device left reset (R541). -/
def State.clocked (s : State) : Bool :=
  match s.start.phase with
  | .bootRom | .recovery | .starting | .up => true
  | _ => false

/-! ### Conditions with a filter -/

/-- One sample of a condition: the Bool says that it has now held for `hold` samples and opens an episode,
which ends once it has been absent for `quiet` samples. -/
def Watch.sample (w : Watch) (bad : Bool) (hold quiet : Nat) : Watch × Bool :=
  let h := if bad then min (w.held + 1) hold else 0
  let a := if bad then 0 else min (w.absent + 1) quiet
  if w.isOpen then ({ held := h, absent := a, isOpen := decide (a < quiet) }, false)
  else if bad && h = hold then ({ held := h, absent := a, isOpen := true }, true)
  else ({ held := h, absent := a, isOpen := false }, false)

/-! ### Supply (R564) -/

/-- The condition `k` of R564 on a sample in units of 10 mV and 10 mA. -/
def supplyBad (k v0 v1 i0 i1 : Nat) : Bool :=
  let off := fun (v : Nat) => (v < 4608 || 4992 < v) && 4400 ≤ v && v ≤ 5400
  match k with
  | 0 => off v0 || off v1
  | 1 => 30 * (i0 + i1) < 100 * (max i0 i1 - min i0 i1) && 1000 < i0 + i1
  | 2 => v0 < 4400 || v1 < 4400
  | 3 => 5400 < v0 || 5400 < v1
  | _ => 4500 < i0 || 4500 < i1

/-- Samples of 10 µs for which the condition `k` must hold. -/
def supplyHold (k : Nat) : Nat :=
  match k with
  | 0 | 1 => 1000
  | 2 | 3 => 10
  | _ => 100

/-- Sets the bit of PWR.FLT that belongs to condition `k`. -/
def Pwr.fault (p : Pwr) (k : Nat) : Pwr :=
  match k with
  | 0 => { p with range := true }
  | 1 => { p with imbal := true }
  | 2 => { p with uv := true }
  | 3 => { p with ov := true }
  | _ => { p with oc := true }

/-- What a condition that has passed its filter does: ENV_RANGE, or SUPPLY_FAULT with the protective
shutdown. After the shutdown it calls for the second stage (R572). -/
def State.supplyEvent (s : State) (k : Nat) : State :=
  let s := { s with pwr := s.pwr.fault k }
  if k < 2 then s.record { src := 0x401, cls := clsInfo, code := 0x0414, aux := k + 1 }
  else
    let x : RecIn := { src := 0x401, cls := clsFatal, code := 0x0304, aux := s.pwrReg 0x24 }
    if s.pwr.shut then { s with pwr := { s.pwr with further := true } }.record x else s.protectiveOff x

/-- SUPPLY_SAMPLE (R564): an episode ends when its condition has been absent for 1 s. -/
def execSupplySample (v0 v1 i0 i1 : Nat) (s : State) : Out :=
  .next (if !s.clocked then s
    else
      let s := { s with pwr := { s.pwr with
        v0 := v0 % 65536, v1 := v1 % 65536, i0 := i0 % 65536, i1 := i1 % 65536 } }
      (List.range 5).foldl (fun s k =>
        let (w, fire) := (s.pwr.watches.getD k {}).sample (supplyBad k v0 v1 i0 i1) (supplyHold k) 100000
        let s := { s with pwr := { s.pwr with watches := s.pwr.watches.put k w } }
        if fire then s.supplyEvent k else s) s)

/-! ### Sensor groups (R568, R569): quadrants 0 to 15, base dies 16 to 19, stacks 20 to 27 -/

/-- Sensors of a group. -/
def groupSensors (g : Nat) : List Nat :=
  if g < 16 then quadSensors g else if g < 20 then baseSensors (g - 16) else stackSensors (g - 20)

/-- Group number that THERM_SHUTDOWN gives: 0 compute, 1 base die, 2 DRAM (R576). -/
def groupKind (g : Nat) : Nat := if g < 16 then 0 else if g < 20 then 1 else 2

/-- Throttle, release, alert and shutdown thresholds of a group (R569). -/
def thresholds (g : Nat) : Int × Int × Int × Int :=
  if g < 20 then (95, 92, 100, 110) else (90, 87, 95, 105)

/-- Sensor `i` is excluded. -/
def State.excl (s : State) (i : Nat) : Bool := s.therm.excluded.contains i

/-- The reading of a sensor and the two before it all meet a test (R568). -/
def State.threeMeet (s : State) (i : Nat) (p : Int → Bool) : Bool :=
  let r := s.therm.readings.getD i []
  !s.excl i && r.length = 3 && r.all p

/-- The filtered state of a group after a reading (R568). -/
def State.groupStep (s : State) (g : Nat) : GroupState :=
  let (t, r, a, d) := thresholds g
  let is := groupSensors g
  let meets := fun (x : Int) => is.any (fun i => s.threeMeet i (fun v => x ≤ v))
  if meets t then { throttle := true, alert := meets a, shutdown := meets d, released := false }
  else if is.all (fun i => s.excl i || s.threeMeet i (fun v => v < r)) then {}
  else s.therm.groups.getD g {}

/-- Places a number in a rising list that may hold equal numbers. -/
def insInt (x : Int) : List Int → List Int
  | [] => [x]
  | y :: t => if x ≤ y then x :: y :: t else y :: insInt x t

/-- Twice the median of some numbers. -/
def median2 (xs : List Int) : Int :=
  let ys := xs.foldr insInt []
  ys.getD ((ys.length - 1) / 2) 0 + ys.getD (ys.length / 2) 0

/-- Number of readings of 100 µs without a value after which a sensor is excluded (R568). -/
def missLimit (i : Nat) : Nat := if i < 432 then 10 else 10000

/-- A sensor is excluded by this reading (R568). -/
def State.excludes (s : State) (vals : List (Nat × Int)) (i : Nat) : Bool :=
  match Tab.find? vals i with
  | none => missLimit i ≤ s.therm.missing.getD i 0
  | some v =>
    if i < 432 then
      let g := (List.range 28).find? (fun g => (groupSensors g).contains i)
      let ms := (groupSensors (g.getD 0)).filterMap (fun k =>
        if s.excl k then none else Tab.find? vals k)
      let d := 2 * v - median2 ms
      v < -20 || 150 < v || 50 < d || d < -50
    else if i < 434 then v < -10 || 90 < v
    else false

/-- Takes one value of each sensor that gave one, and counts the others as missing. -/
def State.takeReadings (s : State) (vals : List (Nat × Int)) : State :=
  { s with therm := { s.therm with
      readings := (List.range 435).foldl (fun t i => match Tab.find? vals i with
        | some v => t.put i ((v :: t.getD i []).take 3)
        | none => t) s.therm.readings
      missing := (List.range 435).foldl (fun t i => match Tab.find? vals i with
        | some _ => t.erase i
        | none => t.put i (min (t.getD i 0 + 1) (missLimit i))) s.therm.missing } }

/-- Excludes sensors, each with its record. -/
def State.excludeSensors (s : State) (vals : List (Nat × Int)) : State :=
  let new := (List.range 435).filter (fun i => !s.excl i && s.excludes vals i)
  let s := { s with therm := { s.therm with excluded := new.foldl setIns s.therm.excluded } }
  s.records (new.map (fun i => { src := 0x402, cls := clsInfo, code := 0x0415, aux := i }))

/-! ### The alert (R571) -/

/-- THERM.STAT[30:27]. -/
def State.alertBits (s : State) : Nat :=
  let (j, f, c, x) := s.thermConds
  8 * b2n j + 4 * b2n f + 2 * b2n c + b2n x

/-- Drives THERM_ALERT_N: asserted with a record while a condition holds, and released after `ticks`
readings have made 10,000 without one. -/
def State.alertStep (s : State) (ticks : Nat) : State :=
  if s.alertBits ≠ 0 then
    let was := s.therm.alert
    let s := { s with therm := { s.therm with alert := true, quietN := 0 } }
    if was then s
    else s.record { src := 0x402, cls := clsInfo, code := 0x0413, aux := s.alertBits }
  else
    let q := min (s.therm.quietN + ticks) 10000
    { s with therm := { s.therm with quietN := q, alert := s.therm.alert && q < 10000 } }

/-- A coolant condition by its ENV_RANGE code (R562, R571). -/
def State.coolBad (s : State) (k : Nat) : Bool :=
  match k with
  | 3 => match s.reading 432 with | some v => v < 20 || 32 < v | none => false
  | 4 => match s.reading 434 with | some v => v < 250 || 400 < v | none => false
  | _ => [432, 433, 434].any s.excl

/-- The coolant conditions of one reading: ENV_RANGE once per episode. -/
def State.coolStep (s : State) : State :=
  [3, 4, 5].foldl (fun s k =>
    let (w, fire) := (s.therm.watches.getD k {}).sample (s.coolBad k) (if k = 5 then 1 else 10000) 10000
    let s := { s with therm := { s.therm with watches := s.therm.watches.put k w } }
    if fire then s.record { src := 0x402, cls := clsInfo, code := 0x0414, aux := k } else s) s

/-- A group has reached its shutdown threshold (R572). -/
def State.thermShutdown (s : State) : State :=
  match (List.range 28).find? (fun g => (s.therm.groups.getD g {}).shutdown) with
  | some g =>
    if s.pwr.shut then s
    else s.protectiveOff { src := 0x402, cls := clsFatal, code := 0x0303
                           aux := s.hottest (groupSensors g) % 256 + 256 * groupKind g }
  | none => s

/-- After a protective shutdown, the readings in a row at which each base-die sensor of tile 0 has 115 °C or more
(R572). -/
def State.hotStep (s : State) : State :=
  if !s.pwr.shut then s
  else { s with therm := { s.therm with
      hotRuns := (baseSensors 0).map (fun i => (i, match s.reading i with
        | some v => if 115 ≤ v && !s.excl i then min 10000 (s.therm.hotRuns.getD i 0 + 1) else 0
        | none => 0)) } }

/-- Channels follow the temperature of their die group (R308). -/
def State.chTemps (s : State) : State :=
  s.chs.foldl (fun s p =>
    (s.refreshRate p.1).modCh p.1 (fun d => { d with temp := min 127 (s.dieTemp p.1) })) s

/-- SENSOR_READING (R568 to R572). -/
def execSensorReading (vals : List (Nat × Int)) (s : State) : Out :=
  .next (if !s.clocked then s
    else
      let s := (s.takeReadings vals).excludeSensors vals
      let s := { s with therm := { s.therm with
        groups := (List.range 28).map (fun g => (g, s.groupStep g)) } }
      ((s.hotStep.chTemps.coolStep).alertStep 1).thermShutdown)

/-! ### The 1 ms evaluation (R33 to R35, R570) -/

/-- A ceiling moved by one step within 0.65 to 0.80 V. -/
def stepMv (mv : Nat) (down up : Bool) : Nat :=
  if down then max 650 (mv - 5) else if up then min 800 (mv + 5) else mv

/-- The power-cap ceiling and the count of evaluations at its floor (R33, R34). -/
def State.capStep (s : State) (avg : Nat) : State :=
  let p := s.pwr
  let above := p.capW < avg
  let n := if above && p.ceil = 650 then min 100 (p.floorMs + 1) else 0
  let fire := n = 100 && !p.capUnmet
  let p := { p with
    avgW := min 65535 avg
    ceil := stepMv p.ceil above (100 * avg < 98 * p.capW)
    floorMs := n
    capUnmet := if avg < p.capW then false else p.capUnmet || fire }
  let s := { s with pwr := p }
  if fire then s.record { src := 0x401, cls := clsInfo, code := 0x0409, aux := p.capW } else s

/-- The groups that govern a quadrant: its own, the base die of its tile and its tile's stacks (R570). -/
def governs (q : Nat) : List Nat := [q, 16 + q / 4, 20 + 2 * (q / 4), 21 + 2 * (q / 4)]

/-- The thermal ceiling of a powered quadrant (R570, R571). -/
def State.thermStep (s : State) (q : Nat) : State :=
  let gs := (governs q).map (fun g => s.therm.groups.getD g {})
  let hot := gs.any (·.throttle)
  let old := s.pwr.thermMv.getD q 800
  let mv := if (quadSensors q).all s.excl then 650
    else stepMv old hot (gs.all (·.released))
  let n := if hot && old = 650 then min 100 (s.pwr.thermFloorMs.getD q 0 + 1) else 0
  { s with pwr := { s.pwr with
      thermMv := s.pwr.thermMv.put q mv, thermFloorMs := s.pwr.thermFloorMs.put q n } }

/-- The effective voltage that the regulator takes up (R32, R35). -/
def State.effStep (s : State) (q : Nat) : State :=
  let mv := min (s.pwr.setMv.getD q 750) (min s.pwr.ceil (s.pwr.thermMv.getD q 800))
  { s with pwr := { s.pwr with effMv := s.pwr.effMv.put q mv } }

/-- An evaluation falls at this stamp: a multiple of 100,000 at which none has taken place (R33). -/
def State.evalDue (s : State) : Bool :=
  s.pilot.started && s.pilot.stamp.toNat % 100000 = 0 && s.pwr.evalAt ≠ some s.pilot.stamp

/-- POWER_EVALUATION (R33). -/
def execPowerEvaluation (avgW : Nat) (s : State) : Out :=
  .next (if !s.evalDue then s
    else
      let s := { s with pwr := { s.pwr with evalAt := some s.pilot.stamp } }
      let s := s.capStep avgW
      let s := ((List.range 16).filter s.powered).foldl (fun s q => (s.thermStep q).effStep q) s
      s.alertStep 0)

end Sys2Proof.Machine
end

