-- ==== Sys2Proof/Machine/BringUp.lean ====
section
/-!
DEFINITION. BringUp.lean: the boot ROM phase (R542, R543), bring-up (R544 to R549), its limits (R550)
and entry into recovery (R554).
-/

namespace Sys2Proof.Machine

open Sys2Proof

/-! ### Firmware images (R519) -/

/-- Offset and length of section `k` of an image, 0 to 3. -/
def imgSect (b : List Byte) (k : Nat) : Nat × Nat := (bfield b (0x24 + 80 * k) 4, bfield b (0x28 + 80 * k) 4)

/-- The bytes of section `k`. -/
def imgSectBytes (b : List Byte) (k : Nat) : List Byte :=
  let (o, n) := imgSect b k
  bslice b o n

/-- The image in flash. -/
def flashImage (f : Flash) : List Byte := f.image.getD Config.factoryImage

/-- FWVER and SVN of an image. -/
def imgFwver (b : List Byte) : Nat := bfield b 8 4
/-- SVN. -/
def imgSvn (b : List Byte) : Nat := bfield b 0xC 4

/-- An image is genuine (R519). -/
def imgGenuine (b : List Byte) : Bool :=
  let cert := bslice b 0x160 176
  beNat (bslice cert 6 2) = 3 && Config.sha512 (bslice cert 0x50 32) = Config.rootHash &&
    Config.edVerify (bslice cert 0x50 32) (cert.take 0x70) (cert.drop 0x70) &&
    Config.edVerify (bslice cert 0x10 32) (b.take 0x210) (bslice b 0x210 64) &&
    (List.range 4).all (fun k => Config.sha512 (imgSectBytes b k) = bslice b (0x30 + 80 * k) 64)

/-! ### The boot ROM (R542) -/

/-- The boot ROM waits while a TAP instruction that drives the outputs is current (R575). -/
def State.romWaits (s : State) : Bool := [TapInstr.extest, .clamp, .highz].contains s.tap.instr

/-- Step 2: measurement 0, and the TAP is locked unless the stored SEC.DBGCTL.OPEN is 1. -/
def State.romStep2 (s : State) : State :=
  let isOpen := s.flash.dbgOpen
  { s with
    sec := { s.sec with meas := s.sec.meas.put 0 (Config.sha512 Config.bootRomImage), dbgLive := isOpen }
    tap := { s.tap with
      locked := !isOpen
      instr := if isOpen || s.tap.instr = .idcode then s.tap.instr else .bypass } }

/-- Makes a domain eligible unless it has power or is on its way (R545). -/
def State.addEligible (s : State) (ds : List Nat) : State :=
  { s with start := { s.start with eligible := s.start.eligible ++ ds.filter (fun d =>
      !s.powered d && !s.start.eligible.contains d && !s.start.switched.contains d) } }

/-- Entry into recovery (R554): EP, ET and TC0 are powered, and no measurement of an image stands. -/
def State.enterRecovery (s : State) : State :=
  { s with
    pilot := {}
    sec := { s.sec with
      meas := s.sec.meas.filter (fun p => p.1 = 0 || 4 < p.1), fwver := 0xFFFFFFFF }
    start := { s.start with phase := .recovery } }.addEligible [16, 28, 29]

/-- Steps 5 and 6: the stored SVN is raised, measurements 1 to 4 are recorded, and the pilot starts with
stamp 0. -/
def State.runImage (s : State) : State :=
  let b := flashImage s.flash
  { s with
    flash := { s.flash with svn := BitVec.ofNat 32 (max s.flash.svn.toNat (imgSvn b)) }
    sec := { s.sec with
      fwver := BitVec.ofNat 32 (imgFwver b)
      meas := (List.range 4).foldl (fun t k =>
        t.put (k + 1) (Config.sha512 (imgSectBytes b k))) s.sec.meas }
    pilot := { s.pilot with started := true }
    start := { s.start with phase := .starting } }

/-- The image in flash is genuine and not older than the stored SVN (step 3 of R542). -/
def State.imageGood (s : State) : Bool :=
  imgGenuine (flashImage s.flash) && s.flash.svn.toNat ≤ imgSvn (flashImage s.flash)

/-- BOOT_ROM (R542): whether the image can be read, and whether every security item has a copy that
verifies; where one has none, SEC never becomes ready (R543). -/
def execBootRom (imageReads itemsRead : Bool) (s : State) : Out :=
  .next (if s.start.phase ≠ .bootRom || s.romWaits then s
    else
      let s := s.romStep2
      let s := if itemsRead then s else { s with start := { s.start with secFailed := true } }
      if imageReads && s.imageGood then s.runImage else s.enterRecovery)

/-! ### Pilot, SEC, ETH and XPT (R544) -/

/-- PILOT_READY: bit 0 is set, and the first domains become eligible. -/
def execPilotReady (s : State) : Out :=
  .next (if s.start.phase = .starting then
    ({ s with
      pilot := { s.pilot with en := true }
      start := { s.start with phase := .up } }.setReady 0 true).addEligible [16, 17, 18, 19, 28, 29]
  else s)

/-- XPT becomes ready once bits 1 and 2 are set. -/
def State.xptUp (s : State) : State :=
  if s.isReady 1 && s.isReady 2 && !s.isReady 3 && s.powered 29 then
    { s with xpt := { s.xpt with en := true } }.setReady 3 true
  else s

/-- A lantern that has passed self-test gets the decode table and becomes ready (R294, R544). -/
def State.lanUp (s : State) (n : Nat) : State :=
  let s := s.modLan n (fun l => { l with svc := { l.svc with en := true, wasReady := true, passed := false } })
  ((s.loadTable n).setReady (readyLan n) (!(s.lan n).svc.quarPend)).examine

/-- The stored bundle verifies under the owner key (R291). -/
def State.bundleOk (s : State) : Bool :=
  let b := s.flash.bundle
  let n := 0x90 + 8 * bunWords b
  match s.flash.owner with
  | some o => Config.edVerify o (b.take n) (b.drop n)
  | none => false

/-- The bundle is measured, or discarded when it fails. -/
def State.secBundle (s : State) : State :=
  let b := s.flash.bundle
  if b.isEmpty then s
  else if s.bundleOk then
    { s with sec := { s.sec with meas := s.sec.meas.put 5 (Config.sha512 (b.take (0x90 + 8 * bunWords b))) } }
  else { s with flash := { s.flash with bundle := [] } }

/-- The installed list is measured (R508, R517). -/
def State.secList (s : State) : State :=
  match s.flash.list with
  | some b => { s with sec := { s.sec with meas := s.sec.meas.put 6 (Config.sha512 b) } }
  | none => s

/-- SEC has been started (R544, R554). -/
def State.secStarts (s : State) : Bool := s.start.phase = .starting || s.start.phase = .up || s.recovering

/-- SEC_READY (R515, R544): BOOTCNT counts this start, and lanterns that have waited become ready. Where PUFR
cannot be reconstructed, SEC never becomes ready (R500). -/
def execSecReady (s : State) : Out :=
  .next (
    if !s.secStarts || s.isReady 1 || s.start.secFailed || Config.pufr.isNone then s
    else
      let s := { s with
        flash := { s.flash with bootcnt := s.flash.bootcnt + 1 }
        sec := { s.sec with en := true } }
      let s := (s.secBundle.secList).setReady 1 true
      let s := (s.lans.filter (fun p => p.2.svc.passed)).foldl (fun s p => s.lanUp p.1) s
      s.xptUp)

/-! ### Domains (R544, R545) -/

/-- DOMAIN_SWITCH_ON: the domain that has been eligible for longest. The pilot switches on at most one in each ms
of the slow clock (R545); the boot ROM, whose time the stamp does not count, is not held to it (R554). -/
def execDomainSwitchOn (s : State) : Out :=
  .next (match s.start.eligible with
    | d :: ds =>
      if s.pilot.started && !s.msPast s.start.lastOn then s
      else { s with start := { s.start with
        eligible := ds, switched := s.start.switched ++ [d]
        lastOn := if s.pilot.started then some s.pilot.stamp else none } }
    | [] => s)

/-- The four bank indexes that the granules of a retired bank index occupy (R298, R316). -/
def bankQuad (b : Nat) : List Nat := (List.range 4).map (fun g => 16 * (b / 16) + 4 * g + b % 4)

/-- BANKRET of a channel from the kept list (R414). -/
def State.bankretOf (s : State) (c : Nat) : BitVec 48 :=
  ((s.flash.retBanks.filter (fun p => p.1 = c)).flatMap (fun p => bankQuad p.2)).foldl
    (fun v b => bitSet v b true) 0

/-- The blocks of a domain that has just been powered start their self-tests or training (R544). A channel
released from the map-out list since the device reset does not train (R315). -/
def State.startBlocks (s : State) (d : Nat) : State :=
  if d < 16 then
    let s := (List.range 16).foldl (fun s i =>
      let l := s.lanAtPower (16 * d + i)
      s.setLan (16 * d + i) { l with svc := { l.svc with testing := true } }) s
    let mv := min (s.pwr.setMv.getD d 750) (min s.pwr.ceil 800)
    { s with pwr := { s.pwr with thermMv := s.pwr.thermMv.put d 800, effMv := s.pwr.effMv.put d mv } }
  else if d < 20 then
    s.modTc (d - 16) (fun _ => { s.tcAtPower (d - 16) with testing := !s.recovering })
  else if d < 28 then
    (List.range 32).foldl (fun s i =>
      let c := 32 * (d - 20) + i
      let listed := s.flash.mapout.contains c
      let trains := !listed && !s.start.released.contains c
      s.modCh c (fun _ => { listed := listed, maint := if trains then 1 else 0, bankret := s.bankretOf c })) s
  else
    { s with xpt := { s.xpt with mode800 := s.flash.mode800, kr := s.flash.kr } }

/-- DOMAIN_POWERED (R494, R545): a POWER_DOMAIN that switched the domain on gets its reply. -/
def execDomainPowered (d : Nat) (s : State) : Out :=
  .next (if !s.start.switched.contains d then s
    else
      let s := { s with
        start := { s.start with switched := s.start.switched.filter (fun x => x ≠ d) }
        pwr := { s.pwr with on := bitSet s.pwr.on d true } }
      let s := s.startBlocks d
      match s.busyPkt 0xA0 with
      | some p => if p.f 0 1 = d then s.finish stOk [] else s
      | none => s)

/-! ### Self-test (R546 to R549) -/

/-- A lantern fails self-test; EN reads 0 (R533, R546). -/
def State.lanFails (s : State) (n code bank row : Nat) : State :=
  (s.modLan n (fun l => { l with svc := { l.svc with en := false, testing := false, failed := true } })).lanBist
    n code bank row

/-- LANTERN_SELFTEST_END (R546, R547). -/
def execLanternSelftestEnd (n code bank row : Nat) (badArrays : List Nat) (s : State) : Out :=
  .next (if !(s.lan n).svc.testing || !s.lanOn n then s
    else if code ≠ 0 then s.lanFails n code bank row
    else
      let s := (s.badArrays n badArrays).spareRequest n
      let s := s.modLan n (fun l => { l with svc := { l.svc with testing := false, passed := true, failed := false } })
      if s.isReady 1 then s.lanUp n else s)

/-- A tile cache fails (R549). -/
def State.tcFails (s : State) (t code : Nat) : State :=
  { (s.modTc t (fun c => { c with testing := false })) with start :=
      { s.start with deadTcs := setIns s.start.deadTcs t } }.record
    { src := readyTc t, cls := clsInfo, code := 0x0412, aux := code }

/-- TILE_CACHE_SELFTEST_END (R544, R546, R549). -/
def execTileCacheSelftestEnd (t code : Nat) (s : State) : Out :=
  .next (if !(s.tc t).testing || !s.tcOn t then s
    else if code ≠ 0 then s.tcFails t code
    else
      let s := (s.modTc t (fun c => { c with testing := false, en := true })).setReady (readyTc t) true
      let s := if t = 0 then { s with disp := { s.disp with en := true } }.setReady 4 true else s
      let s := (List.range 4).foldl (fun s i => s.modEng (4 * t + i) (fun _ => { testing := true })) s
      s.addEligible ((List.range 4).map (fun q => 4 * t + q) ++ [20 + 2 * t, 21 + 2 * t]))

/-- COPY_ENGINE_SELFTEST_END (R544, R546). -/
def execCopyEngineSelftestEnd (e : Nat) (pass : Bool) (s : State) : Out :=
  .next (if !(s.eng e).testing || !s.engOn e then s
    else if pass then ((s.modEng e (fun _ => { en := true })).setReady (readyEng e) true).examine
    else (s.modEng e (fun _ => {})).record
      { src := readyEng e, cls := clsInfo, code := 0x0412, aux := 0x22 })

/-! ### Cirrus (R341, R544) -/

/-- A channel is settled (R544). -/
def State.settled (s : State) (c : Nat) : Bool :=
  s.isReady (readyCh c) || (s.ch c).tfail ≠ 0 || s.flash.mapout.contains c || s.start.released.contains c ||
    s.start.deadTcs.contains (c / 64) || s.start.deadDoms.contains (20 + c / 32)

/-- Granules of a channel that retired banks do not take: 1/12 of 294,912 for each (R316). -/
def State.chanGrans (s : State) (c : Nat) : Nat :=
  let v := (s.ch c).bankret
  let gone := (List.range 12).filter (fun g => v.getLsbD (16 * (g / 4) + g % 4))
  294912 - 24576 * gone.length

/-- Granules in the pool at bring-up (R341, R414): those of the ready channels, less 256 MiB and less
the retired pages. -/
def State.poolAtStart (s : State) : Nat :=
  let all := ((List.range 256).filter (fun c => s.isReady (readyCh c))).foldl (fun n c => n + s.chanGrans c) 0
  let ret := s.flash.retPages.foldl (fun n p =>
    n + ((List.range 512).filter (fun g => s.granGood (512 * p + g))).length) 0
  all - 65536 - ret

/-- CIRRUS_INIT_END (R544). -/
def execCirrusInitEnd (s : State) : Out :=
  .next (
    let chans := List.range 256
    if s.tc0On && !s.isReady 5 && !s.start.cirrusFailed && !s.recovering && [1, 22, 23, 24, 25].all s.isReady &&
        chans.all s.settled && (chans.filter (fun c => !s.isReady (readyCh c))).length ≤ 32 then
      ({ s with cirrus := { s.cirrus with
          en := true, capFree := s.poolAtStart, retired := s.flash.retPages } }.setReady 5 true)
    else s)

/-! ### Limits (R550) -/

/-- A domain is not powered within its limit: it is switched off again (R546). The spec does not say
with which status a POWER_DOMAIN that waits for it ends. -/
def State.domainFails (s : State) (d : Nat) : State :=
  let s := { s with start := { s.start with
    switched := s.start.switched.filter (fun x => x ≠ d), deadDoms := setIns s.start.deadDoms d } }
  let s := s.record { src := 0x401, cls := clsInfo, code := 0x0412, aux := 0x30 + 256 * d }
  match s.busyPkt 0xA0 with
  | some p =>
    if p.f 0 1 = d then
      let (x, s) := s.draw
      s.finish (x.toNat % 65536) []
    else s
  | none => s

/-- BRINGUP_LIMIT_EXPIRY (R550). The failed step of a training pass that runs out of time is open. -/
def execBringupLimitExpiry (ph : BringupPhase) (s : State) : Out :=
  .next (match ph with
    | .bootRom => if s.start.phase = .bootRom && !s.romWaits then s.romStep2.enterRecovery else s
    | .pilotStart => if s.start.phase = .starting then s.enterRecovery else s
    | .secStart =>
      if s.isReady 1 || !s.secStarts then s else { s with start := { s.start with secFailed := true } }
    | .domainOn d => if s.start.switched.contains d then s.domainFails d else s
    | .tileCache t => if (s.tc t).testing && s.tcOn t then s.tcFails t 0x20 else s
    | .channel c =>
      if (s.ch c).maint = 1#3 && s.chOn c then
        let (x, s) := s.draw
        s.trainFailed c (1 + x.toNat % 6)
      else s
    | .lantern n => if (s.lan n).svc.testing && s.lanOn n then s.lanFails n 0x08 0 0 else s
    | .cirrusInit =>
      if s.tc0On && !s.isReady 5 && !s.start.cirrusFailed && (List.range 256).all s.settled then
        { s with start := { s.start with cirrusFailed := true } }.record
          { src := 5, cls := clsInfo, code := 0x0412, aux := 0x40 }
      else s)

end Sys2Proof.Machine
end

