-- ==== Sys2Proof/Machine/Chain.lean ====
section
/-!
DEFINITION. Chain.lean: the checks of a chain descriptor (R122, R127 to R133, R141), the five
stages of a chain with their running statistics (R119, R133 to R140), and the commands that
issue, start and finish a chain (R121 to R126).
-/

namespace Sys2Proof.Machine

open Sys2Proof

/-! ### The descriptor rules -/

/-- Reserved fields and bits of a descriptor are zero (R127). -/
def chainReserved (d : List Byte) : Bool :=
  dfield d 0 2 = 1 && dfield d 2 2 < 2 && dfield d 0x0B 1 = 0 && dfield d 0x4C 4 = 0 &&
    natField (dfield d 0x0C 4) 28 4 = 0 && natField (dfield d 0x10 4) 16 16 = 0 &&
    (List.range 9).all (fun i => dfield d (0x28 + 4 * i) 4 < 2 ^ 22) &&
    (chainD d).streams.all (fun s => s.resv = 0)

/-- OP is not NOP. -/
def opReal (b : Nat) : Bool := opOf b ≠ 0

/-- Format rules (R39, R129). -/
def ChainD.fmtsOk (c : ChainD) : Bool :=
  let operand (x : Nat) : Bool := (1 ≤ x && x ≤ 0xA) || x = 0xC
  operand c.fa1 &&
    ((1 ≤ c.f1 && c.f1 ≤ 5) || (operand c.f1 && c.f1 = c.fa1 && !c.pro.any opReal)) &&
    pairOk c.f1 c.fb1 1 && 1 ≤ c.sfmt && c.sfmt ≤ 3 && 1 ≤ c.fp && c.fp ≤ 5 &&
    (if c.p2 then pairOk c.fp c.fb2 1 else c.fb2 = 0) && operand c.fo

/-- Extent and alignment rules (R127, R128). -/
def ChainD.extentsOk (c : ChainD) (d : List Byte) (neff : Nat) : Bool :=
  let es := outBytes c.fo
  (if c.p2 then c.n2 ≤ 8 * neff else dfield d 0x0A 1 = 0 && c.b2 = 0) &&
    c.a1 % 64 = 0 && c.b1 % 64 = 0 && c.b2 % 64 = 0 &&
    (!isMx c.fa1 || c.a1s % 16 = 0) && (!isMx c.fb1 || c.b1s % 16 = 0) &&
    (!isMx c.fb2 || c.b2s % 16 = 0) &&
    c.ob % es = 0 && c.opitch % es = 0 && c.rowBytes ≤ c.opitch &&
    rangesFit c.reads && rangesFit c.writes &&
    (c.writes.filter (fun w => w.2 ≠ 0)).all (fun w =>
      !meets w.1 w.2 (c.reads.filter (fun r => r.2 ≠ 0)))

/-- Row-stage rules (R130, R138, R139). -/
def ChainD.rowOk (c : ChainD) : Bool :=
  c.rfunc ≤ 3 && c.ract ≤ 3 && (c.rfunc ≠ 1 || c.ract = 0) && (!c.osen || c.rfunc ≠ 0) &&
    (match c.ruse with
      | 0 => true
      | 1 => c.rfunc = 1 || c.rfunc = 2
      | 2 => c.rfunc = 3
      | 3 => c.rfunc = 3
      | 4 => c.rfunc = 3
      | 5 => c.rfunc = 3
      | _ => false)

/-- Stream slot `i`. -/
def ChainD.stream (c : ChainD) (i : Nat) : StreamSlot := c.streams.getD i ⟨0, 0, 0, false, 0, 0⟩

/-- A slot is a mask stream (R131). -/
def StreamSlot.isMask (s : StreamSlot) : Bool := s.shape = 3 && s.fmt = 0xB && !s.dirOut
/-- A slot has the form of a statistic stream (R131). -/
def StreamSlot.isStat (s : StreamSlot) : Bool := s.shape = 1 && s.fmt = 1 && s.base % 8 = 0
/-- A slot is a value stream of one of these shapes. -/
def StreamSlot.isVal (s : StreamSlot) (maxShape : Nat) : Bool :=
  1 ≤ s.shape && s.shape ≤ maxShape && 1 ≤ s.fmt && s.fmt ≤ 3 && !s.dirOut

/-- Stream rules (R39, R130, R131). -/
def ChainD.streamsOk (c : ChainD) : Bool :=
  c.slots.all (fun p => p.2.fmt ≠ 0xF &&
    (p.2.shape = 0 || (((1 ≤ p.2.fmt && p.2.fmt ≤ 3) || p.2.fmt = 0xB) &&
      (p.2.fmt ≠ 0xB || p.2.shape = 3) && p.2.base % outBytes p.2.fmt = 0)) &&
    (!p.2.dirOut || (c.osen && c.ostr = p.1))) &&
  (!c.osen || ((c.stream c.ostr).isStat && (c.stream c.ostr).dirOut)) &&
  (c.rmask < 2 || (c.stream c.mstr).isMask)

/-- An operation byte meets the rules of R133. -/
def ChainD.opOk (c : ChainD) (pro last : Bool) (b : Nat) : Bool :=
  let st := c.stream (opIdx b)
  let sr := natBit b 1
  let e4 := natBit b 0
  let conv := opOf b = 0xA || opOf b = 0xB
  let srFo : Bool := c.fo = 2 || c.fo = 4 || c.fo = 5 || isMx c.fo
  (!sr || (conv && srFo)) && (!e4 || opOf b = 0xA) &&
    (match opOf b with
      | 0x0 => opIdx b = 0
      | 0x1 => opIdx b ≤ 1
      | 0x2 => st.isVal 2
      | 0x3 => st.isVal 3
      | 0x4 => st.isMask
      | 0x5 => opIdx b = 0
      | 0x6 => opIdx b = 0
      | 0x7 => opIdx b = 0
      | 0x8 => opIdx b ≤ 1
      | 0x9 => pro && st.isStat && !st.dirOut
      | 0xA => !pro && last && opIdx b = 0 && !isMx c.fo
      | 0xB => !pro && last && opIdx b = 0 && isMx c.fo
      | _ => false)

/-- Position `i` of a list holds its last operation that is not NOP. -/
def lastReal (ops : List Nat) (i : Nat) : Bool :=
  opReal (ops.getD i 0) && !(ops.drop (i + 1)).any opReal

/-- Operation rules (R133). -/
def ChainD.opsOk (c : ChainD) : Bool :=
  (List.range 4).all (fun i =>
    c.opOk true (lastReal c.pro i) (c.pro.getD i 0) && c.opOk false (lastReal c.epi i) (c.epi.getD i 0)) &&
  (!isMx c.fo || c.epi.any (fun b => opOf b = 0xB))

/-- No rule under Chain descriptor is broken (check 1 of R122). -/
def chainRangeOk (d : List Byte) (neff : Nat) : Bool :=
  let c := chainD d
  chainReserved d && c.fmtsOk && c.rowOk && c.streamsOk && c.opsOk && c.extentsOk d neff

/-- The table Fusibility (R141). -/
def ChainD.fusible (c : ChainD) : Bool :=
  c.l ≤ 256 || !(c.ruse = 4 || c.ruse = 5 || (!c.p2 && (c.rfunc = 1 || (1 ≤ c.ruse && c.ruse ≤ 3))))

/-- A slot of an array in service will hold a tile (check 3 of R122). -/
def Lantern.anyTile (l : Lantern) : Bool :=
  arrayNos.any (fun m => l.inSvc m && !(l.projected m).isEmpty)

/-- The status of HCHAIN (R122). -/
def Lantern.chainStatus (l : Lantern) (d : List Byte) : Nat :=
  if !chainRangeOk d l.neff then 0x0004
  else if !(chainD d).fusible then 0x000A
  else if l.anyTile then 0x000B
  else 0

/-- Reads the descriptor, past the store buffer and queued work (R81, R195, R391). -/
def State.readDesc (s : State) (n a : Nat) : Run (List Byte) :=
  let l := s.lan n
  if l.lsBlocked false a 128 || (youngest l.sb true a 128).isSome then .error (.wait s .drain)
  else if l.lsPoisoned a 128 then s.poisoned n false (BitVec.ofNat 64 a) 0
  else .ok (l.lsRead a 128)

/-- The ranges of a chain under R125, where its descriptor is accepted. -/
def Lantern.chainRanges (l : Lantern) (d : List Byte) : List Rng :=
  if l.chainStatus d = 0 then (chainD d).reads ++ (chainD d).writes else []

/-- HCHAIN (R121 to R123). -/
def execHchain (n : Nat) (w : LongWord) (s : State) : Out :=
  s.runWick n 8 w.cond (fun s => do
    let l := s.lan n
    let a := natField l.wick.x.toNat 0 22
    s.need n (w.lo = 0 && w.w1 = 0 && a % 128 = 0 && a + 128 ≤ lsSize && l.narr ≠ 0)
    if (l.guardHit [(a, 128)]).isSome then
      s.guardRanges n ((a, 128) :: l.chainRanges (l.lsRead a 128))
    let d ← s.readDesc n a
    let st := l.chainStatus d
    let finish (s : State) : State :=
      (s.modWick n (fun k => { k with a := BitVec.ofNat 64 st, flags := withZ k.flags (st = 0) })).complete n 8
    if st = 0 then
      s.guardRanges n (l.chainRanges d)
      s.await (l.mqRoom && !l.mqWaits (chainD d).reads (chainD d).writes)
      .ok (finish (s.mqEnter n (longInsn w 0xB0) (.chain d false)))
    else .ok (finish s))

/-- CHAIN_START (R124). -/
def execChainStart (n : Nat) (s : State) : Out :=
  let l := s.lan n
  .next (match if s.arraysRun n then l.mq else [] with
    | e :: _ =>
      match e.op with
      | .chain d false => s.setLan n (l.modMq e.id (fun e => { e with op := .chain d true }))
      | _ => s
    | [] => s)

/-! ### FP32 arithmetic of the halo (R133, R134) -/

/-- Rounding to FP32 with RNE and the flush of R62. -/
def r32 (x : FV) : FV := rnd 1 x
/-- FP32 bits of a rounded value. -/
def bits32 (x : FV) : Nat := (toFmt matCtx 1 x).1
/-- An elementwise function (R134). -/
def haloFn (f : ElemFun) (x : FV) : FV := decodeCode 1 (elemOp f matCtx (bits32 x)).1
/-- An FP32 field of the descriptor. -/
def const32 (v : Nat) : FV := readOperand true 1 v
/-- Sum rounded to FP32. -/
def add32 (x y : FV) : FV := r32 (fvAdd .rne x y).1
/-- Product rounded to FP32. -/
def mul32 (x y : FV) : FV := r32 (fvMul x y).1
/-- Quotient rounded to FP32. -/
def div32r (x y : FV) : FV := r32 (fvDiv x y).1
/-- A count as a value. -/
def count (n : Nat) : FV := .num false n 0
/-- The value as code `f` stores it. -/
def stored (f : Nat) (x : FV) : FV := decodeCode f (toFmt matCtx f x).1

/-- tree256 (R136). -/
def tree256 (xs : List FV) : FV :=
  ((treeLevels add32 8 (xs ++ List.replicate (256 - xs.length) FV.zero)).head?.getD FV.zero)

/-! ### Streams and operations (R131, R133) -/

/-- Local-store address of the stream entry at a row and column. -/
def StreamSlot.entry (s : StreamSlot) (row col : Nat) : Nat :=
  let e := outBytes s.fmt
  match s.shape with
  | 1 => s.base + e * row
  | 2 => s.base + e * col
  | _ => s.base + s.pitch * row + e * col

/-- Value of a stream entry. -/
def Lantern.streamVal (l : Lantern) (s : StreamSlot) (row col : Nat) : FV :=
  readOperand true s.fmt (leNat (l.lsRead (s.entry row col) (outBytes s.fmt)))

/-- A statistic of a row: stat1 or stat2. -/
def Lantern.statVal (l : Lantern) (s : StreamSlot) (row k : Nat) : FV :=
  const32 (leNat (l.lsRead (s.base + 8 * row + 4 * k) 4))

/-- The first NaN that an element has met: GEN and the format in which it was seen (R65). -/
abbrev ElNan := Option (Bool × Nat)

/-- An element on its way through the stages, with the first NaN that it has met. -/
abbrev ChainEl := FV × ElNan

/-- A computation in format `f` reads operands with their formats and gives `r`: an operand that is NaN is
read, and a result that is NaN without one is produced (R65). -/
def nanStep (old : ElNan) (ins : List (FV × Nat)) (r : FV) (f : Nat) : ElNan :=
  match old with
  | some x => some x
  | none => match ins.find? (fun p => p.1.isNan) with
    | some p => some (false, p.2)
    | none => if r.isNan then some (true, f) else none

/-- One FP32 computation on an element that reads further operands. -/
def ChainEl.next (e : ChainEl) (ins : List (FV × Nat)) (r : FV) : ChainEl := (r, nanStep e.2 ins r 1)

/-- One operation on the element at a row and column (R133). ROWNORM rounds its argument of rsqrt, which
is an FP32 function, and its result. DEDUCED (log 153). -/
def ChainD.applyOp (c : ChainD) (l : Lantern) (row col b : Nat) (e : ChainEl) : ChainEl :=
  let x := e.1
  let st := c.stream (opIdx b)
  let k := const32 (if opIdx b = 0 then c.const0 else c.const1)
  match opOf b with
  | 0x1 => e.next [(k, 1)] (mul32 x k)
  | 0x2 => let v := l.streamVal st row col; e.next [(v, st.fmt)] (mul32 x v)
  | 0x3 => let v := l.streamVal st row col; e.next [(v, st.fmt)] (add32 x v)
  | 0x4 => (if cellAt l.ls (st.entry row col) = 0 then x else FV.zero, e.2)
  | 0x5 => e.next [] (fvMinMax true x FV.zero).1
  | 0x6 => e.next [] (haloFn .gelu x)
  | 0x7 => e.next [] (haloFn .silu x)
  | 0x8 =>
    let hi : FV := match k with | .num _ m q => .num false m q | .inf _ => .inf false | v => v
    e.next [(k, 1)] (r32 (fvMinMax false (fvMinMax true x hi.negate).1 hi).1)
  | 0x9 =>
    let s1 := l.statVal st row 0
    let s2 := l.statVal st row 1
    let eps := const32 c.eps
    e.next [(s1, 1), (s2, 1), (eps, 1)]
      (r32 (fvMul (fvAdd .rne x s1.negate).1 (haloFn .rsqrt (add32 s2 eps))).1)
  | _ => e

/-- A list of operations in order. -/
def ChainD.applyOps (c : ChainD) (l : Lantern) (row col : Nat) (ops : List Nat) (e : ChainEl) : ChainEl :=
  ops.foldl (fun e b => c.applyOp l row col b e) e

/-! ### NaN reports of a chain (R65, R68, R69, R140) -/

/-- A NaN of a chain. -/
structure ChainNan where
  arr : Nat
  k : Nat
  row : Nat
  col : Nat
  stage : Nat
  gen : Bool
  fmt : Nat
  trow : Nat
  tcol : Nat
  deriving DecidableEq, Repr

/-- R68 places one NaN before another. -/
def ChainNan.before (x y : ChainNan) : Bool :=
  x.arr < y.arr || (x.arr = y.arr && (x.k < y.k || (x.k = y.k &&
    (x.row < y.row || (x.row = y.row && x.col < y.col)))))

/-- How a lantern's arrays divide a chain: arrays along M, MEFF and NEFF (R146). -/
structure ChainGeo where
  g : Nat
  meff : Nat
  neff : Nat
  deriving DecidableEq, Repr

/-- The division of a chain. -/
def chainGeo (c : ChainD) (l : Lantern) : ChainGeo :=
  { g := if c.p2 then ([8, 4, 2].find? (fun g => c.n2 ≤ 8 / g * l.neff)).getD 1 else 1
    meff := l.meff, neff := l.neff }

/-- Rows of a row block. -/
def ChainGeo.rb (q : ChainGeo) : Nat := q.g * q.meff

/-- The array that works on a row and a column of a tile. DESIGN CHOICE: an array that is out of service
keeps its number, in whose place a tile counts (log 156). -/
def ChainGeo.arrayAt (q : ChainGeo) (row col : Nat) : Nat :=
  row % q.rb / q.meff * (8 / q.g) + col % 256 % (8 / q.g * q.neff) / q.neff

/-- A NaN of an elementwise stage. -/
def stageNan (q : ChainGeo) (stage row col tcol arr : Nat) (e : ElNan) : List ChainNan :=
  match e with
  | some (g, f) => [{ arr := arr, k := 0xFFFFFFFF, row := row % q.rb, col := col, stage := stage
                      gen := g, fmt := f, trow := row / q.rb, tcol := tcol }]
  | none => []

/-- A NaN of a product cell. -/
def cellNanAt (q : ChainGeo) (stage row col tcol arr k0 : Nat) (x : Option CellNan) : List ChainNan :=
  match x with
  | some (k, gen, f) => [{ arr := arr, k := k0 + k, row := row % q.rb, col := col, stage := stage
                           gen := gen, fmt := f, trow := row / q.rb, tcol := tcol }]
  | none => []

/-! ### Product tiles (R126, R146) -/

/-- The operands of one product tile on one array: formats, K, and rows of both operands. -/
structure ChainOps where
  fa : Nat
  fb : Nat
  k : Nat
  as : List (List (List FV))
  bs : List (List (List FV))
  deriving DecidableEq, Repr

/-- The tile that an array forms of these operands, from +0, with its checksum cells (R91). DESIGN CHOICE:
a tile of product 2 is checked as what it adds to the accumulators (log 152). -/
def ChainOps.tile (o : ChainOps) (a : Arr) (ups : List CellUpset) : Tile :=
  let (rowChk, colChk) := chkTabs o.fa o.fb 1 false o.k a ups o.as o.bs
  { shape := 0, fc := 1, comp := false, mlen := o.as.length, nlen := o.bs.length
    meff := o.as.length, neff := o.bs.length, fa := o.fa, fb := o.fb
    elems := o.as.zipIdx.flatMap (fun x => o.bs.zipIdx.map (fun y =>
      (32 * x.2 + y.2, (cellRun o.fa o.fb 1 false x.1 y.1 0).1 ^^^ flipsAt a true ups x.2 y.2)))
    rowChk := rowChk, colChk := colChk }

/-- Substitutes run a held tile one after another, with what disturbs each and how its own pattern
self-test ends, until one gives a tile that is written (R93 steps 5 to 8, R95): the array and what
disturbed it, or none where no array remains. -/
def State.chainSub (n m : Nat) (o : ChainOps) :
    Nat → List (List CellUpset × Bool) → State → State × Option (Arr × List CellUpset)
  | 0, _, s => (s, none)
  | k + 1, runs, s =>
    match (s.lan n).substitute m with
    | none => (s, none)
    | some j =>
      let (ups, pass) := runs.headD ([], true)
      let a := (s.lan n).arr j
      if (o.tile a ups).passes 0 then (s, some (a, ups))
      else if pass then (s.stablePair n j, some (a, ups))
      else State.chainSub n m o k runs.tail (s.quarantineArr n j)

/-- A product tile as its array runs it: what disturbs the result that is taken. In checksum mode the
tile is checked, and a mismatch is handled by the sequence of R93 (R126). -/
def State.chainTile (s : State) (n : Nat) (u : ChainUpset) (o : ChainOps) :
    State × Option (Arr × List CellUpset) :=
  let l := s.lan n
  let m := u.tile.arr
  let a := l.arr m
  if !l.chk then (s, some (a, u.first))
  else if !l.inSvc m then s.chainSub n m o 8 u.subs
  else
    let t := o.tile a u.first
    if t.passes 0 then (s, some (a, u.first))
    else
      let t2 := o.tile a u.again
      if t2.passes 0 then (s.recomputePassed n m t 0, some (a, u.again))
      else if t2.sameBits t && u.pass then (s.stablePair n m, some (a, u.first))
      else (s.quarantineArr n m).chainSub n m o 8 u.subs

/-- A chain on its way through its row blocks. `lost` holds once no array remains in service (R95). -/
structure ChainSt where
  s : State
  nan : Option ChainNan := none
  lost : Bool := false
  deriving DecidableEq, Repr

/-- The tiles of one product over a block of rows and `cols` columns run, instruction by instruction and
array by array; the result says what disturbs each. -/
def ChainSt.runTiles (x : ChainSt) (n : Nat) (q : ChainGeo) (ups : List ChainUpset) (prod2 : Bool)
    (block tile fa fb k : Nat) (as bs : List (List (List FV))) :
    ChainSt × List ((Nat × Nat) × (Arr × List CellUpset)) :=
  let per := 8 / q.g * q.neff
  let ids := (List.range ((bs.length + per - 1) / per)).flatMap (fun i => arrayNos.map (fun m => (i, m)))
  ids.foldl (fun acc id =>
    let o : ChainOps := {
      fa := fa, fb := fb, k := k
      as := (as.drop (id.2 / (8 / q.g) * q.meff)).take q.meff
      bs := ((bs.take ((id.1 + 1) * per)).drop (id.1 * per + id.2 % (8 / q.g) * q.neff)).take q.neff }
    if acc.1.lost || o.as.isEmpty || o.bs.isEmpty then acc
    else
      let at_ : ChainTile := { prod2 := prod2, block := block, tile := tile, inst := id.1, arr := id.2 }
      let u := (ups.find? (fun u => u.tile = at_)).getD { tile := at_ }
      match acc.1.s.chainTile n u o with
      | (s, some r) => ({ acc.1 with s := s }, acc.2 ++ [(id, r)])
      | (s, none) => ({ acc.1 with s := s, lost := true }, acc.2)) (x, [])

/-- What disturbs the element at a row and a column of a tile of 256 columns. -/
def ChainGeo.flipAt (q : ChainGeo) (chk : Bool) (rs : List ((Nat × Nat) × (Arr × List CellUpset)))
    (row col : Nat) : BitVec 128 :=
  let per := 8 / q.g * q.neff
  match rs.find? (fun r => r.1 = (col / per, q.arrayAt row col)) with
  | some (_, a, ups) => flipsAt a chk ups (row % q.meff) (col % per % q.neff) &&& accMask 1 false
  | none => 0

/-! ### Stage 1 -/

/-- Blocks of 32 of a list. -/
def blocksOf (xs : List FV) : List (List FV) :=
  (List.range ((xs.length + 31) / 32)).map (fun b =>
    (List.range 32).map (fun j => xs.getD (32 * b + j) FV.zero))

/-- Row `i` of A1 after the prologue, in blocks, with its NaNs. TCOL of the prologue, which belongs to no
tile of S, is 0. DESIGN CHOICE (log 154). -/
def ChainD.a1Row (c : ChainD) (l : Lantern) (q : ChainGeo) (i : Nat) : List (List FV) × List ChainNan :=
  let raw := l.rowVals c.fa1 c.a1 c.a1s i c.k1
  if !c.pro.any opReal && c.f1 = c.fa1 then (raw, [])
  else
    let els : List ChainEl := (raw.flatten.take c.k1).zipIdx.map (fun p =>
      let x := r32 p.1
      let e := c.applyOps l i p.2 c.pro (x, nanStep none [(p.1, c.fa1)] x 1)
      let v := stored c.f1 e.1
      (v, nanStep e.2 [] v c.f1))
    (blocksOf (els.map (·.1)),
      els.zipIdx.flatMap (fun p => stageNan q 1 i p.2 0 (q.arrayAt i 0) p.1.2))

/-! ### Stage 3 (R135 to R140) -/

/-- An element of a row in the row stage: x, whether it is masked, and its first NaN. -/
structure RowEl where
  x : FV
  masked : Bool
  nan : ElNan
  deriving DecidableEq, Repr

/-- Column `j` of row `i` is masked. -/
def ChainD.masked (c : ChainD) (l : Lantern) (i j : Nat) : Bool :=
  ((c.rmask = 1 || c.rmask = 3) && ((i : Int) + c.moff < j)) ||
    (c.rmask ≥ 2 && cellAt l.ls ((c.stream c.mstr).entry i j) ≠ 0)

/-- RACT (R130). -/
def ChainD.act (c : ChainD) (x : FV) : FV :=
  match c.ract with
  | 1 => (fvMinMax true x FV.zero).1
  | 2 => haloFn .gelu x
  | 3 => haloFn .silu x
  | _ => x

/-- The row stage's x of an element of S, which is scaled before it is masked (R135). -/
def ChainD.rowEl (c : ChainD) (l : Lantern) (i j : Nat) (s : FV) : RowEl :=
  let k := const32 c.rscale
  let x := mul32 s k
  let nan := nanStep none [(s, c.sfmt), (k, 1)] x 1
  if c.masked l i j then { x := x, masked := true, nan := nan }
  else
    let y := c.act x
    { x := y, masked := false, nan := nanStep nan [] y 1 }

/-- Tile statistic: largest x, count and sum of the unmasked elements (R136). -/
def tileStat (xs : List RowEl) : FV × Nat × FV :=
  (xs.foldl (fun m e => if e.masked then m else (fvMinMax true m e.x).1) (.inf true),
   (xs.filter (fun e => !e.masked)).length,
   tree256 (xs.map (fun e => if e.masked then FV.zero else e.x)))

/-- The running statistic of a row: m or mean, l or sum or M2, n, the accumulators of product 2 and
the P elements. -/
structure RowRun where
  m : FV
  l : FV
  n : Nat := 0
  o : List (BitVec 128)
  p : List FV := []
  nans : List ChainNan := []
  deriving DecidableEq, Repr

/-- P of an element, and the first NaN that the row stage meets at it. -/
abbrev PEl := FV × ElNan

/-- A statistic that becomes NaN though no x of the tile is: it is recorded at the lowest unmasked column
of the tile, as R68 places a node of a reduction. DESIGN CHOICE (log 154). -/
def statNan (q : ChainGeo) (i t : Nat) (xs : List RowEl) (before after : List FV) : List ChainNan :=
  if after.any FV.isNan && !before.any FV.isNan && !xs.any (fun e => !e.masked && e.x.isNan) then
    let j := (xs.findIdx? (fun e => !e.masked)).getD 0
    stageNan q 3 i j t (q.arrayAt i j) (some (true, 1))
  else []

/-- A tile of the row stage has ended with these P elements. -/
def RowRun.tileEnds (r : RowRun) (q : ChainGeo) (i t : Nat) (ps : List PEl) (ns : List ChainNan) :
    RowRun × List FV :=
  ({ r with
      p := r.p ++ ps.map (·.1)
      nans := r.nans ++ ns ++
        ps.zipIdx.flatMap (fun p => stageNan q 3 i p.2 t (q.arrayAt i p.2) p.1.2) },
    ps.map (·.1))

/-- A tile under MAXEXP (R137, R140): P, and the corrected accumulators. -/
def ChainD.maxexpTile (c : ChainD) (q : ChainGeo) (i t : Nat) (xs : List RowEl) (r : RowRun) :
    RowRun × List FV :=
  let mNew := (fvMinMax true r.m (tileStat xs).1).1
  let corr := !mNew.isNan && !r.m.isNan && fvCmp mNew r.m > 0 && r.m ≠ .inf true
  let alpha := haloFn .exp (add32 r.m mNew.negate)
  let lv := if corr then mul32 alpha r.l else r.l
  let os := r.o.map (fun v => if corr then mul32 alpha (accVal 1 v) else accVal 1 v)
  let ps : List PEl := xs.map (fun e =>
    if mNew.isNan then (.nan false, nanStep e.nan [(mNew, 1)] (.nan false) 1)
    else if e.masked || mNew = .inf true then (FV.zero, e.nan)
    else
      let v := stored c.fp (haloFn .exp (add32 e.x mNew.negate))
      (v, nanStep e.nan [] v 1))
  let l' := add32 lv (tree256 (ps.map (·.1)))
  let no := (r.o.zip os).zipIdx.flatMap (fun p =>
    stageNan q 4 i p.2 0 (q.arrayAt i p.2)
      (if (accVal 1 p.1.1).isNan then none else nanStep none [] p.1.2 1))
  let r' := { r with m := mNew, l := l', o := if corr then os.map (fun v => accPack 1 (bits32 v) 0) else r.o }
  r'.tileEnds q i t ps (no ++ (if ps.any (fun p => p.1.isNan) then [] else statNan q i t xs [r.l] [l']))

/-- P of an element without a running maximum (R138). -/
def ChainD.plainP (c : ChainD) (e : RowEl) : PEl :=
  if e.masked then (FV.zero, e.nan)
  else
    let v := stored c.fp e.x
    (v, nanStep e.nan [] v c.fp)

/-- A tile under SUM or with no statistic. DESIGN CHOICE: the sum starts from +0 (log 155). -/
def ChainD.sumTile (c : ChainD) (q : ChainGeo) (i t : Nat) (xs : List RowEl) (r : RowRun) :
    RowRun × List FV :=
  let (_, nt, sum) := tileStat xs
  let l' := add32 r.l sum
  { r with l := l', n := r.n + nt }.tileEnds q i t (xs.map c.plainP)
    (if c.rfunc = 2 then statNan q i t xs [r.l] [l'] else [])

/-- n × m / k rounded once. -/
def ratio32 (n m k : Nat) : FV := div32r (count (n * m)) (count k)

/-- Merges a tile under SUMSQ: `m` holds the mean and `l` M2 (R138). -/
def sumsqMerge (xs : List RowEl) (r : RowRun) : RowRun :=
  let (_, nt, sum) := tileStat xs
  if nt = 0 then r
  else
    let meanT := div32r sum (count nt)
    let m2T := tree256 (xs.map (fun e =>
      if e.masked then FV.zero
      else
        let d := (fvAdd .rne e.x meanT.negate).1
        mul32 d d))
    let d := add32 meanT r.m.negate
    let nn := r.n + nt
    { r with
      m := add32 r.m (mul32 d (ratio32 nt 1 nn))
      l := add32 (add32 r.l m2T) (mul32 (mul32 d d) (ratio32 r.n nt nn))
      n := nn }

/-- The population variance (R138). -/
def RowRun.variance (r : RowRun) : FV := if r.n = 0 then FV.zero else div32r r.l (count r.n)

/-- P of an element from the final statistic (RUSE 4 and 5 of R139). -/
def ChainD.centredP (c : ChainD) (r : RowRun) (e : RowEl) : PEl :=
  if e.masked then (FV.zero, e.nan)
  else
    let d := add32 e.x r.m.negate
    let eps := const32 c.eps
    let (y, ins) : FV × List (FV × Nat) :=
      if c.ruse = 4 then (d, [(r.m, 1)])
      else (mul32 d (haloFn .rsqrt (add32 r.variance eps)), [(r.m, 1), (r.variance, 1), (eps, 1)])
    let v := stored c.fp y
    (v, nanStep (nanStep e.nan ins y 1) [] v c.fp)

/-- A tile under SUMSQ. -/
def ChainD.sumsqTile (c : ChainD) (q : ChainGeo) (i t : Nat) (xs : List RowEl) (r : RowRun) :
    RowRun × List FV :=
  let r' := sumsqMerge xs r
  r'.tileEnds q i t (xs.map (fun e => if c.ruse = 4 || c.ruse = 5 then c.centredP r' e else c.plainP e))
    (statNan q i t xs [r.m, r.l] [r'.m, r'.l])

/-- The row stage of tile `t` of row `i`. -/
def ChainD.rowTile (c : ChainD) (q : ChainGeo) (i t : Nat) (xs : List RowEl) (r : RowRun) :
    RowRun × List FV :=
  match c.rfunc with
  | 1 => c.maxexpTile q i t xs r
  | 3 => c.sumsqTile q i t xs r
  | _ => c.sumTile q i t xs r

/-- stat1 and stat2 of a row (R137, R138). -/
def ChainD.stats (c : ChainD) (r : RowRun) : FV × FV :=
  match c.rfunc with
  | 1 => (r.l, r.m)
  | 2 => (r.l, r32 (count r.n))
  | _ => (r.m, r.variance)

/-! ### The products of a tile (R119, R136 to R140, R147) -/

/-- Stage 2 and the row stage's x of tile `t` of row `i`: S in its format, with the NaNs of the products. -/
def ChainD.sTile (c : ChainD) (l : Lantern) (q : ChainGeo) (flips : Nat → BitVec 128)
    (as : List (List FV)) (b1 : List (List (List FV))) (i t : Nat) : List RowEl × List ChainNan :=
  let ss := ((b1.drop (256 * t)).take 256).zipIdx.map (fun p =>
    let r := cellRun c.f1 c.fb1 1 false as p.1 0
    (stored c.sfmt (accVal 1 (r.1 ^^^ flips p.2)),
      cellNanAt q 2 i p.2 t (q.arrayAt i p.2) 0 r.2))
  (ss.zipIdx.map (fun p => c.rowEl l i (256 * t + p.2) p.1.1), ss.flatMap (·.2))

/-- Product 2 of tile `t` of row `i`: P against the blocks of every row of B2 (R137). -/
def ChainD.product2 (c : ChainD) (q : ChainGeo) (flips : Nat → BitVec 128) (b2 : List (List (List FV)))
    (i t : Nat) (ps : List (List FV)) (r : RowRun) : RowRun :=
  let rs := ((r.o.zip b2).zipIdx).map (fun x =>
    let y := cellRun c.fp c.fb2 1 false ps x.1.2 x.1.1
    (y.1 ^^^ flips x.2, cellNanAt q 4 i x.2 0 (q.arrayAt i x.2) (256 * t) y.2))
  { r with o := rs.map (·.1), nans := r.nans ++ rs.flatMap (·.2) }

/-! ### Stage 5 (R133, R139) -/

/-- The factor of step 0 with the first NaN that forming it meets, or none where no factor is used;
`some none` makes the row +0. -/
def ChainD.factor (c : ChainD) (r : RowRun) : Option (Option ChainEl) :=
  let (s1, s2) := c.stats r
  let eps := const32 c.eps
  let mk (ins : List (FV × Nat)) (f : FV) : Option (Option ChainEl) := some (some (f, nanStep none ins f 1))
  match c.ruse with
  | 1 => if s1.isZero then some none else mk [(s1, 1)] (haloFn .recip s1)
  | 2 => mk [(s2, 1), (eps, 1)] (haloFn .rsqrt (add32 s2 eps))
  | 3 => mk [(s1, 1), (s2, 1), (eps, 1)] (haloFn .rsqrt (r32 (exactSum [s2, mul32 s1 s1, eps])))
  | _ => none

/-- Elements of row `i` before the conversion to the output. -/
def ChainD.epilogue (c : ChainD) (l : Lantern) (i : Nat) (r : RowRun) : List ChainEl :=
  let src := if c.p2 then r.o.map (accVal 1) else r.p
  src.zipIdx.map (fun p =>
    let nan := nanStep none [(p.1, if c.p2 then 1 else c.fp)] p.1 1
    let e : ChainEl := match c.factor r with
      | some none => (FV.zero, none)
      | some (some f) =>
        let y := mul32 p.1 f.1
        (y, match nan, f.2 with
          | some x, _ => some x
          | none, some x => some x
          | none, none => nanStep none [] y 1)
      | none => (p.1, nan)
    c.applyOps l i p.2 c.epi e)

/-- The converting operation of the epilogue with its position. -/
def ChainD.convOp (c : ChainD) : Option (Nat × Nat) :=
  (c.epi.zipIdx.find? (fun p => opOf p.1 = 0xA || opOf p.1 = 0xB)).map (fun p => (p.2, p.1))

/-- Rounding of the output conversion at a row and column (R52 to R55). -/
def ChainD.outMode (c : ChainD) (row col : Nat) : RMode :=
  match c.convOp with
  | some (i, b) =>
    if natBit b 1 then
      .sr (natField (srHash c.seed (BitVec.ofNat 32 row) (BitVec.ofNat 32 col)
        (BitVec.ofNat 32 (0x50 + i))).toNat 0 16)
    else .rne
  | none => .rne

/-- Output elements and scale bytes of row `i` (R56, R61). -/
def ChainD.convertRow (c : ChainD) (i : Nat) (xs : List FV) : List Nat × List Nat :=
  if isMx c.fo then
    let qs := (List.range ((xs.length + 31) / 32)).map (fun b =>
      quantize c.fo (((xs.drop (32 * b)).take 32).zipIdx.map (fun p => (p.1, c.outMode i (32 * b + p.2)))))
    (qs.flatMap (fun q => q.2.map (·.1)), qs.map (·.1))
  else
    let e4 := match c.convOp with
      | some (_, b) => natBit b 0
      | none => false
    (xs.zipIdx.map (fun p => (toFmt { mode := c.outMode i p.2, flush := true, e4nan := e4 } c.fo p.1).1), [])

/-- A row of elements as one number, the first lowest. -/
def packRow (w : Nat) : List Nat → Nat
  | [] => 0
  | x :: xs => x + 2 ^ w * packRow w xs

/-! ### The chain as a whole -/

/-- A word of an operand or stream that row block `b` reads is poisoned (R390). -/
def ChainD.blockPoisoned (c : ChainD) (l : Lantern) (q : ChainGeo) (b : Nat) : Bool :=
  let rows := (natRange (b * q.rb) (min c.m ((b + 1) * q.rb)))
  rows.any (fun i => l.rowPoisoned c.fa1 c.a1 c.a1s i c.k1) ||
    (List.range c.l).any (fun j => l.rowPoisoned c.fb1 c.b1 c.b1s j c.k1) ||
    (c.p2 && (List.range c.n2).any (fun j => l.rowPoisoned c.fb2 c.b2 c.b2s j c.l)) ||
    c.streamReads.any (fun r => l.lsPoisoned r.1 r.2)

/-- Writes row `i`: the elements, the scale bytes and the statistics. A partly filled last byte
gets bits that the spec does not fix. -/
def State.chainRow (s : State) (n : Nat) (c : ChainD) (i : Nat) (poison : Bool) (els scales : List Nat)
    (stat : FV × FV) : State :=
  let w := fmtBits c.fo
  let used := els.length * w
  let (pad, s) := if used % 8 = 0 then ((0 : Dword), s) else s.draw
  let v := packRow w els + (pad.toNat % 2 ^ ((8 - used % 8) % 8)) * 2 ^ used
  s.modLan n (fun l =>
    let l := l.lsStoreP (c.ob + i * c.opitch) (leBytes c.rowBytes v) (fun _ => poison)
    let l := if isMx c.fo then
        l.lsStoreP (c.osb + i * scales.length) (scales.map (fun x => BitVec.ofNat 8 x)) (fun _ => poison)
      else l
    if c.osen then
      l.lsStoreP ((c.stream c.ostr).base + 8 * i)
        (leBytes 4 (bits32 stat.1) ++ leBytes 4 (bits32 stat.2)) (fun _ => poison)
    else l)

/-- The NaN of a block scale: an infinity in a block makes QUANT's scale NaN, which is recorded at the
lowest column with an infinity. DESIGN CHOICE (log 154). -/
def ChainD.scaleNan (c : ChainD) (es : List ChainEl) (j : Nat) : ElNan :=
  let b := (es.drop (32 * (j / 32))).take 32
  if isMx c.fo && !b.any (fun e => e.1.isNan) && b.findIdx? (fun e => e.1.isInf) = some (j % 32) then
    some (true, c.fo)
  else none

/-- Stage 5 of row `i`: the row is written and its NaNs are found. -/
def ChainD.endRow (c : ChainD) (l : Lantern) (q : ChainGeo) (n i : Nat) (r : RowRun) (x : ChainSt) :
    ChainSt :=
  let es := c.epilogue l i r
  let (els, scales) := c.convertRow i (es.map (·.1))
  let n5 := es.zipIdx.flatMap (fun p =>
    let out : FV := if isMx c.fo then p.1.1 else decodeCode c.fo (els.getD p.2 0)
    stageNan q 5 i p.2 0 (q.arrayAt i p.2) (match nanStep p.1.2 [] out c.fo with
      | some v => some v
      | none => c.scaleNan es p.2))
  let first := (r.nans ++ n5).foldl (fun a y => match a with
    | none => some y
    | some z => if y.before z then some y else some z) x.nan
  { x with
    s := x.s.chainRow n c i (c.blockPoisoned l q (i / q.rb)) els scales (c.stats r)
    nan := first }

/-- Tile `t` of row block `b`: product 1, the row stage and product 2 of the block's rows. -/
def ChainD.runTile (c : ChainD) (l : Lantern) (q : ChainGeo) (n b : Nat) (ups : List ChainUpset)
    (as b1 b2 : List (List (List FV))) (t : Nat) (acc : ChainSt × List RowRun) : ChainSt × List RowRun :=
  let bs := (b1.drop (256 * t)).take 256
  let (x, f1) := acc.1.runTiles n q ups false b t c.f1 c.fb1 c.k1 as bs
  let rows := (acc.2.zip as).zipIdx.map (fun p =>
    let i := b * q.rb + p.2
    let (xs, ns) := c.sTile l q (q.flipAt l.chk f1 p.2) p.1.2 b1 i t
    let (r, ps) := c.rowTile q i t xs { p.1.1 with nans := p.1.1.nans ++ ns }
    (r, blocksOf ps))
  if c.p2 then
    let b2t := b2.map (fun row => (row.drop (8 * t)).take ((bs.length + 31) / 32))
    let (x, f2) := x.runTiles n q ups true b t c.fp c.fb2 bs.length (rows.map (·.2)) b2t
    (x, rows.zipIdx.map (fun p =>
      c.product2 q (q.flipAt l.chk f2 p.2) b2t (b * q.rb + p.2) t p.1.2 p.1.1))
  else (x, rows.map (·.1))

/-- Runs a chain on the local store as it stands, row block by row block (R146, R147): the rows are
written, and the first NaN is found. `ups` are the disturbances of its product tiles. -/
def State.runChain (s : State) (n : Nat) (c : ChainD) (ups : List ChainUpset) : ChainSt :=
  let l := s.lan n
  let q := chainGeo c l
  let b1 := (List.range c.l).map (fun j => l.rowVals c.fb1 c.b1 c.b1s j c.k1)
  let b2 := if c.p2 then (List.range c.n2).map (fun j => l.rowVals c.fb2 c.b2 c.b2s j c.l) else []
  (List.range ((c.m + q.rb - 1) / q.rb)).foldl (fun x b =>
    if x.lost then x
    else
      let is_ := natRange (b * q.rb) (min c.m ((b + 1) * q.rb))
      let a1 := is_.map (c.a1Row l q)
      let r0 := a1.map (fun a => ({
        m := if c.rfunc = 1 then .inf true else FV.zero, l := FV.zero
        o := List.replicate (if c.p2 then c.n2 else 0) 0, nans := a.2 } : RowRun))
      let (x, rs) := (List.range ((c.l + 255) / 256)).foldl (fun acc t =>
        if acc.1.lost then acc else c.runTile l q n b ups (a1.map (·.1)) b1 b2 t acc) (x, r0)
      if x.lost then x else (is_.zip rs).foldl (fun x p => c.endRow l q n p.1 p.2 x) x) { s := s }

/-- The report of a chain's first NaN (R69). -/
def chainNanRep (pc : Dword) (insn : Word) (x : ChainNan) : NanRep :=
  { pc := pc, insn := insn, gen := x.gen, unit := 2, arr := BitVec.ofNat 3 x.arr, quad := 0
    stage := BitVec.ofNat 4 x.stage, fmt := BitVec.ofNat 4 x.fmt, lgrp := 0
    trow := BitVec.ofNat 16 x.trow, tcol := BitVec.ofNat 16 x.tcol
    row := BitVec.ofNat 16 x.row, col := BitVec.ofNat 16 x.col, kstep := BitVec.ofNat 32 x.k }

/-- CHAIN_COMPLETE (R124 to R126): the output is written, every slot is empty and the NaN is reported.
Where no array remains in service the lantern has halted and the chain is lost (R95). -/
def execChainComplete (n : Nat) (ups : List ChainUpset) (s : State) : Out :=
  .next (match if s.arraysRun n then (s.lan n).mq else [] with
    | e :: _ =>
      match e.op with
      | .chain d true =>
        let x := s.runChain n (chainD d) ups
        if x.lost then x.s
        else x.s.modLan n (fun l =>
          let l := l.modMq e.id (fun e => { e with done := 0xFF, nan := x.nan.map (chainNanRep e.pc e.insn) })
          Lantern.mqTidy { l with arrs := l.arrs.map (fun p => (p.1, { p.2 with slots := [] })) })
      | _ => s
    | [] => s)

end Sys2Proof.Machine
end

