-- ==== Sys2Proof/Machine/Cirrus.lean ====
section
/-!
DEFINITION. Cirrus.lean: page fetches, arrivals, eviction and copy-on-write, the messages between
home and holder, and the page-table query (R173, R336 to R359, R463).
-/

namespace Sys2Proof.Machine

open Sys2Proof

/-! ### Delivered messages (R463, R467) -/

/-- A delivered operation goes to cirrus. -/
def DpOp.isCir (o : DpOp) : Bool := o.op = 0x10#8 || o.op = 0x11#8

/-- Cirrus takes a message of device `d`. Where the conduit holds delivered operations for cirrus,
the first of them has to be this one, since they are served in PSN order; it is then removed. -/
def State.takeCir (s : State) (d : Nat) (p : DpOp → Bool) : Option State :=
  let k := s.con d
  if k.st ≠ .opened || 1024 ≤ d then none
  else match k.ops.find? DpOp.isCir with
    | none => some s
    | some o => if p o then some (s.setCon d { k with ops := delFirst DpOp.isCir k.ops }) else none

/-- The operation is the cirrus message `msg` about a page. -/
def DpOp.isMsg (o : DpOp) (msg va : Nat) : Bool :=
  o.op = 0x10#8 && o.opnd.toNat % 256 = msg && o.addr.toNat = va

/-- A message of device `d` about a page is served. -/
def State.onCir (s : State) (d msg vpn : Nat) (f : State → State) : State :=
  match s.takeCir d (fun o => o.isMsg msg (vpn * pageSize)) with
  | some s => f s
  | none => s

/-! ### Fetches -/

/-- Parts of a sub-page have all arrived. -/
def Fetch.whole (f : Fetch) (sub : Nat) : Bool := (List.range 16).all (fun i => f.got.getLsbD (16 * sub + i))

/-- Every part of the page has arrived. -/
def Fetch.full (f : Fetch) : Bool := (List.range 32).all f.whole

/-- The 16-byte tag of a sub-page in the tag block of a sealed page (R353). -/
def sealTag (block : List Byte) (sub : Nat) : List Byte := bslice block (16 * sub) 16

/-- Associated data of a sealed sub-page: its VA and SEALVER (R353). -/
def sealAad (va ver : Nat) : List Byte := beBytes 8 va ++ beBytes 4 ver

/-- Authenticates and decrypts a sub-page of a HOST page whose parts and tags have arrived. -/
def State.openSub (s : State) (vpn sub ver : Nat) (f : Fetch) : Option (List Byte) :=
  let va := vpn * pageSize + 65536 * sub
  let ct := (List.range 16).flatMap (fun i => f.ct.getD (16 * sub + i) [])
  Config.gcmOpen s.pageKey (Config.sealNonce va ver) (sealAad va ver)
    (ct ++ sealTag (f.ct.getD 512 []) sub)

/-- Every part of a sealed sub-page has arrived, with the tag block. -/
def Fetch.sealed (f : Fetch) (sub : Nat) : Bool :=
  (f.ct.find? 512).isSome && (List.range 16).all (fun i => (f.ct.find? (16 * sub + i)).isSome)

/-- Bits of the 16 parts of a sub-page. -/
def subBits (sub : Nat) : BitVec 512 := (0xFFFF#512) <<< (16 * sub)

/-- Writes a part of 4 KiB of the data of a fetch, with its poison map (R390). -/
def State.fetchPart (s : State) (e : Pte) (f : Fetch) (i : Nat) (data : List Byte) (pmap : BitVec 64) : State :=
  let pa := s.granPa (e.on f) i
  (s.pageWrite (e.on f) (4096 * i) data (fun u => pmap.getLsbD (u - pa / 64))).granWritten pa

/-- A tile cache holds what cirrus writes to a page for a cut (R426). -/
def State.pageHeld (s : State) (e : Pte) (g : Nat) : Bool := s.cutHeld (.unit 5) (s.granPa e g)

/-- SUB_PAGE_ARRIVAL (R347, R353): the sub-page is there for accesses, and its waiters wake. The last
one of a sealed page completes the fetch. -/
def State.subArrives (s : State) (vpn sub : Nat) (e : Pte) (f : Fetch) : State :=
  if e.res = .host then
    if f.arrived.getLsbD sub || !f.sealed sub || (List.range 16).any (fun i => s.pageHeld (e.on f) (16 * sub + i))
    then s
    else match s.openSub vpn sub e.sealver f with
      | none => (s.failFetch vpn e).record (pageRec clsUe 0x0209 vpn e.home e.sealver)
      | some pt =>
        let f := { f with arrived := bitSet f.arrived sub true, got := f.got ||| subBits sub }
        let s := ((List.range 16).foldl (fun s i =>
          s.fetchPart e f (16 * sub + i) (bslice pt (4096 * i) 4096) (f.pm.getD (16 * sub + i) 0)) s).setFetch vpn f
        if f.full then s.fetchDone vpn e f else s.wakePage vpn sub
  else if f.whole sub then
    (s.setFetch vpn { f with arrived := bitSet f.arrived sub true }).wakePage vpn sub
  else s

/-- SUB_PAGE_ARRIVAL, once cirrus has an engine for the page (R533). -/
def execSubPageArrival (vpn sub : Nat) (s : State) : Out :=
  .next (match s.pte? vpn, s.cirrus.fetches.find? vpn with
    | some e, some f => if s.cirGoes vpn then s.subArrives vpn sub e f else s
    | _, _ => s)

/-- FETCH_SLOW (R348). -/
def execFetchSlow (vpn : Nat) (s : State) : Out :=
  .next (match s.pte? vpn, s.cirrus.fetches.find? vpn with
    | some e, some f =>
      if f.slow then s
      else (s.setFetch vpn { f with slow := true }).record (pageRec clsInfo 0x0407 vpn e.home e.home)
    | _, _ => s)

/-- FETCH_FAIL (R348). -/
def execFetchFail (vpn : Nat) (s : State) : Out :=
  .next (match s.pte? vpn, s.cirrus.fetches.find? vpn with
    | some e, some _ => (s.failFetch vpn e).record (pageRec clsUe 0x0208 vpn e.home e.home)
    | _, _ => s)

/-- FETCH_RETRY (R348, R359). -/
def execFetchRetry (s : State) : Out := .next (if s.tc0On then s.fetchRetry else s)

/-- PAGE_HOLD_EXPIRY (R173). -/
def execPageHoldExpiry (vpn : Nat) (s : State) : Out :=
  .next { s with cirrus := { s.cirrus with
    holds := s.cirrus.holds.filter (fun h => h.1 ≠ vpn) } }.pumpPins

/-! ### Eviction (R353 to R355) -/

/-- The page may be evicted, in the class of its access. -/
def State.evictable (s : State) (acc : Acc) (vpn : Nat) : Bool :=
  match s.pte? vpn with
  | some e => (e.res = .peer || e.res = .host) && e.acc = acc && e.v && !s.pinned vpn &&
      (s.cirrus.fetches.find? vpn).isNone && !s.cirrus.moving.contains vpn &&
      !(e.res = .host && e.sealver = 0xFFFFFF)
  | none => false

/-- Pages in the order of their fetches, those that have none on record last. -/
def State.fetchOrder (s : State) : List Nat :=
  s.cirrus.recency ++ (s.cirrus.ptes.map (·.1)).filter (fun v => !s.cirrus.recency.contains v)

/-- The page that cirrus evicts next: read copies before writable ones, the least recently fetched
first. -/
def State.victim (s : State) : Option Nat :=
  match s.fetchOrder.find? (s.evictable .read) with
  | some v => some v
  | none => s.fetchOrder.find? (s.evictable .write)

/-- Sends a HOST page to its host sealed under a SEALVER: 512 parts, whose poison maps are those of the
data, and the tag block behind them (R344, R353, R390). -/
def State.sealOut (s : State) (vpn : Nat) (e : Pte) (hostAddr ver : Nat) : State :=
  let subs := (List.range 32).map (fun sub =>
    let va := vpn * pageSize + 65536 * sub
    let pt := (List.range 16).flatMap (fun i => s.physRead (s.granPa e (16 * sub + i)) 4096)
    Config.gcmSeal s.pageKey (Config.sealNonce va ver) (sealAad va ver) pt)
  let cid := hostCid e.home
  let s := (subs.zip (List.range 32)).foldl (fun s p => (List.range 16).foldl (fun s i =>
    (s.granRead (s.granPa e (16 * p.2 + i)) false).sendOp cid 0x08 0 0
      (BitVec.ofNat 64 (hostAddr + 65536 * p.2 + 4096 * i)) 0
      (s.partPmap (s.granPa e (16 * p.2 + i))) (bslice p.1 (4096 * i) 4096)) s) s
  let tags := subs.flatMap (fun c => bslice c 65536 16)
  s.sendOp cid 0x08 0 0 (BitVec.ofNat 64 (hostAddr + pageSize)) 0 0
    (tags ++ List.replicate (4096 - tags.length) 0)

/-- Cirrus evicts one page; one that SEAL_PINNED keeps resident is not evicted (R350, R353 to R355,
R359). -/
def State.evict (s : State) (vpn : Nat) (e : Pte) : State :=
  let count (s : State) : State := { s with cirrus := { s.cirrus with evicts := s.cirrus.evicts + 1 } }
  if e.res = .host then
    match s.allocOf vpn with
    | none => s
    | some (base, a) =>
      let ver := e.sealver + 1
      let s := s.sealOut vpn e (a.hostAddr base vpn) ver
      let s := s.setPte vpn { e with sealver := ver, held := true }
      if ver = 0xFFFFFF then s.record (pageRec clsInfo 0x0408 vpn e.home 0)
      else (count s).holderDrop vpn .none
  else if e.acc = .read then ((count s).holderDrop vpn .none).cir e.home msgDrop vpn
  else (((count s).cir e.home msgWb vpn).sendPage e.home vpn e 0).holderDrop vpn .none

/-- A fetch, or the first touch of a HOST page, waits for a free page. -/
def State.fetchStarved (s : State) : Bool :=
  s.cirrus.fetches.any (fun p => p.2.starved) ||
  s.lans.any (fun p => match p.2.wait with
    | .page v _ _ _ => (s.cirrus.fetches.find? v).isNone && match s.pte? v with
      | some e => e.acc = .none && e.res = .host && !e.fail && s.cirrus.capFree < granPerPage e.str
      | none => false
    | _ => false)

/-- EVICTION (R355): with the free pool below LOWMARK pages, or a fetch that waits for a page. -/
def execEviction (s : State) : Out :=
  .next (if s.tc0On && (s.cirrus.capFree < 512 * s.cirrus.lowmark.toNat || s.fetchStarved) then
    match s.victim with
    | some vpn => match s.pte? vpn with
      | some e => if e.acc = .write && !s.cirGoes vpn then s else (s.evict vpn e).wakeStuck
      | none => s
    | none => s
  else s)

/-- COW_COPY_COMPLETE (R358): the copy stands for the streamer, the page's GEN is CUR, and the write
replays. The copy ends after the cut, so that it holds every write that reaches the home before the cut's
latches (R439; log 160). -/
def execCowCopyComplete (vpn : Nat) (s : State) : Out :=
  .next (match s.cow? vpn, s.pte? vpn with
    | some c, some e =>
      if e.gen = s.cirrus.cur || s.ckCut then s
      else (((s.copyPage e c).setPte vpn { e with gen := s.cirrus.cur }).wakeVpn vpn).pumpPins
    | _, _ => s)

/-- PTE_QUERY (R359). -/
def execPteQuery (value : Word) (s : State) : Out := .next (if s.tc0On then s.pteqWrite value else s)

/-! ### Requests to the home (R346, R349, R351) -/

/-- The page is homed on this device and allocated. -/
def State.homed (s : State) (vpn : Nat) : Bool :=
  match s.pte? vpn, s.allocOf vpn with
  | some e, some (_, a) => e.v && a.kind = .loc
  | _, _ => false

/-- A request of a peer for a page; one for a page that is not homed here is answered with GONE. -/
def State.peerAsk (s : State) (d vpn : Nat) (r : HomeReq) : State :=
  if s.homed vpn then s.homeAsk vpn r else s.cir d msgGone vpn

/-- RD. -/
def execRd (d vpn : Nat) (s : State) : Out :=
  .next (s.onCir d msgRd vpn (fun s => s.peerAsk d vpn (.rd d)))

/-- WR. -/
def execWr (d vpn : Nat) (s : State) : Out :=
  .next (s.onCir d msgWr vpn (fun s => s.peerAsk d vpn (.wr d)))

/-- Serves the request in progress again. -/
def State.homeGo (s : State) (vpn : Nat) : State :=
  State.homePump (2 * (s.dir vpn).queue.length + 4) vpn s

/-- Device `d` holds no copy any more, as its answer to the request in progress says. An answer that
nothing waits for is discarded (R351). -/
def State.homeAnswered (s : State) (d vpn : Nat) : State :=
  let r := s.dir vpn
  if r.await.contains d then
    (s.setDir vpn { r with
      await := setDel r.await d, readers := setDel r.readers d
      owner := if r.owner = some d then none else r.owner }).homeGo vpn
  else s

/-- INV_ACKNOWLEDGEMENT. -/
def execInvAcknowledgement (d vpn : Nat) (s : State) : Out :=
  .next (s.onCir d msgInvAck vpn (fun s => s.homeAnswered d vpn))

/-- NOCOPY (R351): one whose recall a WB has answered is discarded. -/
def execNocopy (d vpn : Nat) (s : State) : Out :=
  .next (s.onCir d msgNocopy vpn (fun s =>
    let r := s.dir vpn
    if r.late.contains d then s.setDir vpn { r with late := delFirst (fun x => x = d) r.late }
    else s.homeAnswered d vpn))

/-- DROP (R349): once no reader is left, SHARED clears and the home has the page to itself, as soon as no
pin holds it (R337). -/
def State.readerDrops (s : State) (d vpn : Nat) : State :=
  let r := s.dir vpn
  let r' := { r with readers := setDel r.readers d }
  let s := s.setDir vpn r'
  if r.readers.contains d && r'.readers.isEmpty && r'.owner.isNone && r'.cur.isNone then
    match s.pte? vpn with
    | some e => (s.setPte vpn { e with shared := false }).settlePins
    | none => s
  else s

/-- DROP. -/
def execDrop (d vpn : Nat) (s : State) : Out :=
  .next (s.onCir d msgDrop vpn (fun s => s.readerDrops d vpn))

/-- WB (R349): the pages that follow are those of a write-back of the owner. -/
def execWb (d vpn : Nat) (s : State) : Out :=
  .next (s.onCir d msgWb vpn (fun s =>
    let r := s.dir vpn
    if r.owner = some d then s.setDir vpn { r with wb := true } else s))

/-- The last part of a page that its owner returns: a write-back leaves the page with the home, an
answer to RECALL-R leaves the owner a reader, one to RECALL-W leaves it no copy (R349, R351). -/
def State.pageReturned (s : State) (d vpn : Nat) : State :=
  let r := s.dir vpn
  let keeps := !r.wb && match r.cur with
    | some (.rd _) => true
    | some .localRead => true
    | _ => false
  let s := s.setDir vpn { r with
    owner := none, readers := if keeps then [d] else [], await := setDel r.await d, wb := false
    late := if r.wb && r.await.contains d then r.late ++ [d] else r.late }
  (s.homeAcc vpn (if keeps then .read else .write)).homeGo vpn

/-- A part of a page arrives from device `d`: at a holder it belongs to the fetch, at the home to what
the owner returns (R463). -/
def State.pagePart (s : State) (d va : Nat) (last : Bool) (pmap : BitVec 64) (data : List Byte) :
    State :=
  let vpn := vpnOf va
  let off := va % pageSize
  match s.pte? vpn with
  | none => s
  | some e =>
    match s.cirrus.fetches.find? vpn with
    | some f =>
      if e.res = .peer && e.home = d && f.data && !f.starved then
        let f := { f with got := bitSet f.got (off / 4096) true }
        let s := (s.fetchPart e f (off / 4096) data pmap).setFetch vpn f
        if last then s.fetchDone vpn e f else s
      else s
    | none =>
      if (s.dir vpn).owner = some d then
        let pa := s.paOf e off
        let s := (s.pageWrite e off data (fun u => pmap.getLsbD (u - pa / 64))).granWritten (pa / 4096 * 4096)
        if last then (s.syncPage e).pageReturned d vpn else s
      else s

/-- The granule that a part of a page is written to is behind an input that a tile cache holds (R426). -/
def State.partHeld (s : State) (va : Nat) : Bool :=
  match s.view (vpnOf va) with
  | some e => s.pageHeld e (va % pageSize / 4096)
  | none => false

/-- PAGE (R463): a part of 4 KiB with its poison map; a delivered operation carries the same. It waits for an
engine (R533). -/
def execPage (d va : Nat) (last : Bool) (pmap : BitVec 64) (data : List Byte) (s : State) : Out :=
  .next (
    let va := va / 4096 * 4096
    let data := (data ++ List.replicate 4096 0).take 4096
    if s.partHeld va || !s.cirGoes (vpnOf va) then s
    else match s.takeCir d (fun o => o.op = 0x11#8 && o.addr.toNat = va && o.opnd.getLsbD 0 = last &&
        o.pmap = pmap && o.data = data) with
      | some s => s.pagePart d va last pmap data
      | none => s)

/-! ### The holder's answers (R346, R350) -/

/-- The page is a PEER page of home `d`. -/
def State.peerPage (s : State) (d vpn : Nat) : Option Pte :=
  match s.pte? vpn with
  | some e => if e.res = .peer && e.home = d && e.v then some e else none
  | none => none

/-- A fetch whose parts have all arrived counts as complete before the next message of the home. -/
def State.settle (s : State) (vpn : Nat) : State :=
  match s.pte? vpn, s.cirrus.fetches.find? vpn with
  | some e, some f => if f.data && f.full then s.fetchDone vpn e f else s
  | _, _ => s

/-- A request of the home that a holder answers: at once, or when no pin holds the page (R172, R350). An
INV names a reader, and a recall an owner. -/
def State.holderAsked (s : State) (d vpn : Nat) (k : Owed) : State :=
  let s := s.settle vpn
  match s.peerPage d vpn with
  | none => s.cir d msgNocopy vpn
  | some e =>
    if e.acc = .none then s.cir d msgNocopy vpn
    else if (e.acc = .read) ≠ (k = .inv) then s
    else if s.pinned vpn then
      { s with cirrus := { s.cirrus with owed := s.cirrus.owed ++ [(d, vpn, k)] } }
    else s.holderAnswer d vpn k

/-- INV. -/
def execInv (d vpn : Nat) (s : State) : Out :=
  .next (s.onCir d msgInv vpn (fun s => s.holderAsked d vpn .inv))

/-- RECALL_R. -/
def execRecallR (d vpn : Nat) (s : State) : Out :=
  .next (s.onCir d msgRecallR vpn (fun s => s.holderAsked d vpn (.recall false)))

/-- RECALL_W. -/
def execRecallW (d vpn : Nat) (s : State) : Out :=
  .next (s.onCir d msgRecallW vpn (fun s => s.holderAsked d vpn (.recall true)))

/-- GONE (R346): acted on at once, or when no pin holds the page (R172). -/
def State.gone (s : State) (d vpn : Nat) : State :=
  match s.peerPage d vpn with
  | none => s
  | some e =>
    if s.pinHeld vpn then
      { s with cirrus := { s.cirrus with owed := s.cirrus.owed ++ [(d, vpn, .gone)] } }
    else s.goneNow vpn e

/-- GONE. -/
def execGone (d vpn : Nat) (s : State) : Out :=
  .next (s.onCir d msgGone vpn (fun s => s.gone d vpn))

/-- GRANT_WITHOUT_DATA (R349, R350). -/
def execGrantWithoutData (d vpn : Nat) (s : State) : Out :=
  .next (s.onCir d msgGrant vpn (fun s =>
    match s.peerPage d vpn, s.cirrus.fetches.find? vpn with
    | some e, some f => if !f.data && e.acc = .read then s.fetchDone vpn e { f with write := true } else s
    | _, _ => s))

/-! ### Range queries (R343, R463) -/

/-- The strength of the LOCAL allocation that holds a whole range. -/
def State.rangeStr (s : State) (va size : Nat) : Option Nat :=
  if size = 0 then none
  else match s.allocOf (vpnOf va) with
    | some (base, a) =>
      if a.kind = .loc && va + size ≤ (base + a.npages) * pageSize then some a.str else none
    | none => none

/-- MAPQ (R343): the home accepts with STR, or refuses with STATUS 0x02. -/
def execMapq (d va size : Nat) (s : State) : Out :=
  .next (match s.takeCir d (fun o => o.isMsg 0x0C va && beNat o.data = size) with
    | none => s
    | some s => match s.rangeStr va size with
      | some p => s.sendOp d 0x10 0 0 (BitVec.ofNat 64 va) (BitVec.ofNat 64 (0x0D + 256 * p)) 0 []
      | none => s.sendOp d 0x10 0x02 0 (BitVec.ofNat 64 va) 0x0D 0 [])

/-! ### Translation (R337) -/

/-- TRANSLATION_FILL (R337): the buffer of 64 entries takes the page; the spec does not say which
entry makes room. Of a page that the buffer holds it is the refill after a parity error: the entry goes and
is read again (R386). -/
def execTranslationFill (n vpn : Nat) (s : State) : Out :=
  .next (match s.view vpn with
    | some e =>
      let l := s.lan n
      let tb := l.tb.filter (fun v => v ≠ vpn)
      if !s.lanOn n || !e.v || e.acc = .none then s
      else if tb.length < 64 then s.setLan n { l with tb := tb ++ [vpn] }
      else
        let (x, s) := s.draw
        s.setLan n { l with tb := tb.eraseIdx (x.toNat % 64) ++ [vpn] }
    | none => s)

end Sys2Proof.Machine
end

