-- ==== Sys2Proof/Machine/Snapshot.lean ====
section
/-!
DEFINITION. Snapshot.lean: the beacon and its cuts (R424 to R432), TRIGGER_N (R433), snapshot sets
(R434), and the checkpoint's cut and stream (R435 to R445).
-/

namespace Sys2Proof.Machine

open Sys2Proof

/-! ### Snapshot sets (R434) -/

/-- The low word and the high word of a 64-bit value. -/
def words2 (v : Dword) : List Word := [v.setWidth 32, (v >>> 32).setWidth 32]

/-- A word from a number. -/
def wordOf (n : Nat) : Word := BitVec.ofNat 32 n

/-- Sum of the counts of some things. -/
def sumOf {α : Type} (t : List α) (f : α → Nat) : Nat := t.foldl (fun n x => n + f x) 0

/-- Address of the oldest instruction of a wick that has not completed: the oldest in its vector queue, or the
one it has reached (log 162). -/
def Lantern.oldest (l : Lantern) : Dword :=
  match l.vq with
  | e :: _ => e.pc
  | [] => l.wick.pc

/-- Requests of a lantern to device memory without a response: L1 fills and writes that its home tile caches have
not answered, and a remote request (R428). -/
def State.lanAsks (s : State) (n : Nat) : Nat :=
  sumOf s.tcs (fun p => sumOf p.2.fills (fun f => (f.l1s.filter (fun x => x.1 = n)).length) +
    (p.2.invals.filter (fun i => i.writer.lan? = some n)).length) + b2n (s.lan n).xrq.busy

/-- Requests of a copy engine without a response: writes that are not yet visible (R428). -/
def State.engAsks (s : State) (e : Nat) : Nat :=
  sumOf s.tcs (fun p => (p.2.invals.filter (fun i => i.writer = .engine e)).length)

/-- Requests of cirrus without a response: fetches that have asked, and the answers that its directories wait for
(R428). -/
def State.cirAsks (s : State) : Nat :=
  (s.cirrus.fetches.filter (fun p => !p.2.starved)).length + sumOf s.cirrus.dirs (fun p => p.2.await.length)

/-- Plane, row and block that the held entry of an engine has reached. An engine moves the runs of its entry in
one step, so it stands at the first before it and at the last after it; without an entry the spec gives the words
no value (log 163). -/
def State.engPlace (s : State) (e : Nat) : List Word × State :=
  let v := s.eng e
  let d := copyDesc v.payload
  if !v.busy then
    let (p, s) := s.draw
    let (r, s) := s.draw
    let (k, s) := s.draw
    ([p.setWidth 32, r.setWidth 32, k.setWidth 32], s)
  else if !v.written then ([0, 0, 0], s)
  else if d.op = 1 then ([wordOf (d.n2 - 1), wordOf (d.n1 - 1), wordOf ((d.n0 - 1) / 32)], s)
  else ([wordOf (d.n2 - 1), wordOf (d.n1 - 1), wordOf ((d.n0 - 1) / 256)], s)

/-- Units that a controller has still to read for its home tile cache, and to write. -/
def State.chReads (s : State) (c : Nat) : Nat :=
  sumOf s.tcs (fun p => 4 * (p.2.fills.filter (fun f => paChannel f.pa = c)).length)
/-- Units that wait to be written to a channel. -/
def State.chWrites (s : State) (c : Nat) : Nat :=
  sumOf s.tcs (fun p => (p.2.wbs.filter (fun a => paChannel a = c)).length)

/-- The 16 words of a lantern; INFLIGHT is word 10. -/
def State.lanWords (s : State) (n : Nat) : List Word :=
  let l := s.lan n
  let w := l.wick
  words2 l.oldest ++ words2 w.a ++ words2 w.x ++ words2 w.y ++
    [wordOf (w.flags.toNat + 16 * l.cl.toNat + 64 * b2n w.sup),
     wordOf (l.vq.length + 16 * l.mq.length + 512 * l.lq.length + 2 ^ 15 * l.sb.length + 2 ^ 19 * l.fifo.length),
     0, wordOf (s.lanAsks n)] ++ words2 l.work ++ words2 l.beat

/-- The words of a block's set as it latches, with INFLIGHT at 0. -/
def State.snapWords (s : State) (b : Blk) : List Word × State :=
  match b with
  | .lan n => (s.lanWords n, s)
  | .disp =>
    ((List.range 4096).flatMap (fun e => words2 (s.counter e)) ++
      (List.range 64).map (fun q => match s.queue? q with
        | some v => wordOf v.ptr
        | none => 0), s)
  | .copy e =>
    let (at_, s) := s.engPlace e
    (wordOf (s.engStat e) :: at_ ++ [0, wordOf (s.engAsks e)], s)
  | .cirrus =>
    ([wordOf s.genWord, wordOf s.cirrus.capFree, wordOf s.cirrus.fetches.length,
      wordOf (match s.ckpt with | some c => c.todo.length | none => 0), 0, wordOf s.cirAsks, 0, 0], s)
  | .xpt =>
    ((List.range 1088).flatMap (fun c => [(s.con c).psnTx, (s.con c).ackTx]) ++ [0], s)
  | .scrub => ([wordOf s.scrub.stat, wordOf s.scrub.cnt, 0], s)
  | .tc t =>
    let c := s.tc t
    ([wordOf c.fills.length, wordOf c.wbs.length, wordOf c.invals.length, wordOf c.cecnt] ++ words2 c.beat, s)
  | .dch c =>
    ([wordOf (s.chReads c), wordOf (s.chWrites c), wordOf (s.ch c).cecnt, wordOf (s.ch c).rmwcnt], s)
  | _ => ([], s)

/-- Place of INFLIGHT in a block's set. -/
def inflightAt (b : Blk) : Option Nat :=
  match b with
  | .lan _ => some 10
  | .copy _ => some 4
  | .cirrus => some 4
  | .xpt => some 2176
  | .scrub => some 2
  | _ => none

/-- Number of words of a block's set; none where the block has no set. -/
def setLength (b : Blk) : Option Nat :=
  match b with
  | .lan _ => some 16
  | .disp => some 8256
  | .copy _ => some 6
  | .cirrus => some 8
  | .xpt => some 2177
  | .scrub => some 3
  | .tc _ => some 6
  | .dch _ => some 4
  | _ => none

/-- Origins (R424); the other blocks with a set are the tile caches and the DRAM controllers. -/
def isOrigin (b : Blk) : Bool := (inflightAt b).isSome || b = .disp

/-! ### The beacon (R425 to R429) -/

/-- Pages that a checkpoint includes, by ascending VPN (R436). -/
def State.ckPages (s : State) : List (Nat × Pte) :=
  s.cirrus.ptes.filter (fun p => p.2.v && (p.2.res = .loc || p.2.res = .unbacked))

/-- A manifest entry (R444). -/
def ckEntry (vpn str flags : Nat) (hash : List Byte) : List Byte :=
  leBytes 4 vpn ++ leBytes 1 str ++ leBytes 1 flags ++ [0, 0] ++ hash

/-- The destinations of a CHECKPOINT (R435). -/
def ckDests (p : CmdPkt) : List CkDest :=
  (List.range (p.f 6 1)).map (fun i =>
    { ep := p.f (16 + 32 * i) 1, dbase := p.f (24 + 32 * i) 8, dlen := p.f (32 + 32 * i) 8
      mbase := p.f (40 + 32 * i) 8 })

/-- Cirrus takes the cut of a checkpoint: ACTIVE is set, CUR increments, and the included pages are
listed; a page that is UNBACKED has its entry at once (R357, R438, R441). -/
def State.ckLatch (s : State) : State :=
  match s.busyPkt 0x62 with
  | none => s
  | some p =>
    let cur := s.beacon.cur
    let pages := s.ckPages
    let idx := pages.zip (List.range pages.length)
    let un := idx.filter (fun x => x.1.2.res = .unbacked)
    let ptes := un.foldl (fun (t : Tab Pte) x => t.put x.1.1 { x.1.2 with gen := cur }) s.cirrus.ptes
    { s with
      cirrus := { s.cirrus with active := true, cur := cur, ptes := ptes }
      ckpt := some {
        evt := p.f 0 2 % 4096, val := BitVec.ofNat 64 (p.f 8 8)
        cutEn := natBit (p.f 2 2) 15, cutEvt := p.f 2 2 % 4096
        cEn := natBit (p.f 4 2) 15, cEvt := p.f 4 2 % 4096
        dests := ckDests p
        todo := (idx.filter (fun x => x.1.2.res ≠ .unbacked)).map (fun x => (x.1.1, x.2))
        entries := un.map (fun x => (x.2, ckEntry x.1.1 x.1.2.str 1 (List.replicate 64 0)))
        gen := cur, devidx := s.flash.devidx } }

/-- A block latches: its set takes the present values, and cirrus takes the cut of a checkpoint. From then on the
beacon stands ahead of whatever the block sends (R425, R426), and what waited for the latch goes on. -/
def State.latch (s : State) (b : Blk) (src : Nat) : State :=
  let s := if b = .cirrus && s.pilot.snapSrc = 4#3 then s.ckLatch else s
  let (ws, s) := s.snapWords b
  { s with beacon := { s.beacon with
      sets := s.beacon.sets.put src ws, latched := setIns s.beacon.latched src } }.wakeStuck

/-- BEACON_TREE_ARRIVAL (R425, R426): an origin latches; any other block goes on working. -/
def execBeaconTreeArrival (b : Nat) (s : State) : Out :=
  .next (match blkOfSrc b with
    | some k =>
      if s.pilot.inflight && s.blkOn k && isOrigin k && !s.hasLatched b then s.latch k b else s
    | none => s)

/-- Adds to the INFLIGHT word of a set. -/
def addInflight (ws : List Word) (i n : Nat) : List Word := ws.set i (ws.getD i 0 + wordOf n)

/-- SRCs of the blocks that take part in a cut: those of the fabric that have power. -/
def State.cutBlocks (s : State) : List Nat :=
  (0x400 :: natRange 3 538).filter (fun src => match blkOfSrc src with
    | some b => (setLength b).isSome && s.blkOn b
    | none => false)

/-- The beacon can arrive on an input: every block whose data reach it there has latched, since the beacon
follows the data that its senders sent before (R427). -/
def State.beaconNear (s : State) (b chan : Nat) : Bool :=
  s.cutBlocks.all (fun a => !Config.feeds b chan a || s.hasLatched a)

/-- The beacon arrives on an input of a block that is no origin: the block latches once it has arrived on every
forward input (R426). -/
def State.inputMarked (s : State) (k : Blk) (b chan : Nat) : State :=
  if !s.pilot.inflight || (setLength k).isNone then s
  else
    let s := { s with beacon := { s.beacon with arrived := s.beacon.arrived ++ [(b, chan)] } }
    let n := (s.beacon.arrived.filter (fun p => p.1 = b)).length
    if Config.forwardInputs b ≤ n && !s.hasLatched b then s.latch k b else s

/-- The beacon arrives on an input of an origin that has latched: `crossed` data were in flight there at the cut,
whether the cut is complete by now or not (R425). -/
def State.inputCounted (s : State) (k : Blk) (b chan crossed : Nat) : State :=
  if !s.hasLatched b then s
  else
    let ws := s.beacon.sets.getD b []
    { s with beacon := { s.beacon with
        arrived := s.beacon.arrived ++ [(b, chan)]
        sets := match inflightAt k with
          | some i => s.beacon.sets.put b (addInflight ws i crossed)
          | none => s.beacon.sets } }

/-- BEACON_CHANNEL_ARRIVAL (R425 to R427). -/
def execBeaconChannelArrival (b chan crossed : Nat) (s : State) : Out :=
  .next (match blkOfSrc b with
    | none => s
    | some k =>
      if !s.blkOn k || s.beacon.arrived.contains (b, chan) || !s.beaconNear b chan then s
      else if isOrigin k then s.inputCounted k b chan crossed
      else s.inputMarked k b chan)

/-- The checkpoint's beacon starts when no beacon is in flight, and carries the new CUR (R431, R438). -/
def State.ckInject (s : State) : State :=
  if s.pilot.inflight then { s with beacon := { s.beacon with ckWait := true } }
  else { s with beacon := { s.beacon with ckWait := false, cur := s.cirrus.cur + 1 } }.inject 4

/-- A cut has ended: a checkpoint's beacon that has waited starts. -/
def State.afterCut (s : State) : State := if s.beacon.ckWait then s.ckInject else s

/-- The ID result of SNAPSHOT (R484, R495). -/
def State.idResult (s : State) : List Byte := beBytes 2 s.pilot.snapId.toNat ++ [0, 0]

/-- What the end of a cut tells its source (R440, R495, R498). -/
def State.tellCut (s : State) (valid : Bool) : State :=
  let src := s.pilot.snapSrc.toNat
  if src = 0 then
    match s.busyPkt 0x60 with
    | some _ => s.finish (if valid then stOk else stInternal) s.idResult
    | none => s
  else if src < 4 then
    s.notify 4 (beBytes 2 s.pilot.snapId.toNat ++ beBytes 1 src ++ beBytes 1 (b2n valid) ++ List.replicate 4 0)
  else match s.busyPkt 0x62 with
    | some _ => s.finish (if valid then stOk else stInternal) []
    | none => s

/-! ### The stream (R441 to R444) -/

/-- Sends bytes to host memory in parts of 4 KiB (R463). -/
def State.sendBlob (s : State) (ep addr : Nat) (bs : List Byte) : State :=
  (List.range ((bs.length + 4095) / 4096)).foldl (fun s i =>
    s.sendOp (hostCid ep) 0x08 0 0 (BitVec.ofNat 64 (addr + 4096 * i)) 0 0 (bslice bs (4096 * i) 4096)) s

/-- The manifest (R443). -/
def Ckpt.manifest (c : Ckpt) : List Byte :=
  let b := leBytes 4 0x4E51434D ++ leBytes 2 1 ++ leBytes 2 c.devidx.toNat ++ leBytes 2 c.gen.toNat ++
    leBytes 2 c.dests.length ++ leBytes 4 c.entries.length ++ leBytes 2 c.evt ++ List.replicate 6 0 ++
    leBytes 8 c.val.toNat ++ leBytes 8 c.stamp.toNat ++ List.replicate 24 0 ++ devKey ++
    List.replicate 32 0 ++ c.entries.flatMap (·.2)
  b ++ Config.edSign idSeed b

/-- Every record has been written: the manifest goes to every MBASE, ACTIVE clears, and CEVT advances
(R443). -/
def State.ckFinish (s : State) (c : Ckpt) : State :=
  let s := c.dests.foldl (fun s d => s.sendBlob d.ep d.mbase c.manifest) s
  let s := s.ckStop
  if c.cEn then s.addEvent c.cEvt 1 else s

/-- The stream ends when no page is left. -/
def State.ckNext (s : State) : State :=
  match s.ckpt with
  | some c =>
    if !c.streaming || !c.todo.isEmpty then s
    else if c.dests.all (fun d => (s.con (hostCid d.ep)).st = .opened) then s.ckFinish c
    else s.ckAbort
  | none => s

/-- CUT_COMPLETE (R429, R432, R440): every block has latched. A checkpoint's stream starts. -/
def execCutComplete (s : State) : Out :=
  .next (if !s.pilot.inflight || !s.cutBlocks.all s.hasLatched then s
    else
      let s := { s with pilot := { s.pilot with
        inflight := false, snapValid := true, compStamp := s.pilot.stamp } }
      let (s, at_) := match s.pilot.snapSrc.toNat, s.ckpt with
        | 4, some c =>
          let (sec, salt) := s.ckSecret false
          ({ s with ckpt := some { c with
              streaming := true, stamp := s.pilot.stamp
              key := ckKey sec salt devKey s.pilot.stamp.toNat c.gen.toNat } },
            if c.cutEn then some c.cutEvt else none)
        | _, _ => (s, none)
      let s := s.tellCut true
      ((match at_ with
        | some e => s.addEvent e 1
        | none => s).ckNext).afterCut.wakeStuck)

/-- CUT_WITHDRAWN (R429, R440): blocks that have not latched latch nothing, and inputs are released. A checkpoint's beacon that
has waited starts before the record can start one (R431). -/
def execCutWithdrawn (s : State) : Out :=
  .next (if !s.pilot.inflight then s
    else
      let s := { s with
        pilot := { s.pilot with inflight := false, incomplete := true } }.wakeStuck
      let x : RecIn := { src := 0, cls := clsInfo, code := 0x0416
                         aux := s.pilot.snapId.toNat + 65536 * s.pilot.snapSrc.toNat }
      let s := if s.pilot.snapSrc = 4#3 && s.ckpt.isSome then s.ckStop else s
      (s.tellCut false).afterCut.record x)

/-- CHECKPOINT_CUT_CONDITION (R438): the counter has reached its value. -/
def execCheckpointCutCondition (s : State) : Out :=
  .next (match s.pilot.busy with
    | some b =>
      if b.opcode = 0x62 && b.waiting && reaches (s.counter (b.pkt.f 0 2 % 4096)) (BitVec.ofNat 64 (b.pkt.f 8 8)) then
        { s with pilot := { s.pilot with busy := some { b with waiting := false } } }.ckInject
      else s
    | none => s)

/-- The poison map of a page as 4,096 bytes (R442). -/
def pmapBytes (bad : Nat → Bool) : List Byte :=
  (List.range 4096).map (fun i => (List.range 8).foldl (fun v j =>
    if bad (8 * i + j) then bitSet v j true else v) (0 : Byte))

/-- A page record (R442): `pa` gives the physical address of each granule that holds the data. -/
def State.pageRecord (s : State) (c : Ckpt) (vpn str : Nat) (rec : Bool) (pa : Nat → Nat) :
    List Byte × Bool :=
  let data := (List.range 512).flatMap (fun g => s.physRead (pa g) 4096)
  let pm := pmapBytes (fun u => s.poison.contains (pa (u / 64) / 64 + u % 64))
  let pois := pm.any (fun b => b ≠ 0)
  let head := leBytes 4 0x4E515047 ++ leBytes 2 1 ++ leBytes 1 (b2n pois + 2 * b2n rec) ++ leBytes 1 str ++
    leBytes 4 vpn ++ leBytes 2 c.gen.toNat ++ leBytes 2 c.devidx.toNat
  let nonce := leBytes 4 vpn ++ leBytes 2 c.gen.toNat ++ List.replicate 6 0
  let ct := Config.gcmSeal c.key nonce (head ++ pm) data
  (head ++ ct.drop 0x200000 ++ List.replicate 4064 0 ++ pm ++ ct.take 0x200000, pois)

/-- The data of an included page: the copy of R358 where it stands, or the page itself. -/
def State.ckSource (s : State) (c : Ckpt) (vpn : Nat) : Option (Nat × (Nat → Nat)) :=
  match s.pte? vpn with
  | some e =>
    match s.cow? vpn with
    | some k => some (e.str, s.granPa (if e.gen = s.cirrus.cur then k else e))
    | none => some (e.str, s.granPa e)
  | none => (s.cow? vpn).map (fun k => (c.freed.getD vpn 0, s.granPa k))

/-- A page has been streamed: GEN is CUR, its copy goes back to the pool, and a write that has waited
replays (R358, R441). -/
def State.ckPageDone (s : State) (vpn : Nat) : State :=
  let (back, s) := match s.cow? vpn with
    | some k => (512, s.unplace k)
    | none => (0, s)
  let s := match s.pte? vpn with
    | some e => s.setPte vpn { e with gen := s.cirrus.cur }
    | none => s
  let s := { s with cirrus := { s.cirrus with
    cows := s.cirrus.cows.erase vpn, cowWait := setDel s.cirrus.cowWait vpn
    capFree := s.cirrus.capFree + back } }
  (s.wakeVpn vpn).pumpPins.wakeStuck

/-- Physical addresses of the granules of a page that is streamed. -/
def ckGrans (pa : Nat → Nat) : List Nat := (List.range 512).map pa

/-- A page has to wait before it is read: a unit of it awaits its rebuild (R400), or a tile cache holds the input
of cirrus (R426). -/
def State.ckReadWaits (s : State) (pa : Nat → Nat) : Bool :=
  (ckGrans pa).any (fun g => s.rebuilds.any (fun p => p.1 / 64 = g / 4096) || s.cutHeld (.unit 5) g)

/-- Streams one included page to its slot: it is read through its home tile cache with streaming fills (R436,
R441). -/
def State.streamPage (s : State) (c : Ckpt) (vpn i : Nat) : State :=
  let was := c.recalled.contains vpn
  match s.ckSource c vpn, c.dests[i % c.dests.length]? with
  | some (str, pa), some d =>
    let s := (ckGrans pa).foldl (fun s g => s.granRead g true) s
    let (bs, pois) := s.pageRecord c vpn str was pa
    let s := s.sendBlob d.ep (d.dbase + i / c.dests.length * 0x202000) bs
    let c := { c with
      todo := c.todo.filter (fun p => p.1 ≠ vpn)
      entries := c.entries.put i (ckEntry vpn str (2 * b2n pois + 4 * b2n was) (Config.sha512 bs)) }
    ({ s with ckpt := some c }.ckPageDone vpn).ckNext
  | _, _ => s

/-- The page that is streamed next: one whose write waits without a free page, or the first (R358,
R441). -/
def State.ckPick (s : State) (c : Ckpt) : Option (Nat × Nat) :=
  match c.todo.find? (fun p => s.cirrus.cowWait.contains p.1) with
  | some p => some p
  | none => c.todo.head?

/-- PAGE_STREAM (R441): a page that a peer owns is recalled first, and a page under a move waits. With no engine in
service cirrus waits (R533). -/
def execPageStream (s : State) : Out :=
  .next (match s.ckpt with
    | none => s
    | some c =>
      if !c.streaming then s
      else if !c.dests.all (fun d => (s.con (hostCid d.ep)).st = .opened) then s.ckAbort
      else match s.ckPick c with
        | none => s
        | some (vpn, i) =>
          if !s.cirGoes vpn || s.cirrus.moving.contains vpn && (s.cirrus.cows.find? vpn).isNone then s
          else if (s.dir vpn).owner.isSome then
            { s with ckpt := some { c with recalled := setIns c.recalled vpn } }.homeAsk vpn .localRead
          else if (match s.ckSource c vpn with
              | some (_, pa) => s.ckReadWaits pa
              | none => false) then s
          else s.streamPage c vpn i)

/-! ### TRIGGER_N (R433) -/

/-- The pilot reads TRIGGER_N as high while a TAP instruction drives the outputs (R575). -/
def State.trigMasked (s : State) : Bool := [TapInstr.extest, .clamp, .highz].contains s.tap.instr

/-- TRIGGER (R433): low for 2 µs. Armed, it is a trigger, accepted when 1 ms has passed since the last
one. -/
def execTrigger (s : State) : Out :=
  .next (
    let p := s.pilot
    if !p.started || s.trigMasked then s
    else if !p.trigArmed || p.trigStuck then { s with pilot := { p with trigLevel := false } }
    else
      let ok := match p.trigLast with
        | some t => 100000 ≤ (p.stamp - t).toNat
        | none => true
      let p := { p with trigLevel := false, trigArmed := false, trigLast := some p.stamp }
      if !ok then { s with pilot := { p with trigDrop := satAdd 8 p.trigDrop 1 } }
      else
        let s := { s with pilot := p }
        if p.trigEn then s.beaconTrigger 1 else s)

/-- TRIGGER_REARM (R433). -/
def execTriggerRearm (s : State) : Out :=
  .next (
    let p := s.pilot
    if !p.started then s
    else { s with pilot := { p with
      trigLevel := true, trigArmed := true, trigStuck := false, stuckSeen := p.stuckSeen || p.trigStuck } })

/-- TRIGGER_STUCK (R433): low for more than 100 ms. -/
def execTriggerStuck (s : State) : Out :=
  .next (if s.pilot.started && !s.pilot.trigLevel then
    { s with pilot := { s.pilot with trigStuck := true, trigArmed := false } }
  else s)

/-- TRIGGER_COUNT_CLEAR (R433). -/
def execTriggerCountClear (s : State) : Out :=
  .next { s with pilot := { s.pilot with trigDrop := 0, bcnDrop := 0 } }

end Sys2Proof.Machine
end

