-- ==== Sys2Proof/Machine/Restore.lean ====
section
/-!
DEFINITION. Restore.lean: what RESTORE reads, checks and writes (R446, R447, R516).
-/

namespace Sys2Proof.Machine

open Sys2Proof

/-- The first `n` parts put together. -/
def joinParts (t : Tab (List Byte)) (n : Nat) : List Byte := (List.range n).flatMap (fun i => t.getD i [])

/-- Parts of 4 KiB that hold `n` bytes. -/
def partsOf (n : Nat) : Nat := (n + 4095) / 4096

/-- Changes the RESTORE in progress. -/
def State.setRestore (s : State) (r : Restore) : State :=
  { s with pilot := { s.pilot with restore := some r } }

/-- Asks a host for the parts of a range of its memory. -/
def State.askParts (s : State) (ep addr n : Nat) (manifest : Bool) : State :=
  if (s.con (hostCid ep)).st ≠ .opened then s.restoreEnd
  else (List.range (partsOf n)).foldl (fun s i =>
    s.sendReq (hostCid ep) 0x07 (BitVec.ofNat 64 (addr + 4096 * i)) 0 (min 4096 (n - 4096 * i))
      (.restore manifest i)) s

/-- Entry `i` of a manifest: VPN, STR, FLAGS and hash (R444). -/
def mfEntry (m : List Byte) (i : Nat) : Nat × Nat × Nat × List Byte :=
  let b := bslice m (0x80 + 72 * i) 72
  (bfield b 0 4, bfield b 4 1, bfield b 5 1, b.drop 8)

/-- NPAGES. -/
def mfPages (m : List Byte) : Nat := bfield m 0xC 4

/-- Checks 2 and 3 of R446 on the manifest. -/
def State.restoreCheck (s : State) (p : CmdPkt) (m : List Byte) : Option Nat :=
  let n := m.length - 64
  if Config.sha512 m ≠ p.bytes 0x18 64 || !Config.edVerify (bslice m 0x40 32) (m.take n) (m.drop n) then
    some stAuth
  else if bfield m 0 4 ≠ 0x4E51434D || bfield m 4 2 ≠ 1 || bfield m 0xA 2 ≠ p.f 1 1 ||
      m.length ≠ 0xC0 + 72 * mfPages m then some stRange
  else if (List.range (mfPages m)).all (fun i =>
      let e := mfEntry m i
      match s.allocOf e.1 with
      | some (_, a) => a.kind = .loc && a.str = e.2.1
      | none => false) then none
  else some stRange

/-- A page becomes UNBACKED again. -/
def State.unback (s : State) (vpn : Nat) : State :=
  match s.pte? vpn with
  | some e =>
    if e.res = .loc then
      (((s.breakResvPage e).dropPageLines e).unplace e).remap vpn { e with res := .unbacked, acc := .none, plx := 0 }
    else s
  | none => s

/-- The page has copies on other devices. -/
def State.isShared (s : State) (vpn : Nat) : Bool :=
  (s.dir vpn).owner.isSome || !(s.dir vpn).readers.isEmpty

/-- A page's GEN is CUR. -/
def State.genNow (s : State) (vpn : Nat) : State :=
  match s.pte? vpn with
  | some e => s.setPte vpn { e with gen := s.cirrus.cur }
  | none => s

/-- Bit `u` of a poison map of bytes. -/
def pmapBit (pm : List Byte) (u : Nat) : Bool := (pm.getD (u / 8) 0).getLsbD (u % 8)

/-- Writes a restored page whole, with its poison. -/
def State.restorePage (s : State) (vpn : Nat) (data pm : List Byte) : State :=
  let s := match s.pte? vpn with
    | some e => if e.res = Res.unbacked then (s.backZero vpn e).1 else s
    | none => s
  let s := s.dvStoreK .other (wholeKind false) (vpn * pageSize) data (fun u => pmapBit pm (u % 32768))
  match s.pte? vpn with
  | some e => s.syncPage e
  | none => s

/-- Opens a record under a key. -/
def openRecord (key b : List Byte) : Option (List Byte) :=
  let nonce := bslice b 8 4 ++ bslice b 0xC 2 ++ List.replicate 6 0
  Config.gcmOpen key nonce (b.take 16 ++ bslice b 0x1000 4096) (bslice b 0x2000 0x200000 ++ bslice b 0x10 16)

/-- The key and the data of a record: the key that verified the first record, or for the first one the
key of the list and then the device-bound one (R516). -/
def State.restoreOpen (s : State) (r : Restore) (m b : List Byte) : Option (List Byte × List Byte) :=
  let dk := bslice m 0x40 32
  let key := fun (bound : Bool) =>
    let (sec, salt) := s.ckSecret bound
    ckKey sec salt dk (bfield m 0x20 8) (bfield m 8 2)
  let try_ := fun (k : List Byte) => (openRecord k b).map (fun d => (k, d))
  match r.key with
  | some k => try_ k
  | none =>
    match try_ (key false) with
    | some x => some x
    | none => if dk = devKey then try_ (key true) else none

/-- The page is resident again, and what stalled on it wakes (R316). -/
def State.unmove (s : State) (vpn : Nat) : State :=
  ({ s with cirrus := { s.cirrus with moving := setDel s.cirrus.moving vpn } }).wakeVpn vpn

/-- The record of the present entry has arrived: it is checked and written, or RESTORE stops. -/
def State.restoreRecord (s : State) (r : Restore) (m : List Byte) : State :=
  let b := joinParts r.recParts 514
  let e := mfEntry m r.idx
  let fail := s.setRestore { r with result := some stAuth }
  if Config.sha512 b ≠ e.2.2.2 then fail.unmove e.1
  else match s.restoreOpen r m b with
    | none => fail.unmove e.1
    | some (k, data) =>
      ((s.restorePage e.1 data (bslice b 0x1000 4096)).setRestore
        { r with idx := r.idx + 1, written := r.written + 1, asked := false, recParts := [], key := some k }).unmove e.1

/-- Works on entries until one has to be read, or has a page that a pin still holds: a page is not resident
while RESTORE works on it (R316, R447). -/
def State.restoreN : Nat → CmdPkt → List Byte → State → State
  | 0, _, _, s => s
  | k + 1, p, m, s =>
    match s.pilot.restore with
    | none => s
    | some r =>
      if r.result.isSome then s
      else if mfPages m ≤ r.idx then
        ((List.range (mfPages m)).foldl (fun s i => s.genNow (mfEntry m i).1) s).setRestore
          { r with result := some stOk }
      else
        let e := mfEntry m r.idx
        let d := p.f 1 1
        let s := { s with cirrus := { s.cirrus with moving := setIns s.cirrus.moving e.1 } }
        if s.isShared e.1 then s.homeAsk e.1 .localWrite
        else if s.pinHeld e.1 then s
        else if natBit e.2.2.1 0 then
          State.restoreN k p m (((s.unback e.1).unmove e.1).setRestore
            { r with idx := r.idx + 1, written := r.written + 1 })
        else if !r.asked then
          (s.setRestore { r with asked := true }).askParts (p.f (0x58 + 16 * (r.idx % d)) 1)
            (p.f (0x60 + 16 * (r.idx % d)) 8 + r.idx / d * 0x202000) 0x202000 false
        else if (List.range 514).all (fun i => (r.recParts.find? i).isSome) then
          State.restoreN k p m (s.restoreRecord r m)
        else s

/-- RESTORE goes on as far as what it has read allows. -/
def State.restorePump (s : State) : State :=
  match s.busyPkt 0x63, s.pilot.restore with
  | some p, some r =>
    let n := p.f 0x10 8
    let m := (joinParts r.parts (partsOf n)).take n
    if r.result.isSome then s
    else if r.verified then State.restoreN (2 * mfPages m + 2) p m s
    else if (List.range (partsOf n)).all (fun i => (r.parts.find? i).isSome) then
      match s.restoreCheck p m with
      | some st => s.setRestore { r with result := some st }
      | none => State.restoreN (2 * mfPages m + 2) p m (s.setRestore { r with verified := true })
    else s
  | _, _ => s

/-- A part that RESTORE asked for has arrived. -/
def State.restorePart (s : State) (manifest : Bool) (i : Nat) (bs : List Byte) : State :=
  match s.pilot.restore with
  | some r =>
    (s.setRestore (if manifest then { r with parts := r.parts.put i bs }
      else { r with recParts := r.recParts.put i bs })).restorePump
  | none => s

end Sys2Proof.Machine
end

