-- ==== Sys2Proof/Machine/Transport.lean ====
section
/-!
DEFINITION. Transport.lean: the port's link (R448 to R451), addresses and frames (R452 to R455),
reliability and rate control (R456 to R462), and data-plane operations (R463 to R471).
-/

namespace Sys2Proof.Machine

open Sys2Proof

/-! ### Addresses (R452, R509) -/

/-- Own MAC: the factory MAC until SET_ADDRESS. -/
def State.ownMac (s : State) : BitVec 48 := if s.flash.addr.set then s.flash.addr.mac else Config.factoryMac

/-- The link-local address formed from a MAC as a modified EUI-64. -/
def linkLocal (mac : BitVec 48) : BitVec 128 :=
  let hi := (mac >>> 24).setWidth 24 ^^^ 0x020000#24
  0xFE80#16 ++ 0#48 ++ hi ++ 0xFFFE#16 ++ mac.setWidth 24

/-- Own IPv6 address. -/
def State.ownIp (s : State) : BitVec 128 :=
  if s.flash.addr.set then s.flash.addr.ip else linkLocal Config.factoryMac

/-- The address entry of a conduit: until the first SET_ADDRESS, host entry 0 is VALID at ff02::1 (R509). -/
def State.addrEntry (s : State) (cid : Nat) : AddrEntry :=
  if cid < 1024 then { s.flash.addr.peers.getD cid {} with port := s.flash.addr.port }
  else if !s.flash.addr.set && cid = 1024 then
    { valid := true, ip := 0xFF020000000000000000000000000001, mac := 0x333300000001, port := 19428 }
  else s.flash.addr.hosts.getD (cid - 1024) {}

/-! ### The link (R448 to R451) -/

/-- LOCK bits of the active lanes. -/
def State.laneMask (s : State) : Byte := if s.xpt.mode800 then 0x0F else 0xFF

/-- Every active lane has lock. -/
def State.allLocked (s : State) : Bool := s.xpt.lock &&& s.laneMask = s.laneMask

/-- The port and the transport engine have power. -/
def State.portOn (s : State) : Bool := s.powered 28 && s.powered 29

/-- The transport sends and receives. -/
def State.linkUp (s : State) : Bool := s.portOn && s.xpt.up

/-- Link rate in Gbit/s. -/
def State.linkRate (s : State) : Nat := if s.xpt.mode800 then 800 else 1600

/-- BLOCK_LOCK_GAINED (R450). -/
def execBlockLockGained (lane : Nat) (s : State) : Out :=
  .next (if s.portOn && lane < 8 then { s with xpt := { s.xpt with lock := bitSet s.xpt.lock lane true } } else s)

/-- BLOCK_LOCK_LOST (R450). -/
def execBlockLockLost (lane : Nat) (s : State) : Out :=
  .next (if s.portOn && lane < 8 then { s with xpt := { s.xpt with lock := bitSet s.xpt.lock lane false } } else s)

/-- LINK_UP (R450, R544): the first one sets bit 2. -/
def execLinkUp (s : State) : Out :=
  .next (if s.portOn && !s.xpt.up && !s.xpt.held && s.allLocked then
    let s := { s with xpt := { s.xpt with up := true, upAge := some 0, ethEn := true } }
    (s.setReady 2 true).xptUp
  else s)

/-- LINK_DOWN (R450): less than 200 ms after the last link up, hold-down begins. -/
def execLinkDown (s : State) : Out :=
  .next (if s.xpt.up && !s.allLocked then
    let soon := match s.xpt.upAge with
      | some k => decide (k < 20000000)
      | none => false
    { s with xpt := { s.xpt with up := false, downs := satAdd 16 s.xpt.downs 1, held := soon } }
  else s)

/-- HOLD_DOWN_END (R450). -/
def execHoldDownEnd (s : State) : Out := .next { s with xpt := { s.xpt with held := false } }

/-- LINK_DOWN_TIMEOUT (R451): every open conduit becomes LOST. -/
def execLinkDownTimeout (s : State) : Out :=
  .next (if s.xpt.up || !s.portOn then s
    else (s.xpt.cons.filter (fun p => p.2.st = .opened)).foldl (fun s p => s.loseConduit p.1) s)

/-! ### Frames (R454, R455) -/

/-- Sum of the big-endian 16-bit words of some bytes. -/
def sum16 : List Byte → Nat
  | [] => 0
  | [a] => a.toNat * 256
  | a :: b :: t => a.toNat * 256 + b.toNat + sum16 t

/-- The Internet checksum; never zero. -/
def inetSum (bs : List Byte) : Nat :=
  let fold := fun (n : Nat) => n % 65536 + n / 65536
  let c := 65535 - fold (fold (fold (sum16 bs)))
  if c = 0 then 65535 else c

/-- The Neino header (R454). -/
def neinoHdr (typ : Byte) (dcid : Nat) (psn ack : Word) (plen : Nat) (ece retx : Bool) (epoch : Byte)
    (xsn : Dword) : List Byte :=
  [1, typ] ++ beBytes 2 dcid ++ beBytes 4 psn.toNat ++ beBytes 4 ack.toNat ++ beBytes 2 plen ++
    [BitVec.ofNat 8 (b2n ece + 2 * b2n retx), epoch] ++ beBytes 8 xsn.toNat

/-- DCID of a packet to conduit `cid`: the sender's index at the receiver. -/
def State.dcid (s : State) (cid : Nat) : Nat := if cid < 1024 then s.flash.devidx.toNat else cid

/-- An Ethernet frame with an IPv6 packet from the device. -/
def State.ipFrame (s : State) (mac : BitVec 48) (dst : BitVec 128) (flow next hops : Nat) (body : List Byte) :
    List Byte :=
  let a := s.flash.addr
  let tag := match a.vlan with
    | some (vid, pcp) => beBytes 2 0x8100 ++ beBytes 2 (pcp.toNat * 8192 + vid.toNat)
    | none => []
  beBytes 6 mac.toNat ++ beBytes 6 s.ownMac.toNat ++ tag ++ beBytes 2 0x86DD ++
    beBytes 4 (6 * 2 ^ 28 + (a.dscp.toNat * 4 + 2) * 2 ^ 20 + flow) ++ beBytes 2 body.length ++
    beBytes 1 next ++ beBytes 1 hops ++ beBytes 16 s.ownIp.toNat ++ beBytes 16 dst.toNat ++ body

/-- The IPv6 pseudo-header that a checksum covers. -/
def State.pseudo (s : State) (dst : BitVec 128) (len next : Nat) : List Byte :=
  beBytes 16 s.ownIp.toNat ++ beBytes 16 dst.toNat ++ beBytes 4 len ++ beBytes 4 next

/-- A Neino frame to the entry of a conduit, with header, payload and tag as sent. -/
def State.frame (s : State) (cid : Nat) (bytes : List Byte) : List Byte :=
  let e := s.addrEntry cid
  let len := 8 + bytes.length
  let udp := fun (c : Nat) => beBytes 2 (0xC000 + cid) ++ beBytes 2 e.port.toNat ++ beBytes 2 len ++
    beBytes 2 c ++ bytes
  s.ipFrame e.mac e.ip cid 17 64 (udp (inetSum (s.pseudo e.ip len 17 ++ udp 0)))

/-- A frame leaves the device. -/
def State.emitFrame (s : State) (cid : Option Nat) (bs : List Byte) : State :=
  { s with xpt := { s.xpt with sent := s.xpt.sent ++ [(cid, bs)] } }

/-- The secret of the next epoch, and the key of an epoch (R513). -/
def nextSecret (sec : List Byte) : List Byte := Config.hkdfExpand sec (ascii "NQ288 next") 64
/-- The key of an epoch. -/
def epochKey (sec : List Byte) : List Byte := Config.hkdfExpand sec (ascii "NQ288 key") 32

/-- Seals and sends one packet; a new epoch starts before XSN would reach 2^32 (R455, R514). -/
def State.emit (s : State) (cid : Nat) (typ : Byte) (psn : Word) (ece retx : Bool) (payload : List Byte) :
    State :=
  let k := s.con cid
  let k := if k.xsn.toNat < 2 ^ 32 then k
    else { k with xsn := 0, epochTx := k.epochTx + 1, secTx := nextSecret k.secTx }
  let hdr := neinoHdr typ (s.dcid cid) psn k.ackTx payload.length ece retx k.epochTx k.xsn
  let sealed := Config.gcmSeal (epochKey k.secTx) (beBytes 8 k.xsn.toNat ++ List.replicate 4 0) hdr payload
  (s.setCon cid { k with xsn := k.xsn + 1, ackDue := false }).emitFrame (some cid) (s.frame cid (hdr ++ sealed))

/-! ### Egress (R457 to R462) -/

/-- A PSN lies below another (R456). -/
def psnBelow (a b : Word) : Bool :=
  let d := (b - a).toNat
  1 ≤ d && d < 2 ^ 31

/-- A packet that has not been sent fits the window (R457). -/
def Conduit.inWindow (k : Conduit) (t : TxPkt) : Bool := (t.psn - k.ackRx).toNat < 1024

/-- SACK of a conduit (R458). -/
def Conduit.sack (k : Conduit) : List Byte :=
  (List.range 32).map (fun i => (List.range 8).foldl (fun v j =>
    if k.reorder.any (fun r => r.1 = k.ackTx + 1 + BitVec.ofNat 32 (8 * i + j)) then
      bitSet v (7 - j) true else v) (0 : Byte))

/-- Sends the ACK packet of a conduit. The spec gives its PSN field no value (R456). -/
def State.emitAck (s : State) (cid : Nat) : State :=
  let k := s.con cid
  let (x, s) := s.draw
  let s := s.setCon cid { k with ackOut := false, sinceAck := 0, eceDue := false }
  s.emit cid typAck (x.setWidth 32) k.eceDue false k.sack

/-- Sends a packet that waits: new, or again. -/
def State.emitPkt (s : State) (cid : Nat) (t : TxPkt) : State :=
  let k := s.con cid
  let re := t.sent
  let s := s.setCon cid { k with
    unacked := updFirst (fun x => x.psn = t.psn)
      (fun x => { x with sent := true, again := false, retx := x.retx || re, sentAt := s.pilot.stamp }) k.unacked
    retxCnt := if re then satAdd 16 k.retxCnt 1 else k.retxCnt }
  s.emit cid t.typ t.psn false re t.payload

/-- The first packet of some conduits that a test picks. -/
def firstPkt (cons : Tab Conduit) (p : Conduit → TxPkt → Bool) : Option (Nat × TxPkt) :=
  cons.findSome? (fun c => if c.2.st = .opened then (c.2.unacked.find? (p c.2)).map (fun t => (c.1, t)) else none)

/-- The packet that the egress scheduler sends after the ACKs (R462): replies, retransmissions, then new
DATA packets round-robin. -/
def State.txPick (s : State) : Option (Nat × TxPkt) :=
  let cons := s.xpt.cons
  let order := cons.filter (fun c => s.xpt.lastCid < c.1) ++ cons.filter (fun c => c.1 ≤ s.xpt.lastCid)
  match firstPkt cons (fun k t => t.typ ≠ typData && (t.again || !t.sent && k.inWindow t)) with
  | some x => some x
  | none =>
    match firstPkt cons (fun _ t => t.again) with
    | some x => some x
    | none => firstPkt order (fun k t => !t.sent && k.inWindow t)

/-- PACKET_TRANSMIT (R462). -/
def execPacketTransmit (s : State) : Out :=
  .next (if !s.linkUp then s
    else match List.find? (fun (c : Nat × Conduit) => c.2.st = .opened && c.2.ackOut) s.xpt.cons with
      | some c => s.emitAck c.1
      | none =>
        match s.txPick with
        | some (cid, t) =>
          let s := s.emitPkt cid t
          if t.typ = typData && !t.sent then { s with xpt := { s.xpt with lastCid := cid } } else s
        | none => s)

/-- ACK_TIMER (R458): 2 µs after the oldest packet not yet acknowledged. -/
def execAckTimer (cid : Nat) (s : State) : Out :=
  .next (let k := s.con cid
    if k.st = .opened && k.ackDue then s.setCon cid { k with ackOut := true } else s)

/-- A cut of Rc (R461). -/
def Conduit.cut (k : Conduit) (rc : Nat) : Conduit := { k with rc := max 1 rc, cutRecent := true }

/-- RETRANSMIT_TIMEOUT (R459 to R461): the oldest packet goes again; after 12 expiries without progress
the conduit becomes LOST. -/
def execRetransmitTimeout (cid : Nat) (s : State) : Out :=
  .next (
    let k := s.con cid
    if !s.linkUp || k.st ≠ .opened then s
    else match k.unacked.find? (fun t => t.sent) with
      | none => s
      | some t =>
        if 12 ≤ k.expiries + 1 then s.loseConduit cid
        else s.setCon cid { (k.cut (k.rc / 2)) with
          expiries := k.expiries + 1
          rtoNs := min 10000000 (2 * k.rtoNs)
          unacked := updFirst (fun x => x.psn = t.psn) (fun x => { x with again := true }) k.unacked })

/-- RATE_INCREASE (R461): 20 µs without a cut. -/
def execRateIncrease (cid : Nat) (s : State) : Out :=
  .next (let k := s.con cid
    if s.linkUp && k.st = .opened then
      s.setCon cid { k with rc := min s.linkRate (k.rc + 10), cutRecent := false }
    else s)

/-! ### Reception (R455 to R459) -/

/-- Counts a discard in XPT.DROP.HDR. -/
def State.dropHdr (s : State) : State := { s with xpt := { s.xpt with dropHdr := satAdd 8 s.xpt.dropHdr 1 } }

/-- A packet is addressed to the device and well formed (R453, R454, R475). -/
def State.hdrOk (s : State) (p : Packet) : Bool :=
  p.dstMac = s.ownMac && p.dstIp = s.ownIp && p.dstPort = s.flash.addr.port &&
    (match p.vlan with
      | none => true
      | some v => match s.flash.addr.vlan with
        | some (vid, _) => v = vid
        | none => false) &&
    p.checksumOk && p.plain && p.ver = 1 && p.typ.toNat ≤ 4 && p.dcid.toNat < 1088 &&
    p.plen.toNat ≤ 4128 && p.payload.length = p.plen.toNat && p.typ ≠ typReply &&
    !(p.typ = 2 && p.dcid.toNat < 1024)

/-- The Neino header of a received packet, which is its associated data. -/
def pktHdr (p : Packet) : List Byte :=
  neinoHdr p.typ p.dcid.toNat p.psn p.ack p.plen.toNat p.ece p.retx p.epoch p.xsn

/-- Opens a packet under the key of the current epoch or of the next one, which then becomes current
(R455, R514). -/
def Conduit.openPkt (k : Conduit) (hdr : List Byte) (epoch : Byte) (xsn : Dword) (ct : List Byte) :
    Option (Conduit × List Byte) :=
  let nonce := beBytes 8 xsn.toNat ++ List.replicate 4 0
  let next := nextSecret k.secRx
  if epoch = k.epochRx then
    (Config.gcmOpen (epochKey k.secRx) nonce hdr ct).map (fun b => (k, b))
  else if epoch = k.epochRx + 1 then
    (Config.gcmOpen (epochKey next) nonce hdr ct).map (fun b => ({ k with epochRx := epoch, secRx := next }, b))
  else none

/-- RTO from the smoothed round-trip time (R459). -/
def rtoOf (srtt : Option Nat) : Nat :=
  match srtt with
  | some t => min 10000000 (max 20000 (2 * t))
  | none => 500000

/-- A round-trip sample in ns (R459). -/
def sampleRtt (srtt : Option Nat) (t : Nat) : Option Nat :=
  match srtt with
  | some o => some ((7 * o + t) / 8)
  | none => some t

/-- Every PSN below `ack` has been received: those packets are freed (R456, R459). -/
def Conduit.acked (k : Conduit) (stamp : Dword) (ack : Word) : Conduit :=
  if !psnBelow k.ackRx ack || psnBelow k.psnTx ack then k
  else
    let gone := k.unacked.filter (fun t => t.sent && psnBelow t.psn ack)
    let srtt := (gone.filter (fun t => !t.retx)).foldl (fun r t => sampleRtt r (10 * (stamp - t.sentAt).toNat)) k.srttNs
    { k with
      ackRx := ack, expiries := 0, srttNs := srtt, rtoNs := rtoOf srtt
      unacked := k.unacked.filter (fun t => !(t.sent && psnBelow t.psn ack)) }

/-- Bit `i` of a SACK. -/
def sackBit (sack : List Byte) (i : Nat) : Bool := (sack.getD (i / 8) 0).getLsbD (7 - i % 8)

/-- Packets that a SACK shows missing for the first time are sent again (R459). -/
def Conduit.holes (k : Conduit) (ack : Word) (sack : List Byte) : Conduit :=
  let got := (List.range 256).filter (sackBit sack)
  match got.getLast? with
  | none => k
  | some last =>
    { k with unacked := k.unacked.map (fun t =>
        let d := (t.psn - ack).toNat
        if t.sent && !t.holed && d ≤ last && !(1 ≤ d && got.contains (d - 1)) then
          { t with holed := true, again := true }
        else t) }

/-- The operation in a DATA payload (R463). -/
def parseOp (b : List Byte) : Option DpOp :=
  if b.length < 32 then none
  else some {
    op := b.getD 0 0, status := b.getD 1 0, len := beNat (bslice b 2 2)
    rid := BitVec.ofNat 32 (beNat (bslice b 4 4)), addr := BitVec.ofNat 64 (beNat (bslice b 8 8))
    opnd := BitVec.ofNat 64 (beNat (bslice b 16 8)), pmap := BitVec.ofNat 64 (beNat (bslice b 24 8))
    data := b.drop 32 }

/-- A response (R463). The spec gives a response no ADDR, and an OPND to that of FETCH_ADD alone. -/
def State.respond (s : State) (cid : Nat) (op status : Byte) (rid : Word) (opnd : Option Dword)
    (pmap : BitVec 64) (data : List Byte) : State :=
  let (a, s) := s.draw
  let (o, s) := match opnd with
    | some o => (o, s)
    | none => s.draw
  s.sendOp cid op status rid a o pmap data

/-- What the rules of the table Operations say of a delivered operation: 0 in order, else the STATUS of
its rejection (R464). -/
def opFault (cid : Nat) (o : DpOp) : Nat :=
  let host := 1024 ≤ cid
  let fits := o.addr.toNat % 4096 + o.len ≤ 4096 && o.len ≤ 4096
  match o.op.toNat with
  | 0x01 => if !host then 2 else if !o.data.isEmpty || !fits then 4 else 0
  | 0x02 => if !host then 2 else if o.data.length ≠ o.len || !fits then 4 else 0
  | 0x03 => if !host then 2 else if o.len ≠ 0 || !o.data.isEmpty then 4 else 0
  | 0x04 => if !host then 2 else if o.len ≠ 0 || !o.data.isEmpty then 4 else 0
  | 0x05 => if o.len ≠ 0 || !o.data.isEmpty then 4 else 0
  | 0x06 => if o.len ≠ 0 || !o.data.isEmpty || o.addr.toNat % 8 ≠ 0 then 4 else 0
  | 0x10 =>
    let msg := o.opnd.toNat % 256
    if host || !(1 ≤ msg && msg ≤ 0x0D) then 2
    else if o.len ≠ (if msg = 0x0C then 8 else 0) || o.data.length ≠ o.len || o.addr.toNat % pageSize ≠ 0 ||
        dvEnd ≤ o.addr.toNat then 4 else 0
  | 0x11 => if host then 2 else if o.len ≠ 4096 || o.data.length ≠ 4096 || o.addr.toNat % 4096 ≠ 0 then 4 else 0
  | 0x81 | 0x83 | 0x86 | 0x87 => if o.data.length ≠ o.len then 4 else 0
  | _ => 2

/-- The response code of a request that has one. -/
def respCode (op : Byte) : Option Byte :=
  match op.toNat with
  | 0x01 => some 0x81
  | 0x03 => some 0x83
  | 0x06 => some 0x86
  | 0x07 => some 0x87
  | _ => none

/-- An operation is delivered: it waits for its effect, or is rejected (R464, R467). -/
def State.deliverOp (s : State) (cid : Nat) (b : List Byte) : State :=
  match parseOp b with
  | none => s.dropHdr
  | some o =>
    match opFault cid o with
    | 0 => s.modCon cid (fun k => { k with ops := k.ops ++ [o] })
    | st =>
      match respCode o.op with
      | some r => s.respond cid r (BitVec.ofNat 8 st) o.rid none 0 []
      | none => s.dropHdr

/-- One packet is delivered in PSN order; a COMMAND goes to the pilot, which takes it by the command's own row
(R469, R475). -/
def State.deliver (s : State) (cid : Nat) (typ : Byte) (payload : List Byte) : State :=
  let s := s.modCon cid (fun k => { k with
    ackTx := k.ackTx + 1, sinceAck := (k.sinceAck + 1) % 8, ackDue := true
    ackOut := k.ackOut || k.sinceAck + 1 = 8 })
  if typ = typData then s.deliverOp cid payload
  else { s with pilot := { s.pilot with inbox := s.pilot.inbox ++ [(cid, payload)] } }

/-- Delivers what the reorder buffer holds in order. -/
def State.drainReorder : Nat → Nat → State → State
  | 0, _, s => s
  | n + 1, cid, s =>
    let k := s.con cid
    match k.reorder.find? (fun r => r.1 = k.ackTx) with
    | some r =>
      let s := s.setCon cid { k with reorder := k.reorder.filter (fun x => x.1 ≠ r.1) }
      State.drainReorder n cid (s.deliver cid r.2.1 r.2.2)
    | none => s

/-- A DATA or COMMAND packet that has verified (R457, R458). -/
def State.sequence (s : State) (cid : Nat) (psn : Word) (typ : Byte) (payload : List Byte) : State :=
  let k := s.con cid
  let now := fun (s : State) => s.modCon cid (fun k => { k with ackOut := true })
  if psnBelow psn k.ackTx then now s
  else if 1024 ≤ (psn - k.ackTx).toNat then
    { s with xpt := { s.xpt with dropWin := satAdd 8 s.xpt.dropWin 1 } }
  else if psn = k.ackTx then State.drainReorder (k.reorder.length + 1) cid (s.deliver cid typ payload)
  else if k.reorder.any (fun r => r.1 = psn) then now s
  else now (s.setCon cid { k with reorder := k.reorder ++ [(psn, typ, payload)], ackDue := true })

/-- The FEC decoder counts the codewords of a frame (R472). -/
def State.fecSeen (s : State) (p : Packet) : State :=
  { s with xpt := { s.xpt with
    feccorr := satAdd 32 s.xpt.feccorr p.fecCorr, fecunc := satAdd 32 s.xpt.fecunc p.fecBad } }

/-- A sealed packet arrives (R453 to R459). A frame whose FEC decoding fails is discarded by the MAC (R451), and a
packet on a conduit that is not open is dropped (R511). -/
def State.receive (s : State) (p : Packet) : State :=
  let cid := p.dcid.toNat
  let k := s.con cid
  if !s.linkUp then s
  else
  let s := s.fecSeen p
  if p.fecBad ≠ 0 then s
  else if !s.hdrOk p then s.dropHdr
  else if p.typ = 4 then (if p.plen ≠ 136 || p.tag ≠ 0 then s.dropHdr else s)
  else if k.st ≠ .opened then s
  else match k.openPkt (pktHdr p) p.epoch p.xsn (p.payload ++ beBytes 16 p.tag.toNat) with
    | none => { s with xpt := { s.xpt with dropAuth := satAdd 8 s.xpt.dropAuth 1 } }
    | some (k, body) =>
      let k := { k.acked s.pilot.stamp p.ack with eceDue := k.eceDue || p.congested }
      if p.typ = typAck then
        let k := k.holes p.ack body
        s.setCon cid (if p.ece && !k.cutRecent then k.cut (k.rc * 7 / 8) else k)
      else (s.setCon cid k).sequence cid p.psn p.typ body

/-- DATA_PACKET (R457). -/
def execDataPacket (p : Packet) (s : State) : Out := .next (if p.typ = typAck then s else s.receive p)

/-- ACK (R458, R459, R461). -/
def execAck (p : Packet) (s : State) : Out := .next (if p.typ = typAck then s.receive p else s)

/-! ### ICMPv6 (R453) -/

/-- An ICMPv6 message from the device. -/
def State.icmp (s : State) (mac : BitVec 48) (dst : BitVec 128) (hops typ code : Nat) (body : List Byte) : State :=
  let msg := fun (c : Nat) => beBytes 1 typ ++ beBytes 1 code ++ beBytes 2 c ++ body
  let c := inetSum (s.pseudo dst (4 + body.length) 58 ++ msg 0)
  s.emitFrame none (s.ipFrame mac dst 0 58 hops (msg c))

/-- NEIGHBOR_SOLICITATION (R453): answered with a Neighbor Advertisement that carries the own MAC. -/
def execNeighborSolicitation (target src : BitVec 128) (mac : BitVec 48) (s : State) : Out :=
  .next (if !s.linkUp then s
    else if target = s.ownIp then
      s.icmp mac src 255 136 0 (beBytes 4 0x60000000 ++ beBytes 16 target.toNat ++ [2, 1] ++ beBytes 6 s.ownMac.toNat)
    else s.dropHdr)

/-- ECHO_REQUEST (R453): answered with an Echo Reply of the same body. -/
def execEchoRequest (dst src : BitVec 128) (mac : BitVec 48) (body : List Byte) (s : State) : Out :=
  .next (if !s.linkUp then s
    else if dst = s.ownIp then s.icmp mac src 64 129 0 body
    else s.dropHdr)

/-! ### Operations take effect (R463 to R467) -/

/-- Operation `k` of those that a conduit has delivered. -/
def State.opAt (s : State) (cid k : Nat) (op : Nat) : Option DpOp :=
  match (s.con cid).ops[k]? with
  | some o => if o.op.toNat = op then some o else none
  | none => none

/-- Removes operation `k`. -/
def State.opDone (s : State) (cid k : Nat) : State := s.modCon cid (fun c => { c with ops := c.ops.eraseIdx k })

/-- The operation is a request of the data plane and not of cirrus. -/
def DpOp.isReq (o : DpOp) : Bool := o.op.toNat < 0x10

/-- Two operations touch a common byte. -/
def DpOp.overlaps (a b : DpOp) : Bool :=
  a.addr.toNat < b.addr.toNat + b.len && b.addr.toNat < a.addr.toNat + a.len

/-- A READ or WRITE may take effect (R467). -/
def State.mayAccess (s : State) (cid k : Nat) (o : DpOp) : Bool :=
  ((s.con cid).ops.take k).all (fun e => !e.isReq || ((e.op = 1 || e.op = 2) && !e.overlaps o))

/-- A DOORBELL, EVENT_ADD, FETCH_ADD or FLUSH may take effect: every earlier operation of the conduit that is
no cirrus message has completed, and its writes are visible to every agent (R352, R467). -/
def State.mayOrder (s : State) (cid k : Nat) : Bool :=
  ((s.con cid).ops.take k).all (fun e => e.op = 0x10#8) && s.seenBy (.conduit cid)

/-- Data-plane requests find nothing but the recovery buffer, or nothing at all (R554, R572). -/
def State.planeDown (s : State) : Bool := s.recovering || s.pwr.shut || !s.tc0On

/-- A request that is answered with STATUS 0x01; one without a response ends so. -/
def State.unmapped (s : State) (cid k : Nat) (o : DpOp) : State :=
  let s := s.opDone cid k
  match respCode o.op with
  | some r => s.respond cid r 0x01 o.rid none 0 []
  | none => s

/-- First and last address of the recovery buffer (R554). -/
def inRecov (a len : Nat) : Bool := 0x200000 ≤ a && a + len ≤ 0x4200000

/-- PMAP of a range: bit `u` for the unit that is `u` units above the first. -/
def pmapOf (a len : Nat) (bad : Nat → Bool) : BitVec 64 :=
  (unitsOf a len).foldl (fun m u => if bad u then bitSet m (u - a / 64) true else m) 0

/-- A READ takes effect. -/
def State.doRead (s : State) (cid k : Nat) (o : DpOp) : State :=
  let a := o.addr.toNat
  if s.recovering && inRecov a o.len then
    (s.opDone cid k).respond cid 0x81 0 o.rid none (pmapOf a o.len (fun u => s.start.recovPoison.contains u))
      (cellsRead s.start.recov a o.len)
  else if s.planeDown then s.unmapped cid k o
  else match s.touchRange (.conduit cid) false (pieces a o.len) with
    | (s, .ok) =>
      ((s.dvLoadLines a o.len false).opDone cid k).respond cid 0x81 0 o.rid none
        (pmapOf a o.len (fun u => (s.dvPoison? (max a (64 * u)) 1).isSome)) (s.dvRead a o.len)
    | (s, .unmapped _) => s.unmapped cid k o
    | (s, .stall _) => s

/-- READ (R464, R467). -/
def execRead (cid k : Nat) (s : State) : Out :=
  .next (match s.opAt cid k 1 with
    | some o => if s.mayAccess cid k o then s.doRead cid k o else s
    | none => s)

/-- A WRITE to the recovery buffer discards a staged image (R555). -/
def State.recovWrite (s : State) (a : Nat) (bs : List Byte) (bad : Nat → Bool) : State :=
  { s with
    sec := { s.sec with staged := none }
    start := { s.start with
      recov := cellsWrite s.start.recov a bs
      recovPoison := poisonWrite s.start.recovPoison a bs.length bad } }

/-- A WRITE takes effect: units that PMAP names are written poisoned (R390, R464). -/
def State.doWrite (s : State) (cid k : Nat) (o : DpOp) : State :=
  let a := o.addr.toNat
  let bad := fun (u : Nat) => o.pmap.getLsbD (u - a / 64)
  if s.recovering && inRecov a o.len then (s.opDone cid k).recovWrite a o.data bad
  else if s.planeDown then s.unmapped cid k o
  else match s.touchRange (.conduit cid) true (pieces a o.len) with
    | (s, .ok) => (s.opDone cid k).dvStoreK (.conduit cid) (wholeKind false) a o.data bad
    | (s, .unmapped _) => s.unmapped cid k o
    | (s, .stall _) => s

/-- WRITE (R464, R467). -/
def execWrite (cid k : Nat) (s : State) : Out :=
  .next (match s.opAt cid k 2 with
    | some o => if s.mayAccess cid k o then s.doWrite cid k o else s
    | none => s)

/-- FLUSH (R467). -/
def execFlush (cid k : Nat) (s : State) : Out :=
  .next (match s.opAt cid k 3 with
    | some o =>
      if !s.mayOrder cid k then s
      else if s.planeDown then s.unmapped cid k o
      else (s.opDone cid k).respond cid 0x83 0 o.rid none 0 []
    | none => s)

/-- DOORBELL (R363, R464, R467). -/
def execDoorbell (cid k : Nat) (s : State) : Out :=
  .next (match s.opAt cid k 4 with
    | some o =>
      if !s.mayOrder cid k then s
      else if s.planeDown then s.unmapped cid k o
      else (s.opDone cid k).ringBell (o.addr.toNat % 64) (o.opnd.setWidth 16)
    | none => s)

/-- EVENT_ADD (R361, R467). -/
def execEventAdd (cid k : Nat) (s : State) : Out :=
  .next (match s.opAt cid k 5 with
    | some o =>
      if !s.mayOrder cid k then s
      else if s.planeDown then s.unmapped cid k o
      else (s.opDone cid k).addEvent (o.addr.toNat % 4096) o.opnd
    | none => s)

/-- The answer to a FETCH_ADD: to its conduit, or to the lantern whose request runs at this device
(R466, R471). -/
def State.answerFa (s : State) (cid : Nat) (o : DpOp) (st : Byte) (old : Option Dword) : State :=
  if cid = s.flash.devidx.toNat then s.xrqEnd o.rid.toNat st old
  else s.respond cid 0x86 st o.rid old 0 []

/-- FETCH_ADD (R466, R467). -/
def execFetchAdd (cid k : Nat) (s : State) : Out :=
  .next (match s.opAt cid k 6 with
    | some o =>
      if !s.mayOrder cid k then s
      else if s.planeDown then s.unmapped cid k o
      else match s.fetchAdd (.conduit cid) o.addr.toNat o.opnd with
        | (s, .done old) => (s.opDone cid k).answerFa cid o 0 (some old)
        | (s, .status st) => (s.opDone cid k).answerFa cid o st none
        | (s, .stall) => s
    | none => s)

/-! ### The device's own requests (R463, R470) -/

/-- HREAD (R463). -/
def execHread (h : Nat) (addr : Dword) (len : Nat) (s : State) : Out :=
  .next (if addr.toNat % 4096 + len ≤ 4096 then s.sendReq (hostCid h) 0x07 addr 0 len .host else s)

/-- HWRITE (R463). -/
def execHwrite (h : Nat) (addr : Dword) (data : List Byte) (pmap : BitVec 64) (s : State) : Out :=
  .next (if addr.toNat % 4096 + data.length ≤ 4096 then s.sendOp (hostCid h) 0x08 0 0 addr 0 pmap data else s)

/-- The outstanding request that a response answers, which is then done; without one the response is
discarded and counted (R464). -/
def State.matchReq (s : State) (cid k : Nat) (o : DpOp) (op : Byte) : State × Option ReqFor :=
  let s := s.opDone cid k
  match (s.con cid).reqs.find? (fun r => r.1 = o.rid && r.2.1 = op) with
  | some r => (s.modCon cid (fun c => { c with reqs := c.reqs.filter (fun x => x.1 ≠ o.rid) }), some r.2.2)
  | none => ({ s with xpt := { s.xpt with dropNorid := satAdd 8 s.xpt.dropNorid 1 } }, none)

/-- READ_RESPONSE (R463, R464): the device issues no READ. -/
def execReadResponse (cid k : Nat) (s : State) : Out :=
  .next (match s.opAt cid k 0x81 with
    | some o => (s.matchReq cid k o 0x01).1
    | none => s)

/-- FLUSH_RESPONSE (R463, R464): the device issues no FLUSH. -/
def execFlushResponse (cid k : Nat) (s : State) : Out :=
  .next (match s.opAt cid k 0x83 with
    | some o => (s.matchReq cid k o 0x03).1
    | none => s)

/-- FETCH_ADD_RESPONSE (R470). -/
def execFetchAddResponse (cid k : Nat) (s : State) : Out :=
  .next (match s.opAt cid k 0x86 with
    | some o =>
      match s.matchReq cid k o 0x06 with
      | (s, some (.xrq n)) => if s.lanOn n then s.xrqEnd n o.status (if o.status = 0 then some o.opnd else none) else s
      | (s, _) => s
    | none => s)

/-- Host data for a sealed page: part of its bytes with its poison map, or its tag block (R353, R390). -/
def State.sealedPart (s : State) (vpn part : Nat) (bs : List Byte) (pmap : BitVec 64) : State :=
  match s.cirrus.fetches.find? vpn with
  | some f => s.setFetch vpn { f with ct := f.ct.put part bs, pm := f.pm.put part pmap }
  | none => s

/-- HREAD_RESPONSE (R463). -/
def execHreadResponse (cid k : Nat) (s : State) : Out :=
  .next (match s.opAt cid k 0x87 with
    | some o =>
      match s.matchReq cid k o 0x07 with
      | (s, some (.sealedPage vpn part)) => if o.status = 0 then s.sealedPart vpn part o.data o.pmap else s
      | (s, some (.restore m i)) => if o.status = 0 then s.restorePart m i o.data else s.restoreEnd
      | (s, _) => s
    | none => s)

/-- REMOTE_REQUEST (R470, R471). -/
def execRemoteRequest (n : Nat) (value : Word) (s : State) : Out :=
  .next (if s.lanOn n then s.xrqWrite n value else s)

end Sys2Proof.Machine
end

