-- ==== Sys2Proof/Machine/Handshake.lean ====
section
/-!
DEFINITION. Handshake.lean: the conduit handshake (R509 to R513): HELLO, ANSWER, FINISH, their
resending, and the keys with which a conduit opens.
-/

namespace Sys2Proof.Machine

open Sys2Proof

/-! ### Messages (R510) -/

/-- MSG of a handshake payload. -/
def hsMsg (m : List Byte) : Nat := beNat (bslice m 0 1)
/-- ROLE. -/
def hsRole (m : List Byte) : Nat := beNat (bslice m 1 1)
/-- EPH. -/
def hsEph (m : List Byte) : List Byte := bslice m 8 32
/-- IDKEY. -/
def hsIdkey (m : List Byte) : List Byte := bslice m 0x28 32
/-- SIG. -/
def hsSig (m : List Byte) : List Byte := bslice m 0x48 64

/-- The first 72 bytes of the device's HELLO (1) or ANSWER (2): ROLE 0, its index and its keys. -/
def State.hsHead (s : State) (msg : Byte) (eph : List Byte) : List Byte :=
  [msg, 0] ++ beBytes 2 s.flash.devidx.toNat ++ List.replicate 4 0 ++ eph ++ devKey

/-- TA. -/
def hsTa (hello answer : List Byte) : List Byte := Config.sha512 (hello ++ answer.take 0x48)
/-- TF. -/
def hsTf (hello answer : List Byte) : List Byte := Config.sha512 (hello ++ answer)

/-- The FINISH of the device. -/
def hsFinish (tf : List Byte) : List Byte :=
  [3] ++ List.replicate 0x47 0 ++ Config.edSign idSeed (ascii "NQ288 finish" ++ tf)

/-- A handshake message leaves in clear (R510). -/
def State.emitHs (s : State) (cid : Nat) (m : List Byte) : State :=
  if s.linkUp then
    s.emitFrame (some cid) (s.frame cid
      (neinoHdr 4 (s.dcid cid) 0 0 m.length false false 0 0 ++ m ++ List.replicate 16 0))
  else s

/-! ### Keys (R513) -/

/-- The conduit opens with the keys of a completed handshake; an open one passes through LOST first
(R512). An OPEN_CONDUIT that waits for it replies OK (R488). -/
def State.openConduit (s : State) (cid : Nat) (h : Hs) (other idkey : List Byte) (anon : Bool)
    (finish : List Byte) : State :=
  let prk := Config.hkdfExtract (hsTf h.hello h.answer) (Config.xShared h.priv other)
  let ir := Config.hkdfExpand prk (ascii "NQ288 i to r") 64
  let ri := Config.hkdfExpand prk (ascii "NQ288 r to i") 64
  let s := if (s.con cid).st = .opened then s.loseConduit cid else s
  let s := s.setCon cid {
    st := .opened, anon := anon, idkey := idkey, lastFinish := finish
    secTx := if h.initiator then ir else ri
    secRx := if h.initiator then ri else ir
    rc := s.linkRate, retxCnt := (s.con cid).retxCnt }
  match s.busyPkt 0x11 with
  | some p => if p.f 0 2 = cid then s.finish stOk [] else s
  | none => s

/-! ### The responder (R509, R511, R512) -/

/-- The device answers a HELLO with a fresh ephemeral key. -/
def State.startAnswer (s : State) (cid : Nat) (msg : List Byte) : State :=
  let priv := Config.random s.freeCtr 32
  let s := { s with freeCtr := s.freeCtr + 1 }
  let k := s.con cid
  let head := s.hsHead 2 (Config.xPub priv)
  let ans := head ++ Config.edSign idSeed (ascii "NQ288 answer" ++ hsTa msg head)
  let was := match k.hs with
    | some h => h.was
    | none => k.st
  (s.setCon cid { k with
    st := if k.st = .opened then .opened else .opening
    hs := some { initiator := false, hello := msg, answer := ans, priv := priv, was := was } }).emitHs cid ans

/-- A HELLO that is accepted (R509). In recovery only host conduits are answered (R554). -/
def State.helloOk (s : State) (cid : Nat) (msg : List Byte) : Bool :=
  hsMsg msg = 1 && (s.addrEntry cid).valid && s.acceptsId cid (hsRole msg) (hsIdkey msg) &&
    !(s.recovering && cid < 1024)

/-- HELLO: a conduit opens only once XPT is ready (R552). -/
def execHello (cid : Nat) (msg : List Byte) (s : State) : Out :=
  .next (if !s.linkUp || !s.isReady 3 || 1088 ≤ cid then s
    else if msg.length ≠ 136 then s.dropHdr
    else if !s.helloOk cid msg then s
    else match (s.con cid).hs with
      | some h =>
        if h.initiator && cid < 1024 && s.flash.devidx.toNat < cid then s
        else if !h.initiator && hsEph h.hello = hsEph msg then s.emitHs cid h.answer
        else s.startAnswer cid msg
      | none => s.startAnswer cid msg)

/-- FINISH: verified, or after a HELLO of ROLE 2. -/
def execFinish (cid : Nat) (msg : List Byte) (s : State) : Out :=
  .next (if !s.linkUp || 1088 ≤ cid then s
    else if msg.length ≠ 136 then s.dropHdr
    else match (s.con cid).hs with
      | some h =>
        let anon := hsRole h.hello = 2
        if h.initiator || hsMsg msg ≠ 3 then s
        else if anon || Config.edVerify (hsIdkey h.hello) (ascii "NQ288 finish" ++ hsTf h.hello h.answer)
            (hsSig msg) then
          s.openConduit cid h (hsEph h.hello) (hsIdkey h.hello) anon []
        else s
      | none => s)

/-- ANSWER_RESEND (R512). -/
def execAnswerResend (cid : Nat) (s : State) : Out :=
  .next (match (s.con cid).hs with
    | some h => if h.initiator then s else s.emitHs cid h.answer
    | none => s)

/-- An unfinished handshake ends, and the conduit is as before it. -/
def State.dropHs (s : State) (cid : Nat) : State :=
  match (s.con cid).hs with
  | some h => s.modCon cid (fun k => { k with hs := none, st := if k.st = .opening then h.was else k.st })
  | none => s

/-- HANDSHAKE_ABANDON (R512): an open conduit stays open. -/
def execHandshakeAbandon (cid : Nat) (s : State) : Out :=
  .next (match (s.con cid).hs with
    | some h => if h.initiator then s else s.dropHs cid
    | none => s)

/-! ### The initiator (R511, R512) -/

/-- The device sends a HELLO with a fresh ephemeral key. -/
def State.startHello (s : State) (cid : Nat) : State :=
  let priv := Config.random s.freeCtr 32
  let s := { s with freeCtr := s.freeCtr + 1 }
  let k := s.con cid
  let hello := s.hsHead 1 (Config.xPub priv) ++ List.replicate 64 0
  let was := match k.hs with
    | some h => h.was
    | none => k.st
  (s.setCon cid { k with
    st := .opening
    hs := some { initiator := true, hello := hello, answer := [], priv := priv, was := was } }).emitHs cid hello

/-- The ANSWER verifies: its identity is accepted, and its signature covers TA. -/
def State.answerOk (s : State) (cid : Nat) (h : Hs) (msg : List Byte) : Bool :=
  s.acceptsId cid (hsRole msg) (hsIdkey msg) &&
    Config.edVerify (hsIdkey msg) (ascii "NQ288 answer" ++ hsTa h.hello msg) (hsSig msg)

/-- A handshake that the remote end answers and that fails: the conduit stays closed, and OPEN_CONDUIT
replies AUTH (R488). -/
def State.answerFails (s : State) (cid : Nat) : State :=
  let s := s.modCon cid (fun k => { k with hs := none, st := .closed })
  match s.busyPkt 0x11 with
  | some p => if p.f 0 2 = cid then s.finish stAuth [] else s
  | none => s

/-- ANSWER: one that arrives after the conduit has opened is answered with the same FINISH. -/
def execAnswer (cid : Nat) (msg : List Byte) (s : State) : Out :=
  .next (
    let k := s.con cid
    if !s.linkUp || 1088 ≤ cid then s
    else if msg.length ≠ 136 then s.dropHdr
    else if hsMsg msg ≠ 2 then s
    else match k.hs with
      | some h =>
        if !h.initiator then s
        else if s.answerOk cid h msg then
          let h := { h with answer := msg }
          let fin := hsFinish (hsTf h.hello msg)
          (s.emitHs cid fin).openConduit cid h (hsEph msg) (hsIdkey msg) false fin
        else s.answerFails cid
      | none => if k.st = .opened && !k.lastFinish.isEmpty then s.emitHs cid k.lastFinish else s)

/-- HELLO_RESEND (R512). -/
def execHelloResend (cid : Nat) (s : State) : Out :=
  .next (match (s.con cid).hs with
    | some h => if h.initiator then s.emitHs cid h.hello else s
    | none => s)

end Sys2Proof.Machine
end

