-- ==== Sys2Proof/Machine/Moves.lean ====
section
/-!
DEFINITION. Moves.lean: moving granules and pages to other places (R314, R316, R338, R356, R402,
R412, R413), and the objects that commands name in device memory.
-/

namespace Sys2Proof.Machine

open Sys2Proof

/-! ### Objects in device memory -/

/-- What reading an object finds. -/
inductive ObjRes where
  | ok (bs : List Byte) (poisoned : Bool)
  | unmapped
  | stall
  deriving DecidableEq, Repr

/-- Reads a DV range for the pilot. -/
def State.readObj (s : State) (va len : Nat) : State × ObjRes :=
  match s.touchRange .other false (pieces va len) with
  | (s, .ok) => (s, .ok (s.dvRead va len) (s.dvPoison? va len).isSome)
  | (s, .unmapped _) => (s, .unmapped)
  | (s, .stall _) => (s, .stall)

/-- A DV range lies within one allocation. -/
def State.inAlloc (s : State) (va len : Nat) : Bool :=
  s.cirrus.allocs.any (fun p => p.1 * pageSize ≤ va && va + len ≤ (p.1 + p.2.npages) * pageSize)

/-! ### What holds physical pages -/

/-- A page's own data, the copy of a frozen page, or the data of a fetch. -/
inductive SeatKind where
  | page
  | cow
  | fetch
  deriving DecidableEq, Repr

/-- Something with a physical page of its own, and the entry through which its data is reached. -/
structure Seat where
  vpn : Nat
  kind : SeatKind
  pte : Pte
  deriving DecidableEq, Repr

/-- Everything that holds a physical page. -/
def State.seats (s : State) : List Seat :=
  (s.cirrus.ptes.filter (fun p => p.2.backed)).map (fun p => { vpn := p.1, kind := .page, pte := p.2 }) ++
    s.cirrus.cows.map (fun p => { vpn := p.1, kind := .cow, pte := cowPte p.2 }) ++
    (s.cirrus.fetches.filter (fun p => p.2.data && !p.2.starved)).filterMap (fun p =>
      (s.pte? p.1).map (fun e => { vpn := p.1, kind := .fetch, pte := e.on p.2 }))

/-- The entry of a seat as it is now. -/
def State.seat? (s : State) (vpn : Nat) (k : SeatKind) : Option Pte :=
  (s.seats.find? (fun x => x.vpn = vpn && x.kind = k)).map (·.pte)

/-- The data of a seat stands where entry `e` says. An upgrade under way keeps the place of its page. -/
def State.setSeat (s : State) (vpn : Nat) (k : SeatKind) (e : Pte) : State :=
  match k with
  | .page =>
    let s := match s.cirrus.fetches.find? vpn with
      | some f => if f.data then s else s.setFetch vpn { f with ppn := e.ppn, plx := e.plx }
      | none => s
    s.remap vpn e
  | .cow => { s with cirrus := { s.cirrus with cows := s.cirrus.cows.put vpn (e.ppn, e.plx) } }
  | .fetch => match s.cirrus.fetches.find? vpn with
    | some f => s.setFetch vpn { f with ppn := e.ppn, plx := e.plx }
    | none => s

/-! ### Granules in use -/

/-- A use of a granule: the seat, parity or data, group, and index in the group. -/
structure Use where
  vpn : Nat
  kind : SeatKind
  parity : Bool
  group : Nat
  idx : Nat
  deriving DecidableEq, Repr

/-- The uses that are made of the granules that a test picks. -/
def State.uses (s : State) (hit : Nat → Bool) : List Use :=
  s.seats.flatMap (fun x =>
    ((List.range 512).filter (fun g => hit (s.granPa x.pte g / 4096))).map
      (fun g => { vpn := x.vpn, kind := x.kind, parity := false, group := g / 16, idx := g % 16 }) ++
    (if x.pte.plx = 0 then [] else
      ((s.cirrus.pls.getD x.pte.plx {}).parity.filter (fun y => hit y.2)).map
        (fun y => { vpn := x.vpn, kind := x.kind, parity := true, group := y.1 / 4, idx := y.1 % 4 })))

/-- Pages of some uses. -/
def usePages (us : List Use) : List Nat := (us.map (·.vpn)).eraseDups

/-- The entry of a seat with a placement record, which is new where there was none. -/
def State.withRec (s : State) (vpn : Nat) (k : SeatKind) (e : Pte) : State × Pte :=
  if e.plx ≠ 0 then (s, e)
  else
    let i := s.plFree
    let e := { e with plx := i }
    ({ s with cirrus := { s.cirrus with pls := s.cirrus.pls.put i {} } }.setSeat vpn k e, e)

/-- The granule that a use names. -/
def State.useGran (s : State) (e : Pte) (u : Use) : Nat :=
  if u.parity then (s.cirrus.pls.getD e.plx {}).parity.getD (4 * u.group + u.idx) 0
  else s.granPa e (16 * u.group + u.idx) / 4096

/-- The lines of a granule leave every cache, and reservations on it end. -/
def State.dropGran (s : State) (g : Nat) : State :=
  let mine := fun (a : Nat) => decide (a / 4096 = g)
  { s with
    tcs := s.tcs.map (fun p => (p.1, { p.2 with lines := p.2.lines.filter (fun x =>
      !mine (lineAddr p.1 (x.1 / 16) x.2.tag)) }))
    lans := s.lans.map (fun p => (p.1, { p.2 with
      l1 := p.2.l1.filter (fun x => !mine (x.2.tag * 8192 + x.1 / 8 * 128))
      resv := match p.2.resv with
        | some (false, r) => if mine (r * 128) then none else p.2.resv
        | r => r })) }

/-- The data of a seat is copied whole to a new physical page, poison included (R338, R356, R390, R412). -/
def State.rehome (s : State) (vpn : Nat) (k : SeatKind) (e : Pte) : State :=
  match s.freePage with
  | none => s
  | some p =>
    let s := ({ s with freeCtr := s.freeCtr + 1 }.breakResvPage e).dropPageLines e
    let (s, e') := s.seat e p
    (((s.copyPage e e').unplace e).setSeat vpn k e').syncPage e'

/-- Moves one granule in use to a free granule on a channel that its group uses for nothing else; a page
that would need a 65th relocation is copied whole (R314, R356). -/
def State.moveUse (s : State) (hit : Nat → Bool) (u : Use) : State :=
  match s.seat? u.vpn u.kind with
  | none => s
  | some e0 =>
    let (t, e) := s.withRec u.vpn u.kind e0
    let old := t.useGran e u
    let r := t.cirrus.pls.getD e.plx {}
    if !hit old then s
    else if !u.parity && 64 ≤ r.reloc.length && (r.reloc.find? (16 * u.group + u.idx)).isNone then
      s.rehome u.vpn u.kind e0
    else
      let t := t.placeOne e u.parity u.group u.idx
      let new := t.useGran e u
      if new = old then s else ((t.physMove (old * 4096) (new * 4096) 4096).dropGran old).granWritten (new * 4096)

/-- Moves every granule that a test picks. -/
def State.moveAll (s : State) (hit : Nat → Bool) : State :=
  (s.uses hit).foldl (fun s u => s.moveUse hit u) s

/-- Every granule that a test picks has gone elsewhere. -/
def State.emptied (s : State) (hit : Nat → Bool) : Bool := (s.uses hit).isEmpty

/-- A unit can be rebuilt from its page group without being read (R314 step 3). -/
def State.canRebuild (s : State) (pa : Nat) : Bool :=
  match s.granUse pa with
  | some u => u.pte.str ≠ 0 && 16 ≤ (s.usable u (pa % 4096 / 64 * 64) []).length
  | none => false

/-- Units in use that the copy reads and finds uncorrectable: each is rebuilt, or poisoned, with its record
(R389, R400, R405); the Nat counts the poisoned ones (R314 step 5). `reads` says that a unit is read although
it could be rebuilt. The operand names no syndrome: it is a free value. -/
def State.foundUe (s : State) (reads : Bool) (hit : Nat → Bool) (pas : List Nat) : State × Nat :=
  let grans := s.seats.flatMap (fun x => (List.range 512).map (fun g => s.granPa x.pte g / 4096))
  let us := (pas.map (fun a => a / 64 * 64)).eraseDups.filter (fun a =>
    hit (a / 4096) && grans.contains (a / 4096) && (reads || !s.canRebuild a))
  us.foldl (fun acc a =>
    let (x, s) := acc.1.draw
    let (s, r) := s.rebuildUnit a (x.toNat % 65536) []
    (s.record r, if s.poison.contains (a / 64) then acc.2 + 1 else acc.2)) (s, 0)

/-! ### Pages under a move (R316) -/

/-- Pages become not resident while they are worked on. -/
def State.holdPages (s : State) (vs : List Nat) : State :=
  { s with cirrus := { s.cirrus with moving := vs.foldl setIns s.cirrus.moving } }

/-- Pages are resident again: waiters replay, and the home's requests go on. -/
def State.unholdPages (s : State) (vs : List Nat) : State :=
  let s := { s with cirrus := { s.cirrus with moving := s.cirrus.moving.filter (fun v => !vs.contains v) } }
  (vs.foldl State.wakeVpn s).pumpPins

/-- Every page under a move is resident again. -/
def State.unholdAll (s : State) : State := s.unholdPages s.cirrus.moving

/-- A change of some pages may be made: no pin holds one of them (R337). -/
def State.noPin (s : State) (vs : List Nat) : Bool := vs.all (fun v => !s.pinned v)

/-! ### Whole allocations (R346, R402) -/

/-- The allocations that a range consists of; none unless it equals one or more of them. -/
def State.wholeAllocs (s : State) (va size : Nat) : List (Nat × Alloc) :=
  let as := s.cirrus.allocs.filter (fun p =>
    va ≤ p.1 * pageSize && (p.1 + p.2.npages) * pageSize ≤ va + size)
  if va % pageSize = 0 && as.foldl (fun n p => n + p.2.npages * pageSize) 0 = size then as else []

/-- The pages of some allocations. -/
def allocPages (as : List (Nat × Alloc)) : List Nat :=
  as.flatMap (fun p => natRange p.1 (p.1 + p.2.npages))

/-! ### Strength (R402) -/

/-- A page takes strength `p`: parity granules are placed or given up, and the parity is computed. -/
def State.restrength (s : State) (vpn p : Nat) : State :=
  match s.pte? vpn with
  | none => s
  | some e =>
    let e' := { e with str := p }
    let s := s.setPte vpn e'
    if !e.backed then s
    else
      let (s, e') := s.withRec vpn .page e'
      let s := s.modPl e'.plx (fun r => { r with parity := r.parity.filter (fun x => x.1 % 4 < p) })
      let s := (List.range 32).foldl (fun s j =>
        (natRange e.str p).foldl (fun s q => s.placeOne e' true j q) s) s
      if p = 0 && (s.cirrus.pls.getD e'.plx {}).reloc.isEmpty then
        (s.unplace e').setPte vpn { e' with plx := 0 }
      else s.syncPage e'

/-! ### Physical pages (R412) -/

/-- Granules of a physical page. -/
def inPpn (ppn g : Nat) : Bool := g / 512 = ppn

/-- Pages that cirrus works on when it empties a physical page. -/
def State.ppnPages (s : State) (ppn : Nat) : List Nat :=
  ((s.cirrus.ptes.filter (fun p => p.2.backed && p.2.ppn = ppn)).map (·.1) ++
    usePages (s.uses (inPpn ppn))).eraseDups

/-- The granules of a physical page in use. -/
def State.ppnUses (s : State) (ppn : Nat) : Nat := (s.uses (inPpn ppn)).length

/-- Everything in a physical page goes elsewhere: what has its data there is copied whole, and granules
placed there for others are moved. -/
def State.emptyPpn (s : State) (ppn : Nat) : State :=
  let s := { s with cirrus := { s.cirrus with retired := setIns s.cirrus.retired ppn } }
  let s := (s.seats.filter (fun x => x.pte.ppn = ppn)).foldl (fun s x => s.rehome x.vpn x.kind x.pte) s
  s.moveAll (inPpn ppn)

end Sys2Proof.Machine
end

