-- ==== Sys2Proof/Machine/CmdMem.lean ====
section
/-!
DEFINITION. CmdMem.lean: the commands on memory: ALLOC and MAPA (R342, R343), FREE (R346, R490),
SET_STRENGTH (R402), RETIRE_PAGE and RETIRE_BANK (R412 to R414), MAP_OUT_CHANNEL (R314, R315), MARGIN
(R312, R313), SCRUB_CONFIG (R394) and FUSE_REPAIR (R416, R493).
-/

namespace Sys2Proof.Machine

open Sys2Proof

/-- A reply without results. -/
abbrev CmdRes.st (st : Nat) : CmdRes := .reply st []

/-! ### ALLOC (R342 to R345) -/

/-- A range touches the first page or the REG window, or ends outside the space (R336). -/
def offLimits (va size : Nat) : Bool :=
  va < pageSize || dvEnd < va + size || (va < regHi && regLo < va + size)

/-- A range overlaps an allocation. -/
def State.overlaps (s : State) (va size : Nat) : Bool :=
  s.cirrus.allocs.any (fun p => va < (p.1 + p.2.npages) * pageSize && p.1 * pageSize < va + size)

/-- The lowest free range of a size outside the ranges of R336. -/
def State.lowestFree (s : State) (size : Nat) : Option Nat :=
  let cands := pageSize :: regHi :: s.cirrus.allocs.map (fun p => (p.1 + p.2.npages) * pageSize)
  (cands.filter (fun va => !offLimits va size && !s.overlaps va size)).foldl (fun m va =>
    match m with
    | some x => some (min x va)
    | none => some va) none

/-- The home kinds by HOMEKIND. -/
def homeKind (k : Nat) : Option HomeKind :=
  match k with
  | 0 => some .loc
  | 1 => some .peer
  | 2 => some .host
  | _ => none

/-- Check 2 of R342 passes, and the zero fields are zero. -/
def allocRangeOk (p : CmdPkt) : Bool :=
  let size := p.f 0 8
  let va := p.f 8 8
  let home := p.f 0x1A 2
  size ≠ 0 && size % pageSize = 0 && p.f 0x18 1 ≤ 4 && va % pageSize = 0 && p.f 0x10 8 % 4096 = 0 &&
    p.f 0x1D 3 = 0 && natField (p.f 0x1C 1) 2 5 = 0 &&
    (match homeKind (p.f 0x19 1) with
      | some .loc => va = 0 || !offLimits va size
      | some .peer => home ≤ 1023 && !offLimits va size
      | some .host => home ≤ 63 && (va = 0 || !offLimits va size)
      | none => false)

/-- Check 6 of R342. -/
def State.allocFits (s : State) (kind : HomeKind) (npages str va : Nat) : Bool :=
  s.cirrus.allocs.length < 65536 &&
    (kind ≠ .loc || 512 * s.cirrus.minRemote.toNat + npages * granPerPage str ≤ s.cirrus.capFree) &&
    (va ≠ 0 || (s.lowestFree (npages * pageSize)).isSome)

/-- Creates an allocation. -/
def State.allocate (s : State) (base : Nat) (a : Alloc) : State :=
  let e : Pte := {
    res := match a.kind with
      | .loc => .unbacked
      | .peer => .peer
      | .host => .host
    acc := .none, str := a.str, v := true, tile := a.tile, anyt := a.anyt
    home := if a.kind = .loc then 0 else a.home, gen := s.cirrus.cur }
  let g := if a.kind = .loc then a.npages * granPerPage a.str else 0
  { s with cirrus := { s.cirrus with
      allocs := s.cirrus.allocs.put base a
      ptes := (natRange base (base + a.npages)).foldl (fun t v => t.put v e) s.cirrus.ptes
      capFree := s.cirrus.capFree - g, capRes := s.cirrus.capRes + g } }

/-- The allocation is made where check 6 passes. `str` is that of the ALLOC, or of the home (R343). -/
def State.allocLast (s : State) (p : CmdPkt) (kind : HomeKind) (str : Nat) : State × CmdRes :=
  let n := p.f 0 8 / pageSize
  let va := p.f 8 8
  if !s.allocFits kind n str va then (s, .st stNoResource)
  else
    let va := if va = 0 then (s.lowestFree (p.f 0 8)).getD 0 else va
    let s := s.allocate (va / pageSize) {
      npages := n, str := str, kind := kind, home := p.f 0x1A 2, hbase := p.f 0x10 8
      tile := p.f 0x1C 1 % 4, anyt := natBit (p.f 0x1C 1) 7 }
    (s, .reply stOk (beBytes 8 va))

/-- The own checks of ALLOC; one with a PEER home asks the home and waits (R343). -/
def State.allocOwn (s : State) (p : CmdPkt) : State × CmdRes :=
  let va := p.f 8 8
  let home := p.f 0x1A 2
  if !allocRangeOk p then (s, .st stRange)
  else if va ≠ 0 && s.overlaps va (p.f 0 8) then (s, .st stRange)
  else match homeKind (p.f 0x19 1) with
    | some .peer =>
      if (s.con home).st ≠ .opened then (s, .st stState)
      else (s.sendOp home 0x10 0 0 (BitVec.ofNat 64 va) 0x0C 0 (beBytes 8 (p.f 0 8)), .run true)
    | some k => s.allocLast p k (p.f 0x18 1)
    | none => (s, .st stRange)

/-- ALLOC. -/
def execAlloc (p : CmdPkt) (s : State) : Out := .next (s.command 0x30 p (fun s => s.allocOwn p))

/-- The command in its wait phase, where it has this opcode (R483). -/
def State.waitingPkt (s : State) (op : Nat) : Option CmdPkt :=
  match s.pilot.busy with
  | some b => if b.opcode = op && b.waiting then some b.pkt else none
  | none => none

/-- A reply of the command in progress. -/
def State.finishWith (s : State) (r : State × CmdRes) : State :=
  match r with
  | (t, .reply st rs) => t.finish st rs
  | _ => s

/-- MAPA (R343): the home accepts with its strength, or refuses. -/
def execMapa (d va str status : Nat) (s : State) : Out :=
  .next (match s.takeCir d (fun o => o.isMsg 0x0D va && o.opnd.toNat / 256 % 256 = str && o.status.toNat = status)
    with
    | none => s
    | some s =>
      match s.waitingPkt 0x30 with
      | some p =>
        if p.f 0x1A 2 ≠ d || p.f 8 8 ≠ va then s
        else if status ≠ 0 then s.finish stRange []
        else s.finishWith (s.allocLast p .peer (str % 8))
      | none => s)

/-! ### FREE (R346, R490) -/

/-- A PEER or HOST page gives up its local copy; a writable PEER copy is written back first. -/
def State.freeCopy (s : State) (vpn : Nat) (e : Pte) : State :=
  let s := s.dropFetch vpn e
  if e.acc = .none then s
  else
    let s := if e.res = .peer then
        if e.acc = .write then (s.cir e.home msgWb vpn).sendPage e.home vpn e 0 else s.cir e.home msgDrop vpn
      else s
    s.holderDrop vpn .none

/-- A page that the running checkpoint has still to stream. -/
def State.ckHas (s : State) (vpn : Nat) : Bool :=
  match s.ckpt with
  | some c => c.todo.any (fun p => p.1 = vpn)
  | none => false

/-- A LOCAL page that is freed before it has streamed leaves a copy for the streamer: the one of R358,
or its own physical page, which then stays out of the pool without its parity (R346). -/
def State.keepFrozen (s : State) (vpn : Nat) (e : Pte) : State :=
  let s := match s.ckpt with
    | some c => { s with ckpt := some { c with freed := c.freed.put vpn e.str } }
    | none => s
  match s.cow? vpn with
  | some c => (if e.gen = s.cirrus.cur then s else s.copyPage e c).unplace e
  | none =>
    let s := if e.plx = 0 then s else s.modPl e.plx (fun r => { r with parity := [] })
    { s with cirrus := { s.cirrus with
        cows := s.cirrus.cows.put vpn (e.ppn, e.plx), capFree := s.cirrus.capFree - 512 } }

/-- Requests of peers that stand behind the FREE are answered with GONE. -/
def State.goneAll (s : State) (vpn : Nat) : State :=
  let r := s.dir vpn
  let reqs := (match r.cur with | some x => [x] | none => []) ++ r.queue
  let s := reqs.foldl (fun s x => match x with
    | .rd d => s.cir d msgGone vpn
    | .wr d => s.cir d msgGone vpn
    | _ => s) s
  { s with cirrus := { s.cirrus with dirs := s.cirrus.dirs.erase vpn } }

/-- A page is freed: its copy and parity are discarded, V clears, and accesses that wait replay. -/
def State.freePageOf (s : State) (vpn : Nat) : State :=
  match s.pte? vpn with
  | none => s
  | some e =>
    let s :=
      if e.res = .loc then
        let s := (s.breakResvPage e).dropPageLines e
        if s.ckHas vpn then s.keepFrozen vpn e else s.unplace e
      else if e.res = .unbacked then s
      else s.freeCopy vpn e
    let s := (s.goneAll vpn).tbDrop vpn
    { s with cirrus := { s.cirrus with
        ptes := s.cirrus.ptes.erase vpn
        recency := s.cirrus.recency.filter (fun v => v ≠ vpn)
        owed := s.cirrus.owed.filter (fun o => o.2.1 ≠ vpn)
        cowWait := setDel s.cirrus.cowWait vpn } }.wakeVpn vpn

/-- Removes an allocation and its reservation. -/
def State.dropAlloc (s : State) (base : Nat) (a : Alloc) : State :=
  let g := if a.kind = .loc then a.npages * granPerPage a.str else 0
  { s with cirrus := { s.cirrus with
      allocs := s.cirrus.allocs.erase base
      capFree := s.cirrus.capFree + g, capRes := s.cirrus.capRes - g } }

/-- Every copy on another device has been recalled, and no pin holds a page (R346 steps 1 and 2). -/
def State.freeReady (s : State) (vs : List Nat) : Bool :=
  vs.all (fun v => !s.isShared v && !s.pinned v && (s.dir v).await.isEmpty)

/-- Steps 3 and 4 of R346. -/
def State.freeAll (s : State) (as : List (Nat × Alloc)) : State :=
  let s := as.foldl (fun s p => s.dropAlloc p.1 p.2) s
  ((allocPages as).foldl State.freePageOf s).wakeStuck

/-- The own checks of FREE; it recalls the copies of other devices, and ends at once where nothing has
to be waited for. -/
def State.freeOwn (s : State) (p : CmdPkt) : State × CmdRes :=
  let as := s.wholeAllocs (p.f 0 8) (p.f 8 8)
  let vs := allocPages as
  if as.isEmpty then (s, .st stRange)
  else if s.freeReady vs then (s.freeAll as, .st stOk)
  else ((vs.filter s.isShared).foldl (fun s v => s.homeAsk v .localWrite) s, .run false)

/-- FREE. -/
def execFree (p : CmdPkt) (s : State) : Out := .next (s.command 0x31 p (fun s => s.freeOwn p))

/-- A FREE that has waited goes on once nothing holds it. -/
def State.freeGoesOn (s : State) (p : CmdPkt) : State :=
  let as := s.wholeAllocs (p.f 0 8) (p.f 8 8)
  let vs := allocPages as
  if s.freeReady vs then (s.freeAll as).finish stOk []
  else (vs.filter s.isShared).foldl (fun s v => s.homeAsk v .localWrite) s

/-- FREE_HOLDER_TIMEOUT (R490): the silence counts as NOCOPY. -/
def execFreeHolderTimeout (d vpn : Nat) (s : State) : Out :=
  .next (match s.busyPkt 0x31 with
    | none => s
    | some p =>
      let vs := allocPages (s.wholeAllocs (p.f 0 8) (p.f 8 8))
      if vs.contains vpn && (s.dir vpn).await.contains d then
        ((s.record (pageRec clsUe 0x0208 vpn d d)).homeAnswered d vpn).freeGoesOn p
      else s)

/-! ### SET_STRENGTH (R402) -/

/-- Granules that strength `p` takes beyond those that some allocations have. -/
def strengthNeed (as : List (Nat × Alloc)) (p : Nat) : Nat :=
  as.foldl (fun n x => n + x.2.npages * 32 * (p - x.2.str)) 0

/-- Pages of some allocations that have data here. -/
def State.backedOf (s : State) (as : List (Nat × Alloc)) : List Nat :=
  (allocPages as).filter (fun v => match s.pte? v with
    | some e => e.backed
    | none => false)

/-- An allocation takes strength `p` with its reservation (R341). -/
def State.allocStrength (s : State) (base p : Nat) (a : Alloc) : State :=
  let g := a.npages * granPerPage a.str
  let g' := a.npages * granPerPage p
  { s with cirrus := { s.cirrus with
      allocs := s.cirrus.allocs.put base { a with str := p }
      capFree := s.cirrus.capFree + g - g', capRes := s.cirrus.capRes + g' - g } }

/-- The own checks of SET_STRENGTH. An increase is reserved at once, and the first page is worked on. -/
def State.strengthOwn (s : State) (p : CmdPkt) : State × CmdRes :=
  let str := p.f 0x10 1
  let as := s.wholeAllocs (p.f 0 8) (p.f 8 8)
  if p.f 0x11 7 ≠ 0 || 4 < str || as.isEmpty || as.any (fun x => x.2.kind ≠ .loc) then (s, .st stRange)
  else if s.cirrus.capFree < strengthNeed as str then (s, .st stNoResource)
  else
    let vs := (s.backedOf as).take 1
    (((as.filter (fun x => x.2.str < str)).foldl (fun s x => s.allocStrength x.1 str x.2) s).holdPages vs,
      .run false)

/-- SET_STRENGTH. -/
def execSetStrength (p : CmdPkt) (s : State) : Out := .next (s.command 0x32 p (fun s => s.strengthOwn p))

/-- The parity of every page of the range has been rebuilt, one page at a time, each not resident
meanwhile; the reservation that is not needed any more is given back. -/
def State.strengthEnds (s : State) (p : CmdPkt) : State :=
  let as := s.wholeAllocs (p.f 0 8) (p.f 8 8)
  let str := p.f 0x10 1
  if !s.noPin (s.backedOf as) then s
  else
    let s := (allocPages as).foldl (fun s v => ((s.holdPages [v]).restrength v str).unholdPages [v]) s
    let s := as.foldl (fun s x => s.allocStrength x.1 str x.2) s
    s.unholdAll.finish stOk []

/-! ### Retirement (R412 to R414) -/

/-- The record RETIRED (R405). -/
def retiredRec (moved : Nat) : RecIn := { src := 5, cls := clsInfo, code := 0x0411, aux := moved }

/-- The own checks of RETIRE_PAGE. -/
def State.retirePageOwn (s : State) (p : CmdPkt) : State × CmdRes :=
  let ppn := p.f 0 4
  if pageCount ≤ ppn then (s, .st stRange)
  else if s.cirrus.retired.contains ppn then (s, .st stState)
  else if 4096 ≤ s.flash.retPages.length || s.cirrus.capFree = 0 || s.freePage.isNone then
    (s, .st stNoResource)
  else (s.holdPages (s.ppnPages ppn), .run false)

/-- RETIRE_PAGE. -/
def execRetirePage (p : CmdPkt) (s : State) : Out := .next (s.command 0x70 p (fun s => s.retirePageOwn p))

/-- Granules of a physical page that count as capacity. -/
def State.ppnGrans (s : State) (ppn : Nat) : Nat :=
  ((List.range 512).filter (fun g => s.granGood (512 * ppn + g))).length

/-- The page has been copied: the old one leaves the pool, and its records are marked. -/
def State.retirePageEnds (s : State) (p : CmdPkt) (found : List Nat) : State :=
  let ppn := p.f 0 4
  if !s.noPin s.cirrus.moving then s
  else
    let n := s.ppnUses ppn
    let t := ((s.foundUe true (inPpn ppn) found).1).emptyPpn ppn
    if !t.emptied (inPpn ppn) then s else
    let s := { t with
      flash := { t.flash with retPages := setIns t.flash.retPages ppn }
      cirrus := { t.cirrus with capFree := t.cirrus.capFree - s.ppnGrans ppn }
      pilot := { t.pilot with errq := t.pilot.errq.map (fun (r : ErrRec) =>
        if r.page = some ppn then { r with retired := true } else r) } }
    (s.record (retiredRec n)).unholdAll.finish stOk []

/-- Granules of a bank index of a channel (R316). -/
def inBank (ch b g : Nat) : Bool := paChannel (g * 4096) = ch && (granBanks (g * 4096)).contains b

/-- Granules of a channel. -/
def inChan (ch g : Nat) : Bool := paChannel (g * 4096) = ch

/-- The own checks of RETIRE_BANK. -/
def State.retireBankOwn (s : State) (p : CmdPkt) : State × CmdRes :=
  let ch := p.f 0 2
  let b := p.f 2 1
  if p.f 3 1 ≠ 0 || 255 < ch || 47 < b then (s, .st stRange)
  else if !(s.ch ch).en || (s.ch ch).bankret.getLsbD b then (s, .st stState)
  else if (s.ch ch).maint ≠ 0 then (s, .st stMaint)
  else
    let vs := usePages (s.uses (inBank ch b))
    let s := s.modCh ch (fun d => { d with
      maint := 4, bankret := (bankQuad b).foldl (fun v x => bitSet v x true) d.bankret })
    (s.holdPages vs, .run false)

/-- RETIRE_BANK. -/
def execRetireBank (p : CmdPkt) (s : State) : Out := .next (s.command 0x71 p (fun s => s.retireBankOwn p))

/-- The granules of the bank index have been moved. -/
def State.retireBankEnds (s : State) (p : CmdPkt) (found : List Nat) : State :=
  let ch := p.f 0 2
  let b := p.f 2 1
  let us := s.uses (inBank ch b)
  if !s.noPin s.cirrus.moving then s
  else
    let t := ((s.foundUe false (inBank ch b) found).1).moveAll (inBank ch b)
    if !t.emptied (inBank ch b) then s else
    let s := t.modCh ch (fun d => { d with maint := 0 })
    let s := { s with
      flash := { s.flash with retBanks := s.flash.retBanks ++ [(ch, b)] }
      cirrus := { s.cirrus with capFree := s.cirrus.capFree - 24576 } }
    (s.record (retiredRec us.length)).unholdAll.finish stOk []

/-! ### MAP_OUT_CHANNEL (R314, R315) -/

/-- Free granules on the in-service channels other than `ch`: those of the pool that do not stand on
it. -/
def State.freeElsewhere (s : State) (ch : Nat) : Nat :=
  s.cirrus.capFree - (s.chanGrans ch - 256 - (s.uses (inChan ch)).length)

/-- The own checks of MAP_OUT_CHANNEL. -/
def State.mapOutOwn (s : State) (p : CmdPkt) : State × CmdRes :=
  let ch := p.f 0 2
  if 1 < p.f 2 1 || p.f 3 1 ≠ 0 || 255 < ch then (s, .st stRange)
  else if p.f 2 1 = 1 then
    if s.flash.mapout.contains ch then
      ({ s with
          flash := { s.flash with mapout := setDel s.flash.mapout ch }
          start := { s.start with released := setIns s.start.released ch } }.modCh ch
        (fun d => { d with listed := false }), .st stOk)
    else (s, .st stState)
  else if !(s.ch ch).en then (s, .st stState)
  else if (s.ch ch).maint ≠ 0 then (s, .st stMaint)
  else
    let us := s.uses (inChan ch)
    if s.freeElsewhere ch < us.length then (s, .st stNoResource)
    else
      let s := (s.setReady (readyCh ch) false).modCh ch (fun d => { d with maint := 3 })
      (s.holdPages (usePages us), .run false)

/-- MAP_OUT_CHANNEL. -/
def execMapOutChannel (p : CmdPkt) (s : State) : Out := .next (s.command 0x72 p (fun s => s.mapOutOwn p))

/-- Every granule has been moved (R314 steps 3 to 6). -/
def State.mapOutEnds (s : State) (p : CmdPkt) (found : List Nat) : State :=
  let ch := p.f 0 2
  let us := s.uses (inChan ch)
  if !s.noPin s.cirrus.moving then s
  else
    let (t, bad) := s.foundUe false (inChan ch) found
    let t := t.moveAll (inChan ch)
    if !t.emptied (inChan ch) then s else
    let s := { t with
      cirrus := { t.cirrus with capFree := t.cirrus.capFree - s.chanGrans ch }
      flash := { t.flash with mapout := setIns t.flash.mapout ch } }
    let s := s.modCh ch (fun d => { d with en := false, mapout := true, listed := true, maint := 0 })
    let s := s.record { src := readyCh ch, cls := clsInfo, code := 0x0406
                        aux := us.length * 2 ^ 32 + bad }
    s.unholdAll.finish stOk []

/-! ### MARGIN (R312, R313) -/

/-- The own checks of MARGIN. -/
def State.marginOwn (s : State) (p : CmdPkt) : State × CmdRes :=
  let ch := p.f 0 2
  if p.f 2 2 ≠ 0 || 255 < ch then (s, .st stRange)
  else if (s.ch ch).en || !s.chOn ch then (s, .st stState)
  else if (s.ch ch).maint ≠ 0 then (s, .st stMaint)
  else (s.modCh ch (fun d => { d with maint := 2 }), .run false)

/-- MARGIN. -/
def execMargin (p : CmdPkt) (s : State) : Out := .next (s.command 0xB0 p (fun s => s.marginOwn p))

/-- The least of each of the four sweeps. -/
def leastEye (pins : List Word) : Word :=
  let least := fun (lo : Nat) => pins.foldl (fun m w => min m (natField w.toNat lo 8)) 255
  BitVec.ofNat 32 (least 24 * 2 ^ 24 + least 16 * 2 ^ 16 + least 8 * 2 ^ 8 + least 0)

/-- The sweeps have ended: `pins` holds what they measured. -/
def State.marginEnds (s : State) (p : CmdPkt) (pins : List Word) : State :=
  let ch := p.f 0 2
  let pins := (List.range 80).map (fun i => pins.getD i 0)
  (s.modCh ch (fun d => { d with maint := 0, eye := leastEye pins })).finish stOk
    (pins.flatMap (fun w => beBytes 4 w.toNat))

/-! ### SCRUB_CONFIG and FUSE_REPAIR -/

/-- SCRUB_CONFIG (R394): EN and HOURS of SCRUB.CFG. -/
def State.scrubOwn (s : State) (p : CmdPkt) : State × CmdRes :=
  let h := p.f 1 1
  if 1 < p.f 0 1 || h = 0 || 168 < h || p.f 2 2 ≠ 0 then (s, .st stRange)
  else if s.tc0On then
    ({ s with scrub := { s.scrub with en := p.f 0 1 = 1, hours := BitVec.ofNat 8 h } }, .st stOk)
  else (s, .st stOk)

/-- SCRUB_CONFIG. -/
def execScrubConfig (p : CmdPkt) (s : State) : Out := .next (s.command 0x73 p (fun s => s.scrubOwn p))

/-- A claim of R419 on a way group of a tile cache is in force. -/
def TCache.claimed (c : TCache) : Bool := c.clean ≠ 0 || c.fuse.isSome

/-- A claim on the unit of a FUSE_REPAIR is in force, also one of a repair that waits for power. -/
def State.repairClaimed (s : State) (kind unit : Nat) : Bool :=
  if kind = 0 then (s.tc unit).claimed || (s.flash.repairWaits 0 unit).isSome
  else (s.lan unit).claimed || (s.flash.repairWaits 1 (s.fuseSite unit)).isSome

/-- The own checks of FUSE_REPAIR (R416, R419, R493). The slot is programmed; a unit without power is repaired
once it has power. -/
def State.fuseOwn (s : State) (p : CmdPkt) : State × CmdRes :=
  let kind := p.f 0 1
  let unit := p.f 2 2
  let bank := p.f 4 1
  let row := p.f 6 2
  if 1 < kind || p.f 1 1 ≠ 0 || (if kind = 0 then 3 else 255) < unit || 31 < bank || p.f 5 1 ≠ 0 ||
      4095 < row then (s, .st stRange)
  else if s.repairClaimed kind unit then (s, .st stMaint)
  else if s.fuseLeft kind unit bank = 0 then (s, .st stNoResource)
  else
    let slot : Repair := { kind := kind, unit := if kind = 0 then unit else s.fuseSite unit, bank := bank, row := row }
    let s := { s with flash := { s.flash with repairs := s.flash.repairs ++ [slot] } }
    let s :=
      if kind = 0 then
        if s.tcOn unit then s.modTc unit (fun c => { c with fuse := some (bank, row) }) else s
      else if s.lanOn unit then
        s.modLan unit (fun l => { l with svc := { l.svc with fusePend := some (bank, row) } })
      else s
    (s, .reply stOk (beBytes 1 (s.fuseLeft kind unit bank) ++ List.replicate 7 0))

/-- FUSE_REPAIR. -/
def execFuseRepair (p : CmdPkt) (s : State) : Out := .next (s.command 0x74 p (fun s => s.fuseOwn p))

end Sys2Proof.Machine
end

