-- ==== Sys2Proof/Machine/CmdSec.lean ====
section
/-!
DEFINITION. CmdSec.lean: the commands on identity, ownership, addresses and signed objects: IDENTIFY
(R485), ATTEST (R518), CLAIM (R503, R504), LOAD_MEMBERSHIP (R505 to R508), OPEN_CONDUIT (R488),
SET_ADDRESS (R487), FW_STAGE and FW_COMMIT (R520, R521, R555) and LOAD_DECODE_TABLE (R293).
-/

namespace Sys2Proof.Machine

open Sys2Proof

/-! ### IDENTIFY and ATTEST -/

/-- The 96 bytes of IDENTIFY (R485). -/
def State.identity (s : State) : List Byte :=
  let part := ascii "BX-NQ288-A"
  part ++ List.replicate (16 - part.length) 0 ++ beBytes 2 Config.stepping.toNat ++
    beBytes 4 s.sec.fwver.toNat ++ [0, 0] ++ devKey ++ s.ownerBytes ++ beBytes 6 Config.factoryMac.toNat ++ [0, 0]

/-- The own part of IDENTIFY. -/
def State.identifyOwn (s : State) : State × CmdRes := (s, .reply stOk s.identity)

/-- IDENTIFY. -/
def execIdentify (p : CmdPkt) (s : State) : Out := .next (s.command 0x01 p State.identifyOwn)

/-- Measurement `k`, zero while its object is absent (R517). -/
def State.measurement (s : State) (k : Nat) : List Byte := s.sec.meas.getD k (List.replicate 64 0)

/-- STATE of the report: CLAIMED, LISTED, DBGOPEN, STAGED and COMMITPEND (R518). -/
def State.secState (s : State) : Nat :=
  b2n s.flash.owner.isSome + 2 * b2n s.flash.list.isSome + 4 * b2n s.sec.dbgLive +
    8 * b2n s.sec.staged.isSome + 16 * b2n s.sec.commitPend

/-- The attestation report (R518). -/
def State.report (s : State) (nonce : List Byte) : List Byte :=
  let b := beBytes 4 0x4E514154 ++ beBytes 2 1 ++ beBytes 2 1040 ++ nonce ++ devKey ++ agreeKey ++
    s.ownerBytes ++ beBytes 4 s.sec.fwver.toNat ++ beBytes 4 s.flash.svn.toNat ++
    beBytes 8 s.flash.bootcnt.toNat ++ beBytes 8 s.flash.oseq.toNat ++
    beBytes 8 (if s.flash.list.isSome then s.flash.lseq.toNat else 0) ++
    beBytes 4 (if s.flash.bundle.isEmpty then 0 else s.flash.dtseq.toNat) ++
    beBytes 2 s.flash.devidx.toNat ++ beBytes 1 s.secState ++ [0] ++
    (List.range 7).flatMap s.measurement ++ Config.devCert ++ Config.mfgCert
  b ++ Config.edSign idSeed b

/-- The own part of ATTEST. -/
def State.attestOwn (s : State) (p : CmdPkt) : State × CmdRes := (s, .reply stOk (s.report (p.bytes 0 32)))

/-- ATTEST. -/
def execAttest (p : CmdPkt) (s : State) : Out := .next (s.command 0x12 p (fun s => s.attestOwn p))

/-! ### CLAIM (R503, R504) -/

/-- The own checks of CLAIM. -/
def State.claimOwn (s : State) (p : CmdPkt) : State × CmdRes :=
  let key := p.bytes 0 32
  if s.flash.owner.isSome then (s, .st stState)
  else if !Config.edPoint key then (s, .st stRange)
  else if !Config.edVerify key (ascii "NQ288 claim" ++ devKey) (p.bytes 32 64) then (s, .st stAuth)
  else ({ s with flash := { s.flash with owner := some key, oseq := 0 } }, .st stOk)

/-- A conduit is anonymous, or its unfinished handshake would make it so. -/
def Conduit.isAnon (k : Conduit) : Bool :=
  k.anon || (match k.hs with
    | some h => !h.initiator && decide (hsRole h.hello = 2)
    | none => false)

/-- Every anonymous conduit becomes LOST (R504). -/
def State.loseAnon (s : State) : State :=
  (s.xpt.cons.filter (fun c => c.2.isAnon)).foldl (fun s c => s.loseConduit c.1) s

/-- What waits to be sent on the conduit of endpoint `h` leaves, a reply among it, before an effect that
comes after the reply (R487, R504). While the link is down nothing leaves (R451). -/
def State.replyLeaves (s : State) (h : Nat) : State :=
  if s.linkUp then
    let k := s.con (hostCid h)
    (k.unacked.filter (fun t => !t.sent && k.inWindow t)).foldl (fun s t => s.emitPkt (hostCid h) t) s
  else s

/-- CLAIM: the reply leaves before anonymous conduits become LOST. -/
def execClaim (p : CmdPkt) (s : State) : Out :=
  .next (s.commandThen 0x10 p (fun s => s.claimOwn p) (fun s => (s.replyLeaves p.ep).loseAnon))

/-! ### LOAD_MEMBERSHIP (R505 to R508) -/

/-- Numbers rise strictly. -/
def rising : List Nat → Bool
  | a :: b :: t => a < b && rising (b :: t)
  | _ => true

/-- Bytes are all zero. -/
def zeros (bs : List Byte) : Bool := bs.all (fun b => b = 0)

/-- No element appears twice. -/
def distinct (xs : List (List Byte)) : Bool := xs.eraseDups.length = xs.length

/-- Check 2 of R507. -/
def listOk (b : List Byte) : Bool :=
  let ps := listPeers b
  let hs := listHosts b
  let idx := ps.map (fun e => bfield e 0 2)
  let eps := hs.map (fun e => bfield e 0 1)
  bfield b 0 4 = 0x4C4D514E && bfield b 4 2 = 1 && 1 ≤ bfield b 6 2 && bfield b 6 2 ≤ 1024 &&
    bfield b 8 1 ≤ 64 && zeros (bslice b 9 7) && zeros (bslice b 0x28 24) &&
    rising idx && idx.all (fun i => i ≤ 1023) && rising eps && eps.all (fun h => h ≤ 63) &&
    ps.all (fun e => zeros (bslice e 2 6)) && hs.all (fun e => zeros (bslice e 1 7)) &&
    distinct (ps.map (fun e => bslice e 8 32) ++ hs.map (fun e => bslice e 8 32))

/-- CKS from the wrap of an entry (R506). -/
def unwrapCks (b e : List Byte) : Option (List Byte) :=
  let sysid := bslice b 0x18 16
  let idx := beBytes 2 (bfield e 0 2)
  let kek := Config.hkdfExpand (Config.hkdfExtract sysid (Config.xShared agreePriv (bslice e 0x28 32)))
    (ascii "NQ288 wrap" ++ idx) 32
  Config.gcmOpen kek (List.replicate 12 0) (sysid ++ idx) (bslice e 0x48 48)

/-- The remote key of a conduit, where one is known. -/
def Conduit.remoteKey (k : Conduit) : Option (List Byte) :=
  match k.st, k.hs with
  | .opened, _ => some k.idkey
  | .opening, some h => if h.initiator then none else some (hsIdkey h.hello)
  | _, _ => none

/-- The key that a handshake would replace an open conduit's with is no longer accepted. -/
def State.hsUnlisted (s : State) (cid : Nat) (k : Conduit) : Bool :=
  match k.st, k.hs with
  | .opened, some h => !h.initiator && !s.acceptsId cid (hsRole h.hello) (hsIdkey h.hello)
  | _, _ => false

/-- Conduits whose remote key is no longer accepted become LOST (R508), and an open conduit's handshake for such a
key ends, since no conduit opens for it (R509). -/
def State.loseUnlisted (s : State) : State :=
  let s := (s.xpt.cons.filter (fun c => s.hsUnlisted c.1 c.2)).foldl (fun s c => s.dropHs c.1) s
  (s.xpt.cons.filter (fun c => match c.2.remoteKey with
    | some k => !s.acceptsId c.1 (if c.1 < 1024 then 0 else 1) k
    | none => false)).foldl (fun s c => s.loseConduit c.1) s

/-- The list is installed (R508, R517). -/
def State.installList (s : State) (b cks : List Byte) (idx : Nat) : State :=
  { s with
    flash := { s.flash with
      list := some b, lseq := BitVec.ofNat 64 (bfield b 0x10 8), cks := cks, devidx := BitVec.ofNat 16 idx }
    sec := { s.sec with meas := s.sec.meas.put 6 (Config.sha512 b) } }.loseUnlisted

/-- Checks 2 to 5 of R507 on a list that has been read. -/
def State.judgeList (s : State) (b : List Byte) (poisoned : Bool) : State × CmdRes :=
  let n := b.length - 64
  let signed := match s.flash.owner with
    | some o => !poisoned && Config.edVerify o (b.take n) (b.drop n)
    | none => false
  if !listOk b then (s, .st stRange)
  else if !signed || bfield b 0x10 8 ≤ s.flash.lseq.toNat then (s, .st stAuth)
  else match (listPeers b).find? (fun e => bslice e 8 32 = devKey) with
    | none => (s, .st stState)
    | some e =>
      match unwrapCks b e with
      | none => (s, .st stAuth)
      | some cks => (s.installList b cks (bfield e 0 2), .st stOk)

/-- The own checks of LOAD_MEMBERSHIP. A list on a page that is not there is waited for. -/
def State.loadListOwn (s : State) (p : CmdPkt) : State × CmdRes :=
  let a := p.f 0 8
  let n := p.f 8 4
  if p.f 12 4 ≠ 0 then (s, .st stRange)
  else if n < 0x80 || !s.inAlloc a n then (s, .st stBadLength)
  else match s.readObj a 16 with
    | (s, .stall) => (s, .run false)
    | (s, .unmapped) => (s, .st stRange)
    | (s, .ok h _) =>
      if n ≠ 0x80 + 120 * bfield h 6 2 + 40 * bfield h 8 1 then (s, .st stBadLength)
      else match s.readObj a n with
        | (s, .stall) => (s, .run false)
        | (s, .unmapped) => (s, .st stRange)
        | (s, .ok b bad) => s.judgeList b bad

/-- LOAD_MEMBERSHIP. -/
def execLoadMembership (p : CmdPkt) (s : State) : Out := .next (s.command 0x13 p (fun s => s.loadListOwn p))

/-! ### OPEN_CONDUIT (R488) -/

/-- A handshake that the remote end began proceeds before one of the device (R512). -/
def State.remoteFirst (s : State) (cid : Nat) : Bool :=
  match (s.con cid).hs with
  | some h => !h.initiator && (1024 ≤ cid || cid < s.flash.devidx.toNat)
  | none => false

/-- The own checks of OPEN_CONDUIT. -/
def State.openOwn (s : State) (p : CmdPkt) : State × CmdRes :=
  let cid := p.f 0 2
  if p.f 2 2 ≠ 0 || 1087 < cid then (s, .st stRange)
  else if (if cid < 1024 then (s.peerEntry cid).isNone else !(s.addrEntry cid).valid) then (s, .st stState)
  else if (s.con cid).st = .opened then (s, .st stOk)
  else if s.remoteFirst cid then (s, .run true)
  else (s.startHello cid, .run true)

/-- OPEN_CONDUIT. -/
def execOpenConduit (p : CmdPkt) (s : State) : Out := .next (s.command 0x11 p (fun s => s.openOwn p))

/-! ### SET_ADDRESS (R452, R487) -/

/-- Entry `i` of the body. -/
def addrBody (p : CmdPkt) (i : Nat) : List Byte :=
  if p.f 0 1 = 1 then p.bytes (8 + 24 * i) 24 else p.bytes (8 + 32 * i) 32

/-- FLAGS of an entry. -/
def addrFlags (p : CmdPkt) (i : Nat) : Nat :=
  let b := addrBody p i
  if p.f 0 1 = 1 then beNat (bslice b 22 2) else beNat (bslice b 24 2)

/-- Every field of SET_ADDRESS lies within its range. -/
def addressOk (p : CmdPkt) : Bool :=
  let first := p.f 2 2
  let count := p.f 4 2
  p.f 1 1 = 0 && p.f 6 2 = 0 && (match p.f 0 1 with
    | 0 =>
      let vid := p.f 34 2 % 4096
      first = 0 && count = 0 && p.f 14 2 = 0 && 1024 ≤ p.f 32 2 &&
        (!natBit (p.f 34 2) 15 || (vid ≠ 0 && vid ≠ 4095)) && p.f 36 1 < 64 && p.f 37 1 < 4 && p.f 38 2 = 0
    | 1 => 1 ≤ count && count ≤ 128 && first + count ≤ 1024 &&
        (List.range count).all (fun i => addrFlags p i < 2)
    | 2 => 1 ≤ count && count ≤ 64 && first + count ≤ 64 &&
        (List.range count).all (fun i => addrFlags p i < 4 && zeros ((addrBody p i).drop 26))
    | _ => false)

/-- The addressing state with the values that stand until the first SET_ADDRESS (R452, R509). -/
def AddrState.start (a : AddrState) : AddrState :=
  if a.set then a
  else { a with
    set := true, mac := Config.factoryMac, ip := linkLocal Config.factoryMac
    hosts := a.hosts.put 0
      { valid := true, ip := 0xFF020000000000000000000000000001, mac := 0x333300000001, port := 19428 } }

/-- The own state (SEL 0). LINK takes effect at the next reset (R449). -/
def State.setOwn (s : State) (p : CmdPkt) : State :=
  let v := p.f 34 2
  { s with flash := { s.flash with
      addr := { s.flash.addr.start with
        mac := BitVec.ofNat 48 (p.f 8 6), ip := BitVec.ofNat 128 (p.f 16 16), port := BitVec.ofNat 16 (p.f 32 2)
        vlan := if natBit v 15 then some (BitVec.ofNat 12 v, BitVec.ofNat 3 (natField v 12 3)) else none
        dscp := BitVec.ofNat 6 (p.f 36 1) }
      mode800 := natBit (p.f 37 1) 0, kr := natBit (p.f 37 1) 1 } }

/-- One entry of the peer or the host table; a conduit whose entry is not VALID becomes LOST. -/
def State.setEntry (s : State) (p : CmdPkt) (i : Nat) : State :=
  let b := addrBody p i
  let k := p.f 2 2 + i
  let fl := addrFlags p i
  let e : AddrEntry := {
    valid := natBit fl 0, ip := BitVec.ofNat 128 (beNat (bslice b 0 16))
    mac := BitVec.ofNat 48 (beNat (bslice b 16 6)) }
  let a := s.flash.addr
  if p.f 0 1 = 1 then
    let s := { s with flash := { s.flash with addr := { a with peers := a.peers.put k e } } }
    if e.valid then s else s.loseConduit k
  else
    let e := { e with notify := natBit fl 1, port := BitVec.ofNat 16 (beNat (bslice b 22 2)) }
    let s := { s with flash := { s.flash with addr := { a with hosts := a.hosts.put k e } } }
    if e.valid then s else s.loseConduit (hostCid k)

/-- What SET_ADDRESS writes, once its reply has left. -/
def State.setAddress (s : State) (p : CmdPkt) : State :=
  if p.f 0 1 = 0 then s.setOwn p
  else
    let s := { s with flash := { s.flash with addr := s.flash.addr.start } }
    (List.range (p.f 4 2)).foldl (fun s i => s.setEntry p i) s

/-- The own checks of SET_ADDRESS. -/
def State.addressOwn (s : State) (p : CmdPkt) : State × CmdRes :=
  (s, .st (if addressOk p then stOk else stRange))

/-- SET_ADDRESS: the reply leaves under the old state. -/
def execSetAddress (p : CmdPkt) (s : State) : Out :=
  .next (s.commandThen 0x50 p (fun s => s.addressOwn p) (fun s => (s.replyLeaves p.ep).setAddress p))

/-! ### Firmware (R519 to R521, R555) -/

/-- 64 MiB. -/
def imgMax : Nat := 0x4000000

/-- Check 2 of R520: the header, four sections in order, and their extents. -/
def imgForm (b : List Byte) : Bool :=
  let ks := List.range 4
  bfield b 0 4 = 0x4657514E && bfield b 4 2 = 1 && bfield b 6 2 = 4 && zeros (bslice b 0x14 12) &&
    0x250 ≤ b.length &&
    ks.all (fun k =>
      let (o, n) := imgSect b k
      bfield b (0x20 + 80 * k) 1 = k && zeros (bslice b (0x21 + 80 * k) 3) &&
        zeros (bslice b (0x2C + 80 * k) 4) && 0x250 ≤ o && o + n ≤ b.length &&
        ks.all (fun j =>
          let (o', n') := imgSect b j
          j = k || o + n ≤ o' || o' + n' ≤ o))

/-- The checks of R520 on an image that has been read; a poisoned one is not genuine (R554). -/
def State.judgeImage (s : State) (b : List Byte) (poisoned : Bool) : State × CmdRes :=
  if bfield b 0x10 4 ≠ b.length || imgMax < b.length then (s, .st stBadLength)
  else if !imgForm b then (s, .st stRange)
  else if poisoned || !imgGenuine b || imgSvn b < s.flash.svn.toNat then (s, .st stAuth)
  else ({ s with sec := { s.sec with staged := some b } }, .reply stOk (Config.sha512 b))

/-- The image in the recovery buffer, with its poison. -/
def State.recovImage (s : State) (n : Nat) : List Byte × Bool :=
  (cellsRead s.start.recov 0x200000 n,
    s.start.recovPoison.any (fun u => 0x8000 ≤ u && 64 * u < 0x200000 + n))

/-- The own checks of FW_STAGE: the copy then runs. -/
def State.stageOwn (s : State) (p : CmdPkt) : State × CmdRes :=
  if p.f 12 4 ≠ 0 || (s.recovering && p.f 0 8 ≠ 0x200000) then (s, .st stRange)
  else if imgMax < p.f 8 4 then (s, .st stBadLength)
  else (s, .run false)

/-- FW_STAGE. -/
def execFwStage (p : CmdPkt) (s : State) : Out := .next (s.command 0x20 p (fun s => s.stageOwn p))

/-- The image has been copied. -/
def State.stageEnds (s : State) (p : CmdPkt) : State × CmdRes :=
  if s.recovering then
    let (b, bad) := s.recovImage (p.f 8 4)
    s.judgeImage b bad
  else match s.readObj (p.f 0 8) (p.f 8 4) with
    | (s, .stall) => (s, .run false)
    | (s, .unmapped) => (s, .st stRange)
    | (s, .ok b bad) => s.judgeImage b bad

/-- The own checks of FW_COMMIT (R484). -/
def State.commitOwn (s : State) (p : CmdPkt) : State × CmdRes :=
  match s.sec.staged with
  | none => (s, .st stState)
  | some b => if p.bytes 0 64 = Config.sha512 b then (s, .run false) else (s, .st stAuth)

/-- FW_COMMIT. -/
def execFwCommit (p : CmdPkt) (s : State) : Out := .next (s.command 0x21 p (fun s => s.commitOwn p))

/-- The flash has been written and read back (R521). -/
def State.commitEnds (s : State) : State :=
  match s.sec.staged with
  | some b =>
    { s with
      flash := { s.flash with image := some b }
      sec := { s.sec with staged := none, commitPend := true } }.finish stOk []
  | none => s.finish stOk []

/-! ### LOAD_DECODE_TABLE (R293) -/

/-- Some lantern has a kernel assigned or is halted. -/
def State.anyKernel (s : State) : Bool := s.lans.any (fun p => p.2.gang.isSome || p.2.halt.halted)

/-- Checks 2 to 4 of R293 on a bundle that has been read; dispatch is then held. -/
def State.judgeBundle (s : State) (b : List Byte) (poisoned : Bool) : State × CmdRes :=
  let n := 0x90 + 8 * bunWords b
  let signed := match s.flash.owner with
    | some o => !poisoned && Config.edVerify o (b.take n) (b.drop n)
    | none => false
  if !bunOk b then (s, .st stRange)
  else if !signed || bfield b 8 4 ≤ s.flash.dtseq.toNat then (s, .st stAuth)
  else if s.anyKernel then (s, .st stState)
  else ({ s with disp := { s.disp with hold := true }, pilot := { s.pilot with object := b } }, .run false)

/-- The own checks of LOAD_DECODE_TABLE. -/
def State.loadTableOwn (s : State) (p : CmdPkt) : State × CmdRes :=
  let a := p.f 0 8
  let n := p.f 8 4
  if p.f 12 4 ≠ 0 then (s, .st stRange)
  else match s.readObj a 16 with
    | (s, .stall) => (s, .run false)
    | (s, .unmapped) => (s, .st stRange)
    | (s, .ok h _) =>
      if n ≠ 0xD0 + 8 * bunWords h then (s, .st stBadLength)
      else match s.readObj a n with
        | (s, .stall) => (s, .run false)
        | (s, .unmapped) => (s, .st stRange)
        | (s, .ok b bad) => s.judgeBundle b bad

/-- LOAD_DECODE_TABLE. -/
def execLoadDecodeTable (p : CmdPkt) (s : State) : Out := .next (s.command 0x90 p (fun s => s.loadTableOwn p))

/-- Every lantern gets the bundle, SEQ is kept and measurement 5 is taken. -/
def State.installBundle (s : State) (b : List Byte) : State :=
  let s := { s with
    flash := { s.flash with bundle := b, dtseq := BitVec.ofNat 32 (bfield b 8 4) }
    sec := { s.sec with meas := s.sec.meas.put 5 (Config.sha512 (b.take (0x90 + 8 * bunWords b))) }
    disp := { s.disp with hold := false } }
  ((s.lans.map (·.1)).foldl (fun s n => if s.lanOn n then s.loadTable n else s) s).examine

end Sys2Proof.Machine
end

