-- ==== Sys2Proof/Machine/CmdCtl.lean ====
section
/-!
DEFINITION. CmdCtl.lean: the commands on status, queues, snapshots and checkpoints, the error log,
registers, power and reset (R486, R491 to R496), DEADLINE_EXPIRY (R483) and COMMAND_COMPLETED (R476).
-/

namespace Sys2Proof.Machine

open Sys2Proof

/-! ### GET_STATUS and READY_MAP -/

/-- The last completed command; zeros before the first. -/
def lastBytes (l : Option LastCmd) : List Byte :=
  match l with
  | some c => beBytes 1 c.ep ++ [0] ++ beBytes 2 c.opcode ++ beBytes 4 c.tag.toNat ++ beBytes 2 c.status ++ [0, 0]
  | none => List.replicate 12 0

/-- The 48 bytes of GET_STATUS (R486); in recovery CIRRUS.GEN is 0 (R555). -/
def State.statusBytes (s : State) : List Byte :=
  beBytes 1 (b2n s.flash.owner.isSome) ++ beBytes 1 (b2n s.sec.staged.isSome) ++ ([0, 0] : List Byte) ++
    beBytes 4 s.errqWord.toNat ++ beBytes 4 s.snapstat ++ beBytes 4 (if s.recovering then 0 else s.genWord) ++ beBytes 2 s.pwr.capW ++
    beBytes 2 s.pwr.avgW ++ beBytes 1 (s.hottest (List.range 432)) ++ List.replicate 3 (0 : Byte) ++
    lastBytes s.pilot.last ++ beBytes 8 s.flash.oseq.toNat ++
    beBytes 4 (match s.pilot.notif with
      | some n => n.toNat
      | none => 0xFFFFFFFF)

/-- The own part of GET_STATUS. -/
def State.statusOwn (s : State) : State × CmdRes := (s, .reply stOk s.statusBytes)

/-- GET_STATUS. -/
def execGetStatus (p : CmdPkt) (s : State) : Out := .next (s.command 0x02 p State.statusOwn)

/-- The own part of READY_MAP. -/
def State.readyOwn (s : State) : State × CmdRes := (s, .reply stOk s.readyBytes)

/-- READY_MAP. -/
def execReadyMap (p : CmdPkt) (s : State) : Out := .next (s.command 0x03 p State.readyOwn)

/-! ### Queues (R491) -/

/-- A ring lies wholly within one LOCAL allocation. -/
def State.ringOk (s : State) (base logn : Nat) : Bool :=
  s.cirrus.allocs.any (fun x => x.2.kind = .loc && x.1 * pageSize ≤ base &&
    base + 128 * 2 ^ logn ≤ (x.1 + x.2.npages) * pageSize)

/-- The own checks of QUEUE_CREATE. -/
def State.createOwn (s : State) (p : CmdPkt) : State × CmdRes :=
  let q := p.f 0 1
  let logn := p.f 1 1
  let base := p.f 8 8
  if p.f 2 6 ≠ 0 || 63 < q || logn < 4 || 12 < logn || base % 4096 ≠ 0 || !s.ringOk base logn then
    (s, .st stRange)
  else if (s.queue? q).isSome then (s, .st stState)
  else (s.setQueue q { logn := logn, base := base }, .st stOk)

/-- QUEUE_CREATE. -/
def execQueueCreate (p : CmdPkt) (s : State) : Out := .next (s.command 0x40 p (fun s => s.createOwn p))

/-- The own checks of QUEUE_DESTROY; entries that have started run on. -/
def State.destroyOwn (s : State) (p : CmdPkt) : State × CmdRes :=
  let q := p.f 0 1
  if p.f 1 7 ≠ 0 || 63 < q then (s, .st stRange)
  else if (s.queue? q).isNone then (s, .st stState)
  else ({ s with disp := { s.disp with queues := s.disp.queues.erase q } }.examine, .st stOk)

/-- QUEUE_DESTROY. -/
def execQueueDestroy (p : CmdPkt) (s : State) : Out := .next (s.command 0x41 p (fun s => s.destroyOwn p))

/-! ### Snapshots and checkpoints (R431, R434, R437, R446, R495) -/

/-- The own part of SNAPSHOT: a beacon with SRC 0 starts, or is counted and dropped. -/
def State.snapshotOwn (s : State) : State × CmdRes :=
  if s.pilot.inflight then (s.beaconTrigger 0, .st stState) else (s.inject 0, .run false)

/-- SNAPSHOT. -/
def execSnapshot (p : CmdPkt) (s : State) : Out := .next (s.command 0x60 p State.snapshotOwn)

/-- A snapshot set with its header (R434). -/
def State.snapSet (s : State) (src n : Nat) : List Word :=
  let ws := s.beacon.sets.getD src (List.replicate n 0)
  wordOf (s.pilot.snapId.toNat * 65536 + 32768 * b2n (s.hasLatched src) + n) :: ws

/-- The own checks of READ_SNAPSHOT. -/
def State.readSnapOwn (s : State) (p : CmdPkt) : State × CmdRes :=
  let src := p.f 0 2
  let off := p.f 2 2
  let count := p.f 4 2
  match (blkOfSrc src).bind setLength with
  | none => (s, .st stRange)
  | some n =>
    if p.f 6 2 ≠ 0 || count = 0 || 1000 < count || n + 1 < off + count then (s, .st stRange)
    else (s, .reply stOk (beBytes 8 s.pilot.injStamp.toNat ++ beBytes 8 s.pilot.compStamp.toNat ++
      (((s.snapSet src n).drop off).take count).flatMap (fun w => beBytes 4 w.toNat)))

/-- READ_SNAPSHOT. -/
def execReadSnapshot (p : CmdPkt) (s : State) : Out := .next (s.command 0x61 p (fun s => s.readSnapOwn p))

/-- A counter field with EN in [15] and zeros in [14:12]. -/
def evtOk (v : Nat) : Bool := natField v 12 3 = 0

/-- Check 2 of R437. -/
def ckRangeOk (p : CmdPkt) : Bool :=
  let d := p.f 6 1
  p.f 0 2 ≤ 4095 && evtOk (p.f 2 2) && evtOk (p.f 4 2) && 1 ≤ d && d ≤ 4 && p.f 7 1 = 0 &&
    (List.range d).all (fun i => p.f (17 + 32 * i) 7 = 0) &&
    (ckDests p).all (fun x => x.ep ≤ 63 && x.dbase % 4096 = 0 && x.mbase % 4096 = 0)

/-- The own checks of CHECKPOINT; it then waits for its counter (R438). -/
def State.checkpointOwn (s : State) (p : CmdPkt) : State × CmdRes :=
  let d := p.f 6 1
  let n := s.ckPages.length
  if !ckRangeOk p then (s, .st stRange)
  else if s.cirrus.active || (ckDests p).any (fun x => (s.con (hostCid x.ep)).st ≠ .opened) then
    (s, .st stState)
  else if (ckDests p).any (fun x => x.dlen < (n + d - 1) / d * 0x202000) then (s, .st stNoResource)
  else ({ s with cirrus := { s.cirrus with ckerr := false } }, .run true)

/-- CHECKPOINT. -/
def execCheckpoint (p : CmdPkt) (s : State) : Out := .next (s.command 0x62 p (fun s => s.checkpointOwn p))

/-- Every field of RESTORE lies within its range. -/
def restoreRangeOk (p : CmdPkt) : Bool :=
  let d := p.f 1 1
  p.f 0 1 ≤ 63 && 1 ≤ d && d ≤ 4 && p.f 2 6 = 0 && p.f 8 8 % 4096 = 0 && p.f 0x10 8 ≤ 0x1000000 &&
    (List.range d).all (fun i => p.f (0x58 + 16 * i) 1 ≤ 63 && p.f (0x59 + 16 * i) 7 = 0 &&
      p.f (0x60 + 16 * i) 8 % 4096 = 0)

/-- The own checks of RESTORE; zenith then starts no kernel (R447). -/
def State.restoreOwn (s : State) (p : CmdPkt) : State × CmdRes :=
  if !restoreRangeOk p then (s, .st stRange)
  else if s.lans.any (fun x => x.2.gang.isSome) || s.cirrus.active then (s, .st stState)
  else ({ s with disp := { s.disp with hold := true }, pilot := { s.pilot with restore := some {} } }, .run false)

/-- What RESTORE does once it has been accepted: it reads its manifest. -/
def State.restoreBegins (s : State) (p : CmdPkt) : State :=
  (s.askParts (p.f 0 1) (p.f 8 8) (p.f 0x10 8) true).restorePump

/-- RESTORE. -/
def execRestore (p : CmdPkt) (s : State) : Out :=
  .next (s.commandThen 0x63 p (fun s => s.restoreOwn p) (fun s => s.restoreBegins p))

/-! ### QUARANTINE (R94, R376, R492) -/

/-- The own checks of QUARANTINE. -/
def State.quarantineOwn (s : State) (p : CmdPkt) : State × CmdRes :=
  let kind := p.f 0 1
  let m := p.f 1 1
  let n := p.f 2 2
  let l := s.lan n
  let done := if kind = 0 then s.pilot.quars.contains n || l.svc.noSpare else (l.arr m).quar || (l.arr m).quarReq
  if 255 < n || 7 < m || 1 < kind then (s, .st stRange)
  else if done then (s, .st stState)
  else if l.claimed then (s, .st stMaint)
  else if kind = 0 then
    let s := { s with pilot := { s.pilot with quars := setIns s.pilot.quars n } }
    if !s.lanOn n then (s, .st stOk)
    else
      (((s.setLan n { l with svc := { l.svc with quarPend := true } }).setReady (readyLan n) false).examine,
        .st stOk)
  else if !s.lanOn n then (s, .st stOk)
  else (s.setLan n (l.modArr m (fun a => { a with quarReq := true })), .st stOk)

/-- QUARANTINE. -/
def execQuarantine (p : CmdPkt) (s : State) : Out := .next (s.command 0x75 p (fun s => s.quarantineOwn p))

/-! ### The error log (R406, R407, R410) -/

/-- The own checks of ERRLOG_READ. -/
def State.errReadOwn (s : State) (p : CmdPkt) : State × CmdRes :=
  let n := p.f 4 1
  if n = 0 || 63 < n || p.f 5 3 ≠ 0 then (s, .st stRange)
  else
    let rs := (s.pilot.errq.filter (fun r => p.f 0 4 ≤ r.seq)).take n
    (s, .reply stOk (beBytes 1 rs.length ++ List.replicate 3 0 ++ beBytes 4 s.errqWord.toNat ++
      rs.flatMap ErrRec.bytes))

/-- ERRLOG_READ. -/
def execErrlogRead (p : CmdPkt) (s : State) : Out := .next (s.command 0x76 p (fun s => s.errReadOwn p))

/-- Removes the records up to a SEQ; UELOST clears with the last of them. -/
def State.clearLog (s : State) (upTo : Nat) : State :=
  let q := s.pilot.errq.filter (fun r => upTo < r.seq)
  { s with pilot := { s.pilot with errq := q, uelost := if q.isEmpty then 0 else s.pilot.uelost } }

/-- The own part of ERRLOG_CLEAR. -/
def State.errClearOwn (s : State) (p : CmdPkt) : State × CmdRes :=
  let s := s.clearLog (p.f 0 4)
  (s, .reply stOk (beBytes 4 s.errqWord.toNat))

/-- ERRLOG_CLEAR. -/
def execErrlogClear (p : CmdPkt) (s : State) : Out := .next (s.command 0x77 p (fun s => s.errClearOwn p))

/-! ### Registers (R526, R527) -/

/-- Addresses that REG_READ or REG_WRITE names. -/
def regAddrs (p : CmdPkt) : List Nat := (List.range (p.f 8 2)).map (fun i => p.f 0 8 + 4 * i)

/-- A register stands at an address. -/
def hasReg (a : Nat) : Bool :=
  a % 4 = 0 && (match blkOf a with
    | some (b, off) => regExists b off
    | none => false)

/-- The block of an address has power. -/
def State.regOn (s : State) (a : Nat) : Bool :=
  match blkOf a with
  | some (b, _) => s.blkOn b
  | none => false

/-- The status of the checks of R527 on the addresses. -/
def State.regCheck (s : State) (p : CmdPkt) : Nat :=
  let n := p.f 8 2
  if n = 0 || 256 < n || p.f 10 6 ≠ 0 || !(regAddrs p).all hasReg then stRange
  else if !(regAddrs p).all s.regOn then stState
  else stOk

/-- Reads words in order (R526). -/
def State.readWords (s : State) : List Nat → State × List Word
  | [] => (s, [])
  | a :: as =>
    match blkOf a with
    | some (b, off) =>
      let (w, s) := s.regRead .pilot a b off
      let (s, ws) := s.readWords as
      (s, w :: ws)
    | none => (s, [])

/-- The own checks of REG_READ. -/
def State.regReadOwn (s : State) (p : CmdPkt) : State × CmdRes :=
  let st := s.regCheck p
  if st ≠ stOk then (s, .st st)
  else
    let (s, ws) := s.readWords (regAddrs p)
    (s, .reply stOk (ws.flatMap (fun w => beBytes 4 w.toNat)))

/-- REG_READ. -/
def execRegRead (p : CmdPkt) (s : State) : Out := .next (s.command 0x80 p (fun s => s.regReadOwn p))

/-- The own checks of REG_WRITE; words are written in ascending address order. -/
def State.regWriteOwn (s : State) (p : CmdPkt) : State × CmdRes :=
  let st := s.regCheck p
  if st ≠ stOk then (s, .st st)
  else
    ((List.range (p.f 8 2)).foldl (fun s i =>
      s.pilotWrite (p.f 0 8 + 4 * i) (BitVec.ofNat 32 (p.f (16 + 4 * i) 4))) s, .st stOk)

/-- REG_WRITE. -/
def execRegWrite (p : CmdPkt) (s : State) : Out := .next (s.command 0x81 p (fun s => s.regWriteOwn p))

/-! ### Power (R31, R33, R494, R566) -/

/-- A lantern's bring-up has ended: it is ready or has failed (R552). -/
def LanSvc.ended (v : LanSvc) : Bool := (v.wasReady || v.failed) && !v.testing

/-- A domain can be switched off: none of its blocks has EN = 1, and its bring-up has ended. -/
def State.mayOff (s : State) (d : Nat) : Bool :=
  s.powered d &&
    if d < 16 then (List.range 16).all (fun i =>
      let v := (s.lan (16 * d + i)).svc
      !v.en && v.ended)
    else (List.range 32).all (fun i =>
      let c := s.ch (32 * (d - 20) + i)
      !c.en && c.maint ≠ 1#3)

/-- The tile of a quadrant or stack domain. -/
def domTile (d : Nat) : Nat := if d < 16 then d / 4 else (d - 20) / 2

/-- A domain has been switched on and has no power yet. -/
def State.comesUp (s : State) (d : Nat) : Bool := s.start.eligible.contains d || s.start.switched.contains d

/-- The own checks of POWER_DOMAIN (R566). -/
def State.powerOwn (s : State) (p : CmdPkt) : State × CmdRes :=
  let d := p.f 0 1
  let on := p.f 1 1
  let leaf := d < 16 || (20 ≤ d && d < 28)
  if p.f 2 2 ≠ 0 || 29 < d || 1 < on then (s, .st stRange)
  else if s.pwr.shut then (s, .st stState)
  else if on = 0 && !leaf then (s, .st stRange)
  else if (if on = 1 then s.powered d else !s.powered d && !s.comesUp d) then (s, .st stOk)
  else if on = 1 then
    if leaf && !s.isReady (readyTc (domTile d)) then (s, .st stState)
    else ({ s with start := { s.start with deadDoms := setDel s.start.deadDoms d } }.addEligible [d], .run false)
  else if s.mayOff d then (s.offDomain d, .st stOk)
  else (s, .st stState)

/-- POWER_DOMAIN. -/
def execPowerDomain (p : CmdPkt) (s : State) : Out := .next (s.command 0xA0 p (fun s => s.powerOwn p))

/-- The own checks of SET_OPERATING_POINT (R31): the setpoints are used at the next evaluation (R35). -/
def State.pointOwn (s : State) (p : CmdPkt) : State × CmdRes :=
  let mv := (List.range 16).map (fun q => p.f (2 * q) 2)
  if mv.all (fun v => 650 ≤ v && v ≤ 800 && v % 5 = 0) then
    ({ s with pwr := { s.pwr with setMv := (List.range 16).map (fun q => (q, p.f (2 * q) 2)) } }, .st stOk)
  else (s, .st stRange)

/-- SET_OPERATING_POINT. -/
def execSetOperatingPoint (p : CmdPkt) (s : State) : Out := .next (s.command 0xA1 p (fun s => s.pointOwn p))

/-- The own checks of SET_POWER_CAP (R33). -/
def State.capOwn (s : State) (p : CmdPkt) : State × CmdRes :=
  let w := p.f 0 2
  if 1200 ≤ w && w ≤ 2800 && p.f 2 2 = 0 then ({ s with pwr := { s.pwr with capW := w } }, .st stOk)
  else (s, .st stRange)

/-- SET_POWER_CAP. -/
def execSetPowerCap (p : CmdPkt) (s : State) : Out := .next (s.command 0xA2 p (fun s => s.capOwn p))

/-! ### RESET (R496) -/

/-- The own checks of RESET. -/
def State.resetOwn (s : State) (p : CmdPkt) : State × CmdRes :=
  (s, .st (if p.f 0 4 = 0 then stOk else stRange))

/-- RESET: the device resets 1 ms after the reply, 100,000 edges of the slow clock. -/
def execReset (p : CmdPkt) (s : State) : Out :=
  .next (s.commandThen 0xF0 p (fun s => s.resetOwn p) (fun s =>
    { s with pilot := { s.pilot with resetIn := some 100000 } }))

/-! ### The end of a command -/

/-- The DEADLINE of the command in progress has passed on the slow clock (R483). -/
def State.deadlinePast (s : State) (b : Busy) : Bool :=
  b.pkt.deadline.toNat * 100000 ≤ (s.pilot.stamp - b.since).toNat

/-- DEADLINE_EXPIRY (R483): a command in its wait phase is abandoned; a handshake that it began ends. -/
def execDeadlineExpiry (s : State) : Out :=
  .next (match s.pilot.busy with
    | some b =>
      if !b.waiting || !s.deadlinePast b then s
      else
        let cid := b.pkt.f 0 2
        let s := if b.opcode = 0x11 && (match (s.con cid).hs with
            | some h => h.initiator
            | none => false) then s.dropHs cid else s
        s.finish stDeadline []
    | none => s)

/-- A command that its own meaning has judged again. -/
def State.endOrWait (r : State × CmdRes) : State :=
  match r with
  | (s, .reply st rs) => s.finish st rs
  | (s, .run _) => s

/-- RESTORE ends with its status; dispatch goes on (R447). -/
def State.restoreEnds (s : State) : State :=
  let s := s.restorePump
  match s.pilot.restore with
  | some r =>
    match r.result with
    | some st =>
      let s := { s with disp := { s.disp with hold := false } }.unholdAll
      (s.finish st (if st = stAuth && r.verified then beBytes 4 r.written else [])).examine
    | none => s
  | none => s

/-- LOAD_DECODE_TABLE ends: the bundle is installed, or a bundle that was not there is read again. -/
def State.tableEnds (s : State) (p : CmdPkt) : State :=
  if s.pilot.object.isEmpty then State.endOrWait (s.loadTableOwn p)
  else (s.installBundle s.pilot.object).finish stOk []

/-- What a command has claimed is given back when a pilot fault ends it. -/
def State.dropClaims (s : State) (b : Busy) : State :=
  let ch := b.pkt.f 0 2
  let s := if [0x71, 0x72, 0xB0].contains b.opcode then s.modCh ch (fun d => { d with maint := 0 }) else s
  let s := { s with disp := { s.disp with hold := false } }
  s.unholdAll.examine

/-- A pilot fault ends the command with INTERNAL and CMD_INTERNAL (R405, R497). -/
def State.pilotFault (s : State) (b : Busy) : State :=
  ((s.dropClaims b).record { src := 0, cls := clsInfo, code := 0x0417, aux := b.opcode + b.pkt.ep * 65536 }).finish
    stInternal []

/-- The end of the work of each opcode. -/
def State.workEnds (s : State) (b : Busy) (x : CompleteIn) : State :=
  let p := b.pkt
  match b.opcode with
  | 0x13 => State.endOrWait (s.loadListOwn p)
  | 0x20 => State.endOrWait (s.stageEnds p)
  | 0x21 => s.commitEnds
  | 0x31 => s.freeGoesOn p
  | 0x32 => s.strengthEnds p
  | 0x63 => s.restoreEnds
  | 0x70 => s.retirePageEnds p x.ueUnits
  | 0x71 => s.retireBankEnds p x.ueUnits
  | 0x72 => s.mapOutEnds p x.ueUnits
  | 0x90 => s.tableEnds p
  | 0xB0 => s.marginEnds p x.pins
  | _ => s

/-- A command that moves granules has engines for every page that it moves (R533). -/
def State.movesGo (s : State) (b : Busy) : Bool :=
  (b.opcode ≠ 0x70 && b.opcode ≠ 0x71 && b.opcode ≠ 0x72) || s.cirrus.moving.all s.cirGoes

/-- COMMAND_COMPLETED (R476). -/
def execCommandCompleted (x : CompleteIn) (s : State) : Out :=
  .next (match s.pilot.busy with
    | some b =>
      if b.waiting then s
      else if x.pilotFault then s.pilotFault b
      else if s.movesGo b then s.workEnds b x else s
    | none => s)

end Sys2Proof.Machine
end

