-- ==== Sys2Proof/Machine/Micro.lean ====
section
/-!
DEFINITION. Micro.lean: customer instructions: slots, staged state, micro-operations, commit and
events (R280 to R290).
-/

namespace Sys2Proof.Machine

open Sys2Proof

/-- The staged state of a routine (R282): `k` holds staged A, X, Y, CNT, SRC, DST and FLAGS. -/
structure Uc where
  s : State
  k : Wick
  t : Tab Dword
  opv : Dword
  ea : Dword
  fxs : Exc
  /-- Staged stores, oldest first: space, address, bytes. -/
  sts : List (Bool × Dword × List Byte)
  deriving DecidableEq, Repr

/-- A micro-register (R282). -/
def Uc.get (u : Uc) (c : Nat) : Dword :=
  match c with
  | 0 => u.k.a
  | 1 => u.k.x
  | 2 => u.k.y
  | 3 => u.k.cnt
  | 4 => u.k.src
  | 5 => u.k.dst
  | 6 => u.opv
  | 7 => u.ea
  | _ => u.t.getD c 0

/-- Writes a micro-register; OPV and EA are read only. -/
def Uc.put (u : Uc) (c : Nat) (v : Dword) : Uc :=
  match c with
  | 0 => { u with k := { u.k with a := v } }
  | 1 => { u with k := { u.k with x := v } }
  | 2 => { u with k := { u.k with y := v } }
  | 3 => { u with k := { u.k with cnt := v } }
  | 4 => { u with k := { u.k with src := v } }
  | 5 => { u with k := { u.k with dst := v } }
  | 6 => u
  | 7 => u
  | _ => { u with t := u.t.putD c v 0 }

/-- Writes a result, and FLAGS where S = 1. -/
def Uc.res (u : Uc) (sf : Bool) (rd : Nat) (v : Dword) (f : BitVec 4) : Uc :=
  let u := u.put rd v
  if sf then { u with k := { u.k with flags := f } } else u

/-- The slot's entry. -/
def Lantern.ucEntry (l : Lantern) (slot : Nat) : Nat := (l.ucslots.getD slot 0).toNat

/-- Cause 0x50: FCODE and SLOT, SADDR naming the instruction and SELEM the micro-operation
(R288, R290). -/
def State.ucFault {α : Type} (s : State) (n slot code i : Nat) : Run α :=
  .error (.trap (s.modLan n (fun l => { l with
    ucFcode := BitVec.ofNat 8 code, ucSlot := BitVec.ofNat 5 slot })) 0x50 (s.lan n).wick.pc i)

/-- The record UC_ERR (R290). The failing bank and row are not fixed by the spec. -/
def State.ucRecord (s : State) (n code : Nat) : State :=
  let (d, s) := s.draw
  if code = 1 then
    s.record { src := readyLan n, cls := clsUe, code := 0x0206, lockind := 4, aux := code
               loc := s.locSram n 7 (natField d.toNat 0 8) (natField d.toNat 8 16) }
  else s.record { src := readyLan n, cls := clsUe, code := 0x0206, aux := code }

/-- An event or wait of a micro-operation: SELEM is its index, and a page that stalls it is
held (R287, R288). -/
def ucAbort (i : Nat) : Abort → Abort
  | .trap s c a _ => .trap s c a i
  | .wait s (.page v sp w _) => .wait s (.page v sp w true)
  | .wait s w => .wait s w

/-- Gives an abort the index of its micro-operation. -/
def ucAt {α : Type} (i : Nat) (r : Run α) : Run α :=
  match r with
  | .ok v => .ok v
  | .error e => .error (ucAbort i e)

/-- LD: user-mode checks, then the youngest staged store that overlaps, then memory (R285). -/
def Uc.load (u : Uc) (n slot i : Nat) (dv : Bool) (a : Dword) (len : Nat) : Run (List Byte × Uc) :=
  match ucAt i (u.s.reach n dv false false a len) with
  | .error e => .error e
  | .ok s =>
    let u := { u with s := s }
    match u.sts.reverse.find? (fun e => e.1 = dv && overlap e.2.1.toNat e.2.2.length a.toNat len) with
    | some e =>
      if e.2.1.toNat ≤ a.toNat && a.toNat + len ≤ e.2.1.toNat + e.2.2.length then
        .ok ((e.2.2.drop (a.toNat - e.2.1.toNat)).take len, u)
      else s.ucFault n slot 3 i
    | none =>
      match ucAt i (s.readBuffered n dv a len) with
      | .error e => .error e
      | .ok r => .ok (r.1, { u with s := r.2 })

/-- ST: user-mode checks; the bytes are staged. -/
def Uc.store (u : Uc) (n i : Nat) (dv : Bool) (a : Dword) (bs : List Byte) : Run Uc :=
  match ucAt i (u.s.reach n dv false true a bs.length) with
  | .error e => .error e
  | .ok s => .ok { u with s := s, sts := u.sts ++ [(dv, a, bs)] }

/-- A floating-point result at SZ; an FP32 result has bits [63:32] zero (R233). -/
def Uc.fp (u : Uc) (rd : Nat) (r : Nat × Exc) : Uc :=
  { u.put rd (BitVec.ofNat 64 r.1) with fxs := u.fxs ||| r.2 }

/-- A listed micro-operation other than SKIP and END, whose UCOND holds (R283). -/
def Uc.micro (u : Uc) (n slot i w : Nat) : Run Uc :=
  let rd := natField w 50 4
  let a := u.get (natField w 46 4)
  let b := u.get (natField w 42 4)
  let sf := natBit w 41
  let dv := natBit w 40
  let sz := natField w 38 2
  let len := 2 ^ sz
  let imm : Dword := (BitVec.ofNat 32 w).signExtend 64
  let old := u.k.flags
  let nz (v : Dword) : Run Uc := .ok (u.res sf rd v (flagsNZ old v))
  let shift (f : ShiftOp) : Run Uc :=
    let c := b.toNat % 64
    let v := (shiftOut f a c).1
    .ok (u.res sf rd v (flagsNZC old v (shiftC f a c old)))
  let code := if sz = 3 then 0 else 1
  let m : Nat := if sz = 3 then 2 ^ 64 else 2 ^ 32
  let ctx := u.k.fctx
  match natField w 58 6 with
  | 0x01 => nz a
  | 0x02 => nz imm
  | 0x03 => let r := addFlags a b false; .ok (u.res sf rd r.1 r.2)
  | 0x04 => let r := addFlags a imm false; .ok (u.res sf rd r.1 r.2)
  | 0x05 => let r := subFlags a b false; .ok (u.res sf rd r.1 r.2)
  | 0x06 => nz (a &&& b)
  | 0x07 => nz (a ||| b)
  | 0x08 => nz (a ^^^ b)
  | 0x09 => shift .shl
  | 0x0A => shift .shr
  | 0x0B => shift .sra
  | 0x0C => nz (a * b)
  | 0x0D => nz (mulHigh false a b)
  | 0x0E => nz (BitVec.ofNat 64 (leadZeros a))
  | 0x0F => nz (BitVec.ofNat 64 (popCount a))
  | 0x10 =>
    match u.load n slot i dv (a + imm) len with
    | .ok (bs, u) => .ok (u.put rd (BitVec.ofNat 64 (leNat bs)))
    | .error e => .error e
  | 0x11 => u.store n i dv (a + imm) (leBytes len b.toNat)
  | 0x18 => .ok (u.fp rd (opAdd ctx code (a.toNat % m) (b.toNat % m)))
  | 0x19 => .ok (u.fp rd (opSub ctx code (a.toNat % m) (b.toNat % m)))
  | 0x1A => .ok (u.fp rd (opMul ctx code (a.toNat % m) (b.toNat % m)))
  | 0x1B => .ok (u.fp rd (opFma ctx code false false (a.toNat % m) (b.toNat % m) ((u.get rd).toNat % m)))
  | _ => .ok u

/-- How a routine leaves its last micro-operation. -/
inductive UcEnd where
  /-- END commits. -/
  | commit (u : Uc)
  /-- A pending event discards the staged state (R289). -/
  | discard
  deriving DecidableEq, Repr

/-- Runs micro-operations in order (R284): `skip` words are passed over. -/
def ucGo (n slot : Nat) (z : UcUpset) (cuts : Bool) : List (Nat × Nat) → Nat → Uc → Run UcEnd
  | [], _, u => .ok (.commit u)
  | _ :: t, k + 1, u => ucGo n slot z cuts t k u
  | (i, w) :: t, 0, u =>
    if cuts && z.cut = some i && i ≠ 0 && u.s.entryDue n then .ok .discard
    else if z.badWord = some i then (u.s.ucRecord n 1).ucFault n slot 1 i
    else if condTrue (BitVec.ofNat 4 (natField w 54 4)) u.k.flags then
      match natField w 58 6 with
      | 0x3F => .ok (.commit u)
      | 0x20 => ucGo n slot z cuts t (natField w 0 32) u
      | _ =>
        match u.micro n slot i w with
        | .ok u => ucGo n slot z cuts t 0 u
        | .error e => .error e
    else ucGo n slot z cuts t 0 u

/-- END (R286): staged registers, stores, exceptions; ABORTS clears. -/
def State.ucCommit (s : State) (n : Nat) (w : BaseWord) (u : Uc) : Run State := do
  let s ← s.enterStores n (u.sts.flatMap (fun e => sbEntries (!e.1) e.2.1 e.2.2))
  let s := s.modLan n (fun l => { l with
    ucAborts := 0
    wick := { l.wick with
      a := u.k.a, x := u.k.x, y := u.k.y, cnt := u.k.cnt, src := u.k.src, dst := u.k.dst
      flags := if w.s then u.k.flags else l.wick.flags } })
  .ok (s.fpComplete n w.len u.fxs)

/-- OPV and EA of the base instruction (R282). -/
def State.ucOperand (s : State) (n : Nat) (w : BaseWord) : Run (Dword × Dword) :=
  match operandOf (s.lan n).wick w with
  | some .imm => .ok (w.simm, 0)
  | some (.reg c) =>
    match s.readReg n c with
    | .ok v => .ok (v, 0)
    | .error e => .error e
  | some (.mem _ a) => .ok (0, a)
  | none => s.illegal n 0x21

/-- CUSTOMER_INSTRUCTION. A slot of which no two copies agree raises 0x50 at every use until it is written
again (R290). -/
def execCustomerInstruction (n : Nat) (slot : BitVec 5) (w : BaseWord) (z : UcUpset) (s : State) : Out :=
  s.runWick n w.len w.cond (fun s => do
    let l := s.lan n
    let k := l.wick
    if k.sup then s.illegal n 0x22
    else if z.badSlot || l.ucBad.contains slot.toNat then
      ((s.ucRecord n 2).modLan n (fun l => { l with ucBad := setIns l.ucBad slot.toNat })).ucFault n slot.toNat 2 0
    else
      let e := l.ucEntry slot.toNat
      s.need n (entValid e && natBit (entAm e) w.am.toNat)
      let (opv, ea) ← s.ucOperand n w
      let len := entLen e + 1
      let ws := (List.range len).map (fun i => (i, (l.ucstore.getD (entStart e + i) 0).toNat))
      let u : Uc := { s := s, k := k, t := [], opv := opv, ea := ea, fxs := 0, sts := [] }
      match ucGo n slot.toNat z (len > 64 && l.ucAborts < 4) ws 0 u with
      | .error e => .error e
      | .ok (.commit u) => u.s.ucCommit n w u
      | .ok .discard =>
        .ok ((s.modLan n (fun l => { l with ucAborts := min 4 (l.ucAborts + 1) })).boundaryEvent n))

end Sys2Proof.Machine
end

