-- ==== Sys2Proof/Machine/Work.lean ====
section
/-!
DEFINITION. Work.lean: zenith's starts of kernels and copies, what a copy entry moves, its
completion and its fault, and the commands on queues, halts and event counters (R360 to R385).
-/

namespace Sys2Proof.Machine

open Sys2Proof

/-! ### Kernel start (R197, R151, R372) -/

/-- The wick's registers as a kernel of gang size `g` finds them at rank `r` (R197, R151, R274). -/
def startWick (l : Lantern) (e : List Byte) (g r : Nat) : Wick :=
  { a := BitVec.ofNat 64 g
    x := BitVec.ofNat 64 (entF e 0x48 8)
    y := BitVec.ofNat 64 r
    sp := BitVec.ofNat 64 (l.lsguard.toNat * 65536)
    ssp := 0x400000
    pc := pcMask (BitVec.ofNat 64 (entF e 0x40 8))
    sstk := l.sslim.setWidth 64
    vew := 3 }

/-- A lantern prepared for a kernel and released (R151, R197, R213, R224, R273, R288, R372, R470). -/
def Lantern.start (l : Lantern) (e : List Byte) (id g r : Nat) : Lantern :=
  { l with
    wick := startWick l e g r
    run := .running, wait := .none, rep := none
    entered := false, pins := []
    defNan := false, defFx := none, defRf := none, fxRep := [], nanQ := [], nanLate := []
    gang := some id, rank := r, gsize := g
    enSvc := false, enBeat := false, enMsg := false, pendSvc := false, pendBeat := false
    refused := 0, fifo := [], out := none
    cl := 0, busy1 := false, busy2 := false, busy3 := false
    sv1 := {}, sv2 := {}, sv3 := {}
    ucFcode := 0, ucSlot := 0, ucAborts := 0
    xrq := {}
    v := [], p := [(0, BitVec.allOnes 8192)]
    resv := none
    arrs := l.arrs.map (fun p => (p.1, { p.2 with slots := [], shadow := [] }))
    icache := [], lineBuf := [] }

/-- The head of queue `q`, a kernel, starts on its lanterns (R365, R372). -/
def State.startKernel (s : State) (q : Nat) (idx : Half) (e : List Byte) (ms : List Nat) : State :=
  let id := s.disp.nextGang
  let g : Gang := {
    id := id, q := q, idx := idx, members := ms, finished := []
    cevtEn := entCevtEn e, cevt := entCevt e, cadd := entCadd e
    wdlimit := BitVec.ofNat 64 (entF e 0x50 8), tag := BitVec.ofNat 64 (entF e 0x58 8) }
  let s := s.headStarts q
  let s := { s with disp := { s.disp with gangs := s.disp.gangs ++ [g], nextGang := id + 1 } }
  ((ms.zip (List.range ms.length)).foldl (fun s p =>
    s.modLan p.1 (fun l => l.start e id ms.length p.2)) s).examine

/-- KERNEL_START (R368 to R372). -/
def execKernelStart (s : State) : Out :=
  .next (if !s.tc0On then s else
    let s := s.examine
    match s.nextHead with
    | none => s
    | some q =>
      match s.queue? q with
      | none => s
      | some v =>
        let e := v.entry
        if entKind e ≠ 0 then s
        else match s.placeGang (entAff e) (entGang e) with
          | some ms => s.startKernel q v.head e ms
          | none => s)

/-! ### What a copy entry moves (R379, R381) -/

/-- One run of bytes: destination, source, length. -/
structure CopyRun where
  dst : Nat
  src : Nat
  len : Nat
  deriving DecidableEq, Repr

/-- Planes and rows in ascending order. -/
def planeRows (d : CopyDesc) : List (Nat × Nat) :=
  (List.range d.n2).flatMap (fun i2 => (List.range d.n1).map (fun i1 => (i2, i1)))

/-- The runs of COPY, row by row. -/
def copyRuns (d : CopyDesc) : List CopyRun :=
  (planeRows d).map (fun p =>
    { dst := (rowAt d.dst d.ds1 d.ds2 p.2 p.1).toNat
      src := (rowAt d.src d.ss1 d.ss2 p.2 p.1).toNat
      len := d.n0 })

/-- The runs of TRANSPOSE: elements, by plane and by blocks of 32 rows and columns. -/
def transposeRuns (d : CopyDesc) : List CopyRun :=
  (List.range d.n2).flatMap (fun i2 =>
    (List.range (d.n1 / 32)).flatMap (fun br => (List.range (d.n0 / 32)).flatMap (fun bc =>
      (natRange (32 * br) (32 * br + 32)).flatMap (fun (r : Nat) =>
        (natRange (32 * bc) (32 * bc + 32)).map (fun (c : Nat) =>
          { dst := (rowAt d.dst d.ds1 d.ds2 c i2 + r * d.esz).toNat
            src := (rowAt d.src d.ss1 d.ss2 r i2 + c * d.esz).toNat
            len := d.esz })))))

/-- The runs of an entry that has bytes to write. -/
def CopyDesc.runs (d : CopyDesc) : List CopyRun :=
  if d.op = 0 || d.op = 2 then copyRuns d else if d.op = 1 then transposeRuns d else []

/-- A byte lies in a run that starts at `base`. -/
def inRun (base len a : Nat) : Bool := base ≤ a && a < base + len

/-- The source byte of a destination byte; the last run that writes it counts. -/
def runSrc (rs : List CopyRun) (a : Nat) : Option Nat :=
  (rs.reverse.find? (fun r => inRun r.dst r.len a)).map (fun r => r.src + (a - r.dst))

/-- The value that a byte holds after the entry: where its source is itself written by the entry, the
old or the new value of the source, as `new` says for the byte (R381). The first argument bounds a
chain of sources. -/
def runByte (rs : List CopyRun) (old : Nat → Byte) (new : Nat → Bool) : Nat → Nat → Byte
  | 0, a => old a
  | k + 1, a =>
    match runSrc rs a with
    | none => old a
    | some x => if (runSrc rs x).isSome && new a then runByte rs old new k x else old x

/-- A byte of device memory lies in a poisoned unit. -/
def State.byteBad (s : State) (va : Nat) : Bool := (s.dvPoison? va 1).isSome

/-- Adds an interval to disjoint intervals in ascending order; those that it meets or touches become one with
it. -/
def addIv : List (Nat × Nat) → Nat → Nat → List (Nat × Nat)
  | [], lo, hi => [(lo, hi)]
  | (a, b) :: t, lo, hi =>
    if hi < a then (lo, hi) :: (a, b) :: t
    else if b < lo then (a, b) :: addIv t lo hi
    else addIv t (min a lo) (max b hi)

/-- The destinations of runs as disjoint intervals, so that a line that several runs cover is written whole
(R327, R379). -/
def runSpans (rs : List CopyRun) : List (Nat × Nat) :=
  rs.foldl (fun t r => addIv t r.dst (r.dst + r.len)) []

/-- The bytes of runs are moved by engine `e`, poisoned where a unit of their source is (R381, R390). Where no
destination byte is a source byte, each ends with the value of its source; otherwise which value it gets is
left open for each byte. -/
def State.moveRuns (s : State) (e : Nat) (stream : Bool) (rs : List CopyRun) : State :=
  let c := s.freeCtr
  let total := rs.foldl (fun n r => n + r.len) 0
  let old := fun (a : Nat) => (s.dvRead a 1).headD 0
  let new := fun (a : Nat) => (Config.freeWord (c + a)).getLsbD 0
  let bad := fun (u : Nat) => (List.range 64).any (fun i => match runSrc rs (64 * u + i) with
    | some x => s.byteBad x
    | none => false)
  let s' := rs.foldl (fun t r => t.dvLoadLines r.src r.len stream) s
  let s' := (runSpans rs).foldl (fun t p =>
    t.dvStoreK (.engine e) (wholeKind stream) p.1
      ((List.range (p.2 - p.1)).map (fun i => runByte rs old new total (p.1 + i))) bad) s'
  { s' with freeCtr := c + dvEnd }

/-- Zeros are written over the destinations of runs: whole lines by the zero-line operation (R328, R379). -/
def State.zeroRuns (s : State) (e : Nat) (rs : List CopyRun) : State :=
  (runSpans rs).foldl (fun s p =>
    s.dvStoreK (.engine e) (fun whole => if whole then .zeroLine else .write) p.1
      (List.replicate (p.2 - p.1) 0) (fun _ => false)) s

/-- The bytes of an entry's first runs are written. -/
def State.writeRuns (s : State) (e : Nat) (d : CopyDesc) (rs : List CopyRun) : State :=
  if d.op = 2 then s.zeroRuns e rs else s.moveRuns e d.stream rs

/-- What a copy meets on its way through its runs. -/
inductive CopyRes where
  | ok
  | stall
  /-- The access of run `k` at this address is unmapped; `done` bytes of the run precede it. -/
  | unmapped (k done va : Nat)
  deriving DecidableEq, Repr

/-- Touches the source and the destination of each run in order (R381). -/
def State.touchRuns (s : State) (e : Nat) (zero : Bool) : Nat → List CopyRun → State × CopyRes
  | _, [] => (s, .ok)
  | k, r :: rs =>
    match (if zero then (s, RangeRes.ok) else s.touchRange (.engine e) false (pieces r.src r.len)) with
    | (s, .unmapped va) => (s, .unmapped k (max va r.src - r.src) va)
    | (s, .stall _) => (s, .stall)
    | (s, .ok) =>
      match s.touchRange (.engine e) true (pieces r.dst r.len) with
      | (s, .unmapped va) => (s, .unmapped k (max va r.dst - r.dst) va)
      | (s, .stall _) => (s, .stall)
      | (s, .ok) => s.touchRuns e zero (k + 1) rs

/-- PREFETCH and PREFETCH_W ask for every page of the range (R379). -/
def State.prefetch (s : State) (e : Nat) (d : CopyDesc) : State × CopyRes :=
  (pieces d.src d.n0).foldl (fun acc p =>
    match acc.1.touch (.engine e) p.1 (decide (d.op = 4)) with
    | (s, .ok _) => (s, acc.2)
    | (s, .stall) => (s, if acc.2 = .ok then .stall else acc.2)
    | (s, .unmapped) => (s, match acc.2 with
      | .unmapped k n va => .unmapped k n va
      | _ => .unmapped 0 0 p.1)) (s, .ok)

/-- Makes the pages of an entry resident, as far as they can be (R379, R381). -/
def State.touchCopy (s : State) (e : Nat) (d : CopyDesc) : State × CopyRes :=
  if d.op = 3 || d.op = 4 then s.prefetch e d else s.touchRuns e (decide (d.op = 2)) 0 d.runs

/-- An engine gives up its entry. -/
def Engine.release (v : Engine) : Engine := { v with busy := false, written := false, payload := [] }

/-- COPY_ENTRY_START (R365, R368, R377). -/
def execCopyEntryStart (s : State) : Out :=
  .next (if !s.tc0On then s else
    let s := s.examine
    match s.nextHead with
    | none => s
    | some q =>
      match s.queue? q with
      | none => s
      | some v =>
        let e := v.entry
        if entKind e ≠ 1 then s
        else match s.placeCopy (entAff e) with
          | some k =>
            ((s.headStarts q).modEng k (fun x => { x with
              busy := true, q := q, idx := v.head, payload := e.drop 0x40
              cevtEn := entCevtEn e, cevt := entCevt e, cadd := entCadd e })).examine
          | none => s)

/-- Bytes of runs. -/
def runBytes (rs : List CopyRun) : Nat := rs.foldl (fun n r => n + r.len) 0

/-- An engine writes the runs of its entry. -/
def State.copyRunsBy (s : State) (e : Nat) (d : CopyDesc) (rs : List CopyRun) : State :=
  (if rs.isEmpty then s else s.writeRuns e d rs).modEng e (fun x =>
    { x with written := true, bytes := x.bytes + runBytes rs })

/-- Every write of the entry of engine `e` is visible: CADD is added to CEVT, DONE increments, and the engine
is free (R382). Until then the entry is not complete. -/
def State.copyEnds (s : State) (e : Nat) : State :=
  let v := s.eng e
  if s.seenBy (.engine e) then
    (((s.modEng e Engine.release).addCevt v.cevtEn v.cevt v.cadd).addDone v.q).examine
  else s

/-- COPY_COMPLETE (R379, R381, R382). An entry that waits for a page, or whose writes are not yet visible to
every agent, is not complete. -/
def execCopyComplete (e : Nat) (s : State) : Out :=
  .next (
    let v := s.eng e
    if !v.busy then s
    else if v.written then s.copyEnds e
    else
      let d := copyDesc v.payload
      match s.touchCopy e d with
      | (s, .ok) => (s.copyRunsBy e d d.runs).copyEnds e
      | (s, _) => s)

/-- The runs before the failing access. -/
def runsBefore (rs : List CopyRun) (k done : Nat) : List CopyRun :=
  rs.take k ++ (match rs[k]? with
    | some r => if done = 0 then [] else [{ r with len := min done r.len }]
    | none => [])

/-- COPY_FAULT (R381): the entry has met an unmapped page and is aborted. -/
def execCopyFault (e : Nat) (s : State) : Out :=
  .next (
    let v := s.eng e
    if !v.busy || v.written then s
    else
      let d := copyDesc v.payload
      match s.touchCopy e d with
      | (s, .unmapped k done va) =>
        let s := (s.copyRunsBy e d (runsBefore d.runs k done)).modEng e Engine.release
        ((s.stopQueue v.q 0x06).record (queueRec 0x040C v.q v.idx.toNat va)).examine
      | (s, _) => s)

/-! ### Registers of zenith (R367, R375, R385) -/

/-- RESUME (R367). -/
def execResume (q : Nat) (s : State) : Out := .next (if s.tc0On then s.resumeQueue q else s)

/-- RELEASE (R375). -/
def execRelease (value : Word) (s : State) : Out := .next (if s.tc0On then s.releaseWrite value else s)

/-- A write to DISP.EVCMD with this OP and counter. -/
def evcmdWord (op evt : Nat) : Word := BitVec.ofNat 32 (op * 2 ^ 30 + evt % 4096)

/-- EVCMD_READ (R385). -/
def execEvcmdRead (evt : Nat) (s : State) : Out := .next (if s.tc0On then s.evcmd (evcmdWord 0 evt) else s)

/-- EVCMD_SET (R385). -/
def execEvcmdSet (evt : Nat) (s : State) : Out := .next (if s.tc0On then s.evcmd (evcmdWord 1 evt) else s)

/-- EVCMD_ADD (R385). -/
def execEvcmdAdd (evt : Nat) (s : State) : Out := .next (if s.tc0On then s.evcmd (evcmdWord 2 evt) else s)

end Sys2Proof.Machine
end

