-- ==== Sys2Proof/Machine/Dispatch.lean ====
section
/-! DEFINITION. Dispatch.lean: one arm per command, each a direct call of its meaning. -/

namespace Sys2Proof.Machine

open Sys2Proof

def exec (i : Instr) (s : State) : Host.Outcome State Fault Refusal :=
  match i with
  | .loHalfRead rq addr => Sys2Proof.Machine.execLoHalfRead rq addr s
  | .rateMeasureStart value => Sys2Proof.Machine.execRateMeasureStart value s
  | .rateMeasureEnd beats => Sys2Proof.Machine.execRateMeasureEnd beats s
  | .stallWatchdog src chan => Sys2Proof.Machine.execStallWatchdog src chan s
  | .stallRepeat src chan => Sys2Proof.Machine.execStallRepeat src chan s
  | .powerEvaluation avgW => Sys2Proof.Machine.execPowerEvaluation avgW s
  | .errorRecord recs => Sys2Proof.Machine.execErrorRecord recs s
  | .readyNotification => Sys2Proof.Machine.execReadyNotification s
  | .nanReport n k => Sys2Proof.Machine.execNanReport n k s
  | .nanRecordClear n => Sys2Proof.Machine.execNanRecordClear n s
  | .mma n w => Sys2Proof.Machine.execMma n w s
  | .mdrain n w => Sys2Proof.Machine.execMdrain n w s
  | .mfence n w => Sys2Proof.Machine.execMfence n w s
  | .mcap n w => Sys2Proof.Machine.execMcap n w s
  | .mmaShareComplete n m upsets acc => Sys2Proof.Machine.execMmaShareComplete n m upsets acc s
  | .handOff n m => Sys2Proof.Machine.execHandOff n m s
  | .tileDrain n m acc => Sys2Proof.Machine.execTileDrain n m acc s
  | .recomputeComplete n m upsets => Sys2Proof.Machine.execRecomputeComplete n m upsets s
  | .substituteShareComplete n m upsets => Sys2Proof.Machine.execSubstituteShareComplete n m upsets s
  | .patternSelftestComplete n m pass => Sys2Proof.Machine.execPatternSelftestComplete n m pass s
  | .arrayQuarantineEffect n m => Sys2Proof.Machine.execArrayQuarantineEffect n m s
  | .bypassConversion n m => Sys2Proof.Machine.execBypassConversion n m s
  | .hchain n w => Sys2Proof.Machine.execHchain n w s
  | .chainStart n => Sys2Proof.Machine.execChainStart n s
  | .chainComplete n ups => Sys2Proof.Machine.execChainComplete n ups s
  | .vsetl n w => Sys2Proof.Machine.execVsetl n w s
  | .pwhile n w => Sys2Proof.Machine.execPwhile n w s
  | .pandPorPxorPandn n f w => Sys2Proof.Machine.execPandPorPxorPandn n f w s
  | .pcnt n w => Sys2Proof.Machine.execPcnt n w s
  | .pfirst n w => Sys2Proof.Machine.execPfirst n w s
  | .vaddVsub n f w => Sys2Proof.Machine.execVaddVsub n f w s
  | .vmulVmulh n f w => Sys2Proof.Machine.execVmulVmulh n f w s
  | .vminVmaxVminuVmaxu n f w => Sys2Proof.Machine.execVminVmaxVminuVmaxu n f w s
  | .vandVorVxor n f w => Sys2Proof.Machine.execVandVorVxor n f w s
  | .vshlVshrVsra n f w => Sys2Proof.Machine.execVshlVshrVsra n f w s
  | .vfaddVfsubVfmul n f w => Sys2Proof.Machine.execVfaddVfsubVfmul n f w s
  | .vfminVfmax n f w => Sys2Proof.Machine.execVfminVfmax n f w s
  | .vfabsVfnegVfsgnj n f w => Sys2Proof.Machine.execVfabsVfnegVfsgnj n f w s
  | .vfmaVfmsVfnmaVfnms n f w => Sys2Proof.Machine.execVfmaVfmsVfnmaVfnms n f w s
  | .vfdivVfsqrt n f w => Sys2Proof.Machine.execVfdivVfsqrt n f w s
  | .vexpVrecipVrsqrtVlogi n f w => Sys2Proof.Machine.execVexpVrecipVrsqrtVlogi n f w s
  | .vcmp n f w => Sys2Proof.Machine.execVcmp n f w s
  | .vfcmp n f w => Sys2Proof.Machine.execVfcmp n f w s
  | .vcvt n w => Sys2Proof.Machine.execVcvt n w s
  | .vmxpack n w => Sys2Proof.Machine.execVmxpack n w s
  | .vmxunpack n w => Sys2Proof.Machine.execVmxunpack n w s
  | .vwmulVwmulu n f w => Sys2Proof.Machine.execVwmulVwmulu n f w s
  | .vfwmulVfwma n f w => Sys2Proof.Machine.execVfwmulVfwma n f w s
  | .vdot4Vdot2 n f w => Sys2Proof.Machine.execVdot4Vdot2 n f w s
  | .reduction n f w => Sys2Proof.Machine.execReduction n f w s
  | .vslupVsldn n f w => Sys2Proof.Machine.execVslupVsldn n f w s
  | .vperm n w => Sys2Proof.Machine.execVperm n w s
  | .vcompress n w => Sys2Proof.Machine.execVcompress n w s
  | .vmvVbcastViota n f w => Sys2Proof.Machine.execVmvVbcastViota n f w s
  | .vsel n w => Sys2Proof.Machine.execVsel n w s
  | .vfence n w => Sys2Proof.Machine.execVfence n w s
  | .vld n w => Sys2Proof.Machine.execVld n w s
  | .vst n w => Sys2Proof.Machine.execVst n w s
  | .vlds n w => Sys2Proof.Machine.execVlds n w s
  | .vsts n w => Sys2Proof.Machine.execVsts n w s
  | .vgath n w => Sys2Proof.Machine.execVgath n w s
  | .vscat n w => Sys2Proof.Machine.execVscat n w s
  | .vldseg n w => Sys2Proof.Machine.execVldseg n w s
  | .vstseg n w => Sys2Proof.Machine.execVstseg n w s
  | .fpExceptionReport n => Sys2Proof.Machine.execFpExceptionReport n s
  | .registerFileError n lg => Sys2Proof.Machine.execRegisterFileError n lg s
  | .getBGetHGetW n f w => Sys2Proof.Machine.execGetBGetHGetW n f w s
  | .getD n w => Sys2Proof.Machine.execGetD n w s
  | .getSbGetShGetSw n f w => Sys2Proof.Machine.execGetSbGetShGetSw n f w s
  | .getxGety n f w => Sys2Proof.Machine.execGetxGety n f w s
  | .seth n h w => Sys2Proof.Machine.execSeth n h w s
  | .putBPutHPutW n f w => Sys2Proof.Machine.execPutBPutHPutW n f w s
  | .putD n w => Sys2Proof.Machine.execPutD n w s
  | .putxPuty n f w => Sys2Proof.Machine.execPutxPuty n f w s
  | .addAddc n f w => Sys2Proof.Machine.execAddAddc n f w s
  | .subSubb n f w => Sys2Proof.Machine.execSubSubb n f w s
  | .andOrXor n f w => Sys2Proof.Machine.execAndOrXor n f w s
  | .cmp n w => Sys2Proof.Machine.execCmp n w s
  | .tst n w => Sys2Proof.Machine.execTst n w s
  | .mul n w => Sys2Proof.Machine.execMul n w s
  | .mulhMulhu n f w => Sys2Proof.Machine.execMulhMulhu n f w s
  | .divDivuRemRemu n f w => Sys2Proof.Machine.execDivDivuRemRemu n f w s
  | .shlShrSraRol n f w => Sys2Proof.Machine.execShlShrSraRol n f w s
  | .notNeg n f w => Sys2Proof.Machine.execNotNeg n f w s
  | .clzPopc n f w => Sys2Proof.Machine.execClzPopc n f w s
  | .addxAddy n f w => Sys2Proof.Machine.execAddxAddy n f w s
  | .cmpxCmpy n f w => Sys2Proof.Machine.execCmpxCmpy n f w s
  | .br n w => Sys2Proof.Machine.execBr n w s
  | .jmp n w => Sys2Proof.Machine.execJmp n w s
  | .callCalli n f w => Sys2Proof.Machine.execCallCalli n f w s
  | .ret n w => Sys2Proof.Machine.execRet n w s
  | .trap n w => Sys2Proof.Machine.execTrap n w s
  | .rte n w => Sys2Proof.Machine.execRte n w s
  | .kend n w => Sys2Proof.Machine.execKend n w s
  | .hloop n w => Sys2Proof.Machine.execHloop n w s
  | .syncI n w => Sys2Proof.Machine.execSyncI n w s
  | .fence n w => Sys2Proof.Machine.execFence n w s
  | .ewait n w => Sys2Proof.Machine.execEwait n w s
  | .eadd n w => Sys2Proof.Machine.execEadd n w s
  | .msend n w => Sys2Proof.Machine.execMsend n w s
  | .mrecv n w => Sys2Proof.Machine.execMrecv n w s
  | .messageArrival n => Sys2Proof.Machine.execMessageArrival n s
  | .messageAnswer n => Sys2Proof.Machine.execMessageAnswer n s
  | .bcopy n w => Sys2Proof.Machine.execBcopy n w s
  | .bfill n w => Sys2Proof.Machine.execBfill n w s
  | .bread n w => Sys2Proof.Machine.execBread n w s
  | .bcomp n w => Sys2Proof.Machine.execBcomp n w s
  | .bseek n w => Sys2Proof.Machine.execBseek n w s
  | .blockIteration n => Sys2Proof.Machine.execBlockIteration n s
  | .vblk n w => Sys2Proof.Machine.execVblk n w s
  | .loaderWrite n => Sys2Proof.Machine.execLoaderWrite n s
  | .lrD n w => Sys2Proof.Machine.execLrD n w s
  | .scD n w => Sys2Proof.Machine.execScD n w s
  | .faddDFsubDFmulD n f w => Sys2Proof.Machine.execFaddDFsubDFmulD n f w s
  | .fdivD n w => Sys2Proof.Machine.execFdivD n w s
  | .fsqrtD n w => Sys2Proof.Machine.execFsqrtD n w s
  | .fminDFmaxD n f w => Sys2Proof.Machine.execFminDFmaxD n f w s
  | .fcmpD n w => Sys2Proof.Machine.execFcmpD n w s
  | .faddSToFcmpS n f w => Sys2Proof.Machine.execFaddSToFcmpS n f w s
  | .fcvt n w => Sys2Proof.Machine.execFcvt n w s
  | .customerInstruction n slot w z => Sys2Proof.Machine.execCustomerInstruction n slot w z s
  | .storeBufferDrain n bad => Sys2Proof.Machine.execStoreBufferDrain n bad s
  | .instructionRefill n va => Sys2Proof.Machine.execInstructionRefill n va s
  | .beatCompareMatch n => Sys2Proof.Machine.execBeatCompareMatch n s
  | .svcRequest n => Sys2Proof.Machine.execSvcRequest n s
  | .eventEntry n src => Sys2Proof.Machine.execEventEntry n src s
  | .machineCheckReport n => Sys2Proof.Machine.execMachineCheckReport n s
  | .kernelWatchdog n => Sys2Proof.Machine.execKernelWatchdog n s
  | .dramRead pa errs => Sys2Proof.Machine.execDramRead pa errs s
  | .dramWrite pa mask data errs => Sys2Proof.Machine.execDramWrite pa mask data errs s
  | .parityDelta pa q => Sys2Proof.Machine.execParityDelta pa q s
  | .unitRebuild pa bad => Sys2Proof.Machine.execUnitRebuild pa bad s
  | .rowClose ch bank => Sys2Proof.Machine.execRowClose ch bank s
  | .refresh ch bank => Sys2Proof.Machine.execRefresh ch bank s
  | .channelTrainingPassEnd ch failStep eye => Sys2Proof.Machine.execChannelTrainingPassEnd ch failStep eye s
  | .delayRecentre ch moved => Sys2Proof.Machine.execDelayRecentre ch moved s
  | .tileCacheAccess pa kind agent err => Sys2Proof.Machine.execTileCacheAccess pa kind agent err s
  | .tileCacheFill t err => Sys2Proof.Machine.execTileCacheFill t err s
  | .l1Invalidation n pa => Sys2Proof.Machine.execL1Invalidation n pa s
  | .l1InvalidationAck pa => Sys2Proof.Machine.execL1InvalidationAck pa s
  | .wayGroupPowerDown t g => Sys2Proof.Machine.execWayGroupPowerDown t g s
  | .wayGroupCleanEnd t g => Sys2Proof.Machine.execWayGroupCleanEnd t g s
  | .wayGroupPowerUp t g => Sys2Proof.Machine.execWayGroupPowerUp t g s
  | .wayGroupOn t g => Sys2Proof.Machine.execWayGroupOn t g s
  | .translationFill n vpn => Sys2Proof.Machine.execTranslationFill n vpn s
  | .subPageArrival vpn sub => Sys2Proof.Machine.execSubPageArrival vpn sub s
  | .fetchSlow vpn => Sys2Proof.Machine.execFetchSlow vpn s
  | .fetchFail vpn => Sys2Proof.Machine.execFetchFail vpn s
  | .fetchRetry => Sys2Proof.Machine.execFetchRetry s
  | .pageHoldExpiry vpn => Sys2Proof.Machine.execPageHoldExpiry vpn s
  | .eviction => Sys2Proof.Machine.execEviction s
  | .cowCopyComplete vpn => Sys2Proof.Machine.execCowCopyComplete vpn s
  | .pteQuery value => Sys2Proof.Machine.execPteQuery value s
  | .rd d vpn => Sys2Proof.Machine.execRd d vpn s
  | .wr d vpn => Sys2Proof.Machine.execWr d vpn s
  | .inv d vpn => Sys2Proof.Machine.execInv d vpn s
  | .invAcknowledgement d vpn => Sys2Proof.Machine.execInvAcknowledgement d vpn s
  | .recallR d vpn => Sys2Proof.Machine.execRecallR d vpn s
  | .recallW d vpn => Sys2Proof.Machine.execRecallW d vpn s
  | .wb d vpn => Sys2Proof.Machine.execWb d vpn s
  | .drop d vpn => Sys2Proof.Machine.execDrop d vpn s
  | .nocopy d vpn => Sys2Proof.Machine.execNocopy d vpn s
  | .gone d vpn => Sys2Proof.Machine.execGone d vpn s
  | .grantWithoutData d vpn => Sys2Proof.Machine.execGrantWithoutData d vpn s
  | .mapq d va size => Sys2Proof.Machine.execMapq d va size s
  | .mapa d va str status => Sys2Proof.Machine.execMapa d va str status s
  | .page d va last pmap data => Sys2Proof.Machine.execPage d va last pmap data s
  | .kernelStart => Sys2Proof.Machine.execKernelStart s
  | .copyEntryStart => Sys2Proof.Machine.execCopyEntryStart s
  | .copyComplete e => Sys2Proof.Machine.execCopyComplete e s
  | .copyFault e => Sys2Proof.Machine.execCopyFault e s
  | .resume q => Sys2Proof.Machine.execResume q s
  | .release value => Sys2Proof.Machine.execRelease value s
  | .evcmdRead evt => Sys2Proof.Machine.execEvcmdRead evt s
  | .evcmdSet evt => Sys2Proof.Machine.execEvcmdSet evt s
  | .evcmdAdd evt => Sys2Proof.Machine.execEvcmdAdd evt s
  | .scrubRead src => Sys2Proof.Machine.execScrubRead src s
  | .flitRefusal src chan headerBad payloadBad => Sys2Proof.Machine.execFlitRefusal src chan headerBad payloadBad s
  | .spareRemap n => Sys2Proof.Machine.execSpareRemap n s
  | .spareSelftestEnd n code bank row badArrays => Sys2Proof.Machine.execSpareSelftestEnd n code bank row badArrays s
  | .fuseRepairEffect kind unit => Sys2Proof.Machine.execFuseRepairEffect kind unit s
  | .beaconTreeArrival b => Sys2Proof.Machine.execBeaconTreeArrival b s
  | .beaconChannelArrival b chan crossed => Sys2Proof.Machine.execBeaconChannelArrival b chan crossed s
  | .cutComplete => Sys2Proof.Machine.execCutComplete s
  | .cutWithdrawn => Sys2Proof.Machine.execCutWithdrawn s
  | .trigger => Sys2Proof.Machine.execTrigger s
  | .triggerRearm => Sys2Proof.Machine.execTriggerRearm s
  | .triggerStuck => Sys2Proof.Machine.execTriggerStuck s
  | .triggerCountClear => Sys2Proof.Machine.execTriggerCountClear s
  | .checkpointCutCondition => Sys2Proof.Machine.execCheckpointCutCondition s
  | .pageStream => Sys2Proof.Machine.execPageStream s
  | .linkUp => Sys2Proof.Machine.execLinkUp s
  | .linkDown => Sys2Proof.Machine.execLinkDown s
  | .holdDownEnd => Sys2Proof.Machine.execHoldDownEnd s
  | .linkDownTimeout => Sys2Proof.Machine.execLinkDownTimeout s
  | .neighborSolicitation target src mac => Sys2Proof.Machine.execNeighborSolicitation target src mac s
  | .echoRequest dst src mac body => Sys2Proof.Machine.execEchoRequest dst src mac body s
  | .dataPacket p => Sys2Proof.Machine.execDataPacket p s
  | .ack p => Sys2Proof.Machine.execAck p s
  | .ackTimer cid => Sys2Proof.Machine.execAckTimer cid s
  | .retransmitTimeout cid => Sys2Proof.Machine.execRetransmitTimeout cid s
  | .rateIncrease cid => Sys2Proof.Machine.execRateIncrease cid s
  | .packetTransmit => Sys2Proof.Machine.execPacketTransmit s
  | .read cid k => Sys2Proof.Machine.execRead cid k s
  | .write cid k => Sys2Proof.Machine.execWrite cid k s
  | .flush cid k => Sys2Proof.Machine.execFlush cid k s
  | .doorbell cid k => Sys2Proof.Machine.execDoorbell cid k s
  | .eventAdd cid k => Sys2Proof.Machine.execEventAdd cid k s
  | .fetchAdd cid k => Sys2Proof.Machine.execFetchAdd cid k s
  | .hread h addr len => Sys2Proof.Machine.execHread h addr len s
  | .hwrite h addr data pmap => Sys2Proof.Machine.execHwrite h addr data pmap s
  | .readResponse cid k => Sys2Proof.Machine.execReadResponse cid k s
  | .flushResponse cid k => Sys2Proof.Machine.execFlushResponse cid k s
  | .fetchAddResponse cid k => Sys2Proof.Machine.execFetchAddResponse cid k s
  | .hreadResponse cid k => Sys2Proof.Machine.execHreadResponse cid k s
  | .remoteRequest n value => Sys2Proof.Machine.execRemoteRequest n value s
  | .hello cid msg => Sys2Proof.Machine.execHello cid msg s
  | .answer cid msg => Sys2Proof.Machine.execAnswer cid msg s
  | .finish cid msg => Sys2Proof.Machine.execFinish cid msg s
  | .helloResend cid => Sys2Proof.Machine.execHelloResend cid s
  | .answerResend cid => Sys2Proof.Machine.execAnswerResend cid s
  | .handshakeAbandon cid => Sys2Proof.Machine.execHandshakeAbandon cid s
  | .deadlineExpiry => Sys2Proof.Machine.execDeadlineExpiry s
  | .freeHolderTimeout d vpn => Sys2Proof.Machine.execFreeHolderTimeout d vpn s
  | .identify p => Sys2Proof.Machine.execIdentify p s
  | .getStatus p => Sys2Proof.Machine.execGetStatus p s
  | .readyMap p => Sys2Proof.Machine.execReadyMap p s
  | .claim p => Sys2Proof.Machine.execClaim p s
  | .openConduit p => Sys2Proof.Machine.execOpenConduit p s
  | .attest p => Sys2Proof.Machine.execAttest p s
  | .loadMembership p => Sys2Proof.Machine.execLoadMembership p s
  | .fwStage p => Sys2Proof.Machine.execFwStage p s
  | .fwCommit p => Sys2Proof.Machine.execFwCommit p s
  | .alloc p => Sys2Proof.Machine.execAlloc p s
  | .free p => Sys2Proof.Machine.execFree p s
  | .setStrength p => Sys2Proof.Machine.execSetStrength p s
  | .queueCreate p => Sys2Proof.Machine.execQueueCreate p s
  | .queueDestroy p => Sys2Proof.Machine.execQueueDestroy p s
  | .setAddress p => Sys2Proof.Machine.execSetAddress p s
  | .snapshot p => Sys2Proof.Machine.execSnapshot p s
  | .readSnapshot p => Sys2Proof.Machine.execReadSnapshot p s
  | .checkpoint p => Sys2Proof.Machine.execCheckpoint p s
  | .restore p => Sys2Proof.Machine.execRestore p s
  | .retirePage p => Sys2Proof.Machine.execRetirePage p s
  | .retireBank p => Sys2Proof.Machine.execRetireBank p s
  | .mapOutChannel p => Sys2Proof.Machine.execMapOutChannel p s
  | .scrubConfig p => Sys2Proof.Machine.execScrubConfig p s
  | .fuseRepair p => Sys2Proof.Machine.execFuseRepair p s
  | .quarantine p => Sys2Proof.Machine.execQuarantine p s
  | .errlogRead p => Sys2Proof.Machine.execErrlogRead p s
  | .errlogClear p => Sys2Proof.Machine.execErrlogClear p s
  | .regRead p => Sys2Proof.Machine.execRegRead p s
  | .regWrite p => Sys2Proof.Machine.execRegWrite p s
  | .loadDecodeTable p => Sys2Proof.Machine.execLoadDecodeTable p s
  | .powerDomain p => Sys2Proof.Machine.execPowerDomain p s
  | .setOperatingPoint p => Sys2Proof.Machine.execSetOperatingPoint p s
  | .setPowerCap p => Sys2Proof.Machine.execSetPowerCap p s
  | .margin p => Sys2Proof.Machine.execMargin p s
  | .reset p => Sys2Proof.Machine.execReset p s
  | .blockDisable addr => Sys2Proof.Machine.execBlockDisable addr s
  | .blockEnable addr => Sys2Proof.Machine.execBlockEnable addr s
  | .blockIdle addr => Sys2Proof.Machine.execBlockIdle addr s
  | .registerWrite rq addr value => Sys2Proof.Machine.execRegisterWrite rq addr value s
  | .tmrFieldRead rq addr upsets => Sys2Proof.Machine.execTmrFieldRead rq addr upsets s
  | .tmrVoteSweep upsets => Sys2Proof.Machine.execTmrVoteSweep upsets s
  | .pgInHigh => Sys2Proof.Machine.execPgInHigh s
  | .pgInLow => Sys2Proof.Machine.execPgInLow s
  | .resetNLow => Sys2Proof.Machine.execResetNLow s
  | .resetNHigh => Sys2Proof.Machine.execResetNHigh s
  | .refclkLoss => Sys2Proof.Machine.execRefclkLoss s
  | .pllLock => Sys2Proof.Machine.execPllLock s
  | .pllLockRetry => Sys2Proof.Machine.execPllLockRetry s
  | .bootRom imageReads itemsRead => Sys2Proof.Machine.execBootRom imageReads itemsRead s
  | .pilotReady => Sys2Proof.Machine.execPilotReady s
  | .secReady => Sys2Proof.Machine.execSecReady s
  | .domainSwitchOn => Sys2Proof.Machine.execDomainSwitchOn s
  | .domainPowered d => Sys2Proof.Machine.execDomainPowered d s
  | .lanternSelftestEnd n code bank row badArrays => Sys2Proof.Machine.execLanternSelftestEnd n code bank row badArrays s
  | .tileCacheSelftestEnd t code => Sys2Proof.Machine.execTileCacheSelftestEnd t code s
  | .copyEngineSelftestEnd e pass => Sys2Proof.Machine.execCopyEngineSelftestEnd e pass s
  | .cirrusInitEnd => Sys2Proof.Machine.execCirrusInitEnd s
  | .bringupLimitExpiry ph => Sys2Proof.Machine.execBringupLimitExpiry ph s
  | .supplySample v0 v1 i0 i1 => Sys2Proof.Machine.execSupplySample v0 v1 i0 i1 s
  | .sensorReading vals => Sys2Proof.Machine.execSensorReading vals s
  | .shutdownSecondStage => Sys2Proof.Machine.execShutdownSecondStage s
  | .extest => Sys2Proof.Machine.execExtest s
  | .samplePreload shift => Sys2Proof.Machine.execSamplePreload shift s
  | .idcode => Sys2Proof.Machine.execIdcode s
  | .clamp => Sys2Proof.Machine.execClamp s
  | .highz => Sys2Proof.Machine.execHighz s
  | .bypass code => Sys2Proof.Machine.execBypass code s
  | .vectorInstructionComplete n => Sys2Proof.Machine.execVectorInstructionComplete n s
  | .commandCompleted res => Sys2Proof.Machine.execCommandCompleted res s
  | .badOpcode p opcode => Sys2Proof.Machine.execBadOpcode p opcode s
  | .blockLockGained lane => Sys2Proof.Machine.execBlockLockGained lane s
  | .blockLockLost lane => Sys2Proof.Machine.execBlockLockLost lane s
  | .refclkPresent => Sys2Proof.Machine.execRefclkPresent s
  | .trstNLow => Sys2Proof.Machine.execTrstNLow s
  | .parityAcknowledgement pa q => Sys2Proof.Machine.execParityAcknowledgement pa q s

end Sys2Proof.Machine
end

