-- ==== Sys2Proof/Safety.lean ====
section
/-!
DEFINITION. Safety.lean: the terms in which the statements speak: what holds of every state, when
a lantern carries an instruction out, and what an instruction that completes leaves.
-/

namespace Sys2Proof.Machine

open Sys2Proof

/-! ### What every step keeps -/

/-- Device memory lists its bytes in canonical form: addresses rise strictly, no entry is zero. -/
def State.memOk (s : State) : Prop := Memory.wf s.mem = true

/-- A device that is owned stays owned by the same key (R504: enrolment is permanent). -/
def State.ownerKept (s t : State) : Prop := s.flash.owner ≠ none → t.flash.owner = s.flash.owner

/-! ### Instructions of a lantern -/

/-- Lantern `n` carries out the instruction of `len` bytes at its PC: its wick runs, fetch delivers it, nothing
blocks it, and COND holds (R207, R211, R228). -/
def State.issues (s : State) (n len : Nat) (cond : BitVec 4) : Prop :=
  s.wickCan n len = true ∧ condTrue cond (s.lan n).wick.flags = true

/-- An instruction of `len` bytes has completed on lantern `n` after changing it by `f`: PC and LCNT
as R243 says, the line buffer as R211 says, WORK one higher (R21), the wick waits for nothing. -/
def State.completes (s : State) (n len : Nat) (f : Lantern → Lantern) : State :=
  let l := f (s.lan n)
  s.setLan n { l.done (l.wick.advance len) with work := l.work + 1 }

/-- An instruction that transfers control to `target` has completed on lantern `n` after changing it by
`f` (R238). -/
def State.jumps (s : State) (n : Nat) (target : Dword) (f : Lantern → Lantern) : State :=
  let l := f (s.lan n)
  s.setLan n { l.done { l.wick with pc := pcMask target } with work := l.work + 1 }

/-- A change of the wick's registers alone. -/
def onWick (f : Wick → Wick) (l : Lantern) : Lantern := { l with wick := f l.wick }

/-- A with N and Z of the value under S. -/
def setA (w : BaseWord) (v : Dword) (k : Wick) : Wick :=
  { k with a := v, flags := if w.s then flagsNZ k.flags v else k.flags }

/-! ### Commands to the pilot -/

/-- The pilot takes command `op`: it is heard, none is in progress, and the checks that R480 makes of
every command pass and leave `u`. -/
def State.takes (s u : State) (op : Nat) (p : CmdPkt) : Prop :=
  s.hears op p = true ∧ s.pilot.busy = none ∧ s.unbox.commonChecks op p = (u, none)

/-- The reply of a command that leaves `s` and ends at once. -/
def State.replied (s : State) (op : Nat) (p : CmdPkt) (status : Nat) (results : List Byte) : Out :=
  .next (s.reply op p status results)

/-- The interface is held by a command whose work goes on, waiting or not (R476, R483). -/
def State.held (s : State) (op : Nat) (p : CmdPkt) (waiting : Bool) : State :=
  { s with pilot := { s.pilot with
      busy := some { opcode := op, pkt := p, since := s.pilot.stamp, waiting := waiting } } }

/-- `i` is the command of opcode `op` with parameters `p` (R484). -/
def isCommand (op : Nat) (p : CmdPkt) (i : Instr) : Prop :=
  (op, i) ∈ [(0x01, .identify p), (0x02, .getStatus p), (0x03, .readyMap p), (0x10, .claim p),
      (0x11, .openConduit p), (0x12, .attest p), (0x13, .loadMembership p), (0x20, .fwStage p),
      (0x21, .fwCommit p), (0x30, .alloc p), (0x31, .free p), (0x32, .setStrength p), (0x40, .queueCreate p),
      (0x41, .queueDestroy p), (0x50, .setAddress p), (0x60, .snapshot p), (0x61, .readSnapshot p),
      (0x62, Instr.checkpoint p)] ∨
    (op, i) ∈ [(0x63, .restore p), (0x70, .retirePage p), (0x71, .retireBank p), (0x72, .mapOutChannel p),
      (0x73, .scrubConfig p), (0x74, .fuseRepair p), (0x75, .quarantine p), (0x76, .errlogRead p),
      (0x77, .errlogClear p), (0x80, .regRead p), (0x81, .regWrite p), (0x90, .loadDecodeTable p),
      (0xA0, .powerDomain p), (0xA1, .setOperatingPoint p), (0xA2, .setPowerCap p), (0xB0, .margin p),
      (0xF0, Instr.reset p)]

/-! ### Vector instructions -/

/-- Lantern `n` carries out a vector instruction with these fields: it issues, AM, EW and the unused
bits are 0, no format field names the unassigned code, and the vector queue has room (R39, R153, R162, R174). -/
def State.vecIssues (s : State) (n : Nat) (w : VOp) : Prop :=
  s.issues n 8 w.cond ∧ w.am = 0 ∧ w.ew = 0 ∧ w.zero = 0 ∧ w.fmt ≠ 0xF ∧ w.fmt2 ≠ 0xF ∧
    (s.lan n).vq.length < 8

/-- An operate instruction has entered the vector queue with its results and has completed. -/
def State.vecDone (s : State) (n : Nat) (w : VOp) (opc : Nat) (r : VRes) : Out :=
  .next ((s.vecEnter n (vopWord w opc) r [] []).completes n 8 id)

end Sys2Proof.Machine
end

