-- ==== Sys2Proof/Certificates/Slice0/Obligations.lean ====
section
/-!
DEFINITION. Obligations.lean: the statements about the NQ288 that provers are asked to prove.
-/

open Sys2Proof Sys2Proof.Machine

/-! ### The queue of commands -/

/-- One step carries out the command at the front of the queue on the queue's rest. -/
def Obligations.StepRunsFront : Prop :=
  ∀ (s : State) (c : Instr) (rest : List Instr),
    step { s with pending := c :: rest } = exec c { s with pending := rest }

/-! ### Wick: loads, stores, arithmetic (chapters 8 and 9) -/

/-- GET.B to GET.D, GET.SB to GET.SW, GETX, GETY and SETH complete, with the loaded value zero-extended or
sign-extended, and N and Z under S (R230, R231). -/
def Obligations.WickLoadsComplete : Prop :=
  ∀ (s u : State) (n : Nat) (w : BaseWord) (v : Dword), s.issues n w.len w.cond →
    (∀ f, w.am ≠ 0 → w.am ≠ 6 → s.operandValue n w w.simm f.bytes = .ok (v, u) →
      exec (.getBGetHGetW n f w) s = .next (u.completes n w.len (onWick (setA w v))) ∧
      exec (.getSbGetShGetSw n f w) s = .next (u.completes n w.len (onWick (setA w (match f with
        | .b => (v.setWidth 8).signExtend 64
        | .h => (v.setWidth 16).signExtend 64
        | .w => (v.setWidth 32).signExtend 64))))) ∧
    (s.operandValue n w w.simm 8 = .ok (v, u) →
      exec (.getD n w) s = .next (u.completes n w.len (onWick (setA w v))) ∧
      exec (.getxGety n .x w) s = .next (u.completes n w.len (onWick (fun k =>
        { k with x := v, flags := if w.s then flagsNZ k.flags v else k.flags }))) ∧
      exec (.getxGety n .y w) s = .next (u.completes n w.len (onWick (fun k =>
        { k with y := v, flags := if w.s then flagsNZ k.flags v else k.flags })))) ∧
    (∀ h : BitVec 2, w.am = 0 → w.s = false → ∃ a : Dword,
      exec (.seth n h w) s = .next (s.completes n w.len (onWick (fun k => { k with a := a }))) ∧
      ∀ i, a.getLsbD i = if 16 * h.toNat ≤ i ∧ i < 16 * h.toNat + 16 then w.imm.getLsbD (i - 16 * h.toNat)
        else (s.lan n).wick.a.getLsbD i)

/-- ADD, ADDC, SUB, SUBB, CMP, NEG, ADDX, ADDY, CMPX and CMPY complete with the sum or difference modulo
2^64 and NZCV of it (R229, R230). -/
def Obligations.WickSumsComplete : Prop :=
  ∀ (s u : State) (n : Nat) (w : BaseWord) (v : Dword), s.issues n w.len w.cond →
    (s.operandValue n w w.simm 8 = .ok (v, u) →
      (∀ f, exec (.addAddc n f w) s = .next (u.completes n w.len (onWick (fun k =>
        let r := addFlags k.a v (f = .addc && fC k.flags)
        { k with a := r.1, flags := if w.s then r.2 else k.flags })))) ∧
      (∀ f, exec (.subSubb n f w) s = .next (u.completes n w.len (onWick (fun k =>
        let r := subFlags k.a v (f = .subb && !fC k.flags)
        { k with a := r.1, flags := if w.s then r.2 else k.flags })))) ∧
      exec (.addxAddy n .x w) s = .next (u.completes n w.len (onWick (fun k =>
        { k with x := k.x + v, flags := if w.s then (addFlags k.x v false).2 else k.flags }))) ∧
      exec (.addxAddy n .y w) s = .next (u.completes n w.len (onWick (fun k =>
        { k with y := k.y + v, flags := if w.s then (addFlags k.y v false).2 else k.flags }))) ∧
      (w.s = false →
        exec (.cmp n w) s = .next (u.completes n w.len (onWick (fun k =>
          { k with flags := (subFlags k.a v false).2 }))) ∧
        exec (.cmpxCmpy n .x w) s = .next (u.completes n w.len (onWick (fun k =>
          { k with flags := (subFlags k.x v false).2 }))) ∧
        exec (.cmpxCmpy n .y w) s = .next (u.completes n w.len (onWick (fun k =>
          { k with flags := (subFlags k.y v false).2 }))))) ∧
    (w.am = 0 → w.imm = 0 →
      exec (.notNeg n .not w) s = .next (s.completes n w.len (onWick (fun k => setA w (~~~k.a) k))) ∧
      exec (.notNeg n .neg w) s = .next (s.completes n w.len (onWick (fun k =>
        { k with a := -k.a, flags := if w.s then (subFlags 0 k.a false).2 else k.flags }))))

/-- What the flags of a sum and of a difference say about the numbers: N and Z of the result, C the
unsigned carry or absence of borrow, V the signed overflow (R229). -/
def Obligations.SumFlagsMeanOverflow : Prop :=
  ∀ (a b : Dword) (c : Bool),
    let x := addFlags a b c
    let y := subFlags a b c
    (x.1.toNat = (a.toNat + b.toNat + b2n c) % 2 ^ 64 ∧ fN x.2 = x.1.msb ∧ fZ x.2 = decide (x.1 = 0) ∧
      fC x.2 = decide (2 ^ 64 ≤ a.toNat + b.toNat + b2n c) ∧
      fV x.2 = decide (x.1.toInt ≠ a.toInt + b.toInt + b2n c)) ∧
    (y.1.toInt = (a.toInt - b.toInt - b2n c).bmod (2 ^ 64) ∧ fN y.2 = y.1.msb ∧ fZ y.2 = decide (y.1 = 0) ∧
      fC y.2 = decide (b.toNat + b2n c ≤ a.toNat) ∧
      fV y.2 = decide (y.1.toInt ≠ a.toInt - b.toInt - b2n c))

/-- AND, OR, XOR, TST, MUL, MULH, MULHU, DIV, DIVU, REM, REMU, the shifts, CLZ and POPC complete with the
value and flags of R229 to R232. -/
def Obligations.WickLogicAndProductsComplete : Prop :=
  ∀ (s u : State) (n : Nat) (w : BaseWord) (v : Dword), s.issues n w.len w.cond →
    (s.operandValue n w w.zimm 8 = .ok (v, u) →
      exec (.andOrXor n .and w) s = .next (u.completes n w.len (onWick (fun k => setA w (k.a &&& v) k))) ∧
      exec (.andOrXor n .or w) s = .next (u.completes n w.len (onWick (fun k => setA w (k.a ||| v) k))) ∧
      exec (.andOrXor n .xor w) s = .next (u.completes n w.len (onWick (fun k => setA w (k.a ^^^ v) k))) ∧
      (w.s = false → exec (.tst n w) s = .next (u.completes n w.len (onWick (fun k =>
        { k with flags := flagsNZ k.flags (k.a &&& v) })))) ∧
      (∀ f, exec (.shlShrSraRol n f w) s = .next (u.completes n w.len (onWick (fun k =>
        let c := v.toNat % 64
        let r := match f with
          | .shl => k.a <<< c
          | .shr => k.a >>> c
          | .sra => k.a.sshiftRight c
          | .rol => k.a.rotateLeft c
        let out := match f with
          | .shl => k.a.getLsbD (64 - c)
          | .rol => k.a.getLsbD (64 - c)
          | _ => k.a.getLsbD (c - 1)
        { k with
          a := r
          flags := if w.s then flagsNZC k.flags r (if c = 0 then fC k.flags else out) else k.flags }))))) ∧
    (s.operandValue n w w.simm 8 = .ok (v, u) →
      exec (.mul n w) s = .next (u.completes n w.len (onWick (fun k => setA w (k.a * v) k))) ∧
      exec (.mulhMulhu n .mulh w) s = .next (u.completes n w.len (onWick (fun k =>
        setA w (BitVec.ofInt 64 (k.a.toInt * v.toInt / 2 ^ 64)) k))) ∧
      exec (.mulhMulhu n .mulhu w) s = .next (u.completes n w.len (onWick (fun k =>
        setA w (BitVec.ofNat 64 (k.a.toNat * v.toNat / 2 ^ 64)) k))) ∧
      (∀ f, exec (.divDivuRemRemu n f w) s = .next (u.completes n w.len (onWick (fun k =>
        let ovf := (f = .div ∨ f = .rem) ∧ k.a.toInt = -2 ^ 63 ∧ v.toInt = -1
        let r : Dword := match f with
          | .div => if v = 0 then -1 else if k.a.toInt = -2 ^ 63 ∧ v.toInt = -1 then k.a
            else BitVec.ofInt 64 (k.a.toInt.tdiv v.toInt)
          | .divu => if v = 0 then -1 else BitVec.ofNat 64 (k.a.toNat / v.toNat)
          | .rem => if v = 0 then k.a else BitVec.ofInt 64 (k.a.toInt.tmod v.toInt)
          | .remu => if v = 0 then k.a else BitVec.ofNat 64 (k.a.toNat % v.toNat)
        { k with a := r, flags := if w.s then flagsNZV k.flags r (v = 0 ∨ ovf) else k.flags })))) ∧
      (∃ c : Nat, (∀ i, i < c → v.getLsbD (63 - i) = false) ∧
        (c = 64 ∨ c < 64 ∧ v.getLsbD (63 - c) = true) ∧
        exec (.clzPopc n .clz w) s = .next (u.completes n w.len (onWick (setA w (BitVec.ofNat 64 c))))) ∧
      exec (.clzPopc n .popc w) s = .next (u.completes n w.len (onWick
        (setA w (BitVec.ofNat 64 ((List.range 64).countP (fun i => v.getLsbD i)))))))

/-- PUT.B to PUT.D, PUTX and PUTY complete: a memory form enters the store buffer with the low bytes of the
register, in one entry or, across a 128-byte boundary, two, or waits at the instruction while queued work
holds a range that it overlaps (R81); a register form writes the register after
the completion check (R215, R218, R230, R231, R245). STORE_BUFFER_DRAIN brings the oldest entry to
memory once nothing queued needs the old bytes; a page that is not there keeps it waiting (R81, R221). -/
def Obligations.WickStoresComplete : Prop :=
  (∀ (s u t : State) (n : Nat) (w : BaseWord) (dv : Bool) (a : Dword), s.issues n w.len w.cond → w.s = false →
     let k := (s.lan n).wick
     (operandOf k w = some (.mem dv a) → (dv && inReg a.toNat) = false →
       ∀ (len : Nat) (i : Instr) (v : Dword),
         ((∃ f : SizeBHW, i = .putBPutHPutW n f w ∧ len = f.bytes ∧ v = k.a) ∨
           (i = .putD n w ∧ len = 8 ∧ v = k.a) ∨ (i = .putxPuty n .x w ∧ len = 8 ∧ v = k.x) ∨
           (i = .putxPuty n .y w ∧ len = 8 ∧ v = k.y)) →
         let r := a.toNat % 128 + len
         let c : Dword := a + BitVec.ofNat 64 (128 - a.toNat % 128)
         let pins := if dv then [a.toNat / pageSize, c.toNat / pageSize] else []
         let es : List SbEntry :=
           if r ≤ 128 then [{ ls := !dv, addr := a.toNat, bytes := leBytes len v.toNat }]
           else [{ ls := !dv, addr := a.toNat, bytes := (leBytes len v.toNat).take (128 - a.toNat % 128)
                   pins := pins },
                 { ls := !dv, addr := c.toNat
                   bytes := (leBytes len v.toNat).drop (128 - a.toNat % 128), pins := pins }]
         s.reach n dv true true a len = .ok u →
           ((∀ e ∈ es, (u.lan n).blocked dv true e.addr e.bytes.length = false) →
             (u.lan n).sb.length + es.length ≤ 8 →
             exec i s = .next (u.completes n w.len (fun l => { l with sb := l.sb ++ es }))) ∧
           ((∃ e ∈ es, (u.lan n).blocked dv true e.addr e.bytes.length = true) →
             exec i s = .next (u.modLan n (fun l => { l with wait := .drain })))) ∧
     (w.am = 6 →
       ((s.completes n 4 id).writeReg n w.imm.toNat k.a = .ok t → exec (.putD n w) s = .next t) ∧
       ((s.completes n 4 id).writeReg n w.imm.toNat k.x = .ok t → exec (.putxPuty n .x w) s = .next t) ∧
       ((s.completes n 4 id).writeReg n w.imm.toNat k.y = .ok t → exec (.putxPuty n .y w) s = .next t))) ∧
  (∀ (s u : State) (n : Nat) (bad : Bool) (pg : Pte) (e : SbEntry) (r : List SbEntry), s.lanOn n = true → (s.lan n).sb = e :: r →
     (s.lan n).blocked (!e.ls) true e.addr e.bytes.length = false →
     (e.ls = true → ∃ t, exec (.storeBufferDrain n bad) s = .next t ∧ (t.lan n).sb = r ∧
       t.mem = s.mem ∧ (∀ m, m ≠ n → t.lan m = s.lan m) ∧
       ((e.poison || bad) = true → ∀ w, w ∈ wordsOf e.addr e.bytes.length → w ∈ (t.lan n).lsPoison) ∧
       ∀ x, (t.lan n).lsRead x 1 = if e.addr ≤ x ∧ x < e.addr + e.bytes.length then
         [e.bytes.getD (x - e.addr) 0] else (s.lan n).lsRead x 1) ∧
     (e.ls = false → s.touch (.wick n) e.addr true = (u, .ok pg) →
       exec (.storeBufferDrain n bad) s = .next ((u.modLan n (fun l => { l with sb := r })).dvStore (.wick n)
         e.addr e.bytes (fun _ => e.poison || bad)).pumpPins) ∧
     (e.ls = false → s.touch (.wick n) e.addr true = (u, .stall) →
       exec (.storeBufferDrain n bad) s = .next u))

/-! ### Wick: control, fences, events, messages (chapter 9) -/

/-- BR, JMP, CALL, CALLI and RET transfer control, a call pushes the return address on both stacks, and a
return pops both; a RET whose stacks disagree, or whose SSP has reached the end of local store, raises
event 0x20 (R238 to R240). -/
def Obligations.WickTransfersComplete : Prop :=
  (∀ (s : State) (n : Nat) (w : BaseWord) (x : Dword), s.issues n w.len w.cond → w.s = false →
     let l := s.lan n
     let k := l.wick
     (w.am = 0 → (relTarget k.pc w.imm).toNat % 4 = 0 →
       exec (.br n w) s = .next (s.jumps n (relTarget k.pc w.imm) id)) ∧
     (4 ≤ w.am.toNat → s.target n w = .ok x → x.toNat % 4 = 0 →
       exec (.jmp n w) s = .next (s.jumps n x id)) ∧
     (let sp := k.sp - 8
      let ssp := k.ssp - 8
      let ret := leBytes 8 (pcMask (k.pc + BitVec.ofNat 64 w.len)).toNat
      let es := sbEntries true sp ret ++ sbEntries true ssp ret
      s.checkParts n false false sp 8 = .ok () → l.sslim.toNat ≤ ssp.toNat → ssp.toNat + 8 ≤ lsSize →
      l.storeWaits es = false → l.sb.length + es.length ≤ 8 →
       let push (l : Lantern) : Lantern := { l with sb := l.sb ++ es, wick := { l.wick with sp := sp, ssp := ssp } }
       (w.am = 0 → (relTarget k.pc w.imm).toNat % 4 = 0 →
         exec (.callCalli n .call w) s = .next (s.jumps n (relTarget k.pc w.imm) push)) ∧
       (4 ≤ w.am.toNat → s.target n w = .ok x → x.toNat % 4 = 0 →
         exec (.callCalli n .calli w) s = .next (s.jumps n x push))) ∧
     (w.am = 0 → w.imm = 0 → k.ssp.toNat + 8 ≤ lsSize → ∀ bs : List Byte,
       s.load n false false k.sp 8 = .ok (bs, s) → s.readBuffered n false k.ssp 8 = .ok (bs, s) →
       leNat bs % 2 ^ 64 % 4 = 0 →
         exec (.ret n w) s = .next (s.jumps n (BitVec.ofNat 64 (leNat bs))
           (onWick (fun k => { k with sp := k.sp + 8, ssp := k.ssp + 8 }))))) ∧
  (∀ (s : State) (n : Nat) (w : BaseWord) (b c : List Byte), s.issues n w.len w.cond → w.s = false → w.am = 0 →
     w.imm = 0 →
     let k := (s.lan n).wick
     (lsSize ≤ k.ssp.toNat → exec (.ret n w) s = .next ((s.issued n).takeEvent n 0x20 k.pc 0 0 0)) ∧
     (k.ssp.toNat + 8 ≤ lsSize → s.load n false false k.sp 8 = .ok (b, s) →
       s.readBuffered n false k.ssp 8 = .ok (c, s) → b ≠ c →
       exec (.ret n w) s = .next ((s.issued n).takeEvent n 0x20 k.pc (BitVec.ofNat 64 (leNat b)) 0 0)))

/-- HLOOP, SYNC.I, FENCE, EWAIT, EADD and KEND complete where their conditions hold, and wait where they
do not (R213, R241, R242, R259, R260). -/
def Obligations.WickLoopsAndFencesComplete : Prop :=
  ∀ (s : State) (n : Nat) (w : BaseWord), s.issues n w.len w.cond → w.s = false → w.am = 0 →
    let l := s.lan n
    let k := l.wick
    (w.imm.toNat < 512 →
      let count := if w.imm.getLsbD 8 then k.x else k.a
      let lend := k.pc + 4 + BitVec.ofNat 64 (4 * (w.imm.toNat % 256 + 1))
      let set (l : Lantern) : Lantern :=
        { l with wick := { l.wick with lbeg := k.pc + 4, lend := lend, lcnt := count } }
      ∃ t, exec (.hloop n w) s = .next t ∧
        t.lan n = set (if count = 0 then (s.jumps n lend id).lan n else (s.completes n 4 id).lan n) ∧
        ∀ m, m ≠ n → t.lan m = s.lan m) ∧
    (w.imm = 0 → s.vfenceDone n = true →
      exec (.syncI n w) s = .next (s.completes n 4 (fun l => { l with icache := [], lineBuf := [] }))) ∧
    (w.imm = 0 → l.sb = [] → l.lq = [] → s.visible n = true →
      exec (.fence n w) s = .next (s.completes n 4 id)) ∧
    (w.imm = 0 → (l.sb = [] ∧ l.lq = [] ∧ s.visible n = true → False) →
      exec (.fence n w) s = .next (s.modLan n (fun l => { l with wait := .fence }))) ∧
    (w.imm.toNat < 4096 → (s.counter w.imm.toNat - k.a).toNat < 2 ^ 63 →
      exec (.ewait n w) s = .next (s.completes n 4 id)) ∧
    (w.imm.toNat < 4096 → 2 ^ 63 ≤ (s.counter w.imm.toNat - k.a).toNat →
      exec (.ewait n w) s = .next ((s.issued n).modLan n (fun l =>
        { l with wait := .event w.imm.toNat k.a }))) ∧
    (w.imm.toNat < 4096 → l.sb = [] → s.seenBy (.wick n) = true →
      ∃ t : State, exec (.eadd n w) s = .next (t.examine.issued n) ∧ t.mem = s.mem ∧
        t.counter w.imm.toNat = s.counter w.imm.toNat + k.a ∧
        ∀ e, e ≠ w.imm.toNat → t.counter e = s.counter e) ∧
    (w.imm = 0 → l.matrixDone = true → s.vfenceDone n = true → l.lq = [] → l.reportsDone = true →
      exec (.kend n w) s = .next (((s.modLan n (fun l =>
        { l with run := .kended, wait := .none, resv := none })).kernelDone n).issued n))

/-- MSEND sends A and X to the lantern of rank Y and waits for the answer; MESSAGE_ARRIVAL places the
message in a FIFO with room, MESSAGE_ANSWER gives C and completes MSEND; MRECV takes the oldest message
(R223, R261). LR.D loads 8 bytes and takes a reservation on the 128-byte granule; SC.D stores A where
the reservation holds, clears it, and sets C to whether it stored (R256, R257). -/
def Obligations.WickMessagesAndReservationsComplete : Prop :=
  (∀ (s : State) (n d : Nat) (w : BaseWord) (g : Gang) (o : OutMsg) (x : Msg) (q : List Msg),
     let l := s.lan n
     let k := l.wick
     (s.issues n w.len w.cond → w.s = false → w.am = 0 → w.imm = 0 →
       (k.y.toNat < l.gsize → s.gangOf n = some g → g.members[k.y.toNat]? = some d →
         exec (.msend n w) s = .next (s.modLan n (fun l => { l with
           out := some { dest := d, msg := { rank := l.rank, w0 := k.a, w1 := k.x }, answer := none }
           wait := .answer, work := l.work + 1 }))) ∧
       (l.fifo = [] → exec (.mrecv n w) s = .next (s.completes n 4 (onWick (fun k =>
         { k with flags := withC k.flags false })))) ∧
       (l.fifo = x :: q → exec (.mrecv n w) s = .next (s.completes n 4 (fun l => { l with
         fifo := q
         wick := { l.wick with
           a := x.w0, x := x.w1, y := BitVec.ofNat 64 x.rank, flags := withC l.wick.flags true } })))) ∧
     (l.out = some o → o.answer = none → (s.lan o.dest).run = .running → (s.lan o.dest).halt.halted = false →
       o.dest ≠ n →
       ((s.lan o.dest).fifo.length < 16 →
         exec (.messageArrival n) s = .next ((s.modLan o.dest (fun l => { l with fifo := l.fifo ++ [o.msg] })).modLan n
           (fun l => { l with out := some { o with answer := some true } }))) ∧
       (16 ≤ (s.lan o.dest).fifo.length →
         exec (.messageArrival n) s = .next ((s.modLan o.dest (fun l => { l with
           refused := min (l.refused + 1) 65535 })).modLan n
           (fun l => { l with out := some { o with answer := some false } })))) ∧
     (∀ b, l.out = some o → o.answer = some b →
       let k' : Wick := { k with flags := withC k.flags b }
       ∃ t, exec (.messageAnswer n) s = .next t ∧
         t.lan n = { l with out := none, wick := k' }.done (k'.advance 4) ∧ ∀ m, m ≠ n → t.lan m = s.lan m)) ∧
  (∀ (s u v : State) (n : Nat) (w : BaseWord) (dv : Bool) (a : Dword) (bs : List Byte), s.issues n w.len w.cond →
     w.s = false → operandOf (s.lan n).wick w = some (.mem dv a) → a.toNat % 8 = 0 → (s.lan n).sb = [] →
     s.reach n dv false true a 8 = .ok u →
     (u.readBuffered n dv a 8 = .ok (bs, v) →
       exec (.lrD n w) s = .next (v.completes n w.len (fun l => { l with
         resv := some (v.granuleOf dv a), wick := { l.wick with a := BitVec.ofNat 64 (leNat bs) } }))) ∧
     ((u.lan n).blocked dv true a.toNat 8 = false →
       ((u.lan n).resv ≠ some (u.granuleOf dv a) →
         exec (.scD n w) s = .next (u.completes n w.len (fun l => { l with
           resv := none, wick := { l.wick with flags := withC l.wick.flags false } }))) ∧
       ((u.lan n).resv = some (u.granuleOf dv a) → dv = true →
         exec (.scD n w) s = .next ((u.dvStore (.wick n) a.toNat (leBytes 8 (u.lan n).wick.a.toNat)
           (fun _ => false)).completes n w.len (fun l => { l with
             resv := none, wick := { l.wick with flags := withC l.wick.flags true } }))) ∧
       ((u.lan n).resv = some (u.granuleOf dv a) → dv = false →
         exec (.scD n w) s = .next (u.completes n w.len (fun l =>
           { l.lsWrite a.toNat (leBytes 8 l.wick.a.toNat) with
             resv := none, wick := { l.wick with flags := withC l.wick.flags true } })))))

/-- The block instructions and VBLK: one iteration where RPT is 0; with RPT, a repeated operation that
BLOCK_ITERATION carries on until CNT is 0 or STOP holds (R246 to R254). LOADER_WRITE completes the oldest
iteration that VBLK has handed off, once no queued matrix instruction needs the old bytes (R255). -/
def Obligations.BlockInstructionsComplete : Prop :=
  ∀ (s u v : State) (n : Nat) (w : BaseWord) (b c : List Byte),
    let k := (s.lan n).wick
    let imm := w.imm.toNat
    let sz := 2 ^ (imm % 4)
    let step (a : Dword) : Dword := if w.imm.getLsbD 4 then a - BitVec.ofNat 64 sz else a + BitVec.ofNat 64 sz
    let ss := w.imm.getLsbD 2
    let ds := w.imm.getLsbD 3
    (s.issues n w.len w.cond → w.s = false → w.am = 0 → w.imm.getLsbD 11 = false →
      (blkLegal .bcopy imm = true → s.load n ss false k.src sz = .ok (b, u) →
        u.store n ds false k.dst b = .ok v →
        exec (.bcopy n w) s = .next (v.completes n 4 (onWick (fun k =>
          { k with src := step k.src, dst := step k.dst })))) ∧
      (blkLegal .bfill imm = true → s.store n ds false k.dst (leBytes sz k.a.toNat) = .ok v →
        exec (.bfill n w) s = .next (v.completes n 4 (onWick (fun k => { k with dst := step k.dst })))) ∧
      (blkLegal .bread imm = true → s.load n ss false k.src sz = .ok (b, u) →
        exec (.bread n w) s = .next (u.completes n 4 (onWick (fun k =>
          { k with a := BitVec.ofNat 64 (leNat b), src := step k.src })))) ∧
      (blkLegal .bcomp imm = true → s.load n ss false k.src sz = .ok (b, u) →
        u.load n ds false k.dst sz = .ok (c, v) →
        exec (.bcomp n w) s = .next (v.completes n 4 (onWick (fun k => { k with
          flags := sizedFlags sz (BitVec.ofNat 64 (leNat b)) (BitVec.ofNat 64 (leNat c))
          src := step k.src, dst := step k.dst })))) ∧
      (blkLegal .bseek imm = true → s.load n ds false k.dst sz = .ok (c, v) →
        exec (.bseek n w) s = .next (v.completes n 4 (onWick (fun k => { k with
          flags := sizedFlags sz k.a (BitVec.ofNat 64 (leNat c)), dst := step k.dst })))) ∧
      (vblkLegal imm = true → s.vblkIter n imm = .ok v →
        exec (.vblk n w) s = .next (v.completes n 4 id))) ∧
    (s.issues n w.len w.cond → w.s = false → w.am = 0 → w.imm.getLsbD 11 = true → k.cnt ≠ 0 →
      ∀ op i, (op, i) ∈ [(BlkOp.bcopy, Instr.bcopy n w), (.bfill, .bfill n w), (.bread, .bread n w),
          (.bcomp, .bcomp n w), (.bseek, .bseek n w), (.vblk, .vblk n w)] →
        (if op = .vblk then vblkLegal imm else blkLegal op imm) = true →
        exec i s = .next (s.modLan n (fun l =>
          { l with rep := some (op, w.imm), wait := .none, work := l.work + 1 }))) ∧
    (∀ op (m : Half), (s.lan n).rep = some (op, m) → s.lanOn n = true → (s.lan n).run = .running →
      (s.lan n).halt.halted = false → ((s.lan n).wait = .drain ∨ s.entryDue n = false) →
      s.anyIter n op m.toNat = .ok u →
      let x := u.modLan n (fun l =>
        { l with wait := .none, entered := false, wick := { l.wick with cnt := l.wick.cnt - 1 } })
      let stop := op ≠ .vblk ∧ m.toNat / 4096 ≠ 15 ∧
        condTrue (BitVec.ofNat 4 (m.toNat / 4096)) (u.lan n).wick.flags = true
      ((u.lan n).wick.cnt - 1 ≠ 0 → ¬stop → exec (.blockIteration n) s = .next x) ∧
      ((u.lan n).wick.cnt - 1 = 0 ∨ stop →
        exec (.blockIteration n) s = .next ((x.modLan n (fun l => { l with rep := none })).complete n 4))) ∧
    (∀ i r, (s.lan n).lq = i :: r → s.lanOn n = true →
      (∀ x ∈ i.lsWrites, (s.lan n).mqBlocks true x.1 x.2 = false) →
      (∀ x ∈ i.lsReads, (s.lan n).mqBlocks false x.1 x.2 = false) →
      exec (.loaderWrite n) s = .next ((s.loaderMove n i).modLan n (fun l => { l with lq := r })).pumpPins)

/-! ### Scalar floating point (chapter 9) -/

/-- The scalar floating-point instructions complete with their result in A, the sticky flags of MODE
raised, and, where a raised exception is enabled, the event of cause 0x31 at the next instruction
(R233 to R235). -/
def Obligations.ScalarFloatComplete : Prop :=
  ∀ (s u : State) (n : Nat) (w : BaseWord) (v : Dword), s.issues n w.len w.cond → w.s = false →
    let ctx := (s.lan n).wick.fctx
    let a := (s.lan n).wick.a.toNat
    let done (u : State) (x : Exc) (f : Wick → Wick) : Out :=
      let g (l : Lantern) : Lantern := (onWick (fun k => (f k).addFx x) l).keepFx x
      let t := (u.modLan n g).complete n w.len
      if x &&& (u.lan n).wick.fxe = 0 then .next (u.completes n w.len g)
      else .next ((t.takeEvent n 0x31 (t.lan n).wick.pc (u.lan n).wick.pc 0 0).issued n)
    let val (r : Nat × Exc) : Out := done u r.2 (fun k => { k with a := BitVec.ofNat 64 r.1 })
    (s.operandValue n w (immFloat true w.imm) 8 = .ok (v, u) → (u.lan n).wick = (s.lan n).wick →
      let b := v.toNat
      exec (.faddDFsubDFmulD n .add w) s = val (opAdd ctx 0 a b) ∧
      exec (.faddDFsubDFmulD n .sub w) s = val (opSub ctx 0 a b) ∧
      exec (.faddDFsubDFmulD n .mul w) s = val (opMul ctx 0 a b) ∧
      exec (.fdivD n w) s = val (opDiv ctx 0 a b) ∧
      exec (.fsqrtD n w) s = val (opSqrt ctx 0 b) ∧
      exec (.fminDFmaxD n .min w) s = val (opMinMax ctx false 0 a b) ∧
      exec (.fminDFmaxD n .max w) s = val (opMinMax ctx true 0 a b) ∧
      exec (.fcmpD n w) s = done u (fpCompare ctx 0 a b).2.2 (fun k =>
        { k with flags := (fpCompare ctx 0 a b).2.1.getD k.flags })) ∧
    (s.operandValue n w (immFloat false w.imm) 4 = .ok (v, u) → (u.lan n).wick = (s.lan n).wick →
      let a := a % 2 ^ 32
      let b := v.toNat % 2 ^ 32
      exec (.faddSToFcmpS n .add w) s = val (opAdd ctx 1 a b) ∧
      exec (.faddSToFcmpS n .sub w) s = val (opSub ctx 1 a b) ∧
      exec (.faddSToFcmpS n .mul w) s = val (opMul ctx 1 a b) ∧
      exec (.faddSToFcmpS n .div w) s = val (opDiv ctx 1 a b) ∧
      exec (.faddSToFcmpS n .sqrt w) s = val (opSqrt ctx 1 b) ∧
      exec (.faddSToFcmpS n .min w) s = val (opMinMax ctx false 1 a b) ∧
      exec (.faddSToFcmpS n .max w) s = val (opMinMax ctx true 1 a b) ∧
      exec (.faddSToFcmpS n .cmp w) s = done u (fpCompare ctx 1 a b).2.2 (fun k =>
        { k with flags := (fpCompare ctx 1 a b).2.1.getD k.flags })) ∧
    (∀ src dst : Nat, w.am = 0 → w.imm.toNat = 16 * src + dst → dst < 16 → src ≠ dst →
      (src ≤ 5 ∨ src = 13) → (dst ≤ 5 ∨ dst = 13) →
      let r := opConvert ctx src dst (a % 2 ^ fmtBits src)
      exec (.fcvt n w) s = done s r.2 (fun k => { k with
        a := if dst = 13 then (BitVec.ofNat 32 r.1).signExtend 64 else BitVec.ofNat 64 r.1 }))

/-- An instruction whose COND is false, among them every one whose COND is NV, only completes: it advances
the PC, or loops back, and nothing else of the state changes (R77, R121, R175, R207, R228, R244). -/
def Obligations.FalseConditionCompletes : Prop :=
  ∀ (s : State) (n : Nat),
    let fails (len : Nat) (cond : BitVec 4) : Prop :=
      s.wickCan n len = true ∧ condTrue cond (s.lan n).wick.flags = false
    (∀ w : BaseWord, fails w.len w.cond →
      let t : Out := .next (s.completes n w.len id)
      (∀ i ∈ [
        Instr.getD n w, .putD n w, .cmp n w, .tst n w, .mul n w, .br n w, .jmp n w, .ret n w, .trap n w,
        .rte n w, .kend n w, .hloop n w, .syncI n w, .fence n w, .ewait n w, .eadd n w, .msend n w, .mrecv n w,
        .bcopy n w, .bfill n w, .bread n w, .bcomp n w, .bseek n w, .vblk n w, .lrD n w, .scD n w, .fdivD n w,
        .fsqrtD n w, .fcmpD n w, .fcvt n w], exec i s = t) ∧
      (∀ f, exec (.getBGetHGetW n f w) s = t) ∧ (∀ f, exec (.getSbGetShGetSw n f w) s = t) ∧
      (∀ f, exec (.getxGety n f w) s = t) ∧ (∀ h, exec (.seth n h w) s = t) ∧
      (∀ f, exec (.putBPutHPutW n f w) s = t) ∧ (∀ f, exec (.putxPuty n f w) s = t) ∧
      (∀ f, exec (.addAddc n f w) s = t) ∧ (∀ f, exec (.subSubb n f w) s = t) ∧
      (∀ f, exec (.andOrXor n f w) s = t) ∧ (∀ f, exec (.mulhMulhu n f w) s = t) ∧
      (∀ f, exec (.divDivuRemRemu n f w) s = t) ∧ (∀ f, exec (.shlShrSraRol n f w) s = t) ∧
      (∀ f, exec (.notNeg n f w) s = t) ∧ (∀ f, exec (.clzPopc n f w) s = t) ∧
      (∀ f, exec (.addxAddy n f w) s = t) ∧ (∀ f, exec (.cmpxCmpy n f w) s = t) ∧
      (∀ f, exec (.callCalli n f w) s = t) ∧ (∀ f, exec (.faddDFsubDFmulD n f w) s = t) ∧
      (∀ f, exec (.fminDFmaxD n f w) s = t) ∧ (∀ f, exec (.faddSToFcmpS n f w) s = t) ∧
      (∀ slot z, exec (.customerInstruction n slot w z) s = t)) ∧
    (∀ w : VOp, fails 8 w.cond →
      let t : Out := .next (s.completes n 8 id)
      (∀ i ∈ [
        Instr.vsetl n w, .pwhile n w, .pcnt n w, .pfirst n w, .vcvt n w, .vmxpack n w, .vmxunpack n w,
        .vperm n w, .vcompress n w, .vsel n w, .vfence n w], exec i s = t) ∧
      (∀ f, exec (.pandPorPxorPandn n f w) s = t) ∧ (∀ f, exec (.vaddVsub n f w) s = t) ∧
      (∀ f, exec (.vmulVmulh n f w) s = t) ∧ (∀ f, exec (.vminVmaxVminuVmaxu n f w) s = t) ∧
      (∀ f, exec (.vandVorVxor n f w) s = t) ∧ (∀ f, exec (.vshlVshrVsra n f w) s = t) ∧
      (∀ f, exec (.vfaddVfsubVfmul n f w) s = t) ∧ (∀ f, exec (.vfminVfmax n f w) s = t) ∧
      (∀ f, exec (.vfabsVfnegVfsgnj n f w) s = t) ∧ (∀ f, exec (.vfmaVfmsVfnmaVfnms n f w) s = t) ∧
      (∀ f, exec (.vfdivVfsqrt n f w) s = t) ∧ (∀ f, exec (.vexpVrecipVrsqrtVlogi n f w) s = t) ∧
      (∀ f, exec (.vcmp n f w) s = t) ∧ (∀ f, exec (.vfcmp n f w) s = t) ∧
      (∀ f, exec (.vwmulVwmulu n f w) s = t) ∧ (∀ f, exec (.vfwmulVfwma n f w) s = t) ∧
      (∀ f, exec (.vdot4Vdot2 n f w) s = t) ∧ (∀ f, exec (.reduction n f w) s = t) ∧
      (∀ f, exec (.vslupVsldn n f w) s = t) ∧ (∀ f, exec (.vmvVbcastViota n f w) s = t)) ∧
    (∀ w : VMem, fails 8 w.cond →
      let t : Out := .next (s.completes n 8 id)
      (∀ i ∈ [
        Instr.vld n w, .vst n w, .vlds n w, .vsts n w, .vgath n w, .vscat n w, .vldseg n w, .vstseg n w], exec i s = t)) ∧
    (∀ w : LongWord, fails 8 w.cond →
      let t : Out := .next (s.completes n 8 id)
      (∀ i ∈ [
        Instr.mma n w, .mdrain n w, .mfence n w, .mcap n w, .hchain n w], exec i s = t))

/-! ### Events (chapter 10) -/

/-- Entry into an event whose level is free saves PC, MODE, FLAGS, CL, the cause and the address, enters
supervisor mode with the exceptions masked, and continues at the handler (R271, R272). Where the level
is busy its save set is first pushed on the save stack, 32 bytes below SSTK; with no room above the
guard the lantern halts with cause 0x40 (R271, R274, R278). -/
def Obligations.EventEntrySavesState : Prop :=
  (∀ (s : State) (n cause selem trapno : Nat) (spc saddr : Dword),
     let l := s.lan n
     let lv := if cause = 0x42 then 3 else if cause < 0x10 then 1 else 2
     let h := l.evbase.toNat + (if cause = 1 then 0x1000 + 16 * trapno else 0x40 * lv)
     l.busy lv = false → s.fetchBad h = false →
       ∃ t, s.takeEvent n cause spc saddr selem trapno = s.setLan n t ∧
         t.sv lv = {
           spc := spc.setWidth 48, smode := l.wick.mode, sflags := l.wick.flags, pushed := false, pl := l.cl
           trapno := BitVec.ofNat 8 trapno, cause := BitVec.ofNat 8 cause, saddr := saddr
           selem := BitVec.ofNat 16 selem } ∧
         (∀ j, j ∈ [1, 2, 3] → j ≠ lv → t.sv j = l.sv j ∧ t.busy j = l.busy j) ∧ t.busy lv = true ∧
         t.cl = BitVec.ofNat 2 lv ∧ t.resv = none ∧ t.wick.pc = pcMask (BitVec.ofNat 64 h) ∧
         t.wick.mode.getLsbD 31 = true ∧ (∀ i, i < 9 → t.wick.mode.getLsbD i = false) ∧
         (∀ i, 9 ≤ i → i < 14 → t.wick.mode.getLsbD i = l.wick.mode.getLsbD i) ∧
         t.wick = { l.wick with mode := t.wick.mode, pc := t.wick.pc } ∧ t.ls = l.ls ∧ t.v = l.v ∧ t.p = l.p) ∧
  (∀ (s : State) (n cause selem trapno : Nat) (spc saddr : Dword),
     let l := s.lan n
     let lv := causeLevel cause
     l.busy lv = true →
     (l.wick.sstk.toNat < l.lsguard.toNat * 65536 + 32 →
       s.takeEvent n cause spc saddr selem trapno = s.haltLan n 0x40 spc) ∧
     (l.lsguard.toNat * 65536 + 32 ≤ l.wick.sstk.toNat → s.fetchBad (l.handler lv cause trapno) = false →
       ∃ t, s.takeEvent n cause spc saddr selem trapno = s.setLan n t ∧
         t.wick.sstk = l.wick.sstk - 32 ∧ (t.sv lv).pushed = true ∧ (t.sv lv).spc = spc.setWidth 48 ∧
         t.ls = cellsWrite l.ls (l.wick.sstk.toNat - 32) ((l.sv lv).frame lv)))

/-- TRAP completes and enters the event of cause 0x01, RTE returns what event entry has saved, and the entry
that no assigned instruction makes is taken (R211, R226, R241, R276). At a boundary a deferred event is
entered before an asynchronous one, in order; asynchronous events wait while CL is not 0 (R269, R270). -/
def Obligations.TrapReturnAndBoundaryEvents : Prop :=
  (∀ (s : State) (n : Nat) (w : BaseWord), s.issues n w.len w.cond →
     let l := s.lan n
     let k := l.wick
     (w.s = false → w.am = 0 → w.imm.toNat < 256 →
       let u := s.complete n 4
       exec (.trap n w) s = .next ((u.takeEvent n 1 (u.lan n).wick.pc 0 0 w.imm.toNat).issued n)) ∧
     (w.s = false → w.am = 0 → w.imm = 0 → k.sup = true → l.cl ≠ 0 →
       let v := l.sv l.cl.toNat
       v.pushed = false → (v.pl ≠ 0 ∨ l.cl ≠ 1 ∨ l.async = none) →
       ∃ t, exec (.rte n w) s = .next (s.setLan n t) ∧ t.busy l.cl.toNat = false ∧ t.cl = v.pl ∧
         t.resv = none ∧ t.wick = { k with
           pc := v.spc.setWidth 64, flags := v.sflags, mode := v.smode &&& 0x80003FFF#32 } ∧
         t.work = l.work + 1 ∧ t.ls = l.ls) ∧
     (w.s = false → w.am = 0 → w.imm = 0 → k.sup = false →
       exec (.rte n w) s = .next ((s.issued n).takeEvent n 0x22 k.pc k.pc 0 0)) ∧
     (∀ w0 w1 : Word, w.cond = BitVec.ofNat 4 (w0.toNat / 2 ^ 28) →
       opAssigned (natField w0.toNat 20 8) (natField w1.toNat 8 6) = false →
       s.wickCan n (wordLen w0.toNat) = true →
       exec (.eventEntry n (.unassigned w0 w1)) s =
         .next ((s.issued n).takeEvent n 0x21 k.pc k.pc 0 0))) ∧
  (∀ (s : State) (n : Nat), s.atBoundary n = true →
     let l := s.lan n
     let pc := l.wick.pc
     let go (t : State) : Prop := exec (.eventEntry n .boundary) s = .next t
     (∀ a e, l.defRf = some (a, e) →
       go ((s.modLan n (fun l => { l with defRf := none })).takeEvent n 0x42 pc a e 0)) ∧
     (l.defRf = none → l.defNan = true →
       go ((s.modLan n (fun l => { l with defNan := false })).takeEvent n 0x30 pc (l.nan.pc.setWidth 64) 0 0)) ∧
     (∀ a e, l.defRf = none → l.defNan = false → l.defFx = some (a, e) →
       go ((s.modLan n (fun l => { l with defFx := none })).takeEvent n 0x31 pc a e 0)) ∧
     (l.defRf = none → l.defNan = false → l.defFx = none → l.cl = 0 →
       (l.pendSvc = true → l.enSvc = true → go (s.takeEvent n 0x0A pc 0 0 0)) ∧
       ((l.pendSvc && l.enSvc) = false → l.pendBeat = true → l.enBeat = true →
         go (s.takeEvent n 0x09 pc 0 0 0)) ∧
       ((l.pendSvc && l.enSvc) = false → (l.pendBeat && l.enBeat) = false → l.fifo ≠ [] → l.enMsg = true →
         go (s.takeEvent n 0x08 pc 0 0 0))) ∧
     (l.defRf = none → l.defNan = false → l.defFx = none → l.cl ≠ 0 → go s))

/-- What other units report to a wick: NaN and exception reports, the end of a vector instruction, a
register-file error, refills and interrupts (R65 to R69, R194, R211, R224, R267). -/
def Obligations.WickReportsComplete : Prop :=
  ∀ (s : State) (n : Nat),
    let l := s.lan n
    (∀ k p, l.nanQ[k]? = some p →
      (l.nan.trapEn = false → exec (.nanReport n k) s =
        .next (s.setLan n { l with nanQ := l.nanQ.eraseIdx k })) ∧
      (l.nan.trapEn = true → l.nan.valid = true → exec (.nanReport n k) s =
        .next (s.modLan n (fun l => { l with
          nanQ := l.nanQ.eraseIdx k, nan := { l.nan with cnt := min (l.nan.cnt + 1) (2 ^ 32 - 1) } }))) ∧
      (l.nan.trapEn = true → l.nan.valid = false →
        ∃ t, exec (.nanReport n k) s = .next (if s.pilot.nanEn then (s.setLan n t).beaconTrigger 3
            else s.setLan n t) ∧ t.nan.valid = true ∧ t.defNan = true ∧
          t.nan.pc = p.pc.setWidth 48 ∧ t.nan.insn = p.insn ∧ t.nan.k = p.kstep ∧ t.nan.cnt = l.nan.cnt ∧
          t.nanQ = l.nanQ.eraseIdx k ∧ t.wick = l.wick)) ∧
    (s.lanOn n = true → ∃ t, exec (.nanRecordClear n) s = .next (s.setLan n t) ∧
      t.nan = { trapEn := l.nan.trapEn } ∧ t = { l with nan := t.nan }) ∧
    (∀ r q, l.fxRep = r :: q →
      (l.defFx = none → exec (.fpExceptionReport n) s =
        .next (s.setLan n { l with fxRep := q, defFx := some r })) ∧
      (∀ d, l.defFx = some d → exec (.fpExceptionReport n) s = .next (s.setLan n { l with fxRep := q }))) ∧
    (∀ e q, l.vq = e :: q →
      let u := s.writePhase n e
      exec (.vectorInstructionComplete n) s = .next (u.modLan n (fun l => { l with
        vq := q
        fxRep := l.fxRep ++ (e.fx.map (fun i => (e.pc, i))).toList
        nanQ := l.nanQ ++ e.nan.toList })).pumpPins ∧
      (e.stores = [] → u = s)) ∧
    (∀ e q lg, l.vq = e :: q → ∃ (u : State) (x : RecIn),
      exec (.registerFileError n lg) s = .next (u.record x).pumpPins ∧
      x.code = 0x0205 ∧ x.cls = clsUe ∧ x.src = readyLan n ∧ x.aux = lg ∧
      (u.lan n).vq = [] ∧ (u.lan n).v = [] ∧ (u.lan n).p = l.p.filter (fun x => x.1 = 0) ∧
      (u.lan n).wick = l.vq.reverse.foldl Wick.undo l.wick ∧
      (u.lan n).defRf = some (e.pc, lg) ∧ u.mem = s.mem ∧ ∀ m, m ≠ n → u.lan m = s.lan m) ∧
    (s.lanOn n = true →
      exec (.svcRequest n) s = .next (s.setLan n { l with pendSvc := true }) ∧
      (∃ b : Dword, exec (.beatCompareMatch n) s = .next (s.setLan n { l with pendBeat := true, beat := b }) ∧
        b.setWidth 32 = l.beatcmp ∧ (b - l.beat).toNat < 2 ^ 32) ∧
      (∀ va, l.lineBuf.Nodup → l.lineBuf.length ≤ 4 → ∃ ic lb, exec (.instructionRefill n va) s =
        .next ((s.dvLoadLines (128 * (va / 128)) 256 false).modLan n (fun l =>
          { l with icache := ic, lineBuf := lb })) ∧ lb.length ≤ 4 ∧ lb.Nodup ∧ va / 128 + 1 ∈ lb)) ∧
    (l.halt.halted = true → ∀ g, s.gangOf n = some g →
      exec (.machineCheckReport n) s = .next (s.abortKernel g)) ∧
    (l.halt.halted = false → ∀ g, s.gangOf n = some g → g.wdlimit ≠ 0 → n ∉ g.finished →
      exec (.kernelWatchdog n) s = .next ((s.haltLan n 0x46 l.wick.pc).abortKernel g))

/-! ### Vector unit (chapters 6 and 7) -/

/-- What a result per element leaves in the registers: every active element below VL holds its result,
every inactive one keeps its bits or is zeroed, and nothing else changes (R150, R156). -/
def Obligations.VectorResultsPerElement : Prop :=
  ∀ (l : Lantern) (w : VOp) (wd : Nat) (f : Nat → ERes), wd ∈ [8, 16, 32, 64] →
    let r := (l.vmap w wd f).l
    (∀ i, i < l.wick.vl → r.elem w.vd.toNat wd i =
      if l.active w.pg.toNat i then (f i).bits % 2 ^ wd
      else if w.zf then 0 else l.elem w.vd.toNat wd i) ∧
    (∀ i, l.wick.vl ≤ i → r.elem w.vd.toNat wd i = l.elem w.vd.toNat wd i) ∧
    (∀ g, g < w.vd.toNat → r.v.getD g 0 = l.v.getD g 0) ∧
    (∀ g, w.vd.toNat + (l.wick.vl * wd + 65535) / 65536 ≤ g → r.v.getD g 0 = l.v.getD g 0) ∧
    r = { l with v := r.v }

/-- VSETL, PWHILE, PAND, POR, PXOR, PANDN, PCNT, PFIRST and VFENCE complete (R152, R154, R179, R196). -/
def Obligations.VectorLengthAndPredicatesComplete : Prop :=
  ∀ (s : State) (n : Nat) (w : VOp),
    let l := s.lan n
    let k := l.wick
    (s.vecIssues n { w with ew := 0 } → w.zf = false → w.pg = 0 →
      let vl := min k.a.toNat (8192 / 2 ^ w.ew.toNat)
      exec (.vsetl n w) s = s.vecDone n w 0x80 { l := { l with wick := { k with
        vew := w.ew, vl := vl, a := BitVec.ofNat 64 vl, flags := withZ k.flags (vl = 0) } } }) ∧
    (s.vecIssues n w → w.zf = false → w.pg = 0 →
      (1 ≤ w.vd.toNat → w.vd.toNat < 16 →
        (∃ v : BitVec 8192, (∀ i, i < 8192 → v.getLsbD i =
            (decide (i < k.vl) && decide (k.x.toNat + i < k.y.toNat))) ∧
          exec (.pwhile n w) s = s.vecDone n w 0x81 { l := { l.setPred w.vd.toNat v with
            wick := { k with flags := withZ k.flags (!v.getLsbD 0) } } }) ∧
        (w.va.toNat < 16 → w.vb.toNat < 16 → ∀ f, ∃ v : BitVec 8192,
          (∀ i, i < 8192 → v.getLsbD i = (decide (i < k.vl) &&
            (let a := (l.pred w.va.toNat).getLsbD i
             let b := (l.pred w.vb.toNat).getLsbD i
             match f with
             | .pand => a && b
             | .por => a || b
             | .pxor => a != b
             | .pandn => a && !b))) ∧
          exec (.pandPorPxorPandn n f w) s = s.vecDone n w 0x81 { l := l.setPred w.vd.toNat v })) ∧
      (w.va.toNat < 16 →
        let c := (List.range k.vl).countP (fun i => (l.pred w.va.toNat).getLsbD i)
        exec (.pcnt n w) s = s.vecDone n w 0x81 { l := { l with wick := { k with
          a := BitVec.ofNat 64 c, flags := withZ k.flags (c = 0) } } } ∧
        ∃ i : Nat, exec (.pfirst n w) s = s.vecDone n w 0x81 { l := { l with wick := { k with
            a := BitVec.ofNat 64 i, flags := withZ k.flags (i = k.vl) } } } ∧
          (∀ j, j < i → (l.pred w.va.toNat).getLsbD j = false) ∧
          (i = k.vl ∨ i < k.vl ∧ (l.pred w.va.toNat).getLsbD i = true))) ∧
    (s.issues n 8 w.cond → w.am = 0 → w.zero = 0 → w.ew = 0 → w.fmt ≠ 0xF → w.fmt2 ≠ 0xF → w.zf = false →
      w.pg = 0 → l.vq = [] → l.sb = [] → s.visible n = true →
      exec (.vfence n w) s = .next (s.completes n 8 id))

/-- The integer operate instructions and VCMP complete with the result of R179 in each element. -/
def Obligations.VectorIntegerComplete : Prop :=
  ∀ (s : State) (n : Nat) (w : VOp), s.vecIssues n w →
    let l := s.lan n
    let e := 8 * 2 ^ l.wick.vew.toNat
    let a (i : Nat) : Nat := l.elem w.va.toNat e i
    let b (i : Nat) : Nat := l.vbElem w e i
    let out (f : Nat → Nat) : Out := s.vecDone n w 0x8A (l.vmap w e (fun i => { bits := f i }))
    exec (.vaddVsub n .add w) s = out (fun i => (a i + b i) % 2 ^ e) ∧
    exec (.vaddVsub n .sub w) s = out (fun i => (a i + 2 ^ e - b i) % 2 ^ e) ∧
    exec (.vmulVmulh n .mul w) s = out (fun i => a i * b i % 2 ^ e) ∧
    exec (.vmulVmulh n .mulh w) s = out (fun i =>
      ((sInt e (a i) * sInt e (b i) / 2 ^ e) % (2 ^ e : Int)).toNat) ∧
    exec (.vminVmaxVminuVmaxu n .min w) s = out (fun i =>
      if sInt e (a i) ≤ sInt e (b i) then a i else b i) ∧
    exec (.vminVmaxVminuVmaxu n .max w) s = out (fun i =>
      if sInt e (a i) ≤ sInt e (b i) then b i else a i) ∧
    exec (.vminVmaxVminuVmaxu n .minu w) s = out (fun i => min (a i) (b i)) ∧
    exec (.vminVmaxVminuVmaxu n .maxu w) s = out (fun i => max (a i) (b i)) ∧
    exec (.vandVorVxor n .and w) s = out (fun i => a i &&& b i) ∧
    exec (.vandVorVxor n .or w) s = out (fun i => a i ||| b i) ∧
    exec (.vandVorVxor n .xor w) s = out (fun i => a i ^^^ b i) ∧
    exec (.vshlVshrVsra n .shl w) s = out (fun i => a i * 2 ^ (b i % e) % 2 ^ e) ∧
    exec (.vshlVshrVsra n .shr w) s = out (fun i => a i / 2 ^ (b i % e)) ∧
    exec (.vshlVshrVsra n .sra w) s = out (fun i =>
      ((sInt e (a i) / 2 ^ (b i % e)) % (2 ^ e : Int)).toNat) ∧
    (∀ f, w.zf = false → 1 ≤ w.vd.toNat → w.vd.toNat < 16 → ∃ v : BitVec 8192,
      exec (.vcmp n f w) s = s.vecDone n w 0x8E { l := l.setPred w.vd.toNat v } ∧
      ∀ i, i < 8192 → v.getLsbD i = (decide (i < l.wick.vl) &&
        if l.active w.pg.toNat i then
          match f with
          | .eq => decide (a i = b i)
          | .ne => decide (a i ≠ b i)
          | .lt => decide (sInt e (a i) < sInt e (b i))
          | .le => decide (sInt e (a i) ≤ sInt e (b i))
          | .ltu => decide (a i < b i)
          | .leu => decide (a i ≤ b i)
        else (l.pred w.vd.toNat).getLsbD i))

/-- The floating-point operate instructions complete with the rounded result, the exceptions and the NaN
report of each element; VFCMP writes a predicate (R65, R179 to R181, R193). -/
def Obligations.VectorFloatComplete : Prop :=
  ∀ (s : State) (n : Nat) (w : VOp), s.vecIssues n w →
    let l := s.lan n
    let e := 8 * 2 ^ l.wick.vew.toNat
    let c := w.fmt.toNat
    let ctx := l.wick.fctx
    let a (i : Nat) : Nat := l.elem w.va.toNat e i
    let b (i : Nat) : Nat := l.vbElem w e i
    let out (opc : Nat) (f : Nat → ERes) : Out := s.vecDone n w opc (l.vmap w e f)
    let two (i : Nat) : List (Nat × Nat) := [(c, a i), (c, b i)]
    fmtBits c = e →
    (c ≤ 5 →
      exec (.vfaddVfsubVfmul n .add w) s = out 0x8B (fun i => fpRes (two i) c (opAdd ctx c (a i) (b i))) ∧
      exec (.vfaddVfsubVfmul n .sub w) s = out 0x8B (fun i => fpRes (two i) c (opSub ctx c (a i) (b i))) ∧
      exec (.vfaddVfsubVfmul n .mul w) s = out 0x8B (fun i => fpRes (two i) c (opMul ctx c (a i) (b i))) ∧
      exec (.vfminVfmax n .min w) s = out 0x8B (fun i =>
        fpRes (two i) c (opMinMax ctx false c (a i) (b i))) ∧
      exec (.vfminVfmax n .max w) s = out 0x8B (fun i =>
        fpRes (two i) c (opMinMax ctx true c (a i) (b i))) ∧
      exec (.vfabsVfnegVfsgnj n .abs w) s = out 0x8B (fun i => fpRes [(c, a i)] c
        (if bitsNan c (a i) then canonNan c else a i % 2 ^ (fmtBits c - 1), 0)) ∧
      exec (.vfabsVfnegVfsgnj n .neg w) s = out 0x8B (fun i => fpRes [(c, a i)] c
        (if bitsNan c (a i) then canonNan c else a i ^^^ 2 ^ (fmtBits c - 1), 0)) ∧
      exec (.vfabsVfnegVfsgnj n .sgnj w) s = out 0x8B (fun i => fpRes (two i) c
        (signOp .sgnj c (a i) (b i), 0)) ∧
      (∀ f, exec (.vfmaVfmsVfnmaVfnms n f w) s = out 0x8C (fun i =>
        let d := l.elem w.vc.toNat e i
        fpRes (two i ++ [(c, d)]) c
          (opFma ctx c (f = .fnma || f = .fnms) (f = .fms || f = .fnms) (a i) (b i) d))) ∧
      (∀ f, w.zf = false → 1 ≤ w.vd.toNat → w.vd.toNat < 16 →
        exec (.vfcmp n f w) s = s.vecDone n w 0x8E
          (l.vcompare w (fun i => fcmpRes f ctx c (a i) (b i))))) ∧
    (c ≤ 3 →
      exec (.vfdivVfsqrt n .div w) s = out 0x8D (fun i => fpRes (two i) c (opDiv ctx c (a i) (b i))) ∧
      exec (.vfdivVfsqrt n .sqrt w) s = out 0x8D (fun i => fpRes [(c, a i)] c (opSqrt ctx c (a i)))) ∧
    (c = 1 → ∀ f, exec (.vexpVrecipVrsqrtVlogi n f w) s = out 0x8D (fun i =>
      fpRes [(1, a i)] 1 (elemOp f ctx (a i))))

/-- The conversions, MX packing, widening and dot-product instructions complete (R185 to R189). -/
def Obligations.VectorConversionsComplete : Prop :=
  ∀ (s : State) (n : Nat) (w : VOp), s.vecIssues n w →
    let l := s.lan n
    let k := l.wick
    let e := 8 * 2 ^ k.vew.toNat
    let ctx := k.fctx
    let a (i : Nat) : Nat := l.elem w.va.toNat e i
    let b (i : Nat) : Nat := l.vbElem w e i
    (cvtLegal k w = true →
      exec (.vcvt n w) s = s.vecDone n w 0x8F (l.vmap w (fmtBits w.fmt.toNat) (fun i =>
        let x := l.elem w.va.toNat (fmtBits w.fmt2.toNat) i
        fpRes [(w.fmt2.toNat, x)] w.fmt.toNat (opConvert ctx w.fmt2.toNat w.fmt.toNat x)))) ∧
    (k.vew = 2 → isMx w.fmt.toNat = true → w.va ≠ w.vd →
      (w.zf = false → w.va ≠ w.vc → ∃ r, exec (.vmxpack n w) s =
        State.vecDone { s with freeCtr := s.freeCtr + 1 } n w 0x90 r ∧ r.l = { l with v := r.l.v } ∧
        (∀ g, g ≠ w.vd.toNat → g ≠ w.vc.toNat → k.vl ≤ 2048 → r.l.v.getD g 0 = l.v.getD g 0) ∧
        (w.vd ≠ w.vc → k.vl ≤ 2048 → ∀ blk, 32 * blk < k.vl →
          ((natRange (32 * blk) (32 * blk + 32)).any (l.active w.pg.toNat) = true →
            let q := quantize w.fmt.toNat ((natRange (32 * blk) (32 * blk + 32)).map (fun i =>
              (if l.active w.pg.toNat i then rdElem ctx 1 (a i) else FV.zero, ctx.mode)))
            r.l.elem w.vc.toNat 8 blk = q.1 % 256) ∧
          ((natRange (32 * blk) (32 * blk + 32)).any (l.active w.pg.toNat) = false →
            r.l.elem w.vc.toNat 8 blk = l.elem w.vc.toNat 8 blk))) ∧
      (w.sb = true ∨ w.vd ≠ w.vb →
        exec (.vmxunpack n w) s = s.vecDone n w 0x90 (l.vmap w 32 (fun i =>
          let sc := if w.sb then (l.fReg w.vb.toNat).toNat % 256 else l.elem w.vb.toNat 8 (i / 32)
          let x := scaled sc (decodeCode w.fmt.toNat (l.elem w.va.toNat (fmtBits w.fmt.toNat) i))
          let r := toFmt ctx 1 x
          { bits := r.1, exc := r.2, nan := if x.isNan then some (false, w.fmt.toNat) else none })))) ∧
    (w.vd.toNat % 2 = 0 → ¬(w.va.toNat = w.vd.toNat ∨ w.va.toNat = w.vd.toNat + 1) →
      (w.sb = true ∨ ¬(w.vb.toNat = w.vd.toNat ∨ w.vb.toNat = w.vd.toNat + 1)) →
      (k.vew ≠ 3 →
        exec (.vwmulVwmulu n .signed w) s = s.vecDone n w 0x91 (l.vmap w (2 * e) (fun i =>
          { bits := ((sInt e (a i) * sInt e (b i)) % (2 ^ (2 * e) : Int)).toNat })) ∧
        exec (.vwmulVwmulu n .unsigned w) s = s.vecDone n w 0x91 (l.vmap w (2 * e) (fun i =>
          { bits := a i * b i }))) ∧
      (1 ≤ w.fmt.toNat → w.fmt.toNat ≤ 3 → fmtBits w.fmt.toNat = e →
        let c := w.fmt.toNat
        let wc := if c = 1 then 0 else 1
        let p (i : Nat) : FV × Exc := fvMul (rdElem ctx c (a i)) (rdElem ctx c (b i))
        exec (.vfwmulVfwma n .mul w) s = s.vecDone n w 0x91 (l.vmap w (2 * e) (fun i =>
          fpRes [(c, a i), (c, b i)] wc (finish ctx wc (p i)))) ∧
        exec (.vfwmulVfwma n .ma w) s = s.vecDone n w 0x91 (l.vmap w (2 * e) (fun i =>
          let d := l.elem w.vd.toNat (2 * e) i
          let t := fvAdd ctx.mode (rdElem ctx wc d) (p i).1
          fpRes [(c, a i), (c, b i), (wc, d)] wc (finish ctx wc (t.1, (p i).2 ||| t.2)))))) ∧
    (k.vew = 2 →
      (w.fmt2 = 0xB → w.fmt = 0xB → exec (.vdot4Vdot2 n .dot4 w) s = s.vecDone n w 0x92
        (l.vmap w 32 (fun i =>
          { bits := uInt 32 (((l.elem w.vd.toNat 32 i : Nat) : Int) +
              ((List.range 4).map (fun j =>
                sInt 8 (natField (a i) (8 * j) 8) * sInt 8 (natField (b i) (8 * j) 8))).sum) }))) ∧
      ((w.fmt2 = 4 ∨ w.fmt2 = 5) → (w.fmt = 4 ∨ w.fmt = 5) →
        exec (.vdot4Vdot2 n .dot4 w) s = s.vecDone n w 0x92 (l.vmap w 32 (fun i =>
          dotFp ctx w.fmt2.toNat w.fmt.toNat
            ((List.range 4).map (fun j => (natField (a i) (8 * j) 8, natField (b i) (8 * j) 8)))
            (l.elem w.vd.toNat 32 i)))) ∧
      (w.fmt2 = 2 → w.fmt = 2 → exec (.vdot4Vdot2 n .dot2 w) s = s.vecDone n w 0x92
        (l.vmap w 32 (fun i => dotFp ctx 2 2
          [(a i % 2 ^ 16, b i % 2 ^ 16), (a i / 2 ^ 16 % 2 ^ 16, b i / 2 ^ 16 % 2 ^ 16)]
          (l.elem w.vd.toNat 32 i)))))

/-- The reductions, slides, permutations, moves and selects complete (R179, R190, R191). -/
def Obligations.VectorReductionsAndMovesComplete : Prop :=
  ∀ (s : State) (n : Nat) (w : VOp), s.vecIssues n w →
    let l := s.lan n
    let k := l.wick
    let e := 8 * 2 ^ k.vew.toNat
    let a (i : Nat) : Nat := l.elem w.va.toNat e i
    let out (opc : Nat) (f : Nat → Nat) : Out := s.vecDone n w opc (l.vmap w e (fun i => { bits := f i }))
    (w.zf = false →
      (∀ f, redIsFp f = false → ∃ r,
        exec (.reduction n f w) s = s.vecDone n w 0x93 r ∧ r.excs = [] ∧ r.nan = none ∧
        (∃ v : Nat, r.l = l.setF w.vd.toNat (BitVec.ofNat 64 v) ∧
          (l.actives w.pg.toNat = [] → v = (l.fReg w.vb.toNat).toNat % 2 ^ e) ∧
          (f = .sum → v = ((l.fReg w.vb.toNat).toNat + ((l.actives w.pg.toNat).map a).sum) % 2 ^ e))) ∧
      (∀ f, redLegal f k w.fmt = true → redIsFp f = true → ∃ r,
        exec (.reduction n f w) s = s.vecDone n w 0x93 r ∧
        let wc := if f = .fwsum then wideFmt w.fmt.toNat else w.fmt.toNat
        let start := (l.fReg w.vb.toNat).toNat % 2 ^ fmtBits wc
        ∃ v : Nat, r.l = l.setF w.vd.toNat (BitVec.ofNat 64 v) ∧
          (l.actives w.pg.toNat = [] → v = start) ∧
          ∀ i, l.actives w.pg.toNat = [i] → v =
            (redFpNode f k.fctx wc start (redLeaf k.fctx w.fmt.toNat wc (a i)).bits).bits) ∧
      (w.vd ≠ w.va →
        exec (.vslupVsldn n .up w) s = out 0x94 (fun i =>
          if i < k.a.toNat then l.elem w.vd.toNat e i else a (i - k.a.toNat)) ∧
        exec (.vslupVsldn n .down w) s = out 0x94 (fun i =>
          if i + k.a.toNat < k.vl then a (i + k.a.toNat) else 0) ∧
        ∃ r, exec (.vcompress n w) s = s.vecDone n w 0x94 r ∧
          r.l.wick = { k with a := BitVec.ofNat 64 (l.actives w.pg.toNat).length } ∧
          ∀ j i, (l.actives w.pg.toNat)[j]? = some i → r.l.elem w.vd.toNat e j = a i) ∧
      (∃ r, exec (.vsel n w) s = s.vecDone n w 0x95 r ∧ r.l = { l with v := r.l.v } ∧
        ∀ i, i < k.vl → r.l.elem w.vd.toNat e i =
          if l.active w.pg.toNat i then a i else l.vbElem w e i)) ∧
    (w.vd ≠ w.va → (w.sb = true ∨ w.vd ≠ w.vb) → exec (.vperm n w) s = out 0x94 (fun i =>
      if l.vbElem w e i < k.vl then a (l.vbElem w e i) else 0)) ∧
    exec (.vmvVbcastViota n .mv w) s = out 0x95 a ∧
    exec (.vmvVbcastViota n .bcast w) s = out 0x95 (fun _ => (l.fReg w.vb.toNat).toNat % 2 ^ e) ∧
    exec (.vmvVbcastViota n .iota w) s = out 0x95 (fun i => i % 2 ^ e)

/-- The vector loads and stores complete once every element is translated, aligned and unobstructed: a
load writes its registers, a store enters the queue with its bytes and changes no memory. Its write phase, at
VECTOR_INSTRUCTION_COMPLETE, stores them, the higher of two elements at one address last (R164 to R169, R176,
R182 to R184). -/
def Obligations.VectorMemoryComplete : Prop :=
  ∀ (s u : State) (n : Nat) (w : VMem), s.issues n 8 w.cond → (s.lan n).vq.length < 8 →
    let l := s.lan n
    let dv := decide (4 ≤ w.am.toNat)
    let wb := 2 ^ l.wick.vew.toNat
    (∀ i opc form, (i, opc, form) ∈ [(Instr.vld n w, 0x82, VForm.unit), (.vlds n w, 0x84, .stride),
        (.vgath n w, 0x86, .index), (.vldseg n w, 0x88, .seg)] →
      vmemLegal l.wick w form false = true →
      let xs := l.vaccs w form
      (s.unpin n).vtranslate n dv false wb xs = .ok u →
      let p := u.pin n dv xs
      (p.lan n).vwaits dv false wb xs = false → (∀ x ∈ xs, p.vpoison n dv x.addr.toNat wb = false) →
      let vals := xs.map (fun x => (x, leNat (p.vread n dv x.addr.toNat wb)))
      ∃ t : State, exec i s = .next ((t.vecEnter n (vmemWord w opc)
          { l := (t.lan n).vloadWrite w form vals } (t.lan n).pins []).completes n 8 id) ∧
        t.mem = p.mem ∧ (t.lan n).v = (p.lan n).v ∧ (dv = false → t = p)) ∧
    (∀ i opc form, (i, opc, form) ∈ [(Instr.vst n w, 0x83, VForm.unit), (.vsts n w, 0x85, .stride),
        (.vscat n w, 0x87, .index), (.vstseg n w, 0x89, .seg)] →
      vmemLegal l.wick w form true = true →
      let xs := l.vaccs w form
      (s.unpin n).vtranslate n dv true wb xs = .ok u →
      let p := u.pin n dv xs
      (p.lan n).vwaits dv true wb xs = false →
      let st := (joinRuns (xs.map (fun x => (x.addr.toNat,
        leBytes wb (l.elem x.reg l.wick.ewBits x.i))))).map (fun r => (dv, r.1, r.2))
      exec i s = .next ((p.vecEnter n (vmemWord w opc) { l := p.lan n } (p.lan n).pins st).completes n 8 id) ∧
      ∀ (v : State) (e : VqEntry), e.stores = st → dv = false →
        let t := v.writePhase n e
        t.mem = v.mem ∧ (∀ m, m ≠ n → t.lan m = v.lan m) ∧
        (∀ x, (∀ y ∈ xs, ¬(y.addr.toNat ≤ x ∧ x < y.addr.toNat + wb)) →
          (t.lan n).lsRead x 1 = (v.lan n).lsRead x 1) ∧
        ∀ y, xs.getLast? = some y → (t.lan n).lsRead y.addr.toNat wb =
          leBytes wb (l.elem y.reg l.wick.ewBits y.i))

/-! ### Matrix arrays, chains, customer instructions (chapters 3 to 5 and 10) -/

/-- MMA and MDRAIN enter the matrix queue, MFENCE waits for it, MCAP gives the capability fields (R80, R82,
R83, R88); a multiply waits while a pending loader write meets its reads (R81, R254); a multiply or drain with a fault of R78 raises event 0x21 and changes nothing else. -/
def Obligations.MatrixInstructionsComplete : Prop :=
  (∀ (s : State) (n : Nat) (w : LongWord), s.issues n 8 w.cond →
     let l := s.lan n
     (let r := l.mmaOf w
      l.mmaLegal r = true → l.guardHit r.reads = none → l.mqWaits r.reads [] = false → l.mq.length < 16 →
       exec (.mma n w) s = .next (s.completes n 8 (fun l => (l.mqAdd r.insn (.mma r)).mqTidy)) ∧
       (l.mq = [] → (∀ m, m < 8 → l.inSvc m = true ∧ r.skip.getLsbD m = false) →
         ∃ t, exec (.mma n w) s = .next t ∧ (t.lan n).mq =
           [{ id := l.mqNext, pc := l.wick.pc, insn := r.insn, op := .mma r, done := 0, written := 0 }] ∧
           t.mem = s.mem ∧ (t.lan n).ls = l.ls ∧ (t.lan n).arrs = l.arrs)) ∧
     (let r := l.mmaOf w
      l.mmaLegal r = true → l.guardHit r.reads = none →
       (∃ i ∈ l.lq, ∃ x ∈ i.lsWrites, meets x.1 x.2 r.reads = true) →
       exec (.mma n w) s = .next (s.modLan n (fun l => { l with wait := .drain }))) ∧
     (let d := l.drainOf w
      l.drainLegal w d = true → l.guardHit [(d.ob, d.ext)] = none → l.mqWaits [] [(d.ob, d.ext)] = false →
       l.mq.length < 16 →
       exec (.mdrain n w) s = .next (s.completes n 8 (fun l => (l.mqAdd (longInsn w 0xA1) (.drain d)).mqTidy))) ∧
     (w.lo = 0 → w.w1 = 0 →
       (l.mq = [] → (∀ p ∈ l.arrs, p.2.shadow = []) →
         exec (.mfence n w) s = .next (s.completes n 8 id)) ∧
       ((l.mq ≠ [] ∨ ∃ p ∈ l.arrs, p.2.shadow ≠ []) →
         exec (.mfence n w) s = .next (s.modLan n (fun l => { l with wait := .fence }))) ∧
       exec (.mcap n w) s = .next (s.completes n 8 (onWick (fun k => { k with
         a := BitVec.ofNat 64 (l.amask.toNat * 2 ^ 24 + (if l.narr = 0 then 0 else l.wmin) * 2 ^ 18 +
           l.meff * 2 ^ 12 + l.neff * 2 ^ 6 + (if l.chk then 32 else 0) + l.narr) }))))) ∧
  (∀ (s : State) (n : Nat) (w : LongWord), s.issues n 8 w.cond →
     let l := s.lan n
     (l.mmaLegal (l.mmaOf w) = false →
       exec (.mma n w) s = .next ((s.issued n).takeEvent n 0x21 l.wick.pc l.wick.pc 0 0)) ∧
     (l.drainLegal w (l.drainOf w) = false →
       exec (.mdrain n w) s = .next ((s.issued n).takeEvent n 0x21 l.wick.pc l.wick.pc 0 0)))

/-- What the arrays do on their own: a share runs into its slot, a drain hands its tile to shadow banks, a
tile is written out, an uncorrectable accumulator read poisons its tile or, in checksum mode, holds it (R392), the checksum steps of R93, quarantines and bypasses take effect (R83, R89 to R103).
A quarantine takes an array out of AMASK and NARR and halts a lantern that has no other array; a bypass
narrows its array by one column (R88 to R90, R94, R95). -/
def Obligations.MatrixArrayWorkComplete : Prop :=
  (∀ (s : State) (n m : Nat) (ups : List CellUpset), s.lanOn n = true → (s.lan n).halt.halted = false →
     let l := s.lan n
     let a := l.arr m
     (∀ e, l.mqHead m = some e → l.inserted m = false →
       (∀ r, e.op = .mma r → l.readsBlocked e.id r.reads = false →
         (∃ t : Lantern, exec (.mmaShareComplete n m ups .good) s = .next (s.setLan n t.mqTidy) ∧
           t.ls = l.ls ∧ t.wick = l.wick ∧
           (t.arr m).slots.find? r.slot = some (r.run l a m ups (a.slots.find? r.slot)).1 ∧
           ∀ j, j ≠ m → t.arr j = l.arr j) ∧
         (a.quar = false → ∀ bank row, ∃ (t : State) (x : Tile),
           exec (.mmaShareComplete n m ups (.uncorrectable bank row)) s = .next t ∧
           ((t.lan n).arr m).slots.find? r.slot = some x ∧
           (x.req.isSome = true → x.afe = true) ∧
           (x.req = none → ∃ q, q < 4 ∧ x.poison.getLsbD q = true ∧ (x.shape ≠ 5 → q = 0)))) ∧
       (∀ d t, e.op = .drain d → a.slots.find? d.slot = some t →
         let k := bankK t.fc t.comp
         (a.shad + k ≤ 16 → ∃ u : Lantern, exec (.handOff n m) s = .next (s.setLan n u.mqTidy) ∧
           (u.arr m).slots = a.slots.erase d.slot ∧
           (u.arr m).shadow = a.shadow ++ [{ tile := t, banks := k, id := e.id, req := d }] ∧ u.ls = l.ls) ∧
         (16 < a.shad + k → ∃ h, exec (.handOff n m) s = .next (State.modLan { s with
           freeCtr := s.freeCtr + 1 } n (fun l => l.modArr m (fun a => { a with howait := h }))) ∧
           (a.howait ≤ h ∨ 2 ^ 32 ≤ a.howait)))) ∧
     (∀ h t, a.shadow = h :: t →
       (h.step = .drain →
         ((h.tile.req.isSome && !h.tile.passes m) = false →
           exec (.tileDrain n m .good) s = .next (s.setLan n (l.writeTile m h))) ∧
         ((h.tile.req.isSome && !h.tile.passes m) = true → exec (.tileDrain n m .good) s =
           .next (s.setLan n (l.modShadow m (fun t =>
             { t with step := if a.quar then .substitute else .recompute })))) ∧
         (∀ bank row,
           let v : State := { s with freeCtr := s.freeCtr + 1 }
           (h.tile.req = none → ∃ q, q < 4 ∧ (h.tile.shape ≠ 5 → q = 0) ∧
             exec (.tileDrain n m (.uncorrectable bank row)) s = .next (State.modLan
               (v.record { src := readyLan n, cls := clsUe, code := 0x0204, lockind := 4
                           loc := v.locSram n 3 bank row }) n
               (fun l => l.writeTile m { h with tile := { h.tile with
                 poison := bitSet h.tile.poison q true } }))) ∧
           (h.tile.req.isSome = true → exec (.tileDrain n m (.uncorrectable bank row)) s =
             .next (v.setLan n (l.modShadow m (fun t =>
               { t with tile := { h.tile with afe := true }
                        step := if a.quar then .substitute else .recompute })))))) ∧
       (∀ r, h.step = .recompute → h.tile.req = some r →
         let x := (r.run l a m ups none).1
         (x.passes m = true →
           exec (.recomputeComplete n m ups) s = .next ((s.recomputePassed n m h.tile m).modLan n
             (fun l => l.writeTile m { h with tile := x })) ∧
           ∃ (u : State) (y : RecIn), s.recomputePassed n m h.tile m = u.record y ∧ y.code = 0x0107 ∧
             y.sub = m ∧ ((u.lan n).arr m).recomp = satAdd 16 a.recomp 1) ∧
         (x.passes m = false → x.sameBits h.tile = true → exec (.recomputeComplete n m ups) s =
           .next (s.setLan n (l.modShadow m (fun t => { t with step := .selftest m })))) ∧
         (x.passes m = false → x.sameBits h.tile = false → exec (.recomputeComplete n m ups) s =
           .next ((s.setLan n (l.modShadow m (fun t => { t with step := .substitute }))).quarantineArr n m))) ∧
       (∀ r j, h.step = .substitute → h.tile.req = some r → h.tile.deferred = false →
         l.substitute m = some j → l.readsBlocked h.id r.reads = false →
         let x := (r.run l (l.arr j) m ups none).1
         (x.passes m = true → exec (.substituteShareComplete n m ups) s =
           .next (s.setLan n (l.writeTile m { h with tile := x }))) ∧
         (x.passes m = false → exec (.substituteShareComplete n m ups) s =
           .next (s.setLan n (l.modShadow m (fun t => { t with tile := x, step := .selftest j }))))) ∧
       (∀ j, h.step = .selftest j →
         exec (.patternSelftestComplete n m false) s =
           .next ((s.setLan n (l.modShadow m (fun t => { t with step := .substitute }))).quarantineArr n j) ∧
         exec (.patternSelftestComplete n m true) s =
           .next ((s.stablePair n j).modLan n (fun l => l.writeTile m h)) ∧
         ∃ (u : State) (y : RecIn), s.stablePair n j = u.record y ∧ y.code = 0x0402 ∧ y.sub = j ∧
           ((u.lan n).arr j).stable = satAdd 16 (l.arr j).stable 1)) ∧
     (a.quarReq = true → a.quar = false → (l.chk = true ∨ l.gang = none) →
       exec (.arrayQuarantineEffect n m) s = .next (s.quarantineArr n m)) ∧
     (a.bypPend = true → l.gang = none → l.claimed = false →
       (a.nbyp < 2 → exec (.bypassConversion n m) s = .next (s.convertColumn n m a).examine) ∧
       (2 ≤ a.nbyp → exec (.bypassConversion n m) s = .next ((State.quarantineArr (s.setLan n
         (l.modArr m (fun a => { a with
           bypPend := false, strike := bitSet a.strike a.pendCol.toNat false }))) n m).examine)))) ∧
  (∀ (s : State) (n m : Nat), m < 8 → s.pilot.started = false → n ∈ s.pilot.spareReqs →
     let l := s.lan n
     (l.arr m).quar = false →
     (∀ t, t = s.quarantineArr n m →
       ((∃ j, j < 8 ∧ j ≠ m ∧ (l.arr j).quar = false) →
         ((t.lan n).arr m).quar = true ∧ (t.lan n).amask.getLsbD m = false ∧
         (∀ j, j < 8 → j ≠ m → (t.lan n).amask.getLsbD j = !(l.arr j).quar) ∧
         (t.lan n).narr = ((List.range 8).filter (fun j => decide (j ≠ m) && !(l.arr j).quar)).length) ∧
       ((∀ j, j < 8 → j ≠ m → (l.arr j).quar = true) →
         ∃ u : State, t = u.haltLan n 0x48 l.wick.pc ∧ (u.lan n).narr = 0 ∧ (u.lan n).amask = 0)) ∧
     (∀ a t, a = l.arr m → a.nbyp < 2 → t = s.convertColumn n m a → ((t.lan n).arr m).nbyp = a.nbyp + 1 ∧
       ((t.lan n).arr m).width + 1 = a.width ∧ ((t.lan n).arr m).bypPend = false ∧
       t.flash.bypasses = s.flash.bypasses ++ [(s.fuseSite n, m, a.pendCol)]))

/-- HCHAIN gives the descriptor's status in A and queues a chain whose status is 0; a chain starts at the
head of the queue and, when it completes, its outputs stand in local store and its entry has left
(R121 to R125). In checksum mode every product tile is checked, and one that mismatches leaves what R93 says:
a recompute, a stable result, or a quarantine and a substitute (R126). -/
def Obligations.ChainsComplete : Prop :=
  ∀ (s : State) (n : Nat) (w : LongWord) (d : List Byte),
    let l := s.lan n
    let at_ := l.wick.x.toNat % 2 ^ 22
    (s.issues n 8 w.cond → w.lo = 0 → w.w1 = 0 → at_ % 128 = 0 → l.narr ≠ 0 → l.guardHit [(at_, 128)] = none →
      s.readDesc n at_ = .ok d →
      let st := l.chainStatus d
      let put (l : Lantern) : Lantern :=
        onWick (fun k => { k with a := BitVec.ofNat 64 st, flags := withZ k.flags (st = 0) }) l
      (st ≠ 0 → exec (.hchain n w) s = .next (s.completes n 8 put)) ∧
      (st = 0 → l.guardHit (l.chainRanges d) = none →
        l.mqWaits (chainD d).reads (chainD d).writes = false → l.mq.length < 16 →
        exec (.hchain n w) s = .next (s.completes n 8 (fun l =>
          put (l.mqAdd (longInsn w 0xB0) (.chain d false)).mqTidy)))) ∧
    (s.lanOn n = true → l.halt.halted = false → ∀ e t, l.mq = e :: t →
      (e.op = .chain d false → exec (.chainStart n) s =
        .next (s.setLan n { l with mq := { e with op := .chain d true } :: t })) ∧
      (e.op = .chain d true → ∀ ups x, x = s.runChain n (chainD d) ups →
        (x.lost = true → exec (.chainComplete n ups) s = .next x.s) ∧
        (x.lost = false → (x.s.lan n).mq = l.mq →
          ∃ v : Lantern, exec (.chainComplete n ups) s = .next (x.s.setLan n v.mqTidy) ∧
            v.mq = { e with done := 0xFF, nan := x.nan.map (chainNanRep e.pc e.insn) } :: t ∧
            v.ls = (x.s.lan n).ls ∧ ∀ p ∈ v.arrs, p.2.slots = []))) ∧
    (∀ u o,
      let m := u.tile.arr
      let a := l.arr m
      let t := o.tile a u.first
      let t2 := o.tile a u.again
      (l.chk = false → s.chainTile n u o = (s, some (a, u.first))) ∧
      (l.chk = true → a.quar = false →
        (t.passes 0 = true → s.chainTile n u o = (s, some (a, u.first))) ∧
        (t.passes 0 = false → t2.passes 0 = true →
          s.chainTile n u o = (s.recomputePassed n m t 0, some (a, u.again))) ∧
        (t.passes 0 = false → t2.passes 0 = false → t2.sameBits t = true → u.pass = true →
          s.chainTile n u o = (s.stablePair n m, some (a, u.first))) ∧
        (t.passes 0 = false → t2.passes 0 = false → t2.sameBits t = false ∨ u.pass = false →
          s.chainTile n u o = (s.quarantineArr n m).chainSub n m o 8 u.subs)))

/-- A customer instruction runs its slot's routine: the staged registers, stores and exceptions take effect
together at END, FLAGS only under S, and ABORTS clears; it raises event 0x22 in supervisor mode and 0x21
where the slot is not VALID (R282 to R290). -/
def Obligations.CustomerInstructionsComplete : Prop :=
  (∀ (s t : State) (n : Nat) (slot : BitVec 5) (w : BaseWord) (z : UcUpset) (u : Uc) (v a : Dword),
     s.issues n w.len w.cond →
     let l := s.lan n
     let k := l.wick
     let e := l.ucEntry slot.toNat
     (k.sup = false → z.badSlot = false → slot.toNat ∉ l.ucBad → entValid e = true → natBit (entAm e) w.am.toNat = true →
       s.ucOperand n w = .ok (v, a) →
       ucGo n slot.toNat z (decide (64 < entLen e + 1) && decide (l.ucAborts < 4))
         ((List.range (entLen e + 1)).map (fun i => (i, (l.ucstore.getD (entStart e + i) 0).toNat))) 0
         { s := s, k := k, t := [], opv := v, ea := a, fxs := 0, sts := [] } = .ok (.commit u) →
       u.s.ucCommit n w u = .ok t → exec (.customerInstruction n slot w z) s = .next (t.issued n)) ∧
     (k.sup = true → exec (.customerInstruction n slot w z) s =
       .next ((s.issued n).takeEvent n 0x22 k.pc k.pc 0 0)) ∧
     (k.sup = false → z.badSlot = false → slot.toNat ∉ l.ucBad → entValid e = false → exec (.customerInstruction n slot w z) s =
       .next ((s.issued n).takeEvent n 0x21 k.pc k.pc 0 0))) ∧
  (∀ (s : State) (n : Nat) (w : BaseWord) (u : Uc),
     let es := u.sts.flatMap (fun e => sbEntries (!e.1) e.2.1 e.2.2)
     u.fxs = 0 → (s.lan n).storeWaits es = false → (s.lan n).sb.length + es.length ≤ 8 →
       ∃ t, s.ucCommit n w u = .ok t ∧ (∀ m, m ≠ n → t.lan m = s.lan m) ∧ t.mem = s.mem ∧
         let l : Lantern := { s.lan n with
           sb := (s.lan n).sb ++ es, ucAborts := 0
           wick := { (s.lan n).wick with
             a := u.k.a, x := u.k.x, y := u.k.y, cnt := u.k.cnt, src := u.k.src, dst := u.k.dst
             flags := if w.s then u.k.flags else (s.lan n).wick.flags } }
         t.lan n = l.done (l.wick.advance w.len))

/-! ### DRAM and tile caches (chapters 12, 13 and 16) -/

/-- DRAM_READ counts and reports corrected codewords, and poisons an uncorrectable unit or sets it
aside for its rebuild; UNIT_REBUILD rebuilds or poisons it (R300, R301, R307, R388, R389, R400). -/
def Obligations.DramReadsAndRebuilds : Prop :=
  ∀ (s : State) (pa : Nat) (errs : List (BitVec 80)) (bad : List Nat),
    let u := pa / 64 * 64
    let c := paChannel u
    let was := s.poison.contains (u / 64)
    (s.chServes u = true → s.chHeld u = false → s.excluded u = false → s.rebuilds.find? (u / 64) = none →
      let v := s.rowOpen u
      (v.ch c).openRows.find? (caBankIdx (paCa u)) = some (caRow (paCa u)) ∧
      (was = false → (unitLeft was errs).all (fun b => b = 0) = true → v.asDecoded u was errs = v) ∧
      (∀ a, (a < u ∨ u + 64 ≤ a) → cellAt (v.asDecoded u was errs).mem a = cellAt s.mem a) ∧
      (∀ k syn, unitDecode was errs = (.good, k, syn) →
        exec (.dramRead pa errs) s = .next (v.asDecoded u was errs)) ∧
      (∀ k syn, unitDecode was errs = (.poisoned, k, syn) → exec (.dramRead pa errs) s = .next v) ∧
      (∀ k syn, unitDecode was errs = (.ce, k, syn) →
        ∃ xs : List RecIn, exec (.dramRead pa errs) s = .next (((v.asDecoded u was errs).modCh c (fun d =>
            { d with cecnt := min (d.cecnt + xs.length) (2 ^ 32 - 1) })).records xs) ∧
          ∀ x ∈ xs, x.code = 0x0101 ∧ x.cls = clsCe ∧ x.src = readyCh c) ∧
      (∀ k syn, unitDecode was errs = (.ue, k, syn) →
        (s.strOf u = 0 → exec (.dramRead pa errs) s =
          .next ((v.poisonPa u).record (dramRec u clsUe 0x0201 syn))) ∧
        (s.strOf u ≠ 0 → exec (.dramRead pa errs) s =
          .next { v with rebuilds := s.rebuilds.put (u / 64) syn }))) ∧
    (∀ syn, s.rebuilds.find? (u / 64) = some syn → s.deltaAtOffset u = false →
      let t := { s with rebuilds := s.rebuilds.erase (u / 64) }
      (∀ g, s.granUse u = some g →
        (16 ≤ (s.usable g (u % 4096) bad).length → exec (.unitRebuild pa bad) s =
          .next (t.record (dramRec u clsCe 0x0102 g.pte.str))) ∧
        ((s.usable g (u % 4096) bad).length < 16 → exec (.unitRebuild pa bad) s =
          .next ((t.poisonPa u).record (dramRec u clsUe 0x0201 syn)))) ∧
      (s.granUse u = none → exec (.unitRebuild pa bad) s =
        .next ((t.poisonPa u).record (dramRec u clsUe 0x0201 syn))))

/-- DRAM_WRITE writes the bytes that its mask names and no other; where a page group has parity the
deltas go out, and PARITY_DELTA and PARITY_ACKNOWLEDGEMENT bring them home (R304 to R306, R398). -/
def Obligations.DramWritesAndParity : Prop :=
  ∀ (s : State) (pa q : Nat) (mask : BitVec 64) (data : BitVec 512) (errs : List (BitVec 80)),
    let u := pa / 64 * 64
    let was := s.poison.contains (u / 64)
    let rmw := partWord mask || (was && decide (mask ≠ BitVec.allOnes 64))
    (s.chServes u = true → s.chHeld u = false → s.excluded u = false → s.rebuilds.find? (u / 64) = none →
      mask ≠ 0 → (unitDecode was errs).1 ≠ .ue → (∀ g, s.granUse u = some g → g.idx < 16) →
      let read := if rmw then xorBytes (s.physRead u 64) (unitLeft was errs) else s.physRead u 64
      let new (i : Nat) : Byte := if mask.getLsbD i then (data >>> (8 * i)).setWidth 8 else read.getD i 0
      (s.strOf u = 0 → ∃ t, exec (.dramWrite pa mask data errs) s = .next t ∧
        (∀ i, i < 64 → cellAt t.mem (u + i) = new i) ∧
        (∀ a, (a < u ∨ u + 64 ≤ a) → cellAt t.mem a = cellAt s.mem a) ∧
        (was = false → t.poison = s.poison) ∧ t.deltas = s.deltas ∧
        (t.ch (paChannel u)).rmwcnt = if rmw then
          min ((s.ch (paChannel u)).rmwcnt + 1) (2 ^ 32 - 1) else (s.ch (paChannel u)).rmwcnt) ∧
      (∀ g, s.granUse u = some g → g.pte.str ≠ 0 → was = false →
        s.offPoison g.pte g.group (u % 4096) = false → s.parityPoison g.pte g.group (u % 4096) = false →
        ∃ t, exec (.dramWrite pa mask data errs) s = .next t ∧
          (∀ i, i < 64 → cellAt t.mem (u + i) = new i) ∧
          (∀ a, (a < u ∨ u + 64 ≤ a) → cellAt t.mem a = cellAt s.mem a) ∧
          t.deltas = s.deltas ++ (List.range g.pte.str).map (fun q => (u, q, scaleBytes (rsCoef q g.idx)
            (xorBytes (s.physRead u 64) (t.physRead u 64)))))) ∧
    ((s.deltas.any (fun d => decide (d.1 = u ∧ d.2.1 = q) && !d.2.2.isEmpty)) = true →
      ∃ (t : State), exec (.parityDelta pa q) s = .next (t.syncPa u) ∧ t.mem = s.mem ∧
        t.deltas.length = s.deltas.length) ∧
    (exec (.parityAcknowledgement pa q) s = .next { s with
      deltas := delFirst (fun d => decide (d.1 = u) && decide (d.2.1 = q) && d.2.2.isEmpty) s.deltas })

/-- A channel's rows close, its refresh rate follows the temperature, training puts it in service with
zeroed memory or leaves it out, and a drift of more than 6 taps is reported (R301, R308 to R311). -/
def Obligations.ChannelUpkeepCompletes : Prop :=
  ∀ (s : State) (c bank fs : Nat) (eye : Word) (moved : List (Nat × Nat)),
    let d := s.ch c
    exec (.rowClose c bank) s = .next (s.modCh c (fun d => { d with openRows := d.openRows.erase bank })) ∧
    (s.chOn c = true →
      (∃ t, exec (.refresh c bank) s = .next t ∧ t.mem = s.mem ∧ t.poison = s.poison ∧
        (t.ch c).refx2 = if 85 < s.dieTemp c then true else if s.dieTemp c < 82 then false else d.refx2) ∧
      (d.en = true → exec (.delayRecentre c moved) s = .next (s.records
        ((moved.filter (fun p => 6 < p.2)).map (fun p =>
          { src := readyCh c, cls := clsInfo, code := 0x0405, aux := p.1 })))) ∧
      (d.en = false → d.listed = false → d.maint = 1 →
        (eyeBad eye = false →
          ∃ t, exec (.channelTrainingPassEnd c 0 eye) s = .next t ∧ (t.ch c).en = true ∧ (t.ch c).maint = 0 ∧
            (t.ch c).eye = eye ∧ t.isReady (readyCh c) = true ∧
            ∀ a, cellAt t.mem a = if paChannel a = c then 0 else cellAt s.mem a) ∧
        (1 ≤ fs → fs ≤ 7 → (fs = 6 → eyeBad eye = false) →
          (d.failedOnce = false → ∃ t, exec (.channelTrainingPassEnd c fs eye) s = .next t ∧
            (t.ch c).failedOnce = true ∧ (t.ch c).en = false ∧ (t.ch c).maint = 1 ∧ t.mem = s.mem) ∧
          (d.failedOnce = true → ∃ (t : State) (x : RecIn), exec (.channelTrainingPassEnd c fs eye) s =
            .next (t.record x) ∧ x.code = 0x0404 ∧ x.aux = fs ∧ (t.ch c).en = false ∧ (t.ch c).maint = 0 ∧
            (t.ch c).tfail = BitVec.ofNat 3 fs ∧ t.mem = s.mem))))

/-- An access to a tile cache hits its line or asks for a fill, the fill installs it, and writes to shared
lines are invalidated and acknowledged (R319, R321 to R328); wrong tag parity loses a clean line and poisons
a dirty one (R332). A way group loses power by a walk that
cleans it, and returns with all its ways invalid (R329 to R331). -/
def Obligations.TileCachesComplete : Prop :=
  (∀ (s : State) (pa n : Nat) (agent : Option Nat),
     let h := homeTc pa
     let line := pa / 256 * 256
     let w := accessor agent
     let quads : BitVec 16 := match agent with
       | some m => 1#16 <<< (m / 16)
       | none => 0
     (s.tcOn h = true → pa < paEnd → (s.tc h).held pa = false → s.cutHeld w pa = false → ∀ v, v = s.walkOn h →
       let hit := ((v.tc h).find pa).isSome
       let go (k : CacheKind) (t : State) : Prop := exec (.tileCacheAccess pa k agent .good) s = .next t
       ((s.tc h).clean = 0 → v = s ∧ (v.tc h).walked pa = false) ∧
       ((v.tc h).walked pa = true → ∀ k, go k v) ∧
       ((v.tc h).walked pa = false → ∀ k key x, (v.tc h).find pa = some key →
         (v.tc h).lines.find? key = some x → ∃ (u : State) (y : RecIn),
           exec (.tileCacheAccess pa k agent .tag) s = .next ((u.record y).cacheAccess pa k agent) ∧
           (x.dirty = true → y.code = 0x0203 ∧ u = State.poisonLine
               (v.modTc h (fun c => { c with ceTag := satAdd 16 c.ceTag 1 })) line ∧
             ((∀ i, i < 4 → v.strOf (line + 64 * i) = 0) → ∀ i, i < 4 → line / 64 + i ∈ u.poison)) ∧
           (x.dirty = false → y.code = 0x0104 ∧ (u.tc h).lines.find? key = none ∧ u.mem = v.mem ∧
             (u.tc h).ceTag = satAdd 16 (v.tc h).ceTag 1)) ∧
       ((v.tc h).walked pa = false → hit = true →
         go .read (v.modLine pa (fun x => { x with age := 0, pres := x.pres ||| quads })) ∧
         go .streamRead (v.modLine pa (fun x => { x with age := 0 })) ∧
         (∀ k, k ∈ [CacheKind.write, .wholeWrite, .streamWholeWrite] →
           go k ((v.modLine pa (fun x => { x with age := 0, dirty := true })).lineWritten w line)) ∧
         go .zeroLine (((v.modLine pa (fun x => { x with age := 3, dirty := true })).lineWritten w
           line).zeroLine line)) ∧
       ((v.tc h).walked pa = false → hit = false →
         go .read (v.askFills { pa := line, age := 1, prefetch := false, dirty := false, quads := quads }) ∧
         go .streamRead (v.modTc h (fun c =>
           c.askFill { pa := line, age := 3, prefetch := false, dirty := false })) ∧
         go .write (v.askFills { pa := line, age := 1, prefetch := false, dirty := true }) ∧
         go .wholeWrite (v.installLine pa 1 true 0) ∧ go .streamWholeWrite (v.installLine pa 3 true 0) ∧
         go .zeroLine ((v.installLine pa 3 true 0).zeroLine line))) ∧
     (∀ (f : TcFill) (r : List TcFill) (t : Nat), s.tcOn t = true → (s.tc t).fills = f :: r →
       (s.tc t).held f.pa = false → homeTc f.pa = t → ((s.tc t).find f.pa).isNone = true →
       let u := s.modTc t (fun c => { c with fills := r })
       let put (v : State) : State :=
         f.l1s.foldl (fun s p => if s.lanOn p.1 then s.modLan p.1 (fun l => l.l1Fill p.2) else s)
           (v.installLine f.pa f.age f.dirty f.quads)
       exec (.tileCacheFill t .good) s = .next (put u) ∧
       (∀ un syn, un < 4 → f.prefetch = false → s.poison.contains ((f.pa + 64 * un) / 64) = false →
         exec (.tileCacheFill t (.uncorrectable un syn)) s =
           .next (put ((u.poisonPa (f.pa + 64 * un)).record
             (dramRec (f.pa + 64 * un) clsUe 0x0201 syn.toNat))))) ∧
     (∀ i r, (s.tc h).invals = i :: r → i.pa = line → n ∈ i.lans →
       ∃ t, exec (.l1Invalidation n pa) s = .next t ∧
         t.lan n = ((s.lan n).l1Drop line).l1Drop (line + 128) ∧ (∀ m, m ≠ n → t.lan m = s.lan m) ∧
         (t.tc h).invals = { i with lans := setDel i.lans n } :: r ∧ t.mem = s.mem) ∧
     exec (.l1InvalidationAck pa) s = .next (s.modTc h (fun c => { c with
       invals := delFirst (fun i => decide (i.pa = line) && i.lans.isEmpty) c.invals }))) ∧
  (∀ (s : State) (t g : Nat), s.tcOn t = true → g < 4 →
     let c := s.tc t
     (1 ≤ g →
       (c.group.getLsbD g = true → c.on.getLsbD g = true → c.fuse = none →
         exec (.wayGroupPowerDown t g) s = .next (s.modTc t (fun c => { c with
           group := bitSet c.group g false, clean := bitSet c.clean g true }))) ∧
       (c.group.getLsbD g = false → c.clean.getLsbD g = false →
         exec (.wayGroupPowerUp t g) s = .next (s.modTc t (fun c => { c with group := bitSet c.group g true }))) ∧
       (c.group.getLsbD g = false → c.clean.getLsbD g = true →
         exec (.wayGroupPowerUp t g) s = .next (s.modTc t (fun c => { c with err := true })))) ∧
     (c.clean.getLsbD g = true → ∃ u, exec (.wayGroupCleanEnd t g) s = .next u ∧
       (u.tc t).clean.getLsbD g = false ∧ (u.tc t).on.getLsbD g = false ∧ u.mem = s.mem ∧
       ∀ p, p.1 / 16 < tcSets → (p ∈ (u.tc t).lines ↔ p ∈ c.lines ∧ p.1 % 16 / 4 ≠ g)) ∧
     (c.group.getLsbD g = true → c.clean.getLsbD g = false →
       exec (.wayGroupOn t g) s = .next (s.modTc t (fun c => { c with on := c.on ||| 1#4 <<< g }))))

/-! ### Address spaces and paging (chapter 14) -/

/-- A translation fills a buffer, sub-pages arrive once cirrus has an engine for them (R533), slow and failed
fetches are reported and retried, holds expire, pages are evicted and copied on write, and the page-table query
answers (R173, R337, R347, R348, R353 to R359). -/
def Obligations.PageFetchesComplete : Prop :=
  ∀ (s : State) (n vpn sub : Nat) (e : Pte) (f : Fetch),
    (s.view vpn = some e → e.v = true → e.acc ≠ .none → s.lanOn n = true → vpn ∉ (s.lan n).tb →
      ∃ t, exec (.translationFill n vpn) s = .next t ∧ vpn ∈ (t.lan n).tb ∧ t.mem = s.mem ∧
        (t.lan n).tb.length = min ((s.lan n).tb.length + 1) (max 64 (s.lan n).tb.length) ∧
        (∀ m, m ≠ n → t.lan m = s.lan m) ∧
        ((s.lan n).tb.length < 64 → (t.lan n).tb = (s.lan n).tb ++ [vpn])) ∧
    (s.view vpn = some e → e.v = true → e.acc ≠ .none → s.lanOn n = true → vpn ∈ (s.lan n).tb →
      (s.lan n).tb.length ≤ 64 → exec (.translationFill n vpn) s =
        .next (s.modLan n (fun l => { l with tb := l.tb.filter (fun v => v ≠ vpn) ++ [vpn] }))) ∧
    (s.pte? vpn = some e → s.cirrus.fetches.find? vpn = some f →
      (s.cirGoes vpn = false → exec (.subPageArrival vpn sub) s = .next s) ∧
      (s.cirGoes vpn = true → e.res ≠ .host → f.whole sub = true → exec (.subPageArrival vpn sub) s =
        .next ((s.setFetch vpn { f with arrived := bitSet f.arrived sub true }).wakePage vpn sub)) ∧
      (s.cirGoes vpn = true → e.res = .host → f.arrived.getLsbD sub = false → f.sealed sub = true →
        (∀ i, i < 16 → s.pageHeld (e.on f) (16 * sub + i) = false) →
        (s.openSub vpn sub e.sealver f = none → exec (.subPageArrival vpn sub) s =
          .next ((s.failFetch vpn e).record (pageRec clsUe 0x0209 vpn e.home e.sealver))) ∧
        (∀ pt, s.openSub vpn sub e.sealver f = some pt →
          let g := { f with
            arrived := bitSet f.arrived sub true, got := f.got ||| 0xFFFF#512 <<< (16 * sub) }
          let put (v : State) (i : Nat) : State :=
            v.fetchPart e g (16 * sub + i) (bslice pt (4096 * i) 4096) (f.pm.getD (16 * sub + i) 0)
          let t := ((List.range 16).foldl put s).setFetch vpn g
          exec (.subPageArrival vpn sub) s =
            .next (if g.full then t.fetchDone vpn e g else t.wakePage vpn sub))) ∧
      (f.slow = false → exec (.fetchSlow vpn) s = .next ((s.setFetch vpn { f with slow := true }).record
        (pageRec clsInfo 0x0407 vpn e.home e.home))) ∧
      (∃ u : State, exec (.fetchFail vpn) s = .next (u.record (pageRec clsUe 0x0208 vpn e.home e.home)) ∧
        u.cirrus.fetches.find? vpn = none ∧ u.pte? vpn = some { e with fail := true } ∧
        u.cirrus.fails = min (s.cirrus.fails + 1) 65535)) ∧
    (s.tc0On = true → exec .fetchRetry s = .next s.fetchRetry) ∧
    (∃ u : State, exec (.pageHoldExpiry vpn) s = .next u.pumpPins ∧ u.mem = s.mem ∧
      ∀ h, (h ∈ u.cirrus.holds ↔ h ∈ s.cirrus.holds ∧ h.1 ≠ vpn)) ∧
    (s.tc0On = true → (s.cirrus.capFree < 512 * s.cirrus.lowmark.toNat ∨ s.fetchStarved = true) →
      s.victim = some vpn → s.pte? vpn = some e → (e.acc = .write → s.cirGoes vpn = true) →
      exec .eviction s = .next (s.evict vpn e).wakeStuck) ∧
    (∀ c, s.cow? vpn = some c → s.pte? vpn = some e → e.gen ≠ s.cirrus.cur → s.ckCut = false →
      exec (.cowCopyComplete vpn) s =
        .next (((s.copyPage e c).setPte vpn { e with gen := s.cirrus.cur }).wakeVpn vpn).pumpPins) ∧
    (s.tc0On = true → ∀ v : Word, ∃ t, exec (.pteQuery v) s = .next t ∧
      t = { s with cirrus := t.cirrus } ∧ t.cirrus.pteqVpn = v.setWidth 27 ∧
      (v.getLsbD 31 = true → (∀ x, s.pte? (v.toNat % 2 ^ 27) = some x →
        t.cirrus.pteqMiss = false ∧ t.cirrus.pted = BitVec.ofNat 128 x.encode) ∧
        (s.pte? (v.toNat % 2 ^ 27) = none → t.cirrus.pteqMiss = true ∧ t.cirrus.pted = 0)))

/-- What a home does with the messages of its peers: requests are queued and served, answers release what
waits for them, and what is not homed here is answered with GONE (R346, R349, R351, R463). -/
def Obligations.HomeMessagesComplete : Prop :=
  ∀ (s u : State) (d vpn : Nat),
    let r := u.dir vpn
    let takes (msg : Nat) : Prop := s.takeCir d (fun o => o.isMsg msg (vpn * pageSize)) = some u
    (takes msgRd →
      (u.homed vpn = true → exec (.rd d vpn) s = .next (u.homeAsk vpn (.rd d))) ∧
      (u.homed vpn = false → exec (.rd d vpn) s = .next (u.cir d msgGone vpn))) ∧
    (takes msgWr →
      (u.homed vpn = true → exec (.wr d vpn) s = .next (u.homeAsk vpn (.wr d))) ∧
      (u.homed vpn = false → exec (.wr d vpn) s = .next (u.cir d msgGone vpn))) ∧
    (∀ i m, (i, m) ∈ [(Instr.invAcknowledgement d vpn, msgInvAck), (.nocopy d vpn, msgNocopy)] → takes m →
      (m = msgNocopy → d ∉ r.late) →
      (d ∈ r.await → exec i s = .next (State.homeGo (u.setDir vpn { r with
        await := setDel r.await d, readers := setDel r.readers d
        owner := if r.owner = some d then none else r.owner }) vpn)) ∧
      (d ∉ r.await → exec i s = .next u)) ∧
    (takes msgNocopy → d ∈ r.late → exec (.nocopy d vpn) s =
      .next (u.setDir vpn { r with late := delFirst (fun x => x = d) r.late })) ∧
    (takes msgDrop →
      let r' := { r with readers := setDel r.readers d }
      ((d ∈ r.readers ∧ r'.readers = [] ∧ r.owner = none ∧ r.cur = none) →
        (∀ e, u.pte? vpn = some e → exec (.drop d vpn) s =
          .next ((u.setDir vpn r').setPte vpn { e with shared := false }).settlePins) ∧
        (u.pte? vpn = none → exec (.drop d vpn) s = .next (u.setDir vpn r'))) ∧
      (¬(d ∈ r.readers ∧ r'.readers = [] ∧ r.owner = none ∧ r.cur = none) →
        exec (.drop d vpn) s = .next (u.setDir vpn r'))) ∧
    (takes msgWb → r.owner = some d → exec (.wb d vpn) s = .next (u.setDir vpn { r with wb := true })) ∧
    (∀ va size : Nat, s.takeCir d (fun o => o.isMsg 0x0C va && decide (beNat o.data = size)) = some u →
      (∀ p, u.rangeStr va size = some p → exec (.mapq d va size) s =
        .next (u.sendOp d 0x10 0 0 (BitVec.ofNat 64 va) (BitVec.ofNat 64 (0x0D + 256 * p)) 0 [])) ∧
      (u.rangeStr va size = none → exec (.mapq d va size) s =
        .next (u.sendOp d 0x10 0x02 0 (BitVec.ofNat 64 va) 0x0D 0 [])))

/-- What a holder does with the messages of a home: it gives its copy up or returns it, at once or once no
pin holds the page, and takes a grant; a part of a page is written where it belongs (R346, R349 to R351,
R463). -/
def Obligations.HolderMessagesComplete : Prop :=
  ∀ (s u : State) (d vpn : Nat) (e : Pte),
    let takes (msg : Nat) : Prop := s.takeCir d (fun o => o.isMsg msg (vpn * pageSize)) = some u
    (∀ i m k, (i, m, k) ∈ [(Instr.inv d vpn, msgInv, Owed.inv), (.recallR d vpn, msgRecallR, .recall false),
        (.recallW d vpn, msgRecallW, .recall true)] → takes m → u.cirrus.fetches.find? vpn = none →
      (u.peerPage d vpn = none → exec i s = .next (u.cir d msgNocopy vpn)) ∧
      (u.peerPage d vpn = some e →
        (e.acc = .none → exec i s = .next (u.cir d msgNocopy vpn)) ∧
        (e.acc = (if k = .inv then .read else .write) →
          (u.pinned vpn = true → exec i s = .next { u with cirrus := { u.cirrus with
            owed := u.cirrus.owed ++ [(d, vpn, k)] } }) ∧
          (u.pinned vpn = false → k = .inv →
            exec i s = .next ((u.holderDrop vpn .none).cir d msgInvAck vpn)) ∧
          (∀ b, u.pinned vpn = false → k = .recall b →
            exec i s = .next ((u.sendAsked d vpn e).holderDrop vpn (if b then .none else .read)))))) ∧
    (takes msgGone → u.peerPage d vpn = some e →
      (u.pinHeld vpn = true → exec (.gone d vpn) s = .next { u with cirrus := { u.cirrus with
        owed := u.cirrus.owed ++ [(d, vpn, .gone)] } }) ∧
      (u.pinHeld vpn = false → exec (.gone d vpn) s = .next (u.goneNow vpn e) ∧
        (u.cirrus.fetches.find? vpn = none → e.acc = .none → u.goneNow vpn e =
          ((u.remap vpn { e with v := false, acc := .none, plx := 0, fail := false }).wakeVpn vpn).wakeStuck))) ∧
    (∀ f, takes msgGrant → u.peerPage d vpn = some e → u.cirrus.fetches.find? vpn = some f →
      f.data = false → e.acc = .read →
      exec (.grantWithoutData d vpn) s = .next (u.fetchDone vpn e { f with write := true })) ∧
    (∀ (va : Nat) (last : Bool) (pmap : BitVec 64) (data : List Byte), va % 4096 = 0 → data.length = 4096 →
      vpnOf va = vpn → s.partHeld va = false → s.cirGoes vpn = true →
      s.takeCir d (fun o => o.op = 0x11#8 && decide (o.addr.toNat = va) && o.opnd.getLsbD 0 = last &&
        o.pmap = pmap && o.data = data) = some u →
      u.pte? vpn = some e →
      (∀ f, u.cirrus.fetches.find? vpn = some f → e.res = .peer → e.home = d → f.data = true →
        f.starved = false →
        let g := { f with got := bitSet f.got (va % pageSize / 4096) true }
        let t := (u.fetchPart e g (va % pageSize / 4096) data pmap).setFetch vpn g
        exec (.page d va last pmap data) s = .next (if last then t.fetchDone vpn e g else t)) ∧
      (u.cirrus.fetches.find? vpn = none → (u.dir vpn).owner = some d →
        let pa := u.paOf e (va % pageSize)
        let t := (u.pageWrite e (va % pageSize) data (fun x => pmap.getLsbD (x - pa / 64))).granWritten
          (pa / 4096 * 4096)
        exec (.page d va last pmap data) s = .next (if last then (t.syncPage e).pageReturned d vpn else t)))

/-! ### Data integrity and repair (chapter 16) -/

/-- SCRUB_READ goes on in ascending order, counts what it meets and reports it, for each corrected codeword,
and leaves what lies behind it and what is out of service; the end of a pass counts the pass (R394 to
R396). -/
def Obligations.ScrubReadsComplete : Prop :=
  ∀ (s : State) (pa : Nat) (errs : List (BitVec 80)) (bad : List Nat), s.scrubs = true →
    let v := s.noteSkips
    let u := pa / 64
    let a := 64 * u
    let was := s.poison.contains u
    let held := s.inputHeld (readyCh (paChannel a)) 0x400
    let go (t : State) : Prop := exec (.scrubRead (.dram pa errs bad)) s = .next t
    (∃ t, exec (.scrubRead .passEnd) s = .next t ∧ t = { s with scrub := t.scrub } ∧
      t.scrub.passes = s.scrub.passes + 1 ∧ t.scrub.run = 0 ∧ t.scrub.pos = 0 ∧ t.scrub.seen = [] ∧
      t.scrub.chOut = 0 ∧ t.scrub.groupOut = 0 ∧ t.scrub.setOut = [] ∧ t.scrub.en = s.scrub.en) ∧
    ((u < s.scrub.pos ∨ v.scrubSkips a = true ∨ held = true) → go v) ∧
    (s.scrub.pos ≤ u → v.scrubSkips a = false → held = false → s.excluded a = false →
      s.deltaAtOffset a = false →
      let c := (v.scrubTo u).scrub
      let t : State := { s with scrub := { c with run := u / 16384, pos := u + 1 } }
      let d := t.asDecoded a was errs
      let ces (xs : List RecIn) : Prop := ∀ x ∈ xs, x.code = 0x0101 ∧ x.src = 0x400 ∧ 2 ^ 63 ≤ x.aux
      (∀ k syn, unitDecode was errs = (.good, k, syn) → go d) ∧
      (∀ k syn, unitDecode was errs = (.poisoned, k, syn) → go { t with scrub := t.scrub.count 0 0 1 }) ∧
      (∀ k syn, unitDecode was errs = (.ce, k, syn) → ∃ xs : List RecIn, xs ≠ [] ∧ ces xs ∧
        go (State.records { d with scrub := d.scrub.count xs.length 0 0 } xs)) ∧
      (∀ k syn, unitDecode was errs = (.ue, k, syn) → ∃ (xs : List RecIn) (w x : State), ces xs ∧
        w = State.records { t with scrub := t.scrub.count xs.length 0 0 } xs ∧
        x = { w with scrub := w.scrub.count 0 1 0 } ∧
        (x.strOf a = 0 → go ((x.poisonPa a).record { dramRec a clsUe 0x0201 syn with src := 0x400 })) ∧
        (x.strOf a ≠ 0 → go ((x.rebuildUnit a syn bad).1.record
          { (x.rebuildUnit a syn bad).2 with src := 0x400 })))) ∧
    (∀ tl set way unit, set < 131072 → way < 16 → unit < 4 →
      let k := cacheUnit tl set way unit
      let stop := v.wayOut tl set way || s.scrub.seen.contains k || s.inputHeld (readyTc tl) 0x400
      let go (v : State) : Prop := exec (.scrubRead (.cache tl set way unit errs)) s = .next v
      (stop = true → go v) ∧
      (∀ x, stop = false → (s.tc tl).lines.find? (16 * set + way) = some x →
        let line := lineAddr tl set x.tag
        let p := line + 64 * unit
        let was := s.poison.contains (p / 64)
        let w : State := { v with scrub := { v.scrub with seen := setIns v.scrub.seen k } }
        let count (w : State) (n : Nat) : State :=
          State.modTc { w with scrub := w.scrub.count n 0 0 } tl (fun c => { c with ceData := satAdd 16 c.ceData 1 })
        let ces (xs : List RecIn) : Prop := ∀ x ∈ xs, x.code = 0x0103 ∧ x.src = 0x400 ∧ x.cls = clsCe
        (∀ k syn, unitDecode was errs = (.poisoned, k, syn) → go { w with scrub := w.scrub.count 0 0 1 }) ∧
        (∀ k syn, unitDecode was errs = (.good, k, syn) → go (w.asDecoded p was errs)) ∧
        (∀ k syn, unitDecode was errs = (.ce, k, syn) → ∃ xs : List RecIn, xs ≠ [] ∧ ces xs ∧
          go ((count (w.asDecoded p was errs) xs.length).records xs)) ∧
        (∀ k syn, unitDecode was errs = (.ue, k, syn) → ∃ (xs : List RecIn) (y z : State), ces xs ∧
          y = (if xs = [] then w else (count w xs.length).records xs) ∧
          z = { y with scrub := y.scrub.count 0 1 0 } ∧
          (x.dirty = true → go ((z.poisonPa p).record (tcRec tl set way unit p clsUe 0x0203 0))) ∧
          (x.dirty = false → go (((z.dropCopies x.pres line).modTc tl (fun c =>
            { c with lines := c.lines.erase (16 * set + way) })).record
              (tcRec tl set way unit p clsCe 0x0103 syn))))))

/-- A refused flit is sent again; refused twice, its payload is lost, or its header stalls the channel
(R393). A quarantined lantern moves to the spare of its quadrant once the spare's self-test passes, and
stays not ready without one; field repairs take effect (R376, R416 to R418). -/
def Obligations.LinkErrorsAndRepairComplete : Prop :=
  (∀ (s : State) (src chan : Nat), (src, chan) ∉ s.net.stuck →
     let key := (src, chan)
     let off := s.net.resent.filter (fun x => x ≠ key)
     let rec_ (cls code aux : Nat) : RecIn :=
       { src := src, cls := cls, code := code, lockind := 5, loc := locChan src chan, aux := aux }
     exec (.flitRefusal src chan false none) s = .next { s with net := { s.net with resent := off } } ∧
     (key ∉ s.net.resent → ∀ h p, (h || p.isSome) = true → ∃ aux, aux < 65536 ∧
       exec (.flitRefusal src chan h p) s = .next (State.record { s with
         freeCtr := s.freeCtr + 1, net := { s.net with resent := s.net.resent ++ [key] } }
         (rec_ clsCe 0x0109 aux))) ∧
     (key ∈ s.net.resent →
       (∀ p, exec (.flitRefusal src chan true p) s = .next (State.record { s with
         net := { resent := off, stuck := s.net.stuck ++ [key] } } (rec_ clsFatal 0x0302 0))) ∧
       ∀ data, exec (.flitRefusal src chan false (some data)) s = .next (State.record (State.flitPoisoned { s with
         net := { s.net with resent := off } } data) (rec_ clsUe 0x020A 0)))) ∧
  (∀ (s : State) (n bank row : Nat),
     let l := s.lan n
     (l.svc.quarPend = true → l.svc.spareTest = false → l.idle = true → l.svc.testing = false →
       l.svc.fusePend = none →
       (s.spareFree n = true → exec (.spareRemap n) s =
         .next (s.setLan n { l with svc := { l.svc with spareTest := true } })) ∧
       (s.spareFree n = false → exec (.spareRemap n) s = .next (s.noSpareFor n).examine ∧
         ((s.noSpareFor n).lan n).svc.failed = true ∧ ((s.noSpareFor n).lan n).svc.noSpare = true)) ∧
     (l.svc.spareTest = true →
       (n < 256 → ∃ v : State, exec (.spareSelftestEnd n 0 0 0 []) s = .next v.examine ∧
         v.isReady (readyLan n) = true ∧ n ∈ v.flash.spared ∧ v.mem = s.mem) ∧
       (∀ code b r, code ≠ 0 → ∃ v : State, exec (.spareSelftestEnd n code b r []) s = .next v.examine ∧
         n / 16 ∈ v.flash.badSpares ∧
         (v.lan n).svc.failed = true ∧ (v.lan n).svc.noSpare = true ∧ (v.lan n).svc.spareTest = false)) ∧
     (∀ t, s.tcOn t = true → (s.tc t).fuse = some (bank, row) → ∃ (v : State) (x : RecIn),
       exec (.fuseRepairEffect 0 t) s = .next (v.record x) ∧ x.code = 0x0410 ∧
       v.flash = s.flash.repairDone 0 t bank row ∧ (v.tc t).fuse = v.flash.repairWaits 0 t ∧
       (v.tc t).rows = (s.tc t).rows ++ [(bank, row)] ∧
       (∀ w, w < 16 → (v.tc t).lines.find? (16 * (32 * row + bank) + w) = none) ∧ v.mem = s.mem) ∧
     (l.svc.fusePend = some (bank, row) → l.idle = true → ∃ (v : State) (x : RecIn),
       exec (.fuseRepairEffect 1 n) s = .next (v.record x).examine ∧ x.code = 0x0410 ∧
       v.flash = s.flash.repairDone 1 (s.fuseSite n) bank row ∧
       (v.lan n).svc.fusePend = v.flash.repairWaits 1 (s.fuseSite n) ∧
       (v.lan n).svc.rows = l.svc.rows ++ [(0, bank, row)] ∧ v.mem = s.mem))

/-! ### Registers, rates, stalls and records (chapters 1, 16 and 21) -/

/-- A LO half latches its HI half for the requester, and the next read of the HI half by that requester
returns the latched value and drops the latch (R22). A rate measurement starts, sets ERR while another
runs, and ends with KBEATS or ERR (R24). -/
def Obligations.LatchedReadsAndRatesComplete : Prop :=
  (∀ (s : State) (rq : Requester) (addr lo hi : Nat) (b : Blk), blkOf addr = some (b, lo) →
     loHi b lo = some hi → s.blkOn b = true → lo < hi →
     let v := BitVec.ofNat 32 (s.regSeen (addr - lo + hi) b hi)
     ∃ t, exec (.loHalfRead rq addr) s = .next t ∧ t = { s with pilot := t.pilot } ∧
       (t.regRead rq (addr - lo + hi) b hi).1 = v ∧
       (∀ k, k ≠ (rq, addr - lo + hi) →
         t.pilot.latches.find? (fun p => p.1 = k) = s.pilot.latches.find? (fun p => p.1 = k)) ∧
       (t.regRead rq (addr - lo + hi) b hi).2.pilot.latches.find?
         (fun p => p.1 = (rq, addr - lo + hi)) = none) ∧
  (∀ (s : State) (v : Word) (beats : Dword),
     let p := s.pilot
     let sel := v.getLsbD 28
     let target := v.toNat / 2 ^ 20 % 256
     let on := if sel then s.tcOn target else s.lanOn target
     (∃ q : Pilot, exec (.rateMeasureStart v) s = .next { s with pilot := q } ∧ q.rateSel = sel ∧
       q.rateTarget.toNat = target ∧ q.rateWindow.toNat = v.toNat / 2 ^ 10 % 2 ^ 10 ∧
       q.rateBusy = (p.rateBusy || (v.getLsbD 31 && on)) ∧
       (v.getLsbD 31 = true → (p.rateBusy = true ∨ on = false) → q.rateErr = true) ∧
       (v.getLsbD 31 = false → q.rateErr = (p.rateErr && !v.getLsbD 29)) ∧ q.kbeats = p.kbeats) ∧
     (p.rateBusy = true →
       let w := if p.rateWindow.toNat = 0 ∨ 1000 < p.rateWindow.toNat then 1000 else p.rateWindow.toNat
       let on := if p.rateSel then s.tcOn p.rateTarget.toNat else s.lanOn p.rateTarget.toNat
       let first := p.rateFirst.getD s.rateCounter
       (on = true → ∃ t, exec (.rateMeasureEnd beats) s = .next t ∧ t.pilot = { p with
         rateBusy := false, kbeats := BitVec.ofNat 32 ((s.rateCounter + beats - first).toNat / w) } ∧
         t.mem = s.mem ∧
         (p.rateSel = false → (t.lan p.rateTarget.toNat).beat = (s.lan p.rateTarget.toNat).beat + beats) ∧
         (p.rateSel = true → (t.tc p.rateTarget.toNat).beat = (s.tc p.rateTarget.toNat).beat + beats)) ∧
       (on = false → exec (.rateMeasureEnd beats) s = .next { s with pilot := { p with
         rateBusy := false, rateErr := true } })))

/-- Stalls are recorded and counted, blocks report records, and a READY notification goes out once the map
has changed, at most one in a ms (R28, R30, R406, R498). What one record does to the pilot's queue: an open record of its
location counts it; otherwise it is stamped, numbered and appended, after the oldest record of the least
class has made room (R404, R406 to R408). A lantern that reports SRAM_UE of its local store has poisoned a
word of the row (R332; which of the row's four words is the model's choice, log 132). -/
def Obligations.ReportsEnterTheQueue : Prop :=
  (∀ (s : State) (src chan : Nat) (b : Blk) (recs : List RecIn),
     (blkOfSrc src = some b → s.blkOn b = true → s.blkEn b = true → s.pilot.started = true → ∀ w : StallWait,
       (s.isStall src w = true →
         ∃ t : State, exec (.stallWatchdog src ⟨chan, w⟩) s = .next (t.record
             { src := src, cls := clsStall, code := 0x0501, lockind := 5, loc := locChan src chan }) ∧
           (src, chan) ∈ t.pilot.stalls ∧ t = { s with pilot := { s.pilot with stalls := t.pilot.stalls } }) ∧
       (s.isStall src w = false → exec (.stallWatchdog src ⟨chan, w⟩) s = .next s)) ∧
     s.isStall src .other = true ∧
     (∀ n c d, (s.lan n).wait = .event c d → s.isStall src (.wick n) = false) ∧
     (∀ vpn f, s.cirrus.fetches.find? vpn = some f → s.isStall src (.page vpn) = false) ∧
     (∀ g, (s.tc (src - 22)).clean.getLsbD g = true → s.isStall src (.wayGroup g) = false) ∧
     ((src, chan) ∈ s.pilot.stalls → s.pilot.errq.any (fun r => sameLoc r (stallRec src chan)) = true →
       s.pilot.started = true →
       ∃ q, exec (.stallRepeat src chan) s = .next { s with pilot := { s.pilot with errq := q } } ∧
         q.length = s.pilot.errq.length ∧
         ∀ r, s.pilot.errq.find? (fun r => sameLoc r (stallRec src chan)) = some r →
           q.find? (fun r => sameLoc r (stallRec src chan)) =
             some { r with rep := min (r.rep + 1) (2 ^ 32 - 1), last := s.pilot.stamp }) ∧
     ((∀ x ∈ recs, x.code ≠ 0x0106 ∧ x.code ≠ 0x0204) → exec (.errorRecord recs) s =
       .next (if s.pilot.started then (sortRecs (recs.map s.sited)).foldl State.record1 s else s)) ∧
     (∀ n x, n < 256 → x.src = readyLan n → (x.lockind = 3 ∨ x.lockind = 4) → (s.sited x).loc =
       beBytes 2 n ++ beBytes 1 (s.site n).1 ++ beBytes 1 (s.site n).2 ++ x.loc.drop 4) ∧
     (∀ n x, n < 256 → s.lanOn n = true → x.src = readyLan n → x.code = 0x0204 → x.lockind = 4 →
       recField x 4 1 = 0 → recField x 5 1 < 32 → recField x 6 2 < 4096 →
       ∃ t w, exec (.errorRecord [x]) s = .next t ∧ w ∈ (t.lan n).lsPoison ∧ t.mem = s.mem ∧
         lsBank (8 * w) = recField x 5 1 ∧ lsRow (8 * w) = recField x 6 2) ∧
     (s.pilot.started = true → s.pilot.readyChanged = true →
       (s.msPast s.pilot.readySent = true → exec .readyNotification s =
         .next (State.notify { s with pilot := { s.pilot with
           readyChanged := false, readySent := some s.pilot.stamp } } 2 (leBytes 80 s.pilot.ready.toNat))) ∧
       (s.msPast s.pilot.readySent = false → exec .readyNotification s = .next s))) ∧
  (∀ (s : State) (x : RecIn),
     let q := s.pilot.errq
     let t := s.record1 x
     (q.any (fun r => sameLoc r x) = true → t.pilot.errq.length = q.length ∧ t.pilot.seq = s.pilot.seq ∧
       t.pilot.ovf = s.pilot.ovf) ∧
     (q.any (fun r => sameLoc r x) = false → q.length < 256 →
       t.pilot.errq.length = q.length + 1 ∧ t.pilot.seq = s.pilot.seq + 1 ∧
       ∃ r, t.pilot.errq.getLast? = some r ∧ r.seq = s.pilot.seq ∧ r.stamp = s.pilot.stamp ∧ r.src = x.src ∧
         r.code = x.code ∧ r.cls = x.cls ∧ r.devaddr = x.devaddr ∧ r.aux = x.aux ∧ r.rep = 0) ∧
     (q.any (fun r => sameLoc r x) = false → 256 ≤ q.length → q.any (fun r => r.cls = clsCe) = true →
       t.pilot.errq.length = q.length ∧ t.pilot.ovf = min (s.pilot.ovf + 1) 4095) ∧
     t.mem = s.mem ∧ t.lans = s.lans ∧ t.cirrus = s.cirrus)

/-- EN of a block is set and cleared, at once or when the block is idle, and a register write reaches its
register or is ignored (R525, R529, R533). A TMR field reads as two of its three copies agree; a
disagreement is counted and reported, and three different copies take the block out of service (R534,
R535). -/
def Obligations.BlockControlComplete : Prop :=
  (∀ (s : State) (addr n : Nat) (b : Blk) (off : Nat) (v : Word),
     (blkOf addr = some (b, 0) → regExists b 0 = true → s.blkOn b = true →
       exec (.blockDisable addr) s = .next (s.regWrite addr b 0
         (bitSet (BitVec.ofNat 32 (s.regValue b 0)) 31 false)) ∧
       exec (.blockEnable addr) s = .next (s.regWrite addr b 0
         (bitSet (BitVec.ofNat 32 (s.regValue b 0)) 31 true))) ∧
     (blkOf addr = some (.lan n, 0) → (s.lan n).svc.clrPend = true → (s.lan n).idle = true →
       ∃ t, exec (.blockIdle addr) s = .next (s.setLan n t) ∧ t.svc.en = false ∧ t.svc.clrPend = false ∧
         t = { s.lan n with svc := t.svc }) ∧
     (blkOf addr = some (.copy n, 0) → (s.eng n).clrPend = true → s.engIdle n = true →
       exec (.blockIdle addr) s = .next (s.modEng n (fun e => { e with en := false, clrPend := false, cirHeld := [] }))) ∧
     (blkOf addr = some (b, off) → regExists b off = true → s.blkOn b = true →
       exec (.registerWrite .pilot addr v) s = .next (s.regWrite addr b off v) ∧
       (wickMayWrite n b off = true → exec (.registerWrite (.wick n) addr v) s =
         .next (s.regWrite addr b off v)) ∧
       (wickMayWrite n b off = false → exec (.registerWrite (.wick n) addr v) s = .next (s.setWie b)))) ∧
  (∀ (s : State) (rq : Requester) (addr off : Nat) (b : Blk) (u : TmrUpset) (us : List (Nat × TmrUpset)),
     (blkOf addr = some (b, off) → regExists b off = true → s.blkOn b = true → isTmr b off = true →
       exec (.tmrFieldRead rq addr u) s =
         .next (((s.vote addr u).1.records (s.vote addr u).2).regRead rq addr b off).2) ∧
     (s.pilot.started = true → exec (.tmrVoteSweep us) s = .next ((s.votes us).1.records (s.votes us).2)) ∧
     (blkOf addr = some (b, off) → regExists b off = true → s.blkOn b = true → isTmr b off = true →
       addr ∉ s.pilot.tmrLost → s.slotLost b off = false →
       let m := BitVec.ofNat 32 (tmrMask b off)
       (u.u0 &&& m = 0 → u.u1 &&& m = 0 → u.u2 &&& m = 0 → s.vote addr u = (s, [])) ∧
       (u.u0 &&& m ≠ 0 → u.u1 &&& m = 0 → u.u2 &&& m = 0 →
         s.vote addr u = (s.setRstat b (s.blkRstat b).1 (satAdd 16 (s.blkRstat b).2 1),
           [{ src := blkSrc b, cls := clsInfo, code := 0x0403, aux := addr, sub := blkSub b }])) ∧
       (u.u0 &&& m ≠ 0 → u.u1 &&& m ≠ 0 → u.u2 &&& m = 0 → u.u0 &&& m ≠ u.u1 &&& m →
         (isSlot b off = true → s.vote addr u = (s.markSlot b off, [])) ∧
         (isSlot b off = false → ∃ t : State, s.vote addr u = (t,
             [{ src := blkSrc b, cls := clsFatal, code := 0x0301, aux := addr, sub := blkSub b }]) ∧
           addr ∈ t.pilot.tmrLost ∧ t.mem = s.mem))))

/-- POWER_EVALUATION moves the power-cap ceiling by 5 mV down, up or not at all within its bounds (R33), and
each powered quadrant takes up the least of setpoint and ceilings (R32, R35). Supply samples and
temperature readings: in range they leave only what they measured; a condition that holds for its filter
time is reported once, a fault switches the domains off, and the second stage follows (R564, R568, R569,
R572). -/
def Obligations.EnvironmentCompletes : Prop :=
  (∀ (s : State) (avg : Nat),
     (s.pilot.stamp.toNat % 100000 ≠ 0 → exec (.powerEvaluation avg) s = .next s) ∧
     (s.pilot.started = true → s.pilot.stamp.toNat % 100000 = 0 → s.pwr.evalAt ≠ some s.pilot.stamp →
     ∃ t, exec (.powerEvaluation avg) s = .next t ∧ t.pwr.evalAt = some s.pilot.stamp ∧
       t.pwr.ceil = (if s.pwr.capW < avg then max 650 (s.pwr.ceil - 5)
         else if 100 * avg < 98 * s.pwr.capW then min 800 (s.pwr.ceil + 5) else s.pwr.ceil) ∧
       t.pwr.capW = s.pwr.capW ∧ t.pwr.setMv = s.pwr.setMv ∧ t.mem = s.mem ∧ t.lans = s.lans ∧
       (∀ q, q < 16 → s.powered q = true → t.pwr.effMv.getD q 0 =
         min (t.pwr.setMv.getD q 750) (min t.pwr.ceil (t.pwr.thermMv.getD q 800))) ∧
       (avg < s.pwr.capW → t.pwr.capUnmet = false))) ∧
  (∀ (s : State) (v0 v1 i0 i1 : Nat) (vals : List (Nat × Int)), s.clocked = true →
     (4608 ≤ v0 → v0 ≤ 4992 → 4608 ≤ v1 → v1 ≤ 4992 → i0 + i1 ≤ 1000 →
       ∃ t, exec (.supplySample v0 v1 i0 i1) s = .next t ∧ t = { s with pwr := t.pwr } ∧ t.pwr.v0 = v0 ∧
         t.pwr.v1 = v1 ∧ t.pwr.i0 = i0 ∧ t.pwr.i1 = i1 ∧ t.pwr.uv = s.pwr.uv ∧ t.pwr.ov = s.pwr.ov ∧
         t.pwr.oc = s.pwr.oc ∧ t.pwr.on = s.pwr.on) ∧
     (∀ k, 2 ≤ k → k < 5 → s.pwr.shut = false → ∃ x : RecIn,
       s.supplyEvent k = State.protectiveOff { s with pwr := s.pwr.fault k } x ∧ x.src = 0x401 ∧
         x.cls = clsFatal ∧ x.code = 0x0304) ∧
     (∀ x : RecIn, s.pwr.shut = false → s.pilot.busy = none → ∃ t : State, s.protectiveOff x = t.record x ∧
       t.pwr.shut = true ∧ (∀ d, d < 28 → t.powered d = false) ∧ t.powered 28 = s.powered 28 ∧
       t.powered 29 = s.powered 29 ∧ t.lans.all (fun p => 256 ≤ p.1) = true ∧ t.flash = s.flash) ∧
     (s.pwr.shut = true → s.secondDue = false → exec .shutdownSecondStage s = .next s) ∧
     (s.pwr.shut = true → s.secondDue = true → (s.powered 28 || s.powered 29) = true → ∃ (t : State) (a : Nat),
       exec .shutdownSecondStage s = .next (t.record
         { src := 0x402, cls := clsFatal, code := 0x0303, aux := a % 256 + 3 * 256 }) ∧
       t.powered 28 = false ∧ t.powered 29 = false ∧ t.flash = s.flash) ∧
     (let u := (s.takeReadings vals).excludeSensors vals
      ∃ t : State, exec (.sensorReading vals) s = .next t ∧ t.flash = s.flash ∧ t.pending = s.pending ∧
       (∀ i, i < 435 →
         (∀ v, Tab.find? vals i = some v →
           t.therm.readings.find? i = some ((v :: s.therm.readings.getD i []).take 3) ∧
           t.therm.missing.find? i = none) ∧
         (Tab.find? vals i = none → t.therm.readings.find? i = s.therm.readings.find? i ∧
           t.therm.missing.find? i = some (min (s.therm.missing.getD i 0 + 1) (if i < 432 then 10 else 10000)))) ∧
       (∀ g, g < 28 → t.therm.groups.find? g = some (u.groupStep g) ∧
         ((∃ i ∈ groupSensors g, u.threeMeet i (fun v => decide ((if g < 20 then 95 else 90) ≤ v)) = true) →
           (u.groupStep g).throttle = true) ∧
         ((∃ i ∈ groupSensors g, u.excl i = false ∧
             u.threeMeet i (fun v => decide (v < if g < 20 then 92 else 87)) = false) →
           (¬∃ i ∈ groupSensors g, u.threeMeet i (fun v => decide ((if g < 20 then 95 else 90) ≤ v)) = true) →
           u.groupStep g = s.therm.groups.getD g {}))))

/-! ### Dispatch and copy (chapter 15) -/

/-- A kernel or a copy entry starts from the head that zenith takes next, on lanterns or an engine that are
free (R365, R368 to R372, R377). What a wick finds when its kernel starts (R197, R151, R155, R274). -/
def Obligations.DispatchStartsWork : Prop :=
  (∀ (s : State) (q : Nat) (v : Queue), s.tc0On = true →
     let u := s.examine
     let e := v.entry
     u.nextHead = some q → u.queue? q = some v →
     (∀ ms, entKind e = 0 → u.placeGang (entAff e) (entGang e) = some ms → ms.Nodup →
       ∃ t : State, exec .kernelStart s = .next t.examine ∧
         (∀ r n, ms[r]? = some n → t.lan n = (u.lan n).start e u.disp.nextGang ms.length r) ∧
         (∀ n, n ∉ ms → t.lan n = u.lan n) ∧ t.mem = u.mem ∧ t.disp.nextGang = u.disp.nextGang + 1 ∧
         (∃ v', t.queue? q = some v' ∧ v'.head = v.head + 1) ∧
         ∃ g, t.disp.gangs = u.disp.gangs ++ [g] ∧ g.id = u.disp.nextGang ∧ g.members = ms ∧ g.q = q ∧
           g.idx = v.head ∧ g.finished = []) ∧
     (∀ k, entKind e = 1 → u.placeCopy (entAff e) = some k →
       ∃ t : State, exec .copyEntryStart s = .next t.examine ∧ (t.eng k).busy = true ∧ (t.eng k).q = q ∧
         (t.eng k).idx = v.head ∧ (t.eng k).payload = e.drop 64 ∧ t.mem = u.mem ∧ t.lans = u.lans ∧
         ∃ v', t.queue? q = some v' ∧ v'.head = v.head + 1)) ∧
  (∀ (l : Lantern) (e : List Byte) (id g r : Nat),
     let t := l.start e id g r
     t.wick.a = BitVec.ofNat 64 g ∧ t.wick.y = BitVec.ofNat 64 r ∧ t.wick.x = BitVec.ofNat 64 (entF e 0x48 8) ∧
       t.wick.pc = BitVec.ofNat 64 (entF e 0x40 8 % 2 ^ 48) ∧ t.wick.ssp = 0x400000 ∧
       t.wick.sp = BitVec.ofNat 64 (l.lsguard.toNat * 65536) ∧ t.wick.sstk = BitVec.ofNat 64 l.sslim.toNat ∧
       t.wick.sup = false ∧ t.wick.mode = 0 ∧ t.wick.flags = 0 ∧ t.wick.lcnt = 0 ∧ t.wick.vl = 0 ∧
       t.wick.vew = 3 ∧ t.run = .running ∧ t.cl = 0 ∧ t.resv = none ∧ t.fifo = [] ∧ t.v = [] ∧
       (∀ i, i < 8192 → (t.pred 0).getLsbD i = true) ∧ t.sv1 = {} ∧ t.sv2 = {} ∧ t.sv3 = {} ∧
       t.busy1 = false ∧ t.busy2 = false ∧ t.busy3 = false ∧ t.defNan = false ∧ t.defFx = none ∧
       t.fxRep = [] ∧ t.nanQ = [] ∧ t.nanLate = [] ∧ t.ls = l.ls ∧ t.lsguard = l.lsguard)

/-- A copy entry writes its bytes, and completes with its counts made once every agent sees them, or ends in
a copy fault that stops its queue (R379 to R382). Where no byte of a copy is both written and read, and no
two runs write one byte, each destination byte ends with the value that its source held (R379, R381). -/
def Obligations.CopiesComplete : Prop :=
  (∀ (s : State) (e : Nat),
     let v := s.eng e
     let d := copyDesc v.payload
     let wrote (u : State) (rs : List CopyRun) : State :=
       (if rs.isEmpty then u else u.writeRuns e d rs).modEng e (fun x =>
         { x with written := true, bytes := x.bytes + runBytes rs })
     let ends (t : State) : State :=
       if t.seenBy (.engine e) then
         (((t.modEng e (fun x => { x with busy := false, written := false, payload := [] })).addCevt
           (t.eng e).cevtEn (t.eng e).cevt (t.eng e).cadd).addDone (t.eng e).q).examine
       else t
     v.busy = true →
     (v.written = true → exec (.copyComplete e) s = .next (ends s)) ∧
     (∀ u, v.written = false →
       (s.touchCopy e d = (u, .ok) → exec (.copyComplete e) s = .next (ends (wrote u d.runs))) ∧
       (s.touchCopy e d = (u, .stall) → exec (.copyComplete e) s = .next u) ∧
       (∀ k done va, s.touchCopy e d = (u, .unmapped k done va) → exec (.copyFault e) s =
         .next (((((wrote u (runsBefore d.runs k done)).modEng e (fun x =>
           { x with busy := false, written := false, payload := [] })).stopQueue v.q 0x06).record
             { src := 4, cls := clsInfo, code := 0x040C, lockind := 6, loc := locPage v.q v.idx.toNat 0
               aux := va }).examine)))) ∧
  (∀ (rs : List CopyRun) (old : Nat → Byte) (new : Nat → Bool) (fuel : Nat) (r : CopyRun) (i : Nat),
     1 ≤ fuel → i < r.len → r ∈ rs →
     (∀ x ∈ rs, ∀ y ∈ rs, ∀ a b, a < x.len → b < y.len → x.dst + a = y.src + b → False) →
     (∀ x ∈ rs, x ≠ r → ∀ a, a < x.len → x.dst + a = r.dst + i → False) →
     runByte rs old new fuel (r.dst + i) = old (r.src + i))

/-- Zenith's own registers: RESUME, RELEASE and the three event-counter commands (R360, R367, R375,
R385). -/
def Obligations.ZenithRegistersComplete : Prop :=
  ∀ (s : State), s.tc0On = true →
    (∀ q v, s.queue? q = some v → exec (.resume q) s =
      .next (s.setQueue q { v with stop := false, sub := 0, held := none, blocked := false }).examine) ∧
    (∀ value : Word,
      let n := value.toNat % 256
      let t := { s with disp := { s.disp with relLan := BitVec.ofNat 8 n } }
      let w := match t.gangOf n with
        | some g => t.abortKernel g
        | none => t
      (value.getLsbD 31 = true → (s.lan n).halt.halted = true → exec (.release value) s =
        .next (w.modLan n (fun l => { l with halt := { l.halt with halted := false }, run := .idle })).examine) ∧
      ((value.getLsbD 31 && (s.lan n).halt.halted) = false → exec (.release value) s = .next t)) ∧
    (∀ e, e < 4096 →
      exec (.evcmdRead e) s = .next { s with disp := { s.disp with evd := s.counter e } } ∧
      (∃ t : State, exec (.evcmdSet e) s = .next t.examine ∧ t.counter e = s.disp.evd ∧ t.mem = s.mem ∧
        ∀ f, f ≠ e → t.counter f = s.counter f) ∧
      (∃ t : State, exec (.evcmdAdd e) s = .next t.examine ∧ t.counter e = s.counter e + s.disp.evd ∧
        t.mem = s.mem ∧ ∀ f, f ≠ e → t.counter f = s.counter f))

/-! ### Snapshots and checkpoints (chapter 17) -/

/-- A beacon arrives at origins and at blocks with forward inputs, each of which latches once (R425, R426); on
an input it arrives once every sender there has latched (R427), also after the cut (R425). A cut completes
once every block of the fabric has latched, or is withdrawn with a record (R429, R432). -/
def Obligations.BeaconsAndCutsComplete : Prop :=
  (∀ (s : State) (b chan crossed : Nat) (k : Blk), blkOfSrc b = some k → s.blkOn k = true →
     (s.pilot.inflight = true → isOrigin k = true → b ∉ s.beacon.latched →
       exec (.beaconTreeArrival b) s = .next (s.latch k b)) ∧
     ((b, chan) ∉ s.beacon.arrived →
       (∀ a ∈ s.cutBlocks, Config.feeds b chan a = true → a ∈ s.beacon.latched) →
       (∀ i, isOrigin k = true → b ∈ s.beacon.latched → inflightAt k = some i → ∃ t,
         exec (.beaconChannelArrival b chan crossed) s = .next t ∧
         t.beacon.arrived = s.beacon.arrived ++ [(b, chan)] ∧ t.beacon.latched = s.beacon.latched ∧
         t = { s with beacon := t.beacon } ∧ t.beacon.cur = s.beacon.cur ∧
         t.beacon.sets.getD b [] = (s.beacon.sets.getD b []).set i
           ((s.beacon.sets.getD b []).getD i 0 + BitVec.ofNat 32 crossed)) ∧
       (s.pilot.inflight = true → isOrigin k = false → (setLength k).isSome = true →
         let t := { s with beacon := { s.beacon with arrived := s.beacon.arrived ++ [(b, chan)] } }
         let n := (t.beacon.arrived.filter (fun p => p.1 = b)).length
         exec (.beaconChannelArrival b chan crossed) s =
           .next (if Config.forwardInputs b ≤ n ∧ b ∉ s.beacon.latched then t.latch k b else t))) ∧
     (∀ a ∈ s.cutBlocks, Config.feeds b chan a = true → a ∉ s.beacon.latched →
       exec (.beaconChannelArrival b chan crossed) s = .next s)) ∧
  (∀ (s : State), s.pilot.inflight = true →
     (s.cutBlocks.all s.hasLatched = true → s.pilot.snapSrc ≠ 4 →
       exec .cutComplete s = .next (((State.tellCut { s with pilot := { s.pilot with
         inflight := false, snapValid := true, compStamp := s.pilot.stamp } } true).ckNext).afterCut).wakeStuck) ∧
     (s.cutBlocks.all s.hasLatched = true → s.pilot.snapSrc = 4 → ∀ c, s.ckpt = some c →
       ∃ (t : State) (key : List Byte), exec .cutComplete s = .next ((if c.cutEn then
           (t.tellCut true).addEvent c.cutEvt 1 else t.tellCut true).ckNext).afterCut.wakeStuck ∧
         t.pilot = { s.pilot with inflight := false, snapValid := true, compStamp := s.pilot.stamp } ∧
         t.ckpt = some { c with streaming := true, stamp := s.pilot.stamp, key := key } ∧ t.mem = s.mem) ∧
     (s.cutBlocks.all s.hasLatched = false → exec .cutComplete s = .next s) ∧
     (let q : State := State.wakeStuck { s with
        pilot := { s.pilot with inflight := false, incomplete := true } }
      let t := if q.pilot.snapSrc = 4 ∧ q.ckpt ≠ none then q.ckStop else q
      exec .cutWithdrawn s = .next ((t.tellCut false).afterCut.record
         { src := 0, cls := clsInfo, code := 0x0416
           aux := s.pilot.snapId.toNat + 65536 * s.pilot.snapSrc.toNat })))

/-- TRIGGER_N: an armed trigger starts a beacon or is counted, and it rearms, sticks and clears (R430 to
R433). A checkpoint injects its beacon once its counter reaches the value, and streams its pages,
recalling first what a peer owns (R438, R441). -/
def Obligations.TriggersAndStreamsComplete : Prop :=
  (∀ (s : State), s.pilot.started = true →
     let p := s.pilot
     (s.trigMasked = false → p.trigArmed = true → p.trigStuck = false →
       let q := { p with trigLevel := false, trigArmed := false, trigLast := some p.stamp }
       ((∀ t, p.trigLast = some t → 100000 ≤ (p.stamp - t).toNat) →
         (p.trigEn = true → exec .trigger s = .next (State.beaconTrigger { s with pilot := q } 1)) ∧
         (p.trigEn = false → exec .trigger s = .next { s with pilot := q })) ∧
       (∀ t, p.trigLast = some t → (p.stamp - t).toNat < 100000 → exec .trigger s =
         .next { s with pilot := { q with trigDrop := min (p.trigDrop + 1) 255 } })) ∧
     (exec .triggerRearm s = .next { s with pilot := { p with
       trigLevel := true, trigArmed := true, trigStuck := false, stuckSeen := p.stuckSeen || p.trigStuck } }) ∧
     (p.trigLevel = false → exec .triggerStuck s =
       .next { s with pilot := { p with trigStuck := true, trigArmed := false } }) ∧
     exec .triggerCountClear s = .next { s with pilot := { p with trigDrop := 0, bcnDrop := 0 } } ∧
     (p.inflight = true → s.beaconTrigger 1 =
       { s with pilot := { p with bcnDrop := min (p.bcnDrop + 1) 255 } }) ∧
     (p.inflight = false → ∃ t, s.beaconTrigger 1 = t ∧ t.pilot.inflight = true ∧ t.pilot.snapId = p.snapId + 1 ∧
       t.pilot.snapSrc = 1 ∧ t.pilot.snapValid = false ∧ t.pilot.incomplete = false ∧
       t.beacon.latched = [] ∧ t.beacon.arrived = [] ∧ t.mem = s.mem)) ∧
  (∀ (s : State),
     (∀ b, s.pilot.busy = some b → b.opcode = 0x62 → b.waiting = true →
       reaches (s.counter (b.pkt.f 0 2 % 4096)) (BitVec.ofNat 64 (b.pkt.f 8 8)) = true →
       exec .checkpointCutCondition s =
         .next (State.ckInject { s with pilot := { s.pilot with busy := some { b with waiting := false } } })) ∧
     (∀ c, s.ckpt = some c → c.streaming = true →
       (c.dests.all (fun d => decide ((s.con (hostCid d.ep)).st = .opened)) = false →
         exec .pageStream s = .next s.ckAbort) ∧
       (c.dests.all (fun d => decide ((s.con (hostCid d.ep)).st = .opened)) = true → ∀ vpn i,
         s.ckPick c = some (vpn, i) → s.cirrus.moving.contains vpn = false → s.cirGoes vpn = true →
         ((s.dir vpn).owner = none →
           (∀ str pa, s.ckSource c vpn = some (str, pa) → s.ckReadWaits pa = false) →
           exec .pageStream s = .next (s.streamPage c vpn i)) ∧
         ((s.dir vpn).owner ≠ none → exec .pageStream s =
           .next (State.homeAsk { s with ckpt := some { c with recalled := setIns c.recalled vpn } } vpn
             .localRead)))))

/-! ### The command interface (chapter 19) -/

/-- Every command: one that is not heard changes nothing, and one that the transport has delivered is taken from
there (R469); one that arrives while another is in progress gets BUSY, and one that fails a common check gets
the status of the first that fails (R476, R477, R480). A reply goes to the endpoint's conduit and is the last completed command (R474, R486). -/
def Obligations.CommandChecksInOrder : Prop :=
  ∀ (s : State) (p : CmdPkt) (op : Nat) (i : Instr), isCommand op p i →
    let len := 16 + p.length.toNat + (if p.signed then 72 else 0)
    let shape := lengthOk op p = true ∧ p.params.length = p.length.toNat ∧ p.plen = len
    let fields := 1 ≤ p.deadline.toNat ∧ p.deadline.toNat ≤ 600000 ∧ p.flags.toNat ≤ 1
    let key : Bool := match s.flash.owner with
      | some k => decide (s.flash.oseq.toNat < p.oseq.toNat) && Config.edVerify k (signedBytes op p) p.sig
      | none => false
    let auth := if p.signed then key else !mustSign op p && (s.flash.owner.isSome || opUnclaimed op)
    let v : State := { s with pilot := { s.pilot with inbox := s.pilot.inbox.tail } }
    let u : State := if p.signed then { v with flash := { v.flash with oseq := p.oseq } } else v
    let comes : Prop := match s.pilot.inbox with
      | m :: _ => parseCommand m.1 m.2 = (op, p)
      | [] => (s.con (hostCid p.ep)).st = .opened
    (s.hears op p = true ↔ (s.isReady 0 = true ∨ s.start.phase = .recovery) ∧ comes) ∧
    (s.hears op p = false → exec i s = .next s) ∧
    (∀ b, s.hears op p = true → s.pilot.busy = some b → exec i s = .next (v.busyReply op p b)) ∧
    (s.hears op p = true → s.pilot.busy = none →
      (¬shape → exec i s = v.replied op p stBadLength []) ∧
      (shape → ¬fields → exec i s = v.replied op p stRange []) ∧
      (shape → fields → auth = false → exec i s = v.replied op p stAuth []) ∧
      (shape → fields → auth = true → s.needsMet op = false → exec i s = u.replied op p stNotReady []) ∧
      (shape → fields → auth = true → s.needsMet op = true → s.takes u op p)) ∧
    (∀ st rs, (s.con (hostCid p.ep)).st = .opened →
      let t := s.reply op p st rs
      let k := s.con (hostCid p.ep)
      t.con (hostCid p.ep) = { k with
        psnTx := k.psnTx + 1
        unacked := k.unacked ++ [{ psn := k.psnTx, typ := typReply
                                   payload := replyBytes op st p.tag s.pilot.stamp rs }] } ∧
      t.pilot = { s.pilot with last := some { ep := p.ep, opcode := op, tag := p.tag, status := st } } ∧
      t.mem = s.mem ∧ t.lans = s.lans ∧ t.cirrus = s.cirrus ∧ t.flash = s.flash)

/-- The commands that read: IDENTIFY, GET_STATUS, READY_MAP, ATTEST, ERRLOG_READ, READ_SNAPSHOT and
REG_READ reply with what R484 to R486, R406, R434, R518 and R526 give; an unknown opcode gets
BAD_OPCODE (R480). -/
def Obligations.ReadingCommandsComplete : Prop :=
  ∀ (s u : State) (p : CmdPkt),
    (s.takes u 0x01 p → exec (.identify p) s = u.replied 0x01 p stOk
      (ascii "BX-NQ288-A" ++ List.replicate 6 0 ++ beBytes 2 Config.stepping.toNat ++ beBytes 4 u.sec.fwver.toNat ++
        [0, 0] ++ devKey ++ u.ownerBytes ++ beBytes 6 Config.factoryMac.toNat ++ [0, 0])) ∧
    (s.takes u 0x02 p → u.statusBytes.length = 48 ∧ exec (.getStatus p) s = u.replied 0x02 p stOk u.statusBytes) ∧
    (s.takes u 0x03 p → exec (.readyMap p) s = u.replied 0x03 p stOk (leBytes 80 u.pilot.ready.toNat)) ∧
    (s.takes u 0x12 p → ∃ b : List Byte,
      exec (.attest p) s = u.replied 0x12 p stOk (b ++ Config.edSign idSeed b) ∧
      b.take 40 = [0x4E, 0x51, 0x41, 0x54, 0, 1, 0x04, 0x10] ++ p.params) ∧
    (s.takes u 0x76 p → 1 ≤ p.f 4 1 → p.f 4 1 ≤ 63 → p.f 5 3 = 0 →
      let rs := (u.pilot.errq.filter (fun r => p.f 0 4 ≤ r.seq)).take (p.f 4 1)
      exec (.errlogRead p) s = u.replied 0x76 p stOk
        (beBytes 1 rs.length ++ [0, 0, 0] ++ beBytes 4 u.errqWord.toNat ++ rs.flatMap ErrRec.bytes)) ∧
    (s.takes u 0x61 p → ∀ b n, blkOfSrc (p.f 0 2) = some b → setLength b = some n → p.f 6 2 = 0 →
      1 ≤ p.f 4 2 → p.f 4 2 ≤ 1000 → p.f 2 2 + p.f 4 2 ≤ n + 1 →
      exec (.readSnapshot p) s = u.replied 0x61 p stOk (beBytes 8 u.pilot.injStamp.toNat ++
        beBytes 8 u.pilot.compStamp.toNat ++
        (((u.snapSet (p.f 0 2) n).drop (p.f 2 2)).take (p.f 4 2)).flatMap (fun w => beBytes 4 w.toNat))) ∧
    (s.takes u 0x80 p → 1 ≤ p.f 8 2 → p.f 8 2 ≤ 256 → p.f 10 6 = 0 →
      ((∀ a ∈ regAddrs p, hasReg a = true ∧ u.regOn a = true) →
        exec (.regRead p) s = (u.readWords (regAddrs p)).1.replied 0x80 p stOk
          ((u.readWords (regAddrs p)).2.flatMap (fun w => beBytes 4 w.toNat))) ∧
      ((∃ a ∈ regAddrs p, hasReg a = false) → exec (.regRead p) s = u.replied 0x80 p stRange []) ∧
      ((∀ a ∈ regAddrs p, hasReg a = true) → (∃ a ∈ regAddrs p, u.regOn a = false) →
        exec (.regRead p) s = u.replied 0x80 p stState [])) ∧
    (∀ op, opcodes.contains op = false → s.hears op p = true → s.pilot.busy = none →
      exec (.badOpcode p op) s = s.unbox.replied op p stBadOpcode [])

/-- The commands that write registers, queues, the error log and operating points, each with its own checks
in order (R31, R33, R394, R407, R491, R496, R527). -/
def Obligations.SettingCommandsComplete : Prop :=
  ∀ (s u : State) (p : CmdPkt),
    (s.takes u 0x77 p → ∃ t : State, exec (.errlogClear p) s = t.replied 0x77 p stOk (beBytes 4 t.errqWord.toNat) ∧
      t.pilot.errq = u.pilot.errq.filter (fun r => p.f 0 4 < r.seq) ∧
      (t.pilot.errq ≠ [] → t.pilot.uelost = u.pilot.uelost) ∧ (t.pilot.errq = [] → t.pilot.uelost = 0) ∧
      t = { u with pilot := { u.pilot with errq := t.pilot.errq, uelost := t.pilot.uelost } }) ∧
    (s.takes u 0x81 p → 1 ≤ p.f 8 2 → p.f 8 2 ≤ 256 → p.f 10 6 = 0 →
      (∀ a ∈ regAddrs p, hasReg a = true ∧ u.regOn a = true) →
      exec (.regWrite p) s = State.replied ((List.range (p.f 8 2)).foldl (fun v i =>
        v.pilotWrite (p.f 0 8 + 4 * i) (BitVec.ofNat 32 (p.f (16 + 4 * i) 4))) u) 0x81 p stOk []) ∧
    (s.takes u 0x40 p → p.f 2 6 = 0 → p.f 0 1 ≤ 63 → 4 ≤ p.f 1 1 → p.f 1 1 ≤ 12 → p.f 8 8 % 4096 = 0 →
      u.ringOk (p.f 8 8) (p.f 1 1) = true →
      (u.queue? (p.f 0 1) = none → exec (.queueCreate p) s =
        (u.setQueue (p.f 0 1) { logn := p.f 1 1, base := p.f 8 8 }).replied 0x40 p stOk []) ∧
      (u.queue? (p.f 0 1) ≠ none → exec (.queueCreate p) s = u.replied 0x40 p stState [])) ∧
    (s.takes u 0x41 p → p.f 1 7 = 0 → p.f 0 1 ≤ 63 →
      (u.queue? (p.f 0 1) ≠ none → exec (.queueDestroy p) s = State.replied (State.examine
        { u with disp := { u.disp with queues := u.disp.queues.erase (p.f 0 1) } }) 0x41 p stOk []) ∧
      (u.queue? (p.f 0 1) = none → exec (.queueDestroy p) s = u.replied 0x41 p stState [])) ∧
    (s.takes u 0xA1 p →
      ((∀ q, q < 16 → 650 ≤ p.f (2 * q) 2 ∧ p.f (2 * q) 2 ≤ 800 ∧ p.f (2 * q) 2 % 5 = 0) →
        ∃ t : State, exec (.setOperatingPoint p) s = t.replied 0xA1 p stOk [] ∧
          t = { u with pwr := { u.pwr with setMv := t.pwr.setMv } } ∧
          ∀ q, q < 16 → t.pwr.setMv.getD q 750 = p.f (2 * q) 2) ∧
      ((∃ q, q < 16 ∧ ¬(650 ≤ p.f (2 * q) 2 ∧ p.f (2 * q) 2 ≤ 800 ∧ p.f (2 * q) 2 % 5 = 0)) →
        exec (.setOperatingPoint p) s = u.replied 0xA1 p stRange [])) ∧
    (s.takes u 0xA2 p →
      (1200 ≤ p.f 0 2 → p.f 0 2 ≤ 2800 → p.f 2 2 = 0 → exec (.setPowerCap p) s =
        State.replied { u with pwr := { u.pwr with capW := p.f 0 2 } } 0xA2 p stOk []) ∧
      ((p.f 0 2 < 1200 ∨ 2800 < p.f 0 2 ∨ p.f 2 2 ≠ 0) →
        exec (.setPowerCap p) s = u.replied 0xA2 p stRange [])) ∧
    (s.takes u 0x73 p → p.f 0 1 ≤ 1 → 1 ≤ p.f 1 1 → p.f 1 1 ≤ 168 → p.f 2 2 = 0 → u.tc0On = true →
      exec (.scrubConfig p) s = State.replied { u with scrub := { u.scrub with
        en := decide (p.f 0 1 = 1), hours := BitVec.ofNat 8 (p.f 1 1) } } 0x73 p stOk []) ∧
    (s.takes u 0xF0 p → p.f 0 4 = 0 → ∃ t : State, t = u.reply 0xF0 p stOk [] ∧
      exec (.reset p) s = .next { t with pilot := { t.pilot with resetIn := some 100000 } })

/-- ALLOC of device and host pages takes the lowest free range or the one asked for; one with a peer's home
asks the home, whose MAPA ends it (R342, R343). FREE, SET_STRENGTH and FUSE_REPAIR, and what a silent
holder does to a FREE (R346, R402, R416, R490, R493). -/
def Obligations.AllocationAndMemoryCommandsComplete : Prop :=
  (∀ (s u : State) (p : CmdPkt),
     let size := p.f 0 8
     let va := p.f 8 8
     let home := p.f 0x1A 2
     let put (u : State) (k : HomeKind) (str base : Nat) : State := u.allocate (base / pageSize) {
       npages := size / pageSize, str := str, kind := k, home := home, hbase := p.f 0x10 8
       tile := p.f 0x1C 1 % 4, anyt := natBit (p.f 0x1C 1) 7 }
     (s.takes u 0x30 p → allocRangeOk p = true →
       (∀ k, homeKind (p.f 0x19 1) = some k → k ≠ .peer → u.allocFits k (size / pageSize) (p.f 0x18 1) va = true →
         (va ≠ 0 → u.overlaps va size = false → exec (.alloc p) s =
           (put u k (p.f 0x18 1) va).replied 0x30 p stOk (beBytes 8 va)) ∧
         (va = 0 → ∃ base, exec (.alloc p) s = (put u k (p.f 0x18 1) base).replied 0x30 p stOk (beBytes 8 base) ∧
           base % pageSize = 0 ∧ offLimits base size = false ∧ u.overlaps base size = false ∧
           ∀ x, x < base → x % pageSize = 0 → offLimits x size = true ∨ u.overlaps x size = true)) ∧
       (va ≠ 0 → u.overlaps va size = true → exec (.alloc p) s = u.replied 0x30 p stRange []) ∧
       (p.f 0x19 1 = 1 → va ≠ 0 → u.overlaps va size = false → (u.con home).st = .opened →
         exec (.alloc p) s = .next ((u.sendOp home 0x10 0 0 (BitVec.ofNat 64 va) 0x0C 0 (beBytes 8 size)).held
           0x30 p true)) ∧
       (p.f 0x19 1 = 1 → va ≠ 0 → u.overlaps va size = false → (u.con home).st ≠ .opened →
         exec (.alloc p) s = u.replied 0x30 p stState [])) ∧
     (∀ d str status, s.takeCir d (fun o => o.isMsg 0x0D va) = some u → u.waitingPkt 0x30 = some p → home = d →
       (status ≠ 0 → exec (.mapa d va str status) s = .next (u.finish stRange [])) ∧
       (status = 0 → str < 8 → va ≠ 0 → u.allocFits .peer (size / pageSize) str va = true →
         exec (.mapa d va str status) s = .next ((put u .peer str va).finish stOk (beBytes 8 va))))) ∧
  (∀ (s u : State) (p : CmdPkt),
     let as := u.wholeAllocs (p.f 0 8) (p.f 8 8)
     let vs := allocPages as
     (s.takes u 0x31 p →
       (as = [] → exec (.free p) s = u.replied 0x31 p stRange []) ∧
       (as ≠ [] → u.freeReady vs = true → exec (.free p) s = (u.freeAll as).replied 0x31 p stOk []) ∧
       (as ≠ [] → u.freeReady vs = false → exec (.free p) s = .next (State.held
         ((vs.filter u.isShared).foldl (fun v x => v.homeAsk x .localWrite) u) 0x31 p false))) ∧
     (∀ d vpn, s.busyPkt 0x31 = some p → vpn ∈ allocPages (s.wholeAllocs (p.f 0 8) (p.f 8 8)) →
       d ∈ (s.dir vpn).await → exec (.freeHolderTimeout d vpn) s =
         .next (((s.record (pageRec clsUe 0x0208 vpn d d)).homeAnswered d vpn).freeGoesOn p)) ∧
     (s.takes u 0x32 p → p.f 0x11 7 = 0 → p.f 0x10 1 ≤ 4 → as ≠ [] → (∀ x ∈ as, x.2.kind = .loc) →
       (strengthNeed as (p.f 0x10 1) ≤ u.cirrus.capFree → ∃ t : State,
         exec (.setStrength p) s = .next ((t.holdPages ((u.backedOf as).take 1)).held 0x32 p false) ∧
         t = { u with cirrus := { u.cirrus with allocs := t.cirrus.allocs, capFree := t.cirrus.capFree
                                                capRes := t.cirrus.capRes } } ∧
         (∀ base, (∀ x ∈ as, x.1 ≠ base) → t.cirrus.allocs.find? base = u.cirrus.allocs.find? base)) ∧
       (u.cirrus.capFree < strengthNeed as (p.f 0x10 1) →
         exec (.setStrength p) s = u.replied 0x32 p stNoResource [])) ∧
     (s.takes u 0x74 p → p.f 1 1 = 0 → p.f 4 1 ≤ 31 → p.f 5 1 = 0 → p.f 6 2 ≤ 4095 →
       let n := p.f 2 2
       let go (t : State) (left : Nat) : Prop :=
         exec (.fuseRepair p) s = t.replied 0x74 p stOk (beBytes 1 left ++ List.replicate 7 0)
       let slot (unit : Nat) : Repair :=
         { kind := p.f 0 1, unit := unit, bank := p.f 4 1, row := p.f 6 2, done := false }
       (p.f 0 1 ≤ 1 → (p.f 0 1 = 0 → n ≤ 3) → n ≤ 255 → u.repairClaimed (p.f 0 1) n = false →
         (u.fuseLeft (p.f 0 1) n (p.f 4 1) = 0 → exec (.fuseRepair p) s = u.replied 0x74 p stNoResource []) ∧
         (u.fuseLeft (p.f 0 1) n (p.f 4 1) ≠ 0 → ∃ t : State, go t (u.fuseLeft (p.f 0 1) n (p.f 4 1) - 1) ∧
           t.mem = u.mem ∧
           (p.f 0 1 = 0 → t.flash = { u.flash with repairs := u.flash.repairs ++ [slot n] } ∧ t.lans = u.lans ∧
             (t.tc n).fuse = if u.tcOn n then some (p.f 4 1, p.f 6 2) else (u.tc n).fuse) ∧
           (p.f 0 1 = 1 → t.flash = { u.flash with repairs := u.flash.repairs ++ [slot (u.fuseSite n)] } ∧
             t.tcs = u.tcs ∧
             (t.lan n).svc.fusePend = if u.lanOn n then some (p.f 4 1, p.f 6 2) else (u.lan n).svc.fusePend))) ∧
       (p.f 0 1 ≤ 1 → (p.f 0 1 = 0 → n ≤ 3) → n ≤ 255 → u.repairClaimed (p.f 0 1) n = true →
         exec (.fuseRepair p) s = u.replied 0x74 p stMaint [])))

/-- RETIRE_PAGE, RETIRE_BANK, MAP_OUT_CHANNEL and MARGIN take their pages or channel; COMMAND_COMPLETED ends the
work of a command, with INTERNAL after a pilot fault; a wait ends at DEADLINE (R313, R314, R405,
R412, R413, R476, R483). -/
def Obligations.MaintenanceCommandsComplete : Prop :=
  ∀ (s u : State) (p : CmdPkt) (x : CompleteIn),
    let ch := p.f 0 2
    (s.takes u 0x70 p → p.f 0 4 < pageCount →
      (p.f 0 4 ∈ u.cirrus.retired → exec (.retirePage p) s = u.replied 0x70 p stState []) ∧
      (p.f 0 4 ∉ u.cirrus.retired → u.flash.retPages.length < 4096 → u.cirrus.capFree ≠ 0 → u.freePage ≠ none →
        exec (.retirePage p) s = .next ((u.holdPages (u.ppnPages (p.f 0 4))).held 0x70 p false))) ∧
    (s.takes u 0x71 p → p.f 3 1 = 0 → ch ≤ 255 → p.f 2 1 ≤ 47 → (u.ch ch).en = true →
      (u.ch ch).bankret.getLsbD (p.f 2 1) = false →
      ((u.ch ch).maint ≠ 0 → exec (.retireBank p) s = u.replied 0x71 p stMaint []) ∧
      ((u.ch ch).maint = 0 → ∃ t : State, exec (.retireBank p) s = .next ((t.holdPages
          (usePages (u.uses (inBank ch (p.f 2 1))))).held 0x71 p false) ∧ (t.ch ch).maint = 4 ∧
        t.mem = u.mem ∧ ∀ b, b < 48 → (t.ch ch).bankret.getLsbD b = ((u.ch ch).bankret.getLsbD b ||
          decide (b / 16 = p.f 2 1 / 16 ∧ b % 4 = p.f 2 1 % 4)))) ∧
    (s.takes u 0x72 p → p.f 3 1 = 0 → ch ≤ 255 →
      (p.f 2 1 = 0 → (u.ch ch).en = true → (u.ch ch).maint = 0 →
        (u.uses (inChan ch)).length ≤ u.freeElsewhere ch →
        ∃ t : State, exec (.mapOutChannel p) s = .next ((t.holdPages (usePages (u.uses (inChan ch)))).held 0x72 p false) ∧
          (t.ch ch).maint = 3 ∧ t.isReady (readyCh ch) = false ∧ t.mem = u.mem) ∧
      (p.f 2 1 = 1 → ch ∈ u.flash.mapout → ∃ t : State, exec (.mapOutChannel p) s = t.replied 0x72 p stOk [] ∧
        ch ∉ t.flash.mapout ∧ (t.ch ch).listed = false ∧ t.mem = u.mem)) ∧
    (s.takes u 0xB0 p → p.f 2 2 = 0 → ch ≤ 255 → (u.ch ch).en = false → u.chOn ch = true →
      ((u.ch ch).maint = 0 → exec (.margin p) s =
        .next ((u.modCh ch (fun d => { d with maint := 2 })).held 0xB0 p false)) ∧
      ((u.ch ch).maint ≠ 0 → exec (.margin p) s = u.replied 0xB0 p stMaint [])) ∧
    (∀ b, s.pilot.busy = some b → b.waiting = false →
      (x.pilotFault = true → exec (.commandCompleted x) s = .next (((s.dropClaims b).record
        { src := 0, cls := clsInfo, code := 0x0417, aux := b.opcode + b.pkt.ep * 65536 }).finish
          stInternal [])) ∧
      (x.pilotFault = false → b.opcode = 0x31 → s.freeReady
          (allocPages (s.wholeAllocs (b.pkt.f 0 8) (b.pkt.f 8 8))) = true →
        exec (.commandCompleted x) s =
          .next ((s.freeAll (s.wholeAllocs (b.pkt.f 0 8) (b.pkt.f 8 8))).finish stOk [])) ∧
      (x.pilotFault = false → b.opcode = 0x21 → ∀ img, s.sec.staged = some img →
        exec (.commandCompleted x) s = .next (State.finish { s with
          flash := { s.flash with image := some img }
          sec := { s.sec with staged := none, commitPend := true } } stOk [])) ∧
      (x.pilotFault = false → b.opcode = 0xB0 → ∃ t : State, exec (.commandCompleted x) s = .next (t.finish stOk
          ((List.range 80).flatMap (fun i => beBytes 4 (x.pins.getD i 0).toNat))) ∧
        (t.ch (b.pkt.f 0 2)).maint = 0 ∧ t.mem = s.mem) ∧
      (x.pilotFault = false → b.opcode = 0x70 → s.movesGo b = true → s.noPin s.cirrus.moving = true →
        let ppn := b.pkt.f 0 4
        let w := ((s.foundUe true (inPpn ppn) x.ueUnits).1).emptyPpn ppn
        w.emptied (inPpn ppn) = true → ∃ t : State,
          exec (.commandCompleted x) s = .next ((t.record (retiredRec (s.ppnUses ppn))).unholdAll.finish stOk []) ∧
          ppn ∈ t.flash.retPages ∧ t.mem = w.mem ∧ t.cirrus.pls = w.cirrus.pls ∧ t.cirrus.ptes = w.cirrus.ptes)) ∧
    (∀ b, s.pilot.busy = some b → b.waiting = true →
      (b.opcode ≠ 0x11 → b.pkt.deadline.toNat * 100000 ≤ (s.pilot.stamp - b.since).toNat →
        exec .deadlineExpiry s = .next (s.finish stDeadline [])) ∧
      ((s.pilot.stamp - b.since).toNat < b.pkt.deadline.toNat * 100000 → exec .deadlineExpiry s = .next s) ∧
      exec (.commandCompleted x) s = .next s)

/-! ### Security and identity (chapters 19 and 20) -/

/-- CLAIM enrols an owner whose key proves itself, and anonymous conduits become LOST after its reply (R503, R504);
LOAD_MEMBERSHIP installs a list that passes R507; LOAD_DECODE_TABLE takes a bundle that passes R293; OPEN_CONDUIT
begins a handshake (R488); SET_ADDRESS writes after its reply (R487); FW_STAGE and FW_COMMIT copy and
commit an image (R520, R521). -/
def Obligations.SecurityCommandsComplete : Prop :=
  ∀ (s u v w : State) (p : CmdPkt) (h b : List Byte) (hp bad : Bool),
    let a := p.f 0 8
    let n := p.f 8 4
    (s.takes u 0x10 p →
      let key := p.bytes 0 32
      (u.flash.owner ≠ none → exec (.claim p) s = u.replied 0x10 p stState []) ∧
      (u.flash.owner = none → Config.edPoint key = false → exec (.claim p) s = u.replied 0x10 p stRange []) ∧
      (u.flash.owner = none → Config.edPoint key = true →
        let proof := Config.edVerify key (ascii "NQ288 claim" ++ devKey) (p.bytes 32 64)
        (proof = false → exec (.claim p) s = u.replied 0x10 p stAuth []) ∧
        (proof = true → exec (.claim p) s = .next (State.loseAnon (State.replyLeaves (State.reply
          { u with flash := { u.flash with owner := some key, oseq := 0 } } 0x10 p stOk []) p.ep))))) ∧
    (s.takes u 0x13 p → p.f 12 4 = 0 → 0x80 ≤ n → u.inAlloc a n = true →
      u.readObj a 16 = (v, .ok h hp) → n = 0x80 + 120 * bfield h 6 2 + 40 * bfield h 8 1 →
      v.readObj a n = (w, .ok b bad) →
      let k := b.length - 64
      (listOk b = false → exec (.loadMembership p) s = w.replied 0x13 p stRange []) ∧
      (∀ o e cks, listOk b = true → w.flash.owner = some o → bad = false →
        Config.edVerify o (b.take k) (b.drop k) = true → w.flash.lseq.toNat < bfield b 0x10 8 →
        (listPeers b).find? (fun e => bslice e 8 32 = devKey) = some e → unwrapCks b e = some cks →
        ∃ t : State, exec (.loadMembership p) s = t.loseUnlisted.replied 0x13 p stOk [] ∧
          t.flash.list = some b ∧ t.flash.cks = cks ∧ t.flash.lseq = BitVec.ofNat 64 (bfield b 0x10 8) ∧
          t.flash.devidx = BitVec.ofNat 16 (bfield e 0 2) ∧ t.sec.meas.find? 6 = some (Config.sha512 b) ∧
          t.mem = w.mem)) ∧
    (s.takes u 0x90 p → p.f 12 4 = 0 → u.readObj a 16 = (v, .ok h hp) → n = 0xD0 + 8 * bunWords h →
      v.readObj a n = (w, .ok b bad) →
      let k := 0x90 + 8 * bunWords b
      (bunOk b = false → exec (.loadDecodeTable p) s = w.replied 0x90 p stRange []) ∧
      (∀ o, bunOk b = true → w.flash.owner = some o → bad = false →
        Config.edVerify o (b.take k) (b.drop k) = true → w.flash.dtseq.toNat < bfield b 8 4 →
        (w.anyKernel = true → exec (.loadDecodeTable p) s = w.replied 0x90 p stState []) ∧
        (w.anyKernel = false → exec (.loadDecodeTable p) s = .next (State.held { w with
          disp := { w.disp with hold := true }, pilot := { w.pilot with object := b } } 0x90 p false)))) ∧
    (s.takes u 0x11 p → p.f 2 2 = 0 → p.f 0 2 ≤ 1087 →
      let cid := p.f 0 2
      let listed := if cid < 1024 then (u.peerEntry cid).isSome else (u.addrEntry cid).valid
      (listed = false → exec (.openConduit p) s = u.replied 0x11 p stState []) ∧
      (listed = true → (u.con cid).st = .opened → exec (.openConduit p) s = u.replied 0x11 p stOk []) ∧
      (listed = true → (u.con cid).st ≠ .opened → u.remoteFirst cid = false →
        exec (.openConduit p) s = .next ((u.startHello cid).held 0x11 p true))) ∧
    (s.takes u 0x50 p →
      (addressOk p = true → exec (.setAddress p) s = .next (((u.reply 0x50 p stOk []).replyLeaves p.ep).setAddress p)) ∧
      (addressOk p = false → exec (.setAddress p) s = u.replied 0x50 p stRange [])) ∧
    (s.takes u 0x20 p → p.f 12 4 = 0 → p.f 8 4 ≤ 0x4000000 → u.recovering = false →
      exec (.fwStage p) s = .next (u.held 0x20 p false)) ∧
    (s.takes u 0x21 p →
      (u.sec.staged = none → exec (.fwCommit p) s = u.replied 0x21 p stState []) ∧
      (∀ img, u.sec.staged = some img →
        (p.bytes 0 64 = Config.sha512 img → exec (.fwCommit p) s = .next (u.held 0x21 p false)) ∧
        (p.bytes 0 64 ≠ Config.sha512 img → exec (.fwCommit p) s = u.replied 0x21 p stAuth [])))

/-- The commands on cuts, checkpoints, lanterns and domains, each with its own checks in order: SNAPSHOT,
CHECKPOINT, RESTORE, QUARANTINE, POWER_DOMAIN (R376, R431, R437, R446, R492, R494, R495, R566). -/
def Obligations.ControlCommandsComplete : Prop :=
  ∀ (s u : State) (p : CmdPkt),
    (s.takes u 0x60 p →
      (u.pilot.inflight = false → exec (.snapshot p) s = .next ((u.inject 0).held 0x60 p false)) ∧
      (u.pilot.inflight = true → exec (.snapshot p) s = (u.beaconTrigger 0).replied 0x60 p stState [])) ∧
    (s.takes u 0x62 p → ckRangeOk p = true →
      let opened := ∀ x ∈ ckDests p, (u.con (hostCid x.ep)).st = .opened
      let need := (u.ckPages.length + p.f 6 1 - 1) / p.f 6 1 * 0x202000
      (u.cirrus.active = true → exec (.checkpoint p) s = u.replied 0x62 p stState []) ∧
      (¬opened → exec (.checkpoint p) s = u.replied 0x62 p stState []) ∧
      (u.cirrus.active = false → opened → (∃ x ∈ ckDests p, x.dlen < need) →
        exec (.checkpoint p) s = u.replied 0x62 p stNoResource []) ∧
      (u.cirrus.active = false → opened → (∀ x ∈ ckDests p, need ≤ x.dlen) →
        exec (.checkpoint p) s = .next (State.held
          { u with cirrus := { u.cirrus with ckerr := false } } 0x62 p true))) ∧
    (s.takes u 0x63 p → restoreRangeOk p = true →
      ((u.lans.any (fun x => x.2.gang.isSome) || u.cirrus.active) = true →
        exec (.restore p) s = u.replied 0x63 p stState []) ∧
      ((u.lans.any (fun x => x.2.gang.isSome) || u.cirrus.active) = false →
        exec (.restore p) s = .next ((State.held { u with
          disp := { u.disp with hold := true }
          pilot := { u.pilot with restore := some {} } } 0x63 p false).restoreBegins p))) ∧
    (s.takes u 0x75 p → p.f 0 1 ≤ 1 → p.f 1 1 ≤ 7 → p.f 2 2 ≤ 255 → u.lanOn (p.f 2 2) = true →
      let n := p.f 2 2
      let m := p.f 1 1
      let l := u.lan n
      (l.claimed = false → p.f 0 1 = 1 → (l.arr m).quar = false → exec (.quarantine p) s =
        (u.setLan n (l.modArr m (fun a => { a with quarReq := true }))).replied 0x75 p stOk []) ∧
      (l.claimed = false → p.f 0 1 = 0 → l.svc.noSpare = false → n ∉ u.pilot.quars →
        let t : State := { u with pilot := { u.pilot with quars := setIns u.pilot.quars n } }
        exec (.quarantine p) s =
          (((t.setLan n { l with svc := { l.svc with quarPend := true } }).setReady (readyLan n)
            false).examine).replied 0x75 p stOk []) ∧
      (p.f 0 1 = 0 → n ∈ u.pilot.quars → exec (.quarantine p) s = u.replied 0x75 p stState []) ∧
      (p.f 0 1 = 1 → (l.arr m).quar = true → exec (.quarantine p) s = u.replied 0x75 p stState []) ∧
      (p.f 0 1 = 1 → (l.arr m).quar = false → (l.arr m).quarReq = false → l.claimed = true →
        exec (.quarantine p) s = u.replied 0x75 p stMaint [])) ∧
    (s.takes u 0xA0 p → p.f 2 2 = 0 → p.f 0 1 ≤ 29 → p.f 1 1 ≤ 1 → u.pwr.shut = false →
      let d := p.f 0 1
      let leaf := d < 16 ∨ 20 ≤ d ∧ d < 28
      (p.f 1 1 = 1 → u.powered d = true → exec (.powerDomain p) s = u.replied 0xA0 p stOk []) ∧
      (p.f 1 1 = 1 → u.powered d = false → leaf → u.isReady (readyTc (domTile d)) = false →
        exec (.powerDomain p) s = u.replied 0xA0 p stState []) ∧
      (p.f 1 1 = 1 → u.powered d = false → leaf → u.isReady (readyTc (domTile d)) = true →
        exec (.powerDomain p) s = .next (((State.addEligible { u with start := { u.start with
          deadDoms := setDel u.start.deadDoms d } } [d])).held 0xA0 p false)) ∧
      (p.f 1 1 = 0 → ¬leaf → exec (.powerDomain p) s = u.replied 0xA0 p stRange []) ∧
      (p.f 1 1 = 0 → leaf → u.powered d = true →
        (u.mayOff d = true → exec (.powerDomain p) s = (u.offDomain d).replied 0xA0 p stOk []) ∧
        (u.mayOff d = false → exec (.powerDomain p) s = u.replied 0xA0 p stState [])))

/-! ### Transport (chapter 18) -/

/-- The link comes up when every active lane has lock and the port is not held down, and goes down when a
lane has lost it; a link that stays down makes every open conduit LOST (R450, R451, R501, R544). -/
def Obligations.LinkCompletes : Prop :=
  ∀ (s : State) (i : Nat), s.portOn = true →
    let all := ∀ j, j < (if s.xpt.mode800 then 4 else 8) → s.xpt.lock.getLsbD j = true
    (i < 8 → ∀ on, ∃ v : Byte,
      exec (if on then .blockLockGained i else .blockLockLost i) s = .next { s with xpt := { s.xpt with lock := v } } ∧
      ∀ j, j < 8 → v.getLsbD j = if j = i then on else s.xpt.lock.getLsbD j) ∧
    (s.xpt.up = false → s.xpt.held = false → all →
      ∃ t, exec .linkUp s = .next t ∧ t.xpt.up = true ∧ t.xpt.upAge = some 0 ∧
        t.isReady 2 = true ∧ t.isReady 3 = (s.isReady 3 || s.isReady 1) ∧ t.xpt.cons = s.xpt.cons ∧
        t.mem = s.mem) ∧
    (s.xpt.up = true → ¬all → ∃ t, exec .linkDown s = .next { s with xpt := t } ∧ t.up = false ∧
      t.downs = min (s.xpt.downs + 1) 65535 ∧ t.cons = s.xpt.cons ∧
      (∀ x, s.xpt.upAge = some x → t.held = decide (x < 20000000))) ∧
    exec .holdDownEnd s = .next { s with xpt := { s.xpt with held := false } } ∧
    (s.xpt.up = false → exec .linkDownTimeout s = .next ((s.xpt.cons.filter (fun p => p.2.st = .opened)).foldl
      (fun s p => s.loseConduit p.1) s)) ∧
    (∀ cid, (s.con cid).st = .opened → (s.con cid).reqs = [] → s.ckpt = none → s.flash.addr.hosts = [] →
      let t := s.loseConduit cid
      t.con cid = { st := .lost, retxCnt := (s.con cid).retxCnt } ∧
      (∀ c, c ≠ cid → t.con c = s.con c) ∧ t.mem = s.mem ∧ t.lans = s.lans)

/-- Packets are sent in the order of R462 and received in PSN order, a COMMAND for the pilot and other data for the
data plane; a frame whose FEC decoding fails is counted and discarded; timers, ACKs and rate control act on
their conduit (R451, R453, R456 to R462, R469, R472). -/
def Obligations.PacketsComplete : Prop :=
  ∀ (s : State) (p : Packet) (cid : Nat), s.linkUp = true →
    let k := s.con cid
    let rest (t : State) : Prop := (∀ c, c ≠ cid → t.con c = s.con c) ∧ t.mem = s.mem ∧ t.lans = s.lans
    (k.st = .opened →
      (k.ackDue = true → exec (.ackTimer cid) s = .next (s.setCon cid { k with ackOut := true })) ∧
      exec (.rateIncrease cid) s = .next (s.setCon cid { k with
        rc := min (if s.xpt.mode800 then 800 else 1600) (k.rc + 10), cutRecent := false }) ∧
      (∀ t, k.unacked.find? (fun t => t.sent) = some t →
        (k.expiries < 11 → ∃ u, exec (.retransmitTimeout cid) s = .next u ∧ rest u ∧
          (u.con cid).expiries = k.expiries + 1 ∧ (u.con cid).rc = max 1 (k.rc / 2) ∧
          (u.con cid).rtoNs = min 10000000 (2 * k.rtoNs) ∧
          (∃ x ∈ (u.con cid).unacked, x.psn = t.psn ∧ x.again = true)) ∧
        (11 ≤ k.expiries → exec (.retransmitTimeout cid) s = .next (s.loseConduit cid)))) ∧
    (∀ c, List.find? (fun (c : Nat × Conduit) => c.2.st = .opened && c.2.ackOut) s.xpt.cons = some c →
      exec .packetTransmit s = .next (s.emitAck c.1)) ∧
    (∀ t, List.find? (fun (c : Nat × Conduit) => c.2.st = .opened && c.2.ackOut) s.xpt.cons = none → s.txPick = some (cid, t) →
      (t.typ = typReply → exec .packetTransmit s = .next (s.emitPkt cid t)) ∧
      (t.typ = typData → t.sent = false → exec .packetTransmit s = .next { s.emitPkt cid t with
        xpt := { (s.emitPkt cid t).xpt with lastCid := cid } })) ∧
    (∀ typ psn ece retx payload, k.xsn.toNat < 2 ^ 32 → ∃ f,
      s.emit cid typ psn ece retx payload = (s.setCon cid { k with xsn := k.xsn + 1, ackDue := false }).emitFrame
        (some cid) f) ∧
    (p.fecBad ≠ 0 → p.typ ≠ typAck → exec (.dataPacket p) s = .next { s with xpt := { s.xpt with
      feccorr := min (s.xpt.feccorr + p.fecCorr) 0xFFFFFFFF
      fecunc := min (s.xpt.fecunc + p.fecBad) 0xFFFFFFFF } }) ∧
    (p.dcid.toNat = cid → p.typ = 2#8 → s.hdrOk p = true → k.st = .opened → p.fecBad = 0 → ∀ v body,
      k.openPkt (pktHdr p) p.epoch p.xsn (p.payload ++ beBytes 16 p.tag.toNat) = some (v, body) →
      v.reorder = [] → p.psn = v.ackTx → ∃ t, exec (.dataPacket p) s = .next t ∧ rest t ∧
        (t.con cid).ackTx = v.ackTx + 1 ∧ (t.con cid).ops = v.ops ∧
        t.pilot = { s.pilot with inbox := s.pilot.inbox ++ [(cid, body)] }) ∧
    (p.dcid.toNat = cid → p.typ = typData → s.hdrOk p = true → k.st = .opened → p.fecBad = 0 →
      (k.openPkt (pktHdr p) p.epoch p.xsn (p.payload ++ beBytes 16 p.tag.toNat) = none →
        exec (.dataPacket p) s = .next { s with xpt := { s.xpt with
          feccorr := min (s.xpt.feccorr + p.fecCorr) 0xFFFFFFFF, fecunc := min s.xpt.fecunc 0xFFFFFFFF
          dropAuth := min (s.xpt.dropAuth + 1) 255 } }) ∧
      (∀ v body o, k.openPkt (pktHdr p) p.epoch p.xsn (p.payload ++ beBytes 16 p.tag.toNat) = some (v, body) →
        v.reorder = [] → p.psn = v.ackTx → parseOp body = some o → opFault cid o = 0 →
        ∃ t, exec (.dataPacket p) s = .next t ∧ rest t ∧ (t.con cid).ackTx = v.ackTx + 1 ∧
          (t.con cid).ops = v.ops ++ [o] ∧ (t.con cid).ackDue = true)) ∧
    (p.dcid.toNat = cid → p.typ = typAck → s.hdrOk p = true → k.st = .opened → p.fecBad = 0 → ∀ v body,
      k.openPkt (pktHdr p) p.epoch p.xsn (p.payload ++ beBytes 16 p.tag.toNat) = some (v, body) →
      ∃ t, exec (.ack p) s = .next t ∧ rest t ∧
        ((t.con cid).rc = if p.ece && !v.cutRecent then max 1 (v.rc * 7 / 8) else v.rc) ∧
        (psnBelow v.ackRx p.ack = true → psnBelow v.psnTx p.ack = false →
          (t.con cid).ackRx = p.ack ∧ (t.con cid).expiries = 0 ∧
          ∀ x ∈ (t.con cid).unacked, (x.sent && psnBelow x.psn p.ack) = false)) ∧
    (∀ (target src : BitVec 128) (mac : BitVec 48) (body : List Byte),
      (target = s.ownIp →
        (∃ f, exec (.neighborSolicitation target src mac) s = .next (s.emitFrame none f) ∧
          f.take 6 = beBytes 6 mac.toNat) ∧
        (∃ f, exec (.echoRequest target src mac body) s = .next (s.emitFrame none f) ∧
          f.take 6 = beBytes 6 mac.toNat)) ∧
      (target ≠ s.ownIp → exec (.neighborSolicitation target src mac) s = .next s.dropHdr ∧
        exec (.echoRequest target src mac body) s = .next s.dropHdr))

/-- Delivered operations take effect, each with the response of R463; requests of the device go out under a RID,
and a response ends the request that it matches (R464, R466, R467, R470, R471). -/
def Obligations.OperationsComplete : Prop :=
  ∀ (s u : State) (cid k : Nat) (o : DpOp),
    let a := o.addr.toNat
    let d (s : State) := s.opDone cid k
    (s.planeDown = false →
      (s.opAt cid k 1 = some o → s.mayAccess cid k o = true →
        (s.touchRange (.conduit cid) false (pieces a o.len) = (u, .ok) → exec (.read cid k) s =
          .next ((d (u.dvLoadLines a o.len false)).respond cid 0x81 0 o.rid none
            (pmapOf a o.len (fun x => (u.dvPoison? (max a (64 * x)) 1).isSome)) (u.dvRead a o.len))) ∧
        (∀ x, s.touchRange (.conduit cid) false (pieces a o.len) = (u, .unmapped x) →
          exec (.read cid k) s = .next ((d u).respond cid 0x81 0x01 o.rid none 0 []))) ∧
      (s.opAt cid k 2 = some o → s.mayAccess cid k o = true →
        (s.touchRange (.conduit cid) true (pieces a o.len) = (u, .ok) → exec (.write cid k) s =
          .next ((d u).dvStoreK (.conduit cid) (wholeKind false) a o.data (fun x => o.pmap.getLsbD (x - a / 64)))) ∧
        (∀ x, s.touchRange (.conduit cid) true (pieces a o.len) = (u, .unmapped x) →
          exec (.write cid k) s = .next (d u))) ∧
      (s.mayOrder cid k = true →
        (s.opAt cid k 3 = some o → exec (.flush cid k) s = .next ((d s).respond cid 0x83 0 o.rid none 0 [])) ∧
        (s.opAt cid k 4 = some o → exec (.doorbell cid k) s =
          .next ((d s).ringBell (a % 64) (o.opnd.setWidth 16))) ∧
        (s.opAt cid k 5 = some o → exec (.eventAdd cid k) s = .next ((d s).addEvent (a % 4096) o.opnd)) ∧
        (s.opAt cid k 6 = some o →
          (∀ old, s.fetchAdd (.conduit cid) a o.opnd = (u, .done old) →
            exec (.fetchAdd cid k) s = .next ((d u).answerFa cid o 0 (some old))) ∧
          (∀ st, s.fetchAdd (.conduit cid) a o.opnd = (u, .status st) →
            exec (.fetchAdd cid k) s = .next ((d u).answerFa cid o st none))))) ∧
    (∀ h addr len data pmap, (addr.toNat % 4096 + len ≤ 4096 →
        exec (.hread h addr len) s = .next (s.sendReq (hostCid h) 0x07 addr 0 len .host)) ∧
      (addr.toNat % 4096 + data.length ≤ 4096 → exec (.hwrite h addr data pmap) s =
        .next (s.sendOp (hostCid h) 0x08 0 0 addr 0 pmap data))) ∧
    (∀ i op rq, (i, op, rq) ∈ [(Instr.readResponse cid k, 0x81, (0x01 : Byte)), (.flushResponse cid k, 0x83, 0x03),
        (.fetchAddResponse cid k, 0x86, 0x06), (.hreadResponse cid k, 0x87, 0x07)] → s.opAt cid k op = some o →
      (((d s).con cid).reqs.find? (fun r => r.1 = o.rid && r.2.1 = rq) = none → exec i s =
        .next { d s with xpt := { (d s).xpt with dropNorid := min (s.xpt.dropNorid + 1) 255 } }) ∧
      (∀ r, ((d s).con cid).reqs.find? (fun r => r.1 = o.rid && r.2.1 = rq) = some (r, rq, .host) →
        exec i s = .next ((d s).modCon cid (fun c => { c with
          reqs := c.reqs.filter (fun x => x.1 ≠ o.rid) })))) ∧
    (∀ r n, s.opAt cid k 0x86 = some o →
      ((d s).con cid).reqs.find? (fun r => r.1 = o.rid && r.2.1 = 0x06) = some (r, 0x06, .xrq n) →
      s.lanOn n = true → ∃ t : State, exec (.fetchAddResponse cid k) s = .next (t.xrqEnd n o.status
        (if o.status = 0 then some o.opnd else none)) ∧ t.lans = s.lans ∧ t.mem = s.mem) ∧
    (∀ n (v : Word), s.lanOn n = true → v.getLsbD 31 = false →
      ∃ x : Xrq, exec (.remoteRequest n v) s = .next (s.setLan n { s.lan n with xrq := x }) ∧
        x.op.toNat = v.toNat / 2 ^ 16 % 256 ∧ x.peer.toNat = v.toNat % 1024 ∧
        x = { (s.lan n).xrq with op := x.op, peer := x.peer }) ∧
    (∀ n (v : Word), s.lanOn n = true → v.getLsbD 31 = true → (s.lan n).xrq.busy = false →
      exec (.remoteRequest n v) s = .next (State.xrqGo (s.modLan n (fun l => { l with xrq := { l.xrq with
        op := BitVec.ofNat 8 (v.toNat / 2 ^ 16), peer := BitVec.ofNat 10 v.toNat } })) n))

/-- A HELLO that is accepted is answered, an ANSWER that verifies opens the conduit and sends FINISH, a FINISH
that verifies opens it; messages are resent and handshakes abandoned (R509 to R513). -/
def Obligations.HandshakesComplete : Prop :=
  ∀ (s : State) (cid : Nat) (msg : List Byte), s.linkUp = true → cid < 1088 →
    let k := s.con cid
    let rest (t : State) : Prop := (∀ c, c ≠ cid → t.con c = s.con c) ∧ t.mem = s.mem ∧ t.lans = s.lans
    (s.isReady 3 = true → msg.length = 136 → s.helloOk cid msg = true → k.hs = none →
      ∃ t x, exec (.hello cid msg) s = .next t ∧ rest t ∧ (t.con cid).hs = some x ∧ x.initiator = false ∧
        x.hello = msg ∧ x.was = k.st ∧ ((t.con cid).st = if k.st = .opened then .opened else .opening) ∧
        (let head := [2, 0] ++ beBytes 2 s.flash.devidx.toNat ++ List.replicate 4 0 ++ Config.xPub x.priv ++ devKey
         x.answer = head ++ Config.edSign idSeed (ascii "NQ288 answer" ++ hsTa msg head))) ∧
    (∀ h, k.hs = some h → msg.length = 136 →
      (h.initiator = true → hsMsg msg = 2 →
        (s.answerOk cid h msg = true →
          let fin := hsFinish (hsTf h.hello msg)
          exec (.answer cid msg) s = .next ((s.emitHs cid fin).openConduit cid { h with answer := msg }
            (hsEph msg) (hsIdkey msg) false fin)) ∧
        (s.answerOk cid h msg = false → exec (.answer cid msg) s = .next (s.answerFails cid))) ∧
      (h.initiator = false → hsMsg msg = 3 →
        (hsRole h.hello = 2 ∨ Config.edVerify (hsIdkey h.hello) (ascii "NQ288 finish" ++ hsTf h.hello h.answer)
            (hsSig msg) = true →
          exec (.finish cid msg) s = .next (s.openConduit cid h (hsEph h.hello) (hsIdkey h.hello)
            (hsRole h.hello = 2) [])))) ∧
    (∀ h, k.hs = some h →
      (h.initiator = true → exec (.helloResend cid) s = .next (s.emitHs cid h.hello)) ∧
      (h.initiator = false → exec (.answerResend cid) s = .next (s.emitHs cid h.answer)) ∧
      (h.initiator = false → ∃ t, exec (.handshakeAbandon cid) s = .next t ∧ rest t ∧
        t.con cid = { k with hs := none, st := if k.st = .opening then h.was else k.st })) ∧
    (∀ (h : Hs) other idkey anon fin, k.st ≠ .opened → s.pilot.busy = none →
      let prk := Config.hkdfExtract (hsTf h.hello h.answer) (Config.xShared h.priv other)
      let ir := Config.hkdfExpand prk (ascii "NQ288 i to r") 64
      let ri := Config.hkdfExpand prk (ascii "NQ288 r to i") 64
      let t := s.openConduit cid h other idkey anon fin
      rest t ∧ t.con cid = {
        st := .opened, anon := anon, idkey := idkey, lastFinish := fin
        secTx := if h.initiator then ir else ri, secRx := if h.initiator then ri else ir
        rc := if s.xpt.mode800 then 800 else 1600, retxCnt := k.retxCnt })

/-! ### Reset, bring-up and environment (chapters 22 and 23) -/

/-- The reset inputs and REFCLK: a device reset keeps the flash, the pending commands and the inputs, and
the device starts through REFCLK and the PLLs to the boot ROM (R539 to R541, R560). The TAP loads an
instruction while PG_IN is high; locked, it takes every one but IDCODE as BYPASS; IDCODE reads its code,
SAMPLE/PRELOAD writes the cells, TRST_N selects IDCODE (R523, R559, R561, R573, R574). -/
def Obligations.ResetInputsAndTapComplete : Prop :=
  (∀ (s : State),
     let st := s.start
     let wiped (t : State) : Prop := t.flash = s.flash ∧ t.pending = s.pending ∧ t.mem = [] ∧ t.lans = [] ∧
       t.chs = [] ∧ t.tcs = [] ∧ t.disp = {} ∧ t.pilot = {} ∧ t.sec = {} ∧ t.pwr = {} ∧ t.ckpt = none ∧
       t.cirrus = { ckerr := s.ckpt.any (fun c => c.streaming) } ∧
       t.xpt.cons = [] ∧ t.xpt.up = false ∧ t.tap.locked = false
     (st.phase = .reset →
       (exec .pgInHigh s = .next { s with start := { st with
         pgIn := true, phase := if st.resetN then (if st.refclk then .locking else .waitRef) else .reset } }) ∧
       (exec .resetNHigh s = .next { s with start := { st with
         resetN := true, phase := if st.pgIn then (if st.refclk then .locking else .waitRef) else .reset } })) ∧
     (∃ t, exec .pgInLow s = .next t ∧ wiped t ∧ t.tap = {} ∧
       t.start = { pgIn := false, resetN := st.resetN, refclk := st.refclk }) ∧
     (∃ t, exec .resetNLow s = .next t ∧ wiped t ∧ t.tap = { s.tap with locked := false } ∧
       t.start = { pgIn := st.pgIn, resetN := false, refclk := st.refclk }) ∧
     (∃ t, exec .refclkLoss s = .next t ∧ wiped t ∧ t.start = {
       pgIn := st.pgIn, resetN := st.resetN, refclk := false
       phase := if st.pgIn && st.resetN then .waitRef else .reset }) ∧
     (st.phase = .waitRef → exec .refclkPresent s =
       .next { s with start := { st with refclk := true, phase := .locking } }) ∧
     (st.phase = .locking → exec .pllLock s = .next { s with start := { st with phase := .bootRom } } ∧
       exec .pllLockRetry s = .next s)) ∧
  (∀ (s : State) (code : BitVec 4) (v : BitVec 7),
     (s.start.pgIn = true →
       (∀ i k, (i, k) ∈ [(Instr.extest, TapInstr.extest), (.clamp, .clamp), (.highz, .highz)] → exec i s =
         .next { s with tap := { s.tap with instr := if s.tap.locked then .bypass else k } }) ∧
       (5 ≤ code.toNat → exec (.bypass code) s = .next { s with tap := { s.tap with instr := .bypass } }) ∧
       exec .idcode s = .next { s with tap := { s.tap with instr := .idcode, shift := 0x1288064F } } ∧
       (s.tap.locked = true → exec (.samplePreload v) s =
         .next { s with tap := { s.tap with instr := .bypass } }) ∧
       (s.tap.locked = false → ∃ c : Word, exec (.samplePreload v) s = .next { s with
           freeCtr := s.freeCtr + 1
           tap := { s.tap with instr := .samplePreload, cells := v, shift := c } } ∧
         c.getLsbD 4 = s.pilot.trigLevel ∧ c.getLsbD 5 = true ∧ c.getLsbD 6 = s.start.resetN)) ∧
     (s.start.pgIn = false → ∀ i ∈ [Instr.extest, .clamp, .highz, .idcode, .bypass code, .samplePreload v],
       exec i s = .next s) ∧
     exec .trstNLow s = .next { s with tap := { s.tap with instr := .idcode } } ∧
     ((s.tap.instr = .extest ∨ s.tap.instr = .clamp) →
       s.faultPin = if s.tap.cells.getLsbD 1 && !s.tap.cells.getLsbD 0 then some false else none) ∧
     (s.tap.instr = .highz → s.faultPin = none ∧ s.alertPin = none) ∧
     ((s.tap.instr = .idcode ∨ s.tap.instr = .bypass ∨ s.tap.instr = .samplePreload) →
       s.faultPin = if s.faultLow then some false else none))

/-- The boot ROM, the pilot and SEC: a genuine image runs with its SVN raised and measured, another one
leads to recovery; PILOT_READY and SEC_READY set their bits, SEC's only where PUFR can be reconstructed
(R500, R515, R542, R544, R554). Domains are switched on in order, their blocks tested; what passes becomes ready and what fails or runs out of time
is reported by LAN_BIST (R418, R544 to R550). -/
def Obligations.BringUpCompletes : Prop :=
  (∀ (s : State),
     let img := flashImage s.flash
     (s.start.phase = .bootRom → s.romWaits = false →
       ∀ reads items : Bool, ∃ t, exec (.bootRom reads items) s = .next t ∧
         t.start.secFailed = (s.start.secFailed || !items) ∧
         t.sec.meas.find? 0 = some (Config.sha512 Config.bootRomImage) ∧ t.tap.locked = !s.flash.dbgOpen ∧
         if (reads && imgGenuine img && decide (s.flash.svn.toNat ≤ imgSvn img)) = true then
           t.start.phase = .starting ∧ t.pilot.started = true ∧
           t.flash = { s.flash with svn := BitVec.ofNat 32 (imgSvn img) } ∧
           (∀ k, k < 4 → t.sec.meas.find? (k + 1) = some (Config.sha512 (imgSectBytes img k)))
         else t.start.phase = .recovery ∧ t.pilot = {} ∧ t.flash = s.flash ∧ t.sec.fwver = 0xFFFFFFFF ∧
           (∀ k, k < 4 → t.sec.meas.find? (k + 1) = none)) ∧
     (s.start.phase = .starting → ∃ t, exec .pilotReady s = .next t ∧ t.isReady 0 = true ∧ t.start.phase = .up ∧
       (∀ b, b ≠ 0 → t.isReady b = s.isReady b) ∧ t.flash = s.flash ∧
       (s.start.eligible = [] → s.start.switched = [] → s.pwr.on = 0 →
         t.start.eligible = [16, 17, 18, 19, 28, 29])) ∧
     (s.start.phase = .up → s.isReady 1 = false → s.start.secFailed = false → s.lans = [] →
       Config.pufr.isSome = true → ∃ t, exec .secReady s = .next t ∧ t.isReady 1 = true ∧ t.flash.bootcnt = s.flash.bootcnt + 1 ∧
         t.flash.owner = s.flash.owner ∧ t.flash.list = s.flash.list ∧ t.sec.en = true ∧
         t.isReady 3 = (s.isReady 3 || s.isReady 2 && s.powered 29) ∧
         (∀ b, s.flash.list = some b → t.sec.meas.find? 6 = some (Config.sha512 b)) ∧
         (s.bundleOk = false → t.flash.bundle = []) ∧ (s.bundleOk = true → t.flash.bundle = s.flash.bundle))) ∧
  (∀ (s : State) (d n e t code bank row : Nat) (bad : List Nat) (ds : List Nat),
     (s.start.eligible = d :: ds →
       (s.pilot.started = true → s.msPast s.start.lastOn = true → exec .domainSwitchOn s =
         .next { s with start := { s.start with
           eligible := ds, switched := s.start.switched ++ [d], lastOn := some s.pilot.stamp } }) ∧
       (s.pilot.started = true → s.msPast s.start.lastOn = false → exec .domainSwitchOn s = .next s) ∧
       (s.pilot.started = false → exec .domainSwitchOn s = .next { s with start := { s.start with
         eligible := ds, switched := s.start.switched ++ [d], lastOn := none } })) ∧
     (d ∈ s.start.switched → s.busyPkt 0xA0 = none → d < 30 → ∃ u, exec (.domainPowered d) s = .next u ∧
       u.powered d = true ∧ (∀ x, x ≠ d → u.powered x = s.powered x) ∧ d ∉ u.start.switched ∧ u.mem = s.mem ∧
       (d < 16 → ∀ i, i < 16 → (u.lan (16 * d + i)).svc.testing = true) ∧
       (20 ≤ d → d < 28 → ∀ i, i < 32 → (u.ch (32 * (d - 20) + i)).maint =
         if 32 * (d - 20) + i ∈ s.flash.mapout ∨ 32 * (d - 20) + i ∈ s.start.released then 0 else 1)) ∧
     (s.lanOn n = true → (s.lan n).svc.testing = true →
       (code ≠ 0 → ∃ (u : State) (x : RecIn), exec (.lanternSelftestEnd n code bank row bad) s = .next (u.record x) ∧
         x.code = 0x0412 ∧ x.src = readyLan n ∧ x.aux = code ∧ (u.lan n).svc.failed = true ∧
         (u.lan n).svc.testing = false ∧ u.pilot = s.pilot) ∧
       (s.isReady 1 = true → 6 ≤ (s.lan n).narr → s.disp.queues = [] →
         ∃ u, exec (.lanternSelftestEnd n 0 bank row []) s = .next u ∧ (u.lan n).svc.en = true ∧
           (u.lan n).svc.testing = false ∧ u.isReady (readyLan n) = !(s.lan n).svc.quarPend ∧
           (∀ m, m ≠ n → u.lan m = s.lan m) ∧ u.mem = s.mem)) ∧
     (s.tcOn t = true → (s.tc t).testing = true →
       (code ≠ 0 → ∃ u : State, exec (.tileCacheSelftestEnd t code) s = .next (u.record
         { src := readyTc t, cls := clsInfo, code := 0x0412, aux := code }) ∧ (u.tc t).testing = false ∧
         t ∈ u.start.deadTcs) ∧
       (∃ u, exec (.tileCacheSelftestEnd t 0) s = .next u ∧ u.isReady (readyTc t) = true ∧ (u.tc t).en = true ∧
         (t = 0 → u.isReady 4 = true) ∧ (∀ i, i < 4 → (u.eng (4 * t + i)).testing = true))) ∧
     (s.engOn e = true → (s.eng e).testing = true →
       exec (.copyEngineSelftestEnd e true) s =
         .next ((s.modEng e (fun _ => { en := true })).setReady (readyEng e) true).examine ∧
       exec (.copyEngineSelftestEnd e false) s = .next ((s.modEng e (fun _ => {})).record
         { src := readyEng e, cls := clsInfo, code := 0x0412, aux := 0x22 })) ∧
     (s.tc0On = true → s.isReady 5 = false → s.start.cirrusFailed = false → s.recovering = false →
       (∀ b ∈ [1, 22, 23, 24, 25], s.isReady b = true) → (∀ c, c < 256 → s.settled c = true) →
       ((List.range 256).filter (fun c => !s.isReady (readyCh c))).length ≤ 32 →
       ∃ u, exec .cirrusInitEnd s = .next u ∧ u.isReady 5 = true ∧ u.cirrus = { s.cirrus with
         en := true, capFree := s.poolAtStart, retired := s.flash.retPages } ∧ u.mem = s.mem) ∧
     ((s.start.phase = .bootRom → s.romWaits = false →
         exec (.bringupLimitExpiry .bootRom) s = .next s.romStep2.enterRecovery) ∧
       (s.start.phase = .starting → exec (.bringupLimitExpiry .pilotStart) s = .next s.enterRecovery) ∧
       (d ∈ s.start.switched → s.busyPkt 0xA0 = none → ∃ u : State,
         exec (.bringupLimitExpiry (.domainOn d)) s = .next (u.record
           { src := 0x401, cls := clsInfo, code := 0x0412, aux := 0x30 + 256 * d }) ∧
         d ∉ u.start.switched ∧ d ∈ u.start.deadDoms ∧ u.pwr = s.pwr) ∧
       (s.lanOn n = true → (s.lan n).svc.testing = true →
         exec (.bringupLimitExpiry (.lantern n)) s = exec (.lanternSelftestEnd n 8 0 0 []) s)))

/-! ### Steps and invariants -/

/-- A step on an empty queue is an edge of the slow clock (the model's choice, log 2): the stamp counts once the
pilot has started, the ring of each powered lantern makes from 95 to 105 % of the typical beats of its voltage
and temperature (R19 to R21), a measurement takes its first sample (R24), and a RESET that has replied takes
place after its 1 ms. After reset nothing has power, no bit of the ready map is set, no command waits, memory
lists nothing, and no key owns the device (the reset values of logs 3 and 14). -/
def Obligations.IdleStepAndReset : Prop :=
  (∀ (s : State), s.pending = [] →
     (s.pilot.resetIn = none → ∃ t, step s = .next t ∧
       t.pilot = { s.pilot with
         stamp := if s.pilot.started then s.pilot.stamp + 1 else s.pilot.stamp, rateFirst := t.pilot.rateFirst } ∧
       t = { s with freeCtr := s.freeCtr + 1, pilot := t.pilot, lans := t.lans, tcs := t.tcs, xpt := t.xpt } ∧
       (∀ x, s.pilot.rateFirst = some x → t.pilot.rateFirst = some x) ∧
       (s.pilot.rateBusy = true → s.pilot.rateFirst = none → t.pilot.rateFirst = some t.rateCounter) ∧
       (∀ k, s.xpt.upAge = some k → k < 20000000 → t.xpt.upAge = some (k + 1)) ∧
       (∀ n, s.lanOn n = false → t.lan n = s.lan n) ∧
       (∀ n l, s.lanOn n = true → s.lans.find? n = some l → ∃ d : Dword, t.lan n = l.countBeats d ∧
         let b := ringBoundsAt (s.veff (n / 16)) (s.lanTemp n)
         b.1 < 2 ^ 64 → b.2 < 2 ^ 64 → b.1 ≤ d.toNat ∧ d.toNat ≤ max b.1 b.2)) ∧
     (∀ k, s.pilot.resetIn = some k → 2 ≤ k → ∃ t, step s = .next t ∧ t.pilot.resetIn = some (k - 1) ∧
       t.mem = s.mem ∧ t.start = s.start) ∧
     (∀ k, s.pilot.resetIn = some k → k ≤ 1 → ∃ t, step s = .next t ∧ t.start.phase = .bootRom ∧ t.mem = [] ∧
       t.lans = [] ∧ t.pilot = {} ∧ t.flash = s.flash)) ∧
  (let s := State.reset
   s.memOk ∧ s.pending = [] ∧ s.mem = [] ∧ s.pwr.on = 0 ∧ s.pilot.ready = 0 ∧ s.pilot.busy = none ∧
     s.flash.owner = none ∧ s.tap.instr = .idcode ∧ s.tap.locked = false ∧ (∀ n, (s.lan n).run = .idle) ∧
     (∀ n, (s.lan n).narr = 8 ∧ (s.lan n).lsguard = 63 ∧ (s.lan n).sslim = 0x3F8000))

/-- Every step keeps device memory in canonical form. -/
def Obligations.StepKeepsMemoryForm : Prop :=
  ∀ s t : State, s.memOk → step s = .next t → t.memOk

/-- Every step keeps an owner that is enrolled (R504). -/
def Obligations.StepKeepsOwner : Prop :=
  ∀ s t : State, step s = .next t → s.ownerKept t
end

