-- ==== Sys2Proof/Laws/State.lean ====
section
/-!
SUPPORT. Laws/State.lean: what reading gives after an update, for the sparse tables, for the numbered
blocks of State, and field by field for each named update of State.
-/

namespace Sys2Proof

/-! ### Sparse tables -/

namespace Tab

variable {α : Type}

@[simp] theorem find?_nil (k : Nat) : find? ([] : Tab α) k = none := rfl

@[simp] theorem getD_nil (k : Nat) (d : α) : getD ([] : Tab α) k d = d := rfl

@[simp] theorem erase_nil (k : Nat) : erase ([] : Tab α) k = [] := rfl

theorem find?_erase_self (t : Tab α) (k : Nat) : find? (erase t k) k = none := by
  induction t with
  | nil => rfl
  | cons p t ih =>
    obtain ⟨j, v⟩ := p
    by_cases h : j = k <;> simp [erase, find?, h, ih]

theorem find?_erase_of_ne (t : Tab α) {k m : Nat} (h : m ≠ k) : find? (erase t k) m = find? t m := by
  induction t with
  | nil => rfl
  | cons p t ih =>
    obtain ⟨j, v⟩ := p
    by_cases hk : j = k
    · subst hk
      simp [erase, find?, ih, Ne.symm h]
    · simp [erase, find?, hk, ih]

theorem find?_insert_self (t : Tab α) (k : Nat) (v : α) (h : find? t k = none) :
    find? (insert t k v) k = some v := by
  induction t with
  | nil => simp [insert, find?]
  | cons p t ih =>
    obtain ⟨j, w⟩ := p
    by_cases hj : j = k
    · simp [find?, hj] at h
    · have h' : find? t k = none := by simpa [find?, hj] using h
      rw [insert]
      split <;> simp [find?, hj, ih h']

theorem find?_insert_of_ne (t : Tab α) {k m : Nat} (v : α) (h : m ≠ k) :
    find? (insert t k v) m = find? t m := by
  induction t with
  | nil => simp [insert, find?, Ne.symm h]
  | cons p t ih =>
    obtain ⟨j, w⟩ := p
    by_cases hk : k < j
    · simp [insert, find?, hk, Ne.symm h]
    · simp [insert, find?, hk, ih]

@[simp] theorem find?_put_self (t : Tab α) (k : Nat) (v : α) : find? (put t k v) k = some v :=
  find?_insert_self _ _ _ (find?_erase_self t k)

theorem find?_put_of_ne (t : Tab α) {k m : Nat} (v : α) (h : m ≠ k) : find? (put t k v) m = find? t m := by
  rw [put, find?_insert_of_ne _ _ h, find?_erase_of_ne _ h]

theorem find?_put (t : Tab α) (k m : Nat) (v : α) :
    find? (put t k v) m = if m = k then some v else find? t m := by
  split
  · subst m; simp
  · rw [find?_put_of_ne _ _ ‹_›]

@[simp] theorem getD_put_self (t : Tab α) (k : Nat) (v d : α) : getD (put t k v) k d = v := by
  simp [getD]

theorem getD_put_of_ne (t : Tab α) {k m : Nat} (v d : α) (h : m ≠ k) : getD (put t k v) m d = getD t m d := by
  rw [getD, find?_put_of_ne _ _ h, getD]

theorem getD_put (t : Tab α) (k m : Nat) (v d : α) :
    getD (put t k v) m d = if m = k then v else getD t m d := by
  split
  · subst m; simp
  · rw [getD_put_of_ne _ _ _ ‹_›]

@[simp] theorem find?_erase (t : Tab α) (k m : Nat) : find? (erase t k) m = if m = k then none else find? t m := by
  split
  · subst m; rw [find?_erase_self]
  · rw [find?_erase_of_ne _ ‹_›]

end Tab

end Sys2Proof

namespace Sys2Proof.Machine

open Sys2Proof

/-! ### The numbered blocks -/

@[simp] theorem State.lan_setLan (s : State) (n : Nat) (l : Lantern) : (s.setLan n l).lan n = l := by
  simp [State.lan, State.setLan]

theorem State.lan_setLan_of_ne (s : State) {n m : Nat} (l : Lantern) (h : m ≠ n) :
    (s.setLan n l).lan m = s.lan m := by
  simp [State.lan, State.setLan, Tab.getD_put_of_ne _ _ _ h]

@[simp] theorem State.lan_modLan (s : State) (n : Nat) (f : Lantern → Lantern) :
    (s.modLan n f).lan n = f (s.lan n) := by
  simp [State.modLan]

theorem State.lan_modLan_of_ne (s : State) {n m : Nat} (f : Lantern → Lantern) (h : m ≠ n) :
    (s.modLan n f).lan m = s.lan m := s.lan_setLan_of_ne _ h

@[simp] theorem State.tc_modTc (s : State) (t : Nat) (f : TCache → TCache) : (s.modTc t f).tc t = f (s.tc t) := by
  simp [State.tc, State.modTc]

theorem State.tc_modTc_of_ne (s : State) {t u : Nat} (f : TCache → TCache) (h : u ≠ t) :
    (s.modTc t f).tc u = s.tc u := by
  simp [State.tc, State.modTc, Tab.getD_put_of_ne _ _ _ h]

@[simp] theorem State.ch_modCh (s : State) (c : Nat) (f : Dch → Dch) : (s.modCh c f).ch c = f (s.ch c) := by
  simp [State.ch, State.modCh]

theorem State.ch_modCh_of_ne (s : State) {c d : Nat} (f : Dch → Dch) (h : d ≠ c) :
    (s.modCh c f).ch d = s.ch d := by
  simp [State.ch, State.modCh, Tab.getD_put_of_ne _ _ _ h]

@[simp] theorem State.eng_modEng (s : State) (e : Nat) (f : Engine → Engine) :
    (s.modEng e f).eng e = f (s.eng e) := by
  simp [State.eng, State.modEng]

theorem State.eng_modEng_of_ne (s : State) {e d : Nat} (f : Engine → Engine) (h : d ≠ e) :
    (s.modEng e f).eng d = s.eng d := by
  simp [State.eng, State.modEng, Tab.getD_put_of_ne _ _ _ h]

@[simp] theorem State.con_setCon (s : State) (c : Nat) (k : Conduit) : (s.setCon c k).con c = k := by
  simp [State.con, State.setCon]

theorem State.con_setCon_of_ne (s : State) {c d : Nat} (k : Conduit) (h : d ≠ c) :
    (s.setCon c k).con d = s.con d := by
  simp [State.con, State.setCon, Tab.getD_put_of_ne _ _ _ h]

@[simp] theorem State.con_modCon (s : State) (c : Nat) (f : Conduit → Conduit) :
    (s.modCon c f).con c = f (s.con c) := by
  simp [State.modCon]

theorem State.con_modCon_of_ne (s : State) {c d : Nat} (f : Conduit → Conduit) (h : d ≠ c) :
    (s.modCon c f).con d = s.con d := s.con_setCon_of_ne _ h

@[simp] theorem State.queue?_setQueue (s : State) (q : Nat) (v : Queue) : (s.setQueue q v).queue? q = some v := by
  simp [State.queue?, State.setQueue]

@[simp] theorem Lantern.arr_modArr (l : Lantern) (m : Nat) (f : Arr → Arr) :
    (l.modArr m f).arr m = f (l.arr m) := by
  simp [Lantern.arr, Lantern.modArr]

theorem Lantern.arr_modArr_of_ne (l : Lantern) {m j : Nat} (f : Arr → Arr) (h : j ≠ m) :
    (l.modArr m f).arr j = l.arr j := by
  simp [Lantern.arr, Lantern.modArr, Tab.getD_put_of_ne _ _ _ h]

/-! ### Field by field -/

@[simp] theorem State.setLan_pending (s : State) (n : Nat) (l : Lantern) :
    (s.setLan n l).pending = s.pending := rfl

@[simp] theorem State.setLan_freeCtr (s : State) (n : Nat) (l : Lantern) :
    (s.setLan n l).freeCtr = s.freeCtr := rfl

@[simp] theorem State.setLan_pilot (s : State) (n : Nat) (l : Lantern) :
    (s.setLan n l).pilot = s.pilot := rfl

@[simp] theorem State.setLan_start (s : State) (n : Nat) (l : Lantern) :
    (s.setLan n l).start = s.start := rfl

@[simp] theorem State.setLan_pwr (s : State) (n : Nat) (l : Lantern) :
    (s.setLan n l).pwr = s.pwr := rfl

@[simp] theorem State.setLan_therm (s : State) (n : Nat) (l : Lantern) :
    (s.setLan n l).therm = s.therm := rfl

@[simp] theorem State.setLan_tap (s : State) (n : Nat) (l : Lantern) :
    (s.setLan n l).tap = s.tap := rfl

@[simp] theorem State.setLan_sec (s : State) (n : Nat) (l : Lantern) :
    (s.setLan n l).sec = s.sec := rfl

@[simp] theorem State.setLan_flash (s : State) (n : Nat) (l : Lantern) :
    (s.setLan n l).flash = s.flash := rfl

@[simp] theorem State.setLan_xpt (s : State) (n : Nat) (l : Lantern) :
    (s.setLan n l).xpt = s.xpt := rfl

@[simp] theorem State.setLan_disp (s : State) (n : Nat) (l : Lantern) :
    (s.setLan n l).disp = s.disp := rfl

@[simp] theorem State.setLan_cirrus (s : State) (n : Nat) (l : Lantern) :
    (s.setLan n l).cirrus = s.cirrus := rfl

@[simp] theorem State.setLan_scrub (s : State) (n : Nat) (l : Lantern) :
    (s.setLan n l).scrub = s.scrub := rfl

@[simp] theorem State.setLan_net (s : State) (n : Nat) (l : Lantern) :
    (s.setLan n l).net = s.net := rfl

@[simp] theorem State.setLan_beacon (s : State) (n : Nat) (l : Lantern) :
    (s.setLan n l).beacon = s.beacon := rfl

@[simp] theorem State.setLan_ckpt (s : State) (n : Nat) (l : Lantern) :
    (s.setLan n l).ckpt = s.ckpt := rfl

@[simp] theorem State.setLan_engines (s : State) (n : Nat) (l : Lantern) :
    (s.setLan n l).engines = s.engines := rfl

@[simp] theorem State.setLan_tcs (s : State) (n : Nat) (l : Lantern) :
    (s.setLan n l).tcs = s.tcs := rfl

@[simp] theorem State.setLan_chs (s : State) (n : Nat) (l : Lantern) :
    (s.setLan n l).chs = s.chs := rfl

@[simp] theorem State.setLan_mem (s : State) (n : Nat) (l : Lantern) :
    (s.setLan n l).mem = s.mem := rfl

@[simp] theorem State.setLan_poison (s : State) (n : Nat) (l : Lantern) :
    (s.setLan n l).poison = s.poison := rfl

@[simp] theorem State.setLan_deltas (s : State) (n : Nat) (l : Lantern) :
    (s.setLan n l).deltas = s.deltas := rfl

@[simp] theorem State.setLan_rebuilds (s : State) (n : Nat) (l : Lantern) :
    (s.setLan n l).rebuilds = s.rebuilds := rfl

@[simp] theorem State.modLan_pending (s : State) (n : Nat) (f : Lantern → Lantern) :
    (s.modLan n f).pending = s.pending := rfl

@[simp] theorem State.modLan_freeCtr (s : State) (n : Nat) (f : Lantern → Lantern) :
    (s.modLan n f).freeCtr = s.freeCtr := rfl

@[simp] theorem State.modLan_pilot (s : State) (n : Nat) (f : Lantern → Lantern) :
    (s.modLan n f).pilot = s.pilot := rfl

@[simp] theorem State.modLan_start (s : State) (n : Nat) (f : Lantern → Lantern) :
    (s.modLan n f).start = s.start := rfl

@[simp] theorem State.modLan_pwr (s : State) (n : Nat) (f : Lantern → Lantern) :
    (s.modLan n f).pwr = s.pwr := rfl

@[simp] theorem State.modLan_therm (s : State) (n : Nat) (f : Lantern → Lantern) :
    (s.modLan n f).therm = s.therm := rfl

@[simp] theorem State.modLan_tap (s : State) (n : Nat) (f : Lantern → Lantern) :
    (s.modLan n f).tap = s.tap := rfl

@[simp] theorem State.modLan_sec (s : State) (n : Nat) (f : Lantern → Lantern) :
    (s.modLan n f).sec = s.sec := rfl

@[simp] theorem State.modLan_flash (s : State) (n : Nat) (f : Lantern → Lantern) :
    (s.modLan n f).flash = s.flash := rfl

@[simp] theorem State.modLan_xpt (s : State) (n : Nat) (f : Lantern → Lantern) :
    (s.modLan n f).xpt = s.xpt := rfl

@[simp] theorem State.modLan_disp (s : State) (n : Nat) (f : Lantern → Lantern) :
    (s.modLan n f).disp = s.disp := rfl

@[simp] theorem State.modLan_cirrus (s : State) (n : Nat) (f : Lantern → Lantern) :
    (s.modLan n f).cirrus = s.cirrus := rfl

@[simp] theorem State.modLan_scrub (s : State) (n : Nat) (f : Lantern → Lantern) :
    (s.modLan n f).scrub = s.scrub := rfl

@[simp] theorem State.modLan_net (s : State) (n : Nat) (f : Lantern → Lantern) :
    (s.modLan n f).net = s.net := rfl

@[simp] theorem State.modLan_beacon (s : State) (n : Nat) (f : Lantern → Lantern) :
    (s.modLan n f).beacon = s.beacon := rfl

@[simp] theorem State.modLan_ckpt (s : State) (n : Nat) (f : Lantern → Lantern) :
    (s.modLan n f).ckpt = s.ckpt := rfl

@[simp] theorem State.modLan_engines (s : State) (n : Nat) (f : Lantern → Lantern) :
    (s.modLan n f).engines = s.engines := rfl

@[simp] theorem State.modLan_tcs (s : State) (n : Nat) (f : Lantern → Lantern) :
    (s.modLan n f).tcs = s.tcs := rfl

@[simp] theorem State.modLan_chs (s : State) (n : Nat) (f : Lantern → Lantern) :
    (s.modLan n f).chs = s.chs := rfl

@[simp] theorem State.modLan_mem (s : State) (n : Nat) (f : Lantern → Lantern) :
    (s.modLan n f).mem = s.mem := rfl

@[simp] theorem State.modLan_poison (s : State) (n : Nat) (f : Lantern → Lantern) :
    (s.modLan n f).poison = s.poison := rfl

@[simp] theorem State.modLan_deltas (s : State) (n : Nat) (f : Lantern → Lantern) :
    (s.modLan n f).deltas = s.deltas := rfl

@[simp] theorem State.modLan_rebuilds (s : State) (n : Nat) (f : Lantern → Lantern) :
    (s.modLan n f).rebuilds = s.rebuilds := rfl

@[simp] theorem State.modTc_pending (s : State) (t : Nat) (f : TCache → TCache) :
    (s.modTc t f).pending = s.pending := rfl

@[simp] theorem State.modTc_freeCtr (s : State) (t : Nat) (f : TCache → TCache) :
    (s.modTc t f).freeCtr = s.freeCtr := rfl

@[simp] theorem State.modTc_pilot (s : State) (t : Nat) (f : TCache → TCache) :
    (s.modTc t f).pilot = s.pilot := rfl

@[simp] theorem State.modTc_start (s : State) (t : Nat) (f : TCache → TCache) :
    (s.modTc t f).start = s.start := rfl

@[simp] theorem State.modTc_pwr (s : State) (t : Nat) (f : TCache → TCache) :
    (s.modTc t f).pwr = s.pwr := rfl

@[simp] theorem State.modTc_therm (s : State) (t : Nat) (f : TCache → TCache) :
    (s.modTc t f).therm = s.therm := rfl

@[simp] theorem State.modTc_tap (s : State) (t : Nat) (f : TCache → TCache) :
    (s.modTc t f).tap = s.tap := rfl

@[simp] theorem State.modTc_sec (s : State) (t : Nat) (f : TCache → TCache) :
    (s.modTc t f).sec = s.sec := rfl

@[simp] theorem State.modTc_flash (s : State) (t : Nat) (f : TCache → TCache) :
    (s.modTc t f).flash = s.flash := rfl

@[simp] theorem State.modTc_xpt (s : State) (t : Nat) (f : TCache → TCache) :
    (s.modTc t f).xpt = s.xpt := rfl

@[simp] theorem State.modTc_disp (s : State) (t : Nat) (f : TCache → TCache) :
    (s.modTc t f).disp = s.disp := rfl

@[simp] theorem State.modTc_cirrus (s : State) (t : Nat) (f : TCache → TCache) :
    (s.modTc t f).cirrus = s.cirrus := rfl

@[simp] theorem State.modTc_scrub (s : State) (t : Nat) (f : TCache → TCache) :
    (s.modTc t f).scrub = s.scrub := rfl

@[simp] theorem State.modTc_net (s : State) (t : Nat) (f : TCache → TCache) :
    (s.modTc t f).net = s.net := rfl

@[simp] theorem State.modTc_beacon (s : State) (t : Nat) (f : TCache → TCache) :
    (s.modTc t f).beacon = s.beacon := rfl

@[simp] theorem State.modTc_ckpt (s : State) (t : Nat) (f : TCache → TCache) :
    (s.modTc t f).ckpt = s.ckpt := rfl

@[simp] theorem State.modTc_engines (s : State) (t : Nat) (f : TCache → TCache) :
    (s.modTc t f).engines = s.engines := rfl

@[simp] theorem State.modTc_chs (s : State) (t : Nat) (f : TCache → TCache) :
    (s.modTc t f).chs = s.chs := rfl

@[simp] theorem State.modTc_lans (s : State) (t : Nat) (f : TCache → TCache) :
    (s.modTc t f).lans = s.lans := rfl

@[simp] theorem State.modTc_mem (s : State) (t : Nat) (f : TCache → TCache) :
    (s.modTc t f).mem = s.mem := rfl

@[simp] theorem State.modTc_poison (s : State) (t : Nat) (f : TCache → TCache) :
    (s.modTc t f).poison = s.poison := rfl

@[simp] theorem State.modTc_deltas (s : State) (t : Nat) (f : TCache → TCache) :
    (s.modTc t f).deltas = s.deltas := rfl

@[simp] theorem State.modTc_rebuilds (s : State) (t : Nat) (f : TCache → TCache) :
    (s.modTc t f).rebuilds = s.rebuilds := rfl

@[simp] theorem State.modCh_pending (s : State) (c : Nat) (f : Dch → Dch) :
    (s.modCh c f).pending = s.pending := rfl

@[simp] theorem State.modCh_freeCtr (s : State) (c : Nat) (f : Dch → Dch) :
    (s.modCh c f).freeCtr = s.freeCtr := rfl

@[simp] theorem State.modCh_pilot (s : State) (c : Nat) (f : Dch → Dch) :
    (s.modCh c f).pilot = s.pilot := rfl

@[simp] theorem State.modCh_start (s : State) (c : Nat) (f : Dch → Dch) :
    (s.modCh c f).start = s.start := rfl

@[simp] theorem State.modCh_pwr (s : State) (c : Nat) (f : Dch → Dch) :
    (s.modCh c f).pwr = s.pwr := rfl

@[simp] theorem State.modCh_therm (s : State) (c : Nat) (f : Dch → Dch) :
    (s.modCh c f).therm = s.therm := rfl

@[simp] theorem State.modCh_tap (s : State) (c : Nat) (f : Dch → Dch) :
    (s.modCh c f).tap = s.tap := rfl

@[simp] theorem State.modCh_sec (s : State) (c : Nat) (f : Dch → Dch) :
    (s.modCh c f).sec = s.sec := rfl

@[simp] theorem State.modCh_flash (s : State) (c : Nat) (f : Dch → Dch) :
    (s.modCh c f).flash = s.flash := rfl

@[simp] theorem State.modCh_xpt (s : State) (c : Nat) (f : Dch → Dch) :
    (s.modCh c f).xpt = s.xpt := rfl

@[simp] theorem State.modCh_disp (s : State) (c : Nat) (f : Dch → Dch) :
    (s.modCh c f).disp = s.disp := rfl

@[simp] theorem State.modCh_cirrus (s : State) (c : Nat) (f : Dch → Dch) :
    (s.modCh c f).cirrus = s.cirrus := rfl

@[simp] theorem State.modCh_scrub (s : State) (c : Nat) (f : Dch → Dch) :
    (s.modCh c f).scrub = s.scrub := rfl

@[simp] theorem State.modCh_net (s : State) (c : Nat) (f : Dch → Dch) :
    (s.modCh c f).net = s.net := rfl

@[simp] theorem State.modCh_beacon (s : State) (c : Nat) (f : Dch → Dch) :
    (s.modCh c f).beacon = s.beacon := rfl

@[simp] theorem State.modCh_ckpt (s : State) (c : Nat) (f : Dch → Dch) :
    (s.modCh c f).ckpt = s.ckpt := rfl

@[simp] theorem State.modCh_engines (s : State) (c : Nat) (f : Dch → Dch) :
    (s.modCh c f).engines = s.engines := rfl

@[simp] theorem State.modCh_tcs (s : State) (c : Nat) (f : Dch → Dch) :
    (s.modCh c f).tcs = s.tcs := rfl

@[simp] theorem State.modCh_lans (s : State) (c : Nat) (f : Dch → Dch) :
    (s.modCh c f).lans = s.lans := rfl

@[simp] theorem State.modCh_mem (s : State) (c : Nat) (f : Dch → Dch) :
    (s.modCh c f).mem = s.mem := rfl

@[simp] theorem State.modCh_poison (s : State) (c : Nat) (f : Dch → Dch) :
    (s.modCh c f).poison = s.poison := rfl

@[simp] theorem State.modCh_deltas (s : State) (c : Nat) (f : Dch → Dch) :
    (s.modCh c f).deltas = s.deltas := rfl

@[simp] theorem State.modCh_rebuilds (s : State) (c : Nat) (f : Dch → Dch) :
    (s.modCh c f).rebuilds = s.rebuilds := rfl

@[simp] theorem State.modEng_pending (s : State) (e : Nat) (f : Engine → Engine) :
    (s.modEng e f).pending = s.pending := rfl

@[simp] theorem State.modEng_freeCtr (s : State) (e : Nat) (f : Engine → Engine) :
    (s.modEng e f).freeCtr = s.freeCtr := rfl

@[simp] theorem State.modEng_pilot (s : State) (e : Nat) (f : Engine → Engine) :
    (s.modEng e f).pilot = s.pilot := rfl

@[simp] theorem State.modEng_start (s : State) (e : Nat) (f : Engine → Engine) :
    (s.modEng e f).start = s.start := rfl

@[simp] theorem State.modEng_pwr (s : State) (e : Nat) (f : Engine → Engine) :
    (s.modEng e f).pwr = s.pwr := rfl

@[simp] theorem State.modEng_therm (s : State) (e : Nat) (f : Engine → Engine) :
    (s.modEng e f).therm = s.therm := rfl

@[simp] theorem State.modEng_tap (s : State) (e : Nat) (f : Engine → Engine) :
    (s.modEng e f).tap = s.tap := rfl

@[simp] theorem State.modEng_sec (s : State) (e : Nat) (f : Engine → Engine) :
    (s.modEng e f).sec = s.sec := rfl

@[simp] theorem State.modEng_flash (s : State) (e : Nat) (f : Engine → Engine) :
    (s.modEng e f).flash = s.flash := rfl

@[simp] theorem State.modEng_xpt (s : State) (e : Nat) (f : Engine → Engine) :
    (s.modEng e f).xpt = s.xpt := rfl

@[simp] theorem State.modEng_disp (s : State) (e : Nat) (f : Engine → Engine) :
    (s.modEng e f).disp = s.disp := rfl

@[simp] theorem State.modEng_cirrus (s : State) (e : Nat) (f : Engine → Engine) :
    (s.modEng e f).cirrus = s.cirrus := rfl

@[simp] theorem State.modEng_scrub (s : State) (e : Nat) (f : Engine → Engine) :
    (s.modEng e f).scrub = s.scrub := rfl

@[simp] theorem State.modEng_net (s : State) (e : Nat) (f : Engine → Engine) :
    (s.modEng e f).net = s.net := rfl

@[simp] theorem State.modEng_beacon (s : State) (e : Nat) (f : Engine → Engine) :
    (s.modEng e f).beacon = s.beacon := rfl

@[simp] theorem State.modEng_ckpt (s : State) (e : Nat) (f : Engine → Engine) :
    (s.modEng e f).ckpt = s.ckpt := rfl

@[simp] theorem State.modEng_tcs (s : State) (e : Nat) (f : Engine → Engine) :
    (s.modEng e f).tcs = s.tcs := rfl

@[simp] theorem State.modEng_chs (s : State) (e : Nat) (f : Engine → Engine) :
    (s.modEng e f).chs = s.chs := rfl

@[simp] theorem State.modEng_lans (s : State) (e : Nat) (f : Engine → Engine) :
    (s.modEng e f).lans = s.lans := rfl

@[simp] theorem State.modEng_mem (s : State) (e : Nat) (f : Engine → Engine) :
    (s.modEng e f).mem = s.mem := rfl

@[simp] theorem State.modEng_poison (s : State) (e : Nat) (f : Engine → Engine) :
    (s.modEng e f).poison = s.poison := rfl

@[simp] theorem State.modEng_deltas (s : State) (e : Nat) (f : Engine → Engine) :
    (s.modEng e f).deltas = s.deltas := rfl

@[simp] theorem State.modEng_rebuilds (s : State) (e : Nat) (f : Engine → Engine) :
    (s.modEng e f).rebuilds = s.rebuilds := rfl

@[simp] theorem State.setCon_pending (s : State) (c : Nat) (k : Conduit) :
    (s.setCon c k).pending = s.pending := rfl

@[simp] theorem State.setCon_freeCtr (s : State) (c : Nat) (k : Conduit) :
    (s.setCon c k).freeCtr = s.freeCtr := rfl

@[simp] theorem State.setCon_pilot (s : State) (c : Nat) (k : Conduit) :
    (s.setCon c k).pilot = s.pilot := rfl

@[simp] theorem State.setCon_start (s : State) (c : Nat) (k : Conduit) :
    (s.setCon c k).start = s.start := rfl

@[simp] theorem State.setCon_pwr (s : State) (c : Nat) (k : Conduit) :
    (s.setCon c k).pwr = s.pwr := rfl

@[simp] theorem State.setCon_therm (s : State) (c : Nat) (k : Conduit) :
    (s.setCon c k).therm = s.therm := rfl

@[simp] theorem State.setCon_tap (s : State) (c : Nat) (k : Conduit) :
    (s.setCon c k).tap = s.tap := rfl

@[simp] theorem State.setCon_sec (s : State) (c : Nat) (k : Conduit) :
    (s.setCon c k).sec = s.sec := rfl

@[simp] theorem State.setCon_flash (s : State) (c : Nat) (k : Conduit) :
    (s.setCon c k).flash = s.flash := rfl

@[simp] theorem State.setCon_disp (s : State) (c : Nat) (k : Conduit) :
    (s.setCon c k).disp = s.disp := rfl

@[simp] theorem State.setCon_cirrus (s : State) (c : Nat) (k : Conduit) :
    (s.setCon c k).cirrus = s.cirrus := rfl

@[simp] theorem State.setCon_scrub (s : State) (c : Nat) (k : Conduit) :
    (s.setCon c k).scrub = s.scrub := rfl

@[simp] theorem State.setCon_net (s : State) (c : Nat) (k : Conduit) :
    (s.setCon c k).net = s.net := rfl

@[simp] theorem State.setCon_beacon (s : State) (c : Nat) (k : Conduit) :
    (s.setCon c k).beacon = s.beacon := rfl

@[simp] theorem State.setCon_ckpt (s : State) (c : Nat) (k : Conduit) :
    (s.setCon c k).ckpt = s.ckpt := rfl

@[simp] theorem State.setCon_engines (s : State) (c : Nat) (k : Conduit) :
    (s.setCon c k).engines = s.engines := rfl

@[simp] theorem State.setCon_tcs (s : State) (c : Nat) (k : Conduit) :
    (s.setCon c k).tcs = s.tcs := rfl

@[simp] theorem State.setCon_chs (s : State) (c : Nat) (k : Conduit) :
    (s.setCon c k).chs = s.chs := rfl

@[simp] theorem State.setCon_lans (s : State) (c : Nat) (k : Conduit) :
    (s.setCon c k).lans = s.lans := rfl

@[simp] theorem State.setCon_mem (s : State) (c : Nat) (k : Conduit) :
    (s.setCon c k).mem = s.mem := rfl

@[simp] theorem State.setCon_poison (s : State) (c : Nat) (k : Conduit) :
    (s.setCon c k).poison = s.poison := rfl

@[simp] theorem State.setCon_deltas (s : State) (c : Nat) (k : Conduit) :
    (s.setCon c k).deltas = s.deltas := rfl

@[simp] theorem State.setCon_rebuilds (s : State) (c : Nat) (k : Conduit) :
    (s.setCon c k).rebuilds = s.rebuilds := rfl

@[simp] theorem State.modCon_pending (s : State) (c : Nat) (f : Conduit → Conduit) :
    (s.modCon c f).pending = s.pending := rfl

@[simp] theorem State.modCon_freeCtr (s : State) (c : Nat) (f : Conduit → Conduit) :
    (s.modCon c f).freeCtr = s.freeCtr := rfl

@[simp] theorem State.modCon_pilot (s : State) (c : Nat) (f : Conduit → Conduit) :
    (s.modCon c f).pilot = s.pilot := rfl

@[simp] theorem State.modCon_start (s : State) (c : Nat) (f : Conduit → Conduit) :
    (s.modCon c f).start = s.start := rfl

@[simp] theorem State.modCon_pwr (s : State) (c : Nat) (f : Conduit → Conduit) :
    (s.modCon c f).pwr = s.pwr := rfl

@[simp] theorem State.modCon_therm (s : State) (c : Nat) (f : Conduit → Conduit) :
    (s.modCon c f).therm = s.therm := rfl

@[simp] theorem State.modCon_tap (s : State) (c : Nat) (f : Conduit → Conduit) :
    (s.modCon c f).tap = s.tap := rfl

@[simp] theorem State.modCon_sec (s : State) (c : Nat) (f : Conduit → Conduit) :
    (s.modCon c f).sec = s.sec := rfl

@[simp] theorem State.modCon_flash (s : State) (c : Nat) (f : Conduit → Conduit) :
    (s.modCon c f).flash = s.flash := rfl

@[simp] theorem State.modCon_disp (s : State) (c : Nat) (f : Conduit → Conduit) :
    (s.modCon c f).disp = s.disp := rfl

@[simp] theorem State.modCon_cirrus (s : State) (c : Nat) (f : Conduit → Conduit) :
    (s.modCon c f).cirrus = s.cirrus := rfl

@[simp] theorem State.modCon_scrub (s : State) (c : Nat) (f : Conduit → Conduit) :
    (s.modCon c f).scrub = s.scrub := rfl

@[simp] theorem State.modCon_net (s : State) (c : Nat) (f : Conduit → Conduit) :
    (s.modCon c f).net = s.net := rfl

@[simp] theorem State.modCon_beacon (s : State) (c : Nat) (f : Conduit → Conduit) :
    (s.modCon c f).beacon = s.beacon := rfl

@[simp] theorem State.modCon_ckpt (s : State) (c : Nat) (f : Conduit → Conduit) :
    (s.modCon c f).ckpt = s.ckpt := rfl

@[simp] theorem State.modCon_engines (s : State) (c : Nat) (f : Conduit → Conduit) :
    (s.modCon c f).engines = s.engines := rfl

@[simp] theorem State.modCon_tcs (s : State) (c : Nat) (f : Conduit → Conduit) :
    (s.modCon c f).tcs = s.tcs := rfl

@[simp] theorem State.modCon_chs (s : State) (c : Nat) (f : Conduit → Conduit) :
    (s.modCon c f).chs = s.chs := rfl

@[simp] theorem State.modCon_lans (s : State) (c : Nat) (f : Conduit → Conduit) :
    (s.modCon c f).lans = s.lans := rfl

@[simp] theorem State.modCon_mem (s : State) (c : Nat) (f : Conduit → Conduit) :
    (s.modCon c f).mem = s.mem := rfl

@[simp] theorem State.modCon_poison (s : State) (c : Nat) (f : Conduit → Conduit) :
    (s.modCon c f).poison = s.poison := rfl

@[simp] theorem State.modCon_deltas (s : State) (c : Nat) (f : Conduit → Conduit) :
    (s.modCon c f).deltas = s.deltas := rfl

@[simp] theorem State.modCon_rebuilds (s : State) (c : Nat) (f : Conduit → Conduit) :
    (s.modCon c f).rebuilds = s.rebuilds := rfl

@[simp] theorem State.setQueue_pending (s : State) (q : Nat) (v : Queue) :
    (s.setQueue q v).pending = s.pending := rfl

@[simp] theorem State.setQueue_freeCtr (s : State) (q : Nat) (v : Queue) :
    (s.setQueue q v).freeCtr = s.freeCtr := rfl

@[simp] theorem State.setQueue_pilot (s : State) (q : Nat) (v : Queue) :
    (s.setQueue q v).pilot = s.pilot := rfl

@[simp] theorem State.setQueue_start (s : State) (q : Nat) (v : Queue) :
    (s.setQueue q v).start = s.start := rfl

@[simp] theorem State.setQueue_pwr (s : State) (q : Nat) (v : Queue) :
    (s.setQueue q v).pwr = s.pwr := rfl

@[simp] theorem State.setQueue_therm (s : State) (q : Nat) (v : Queue) :
    (s.setQueue q v).therm = s.therm := rfl

@[simp] theorem State.setQueue_tap (s : State) (q : Nat) (v : Queue) :
    (s.setQueue q v).tap = s.tap := rfl

@[simp] theorem State.setQueue_sec (s : State) (q : Nat) (v : Queue) :
    (s.setQueue q v).sec = s.sec := rfl

@[simp] theorem State.setQueue_flash (s : State) (q : Nat) (v : Queue) :
    (s.setQueue q v).flash = s.flash := rfl

@[simp] theorem State.setQueue_xpt (s : State) (q : Nat) (v : Queue) :
    (s.setQueue q v).xpt = s.xpt := rfl

@[simp] theorem State.setQueue_cirrus (s : State) (q : Nat) (v : Queue) :
    (s.setQueue q v).cirrus = s.cirrus := rfl

@[simp] theorem State.setQueue_scrub (s : State) (q : Nat) (v : Queue) :
    (s.setQueue q v).scrub = s.scrub := rfl

@[simp] theorem State.setQueue_net (s : State) (q : Nat) (v : Queue) :
    (s.setQueue q v).net = s.net := rfl

@[simp] theorem State.setQueue_beacon (s : State) (q : Nat) (v : Queue) :
    (s.setQueue q v).beacon = s.beacon := rfl

@[simp] theorem State.setQueue_ckpt (s : State) (q : Nat) (v : Queue) :
    (s.setQueue q v).ckpt = s.ckpt := rfl

@[simp] theorem State.setQueue_engines (s : State) (q : Nat) (v : Queue) :
    (s.setQueue q v).engines = s.engines := rfl

@[simp] theorem State.setQueue_tcs (s : State) (q : Nat) (v : Queue) :
    (s.setQueue q v).tcs = s.tcs := rfl

@[simp] theorem State.setQueue_chs (s : State) (q : Nat) (v : Queue) :
    (s.setQueue q v).chs = s.chs := rfl

@[simp] theorem State.setQueue_lans (s : State) (q : Nat) (v : Queue) :
    (s.setQueue q v).lans = s.lans := rfl

@[simp] theorem State.setQueue_mem (s : State) (q : Nat) (v : Queue) :
    (s.setQueue q v).mem = s.mem := rfl

@[simp] theorem State.setQueue_poison (s : State) (q : Nat) (v : Queue) :
    (s.setQueue q v).poison = s.poison := rfl

@[simp] theorem State.setQueue_deltas (s : State) (q : Nat) (v : Queue) :
    (s.setQueue q v).deltas = s.deltas := rfl

@[simp] theorem State.setQueue_rebuilds (s : State) (q : Nat) (v : Queue) :
    (s.setQueue q v).rebuilds = s.rebuilds := rfl

/-! ### A free value is drawn -/

@[simp] theorem State.draw_pending (s : State) : s.draw.2.pending = s.pending := rfl

@[simp] theorem State.draw_pilot (s : State) : s.draw.2.pilot = s.pilot := rfl

@[simp] theorem State.draw_start (s : State) : s.draw.2.start = s.start := rfl

@[simp] theorem State.draw_pwr (s : State) : s.draw.2.pwr = s.pwr := rfl

@[simp] theorem State.draw_therm (s : State) : s.draw.2.therm = s.therm := rfl

@[simp] theorem State.draw_tap (s : State) : s.draw.2.tap = s.tap := rfl

@[simp] theorem State.draw_sec (s : State) : s.draw.2.sec = s.sec := rfl

@[simp] theorem State.draw_flash (s : State) : s.draw.2.flash = s.flash := rfl

@[simp] theorem State.draw_xpt (s : State) : s.draw.2.xpt = s.xpt := rfl

@[simp] theorem State.draw_disp (s : State) : s.draw.2.disp = s.disp := rfl

@[simp] theorem State.draw_cirrus (s : State) : s.draw.2.cirrus = s.cirrus := rfl

@[simp] theorem State.draw_scrub (s : State) : s.draw.2.scrub = s.scrub := rfl

@[simp] theorem State.draw_net (s : State) : s.draw.2.net = s.net := rfl

@[simp] theorem State.draw_beacon (s : State) : s.draw.2.beacon = s.beacon := rfl

@[simp] theorem State.draw_ckpt (s : State) : s.draw.2.ckpt = s.ckpt := rfl

@[simp] theorem State.draw_engines (s : State) : s.draw.2.engines = s.engines := rfl

@[simp] theorem State.draw_tcs (s : State) : s.draw.2.tcs = s.tcs := rfl

@[simp] theorem State.draw_chs (s : State) : s.draw.2.chs = s.chs := rfl

@[simp] theorem State.draw_lans (s : State) : s.draw.2.lans = s.lans := rfl

@[simp] theorem State.draw_mem (s : State) : s.draw.2.mem = s.mem := rfl

@[simp] theorem State.draw_poison (s : State) : s.draw.2.poison = s.poison := rfl

@[simp] theorem State.draw_deltas (s : State) : s.draw.2.deltas = s.deltas := rfl

@[simp] theorem State.draw_rebuilds (s : State) : s.draw.2.rebuilds = s.rebuilds := rfl

@[simp] theorem State.draw_freeCtr (s : State) : s.draw.2.freeCtr = s.freeCtr + 1 := rfl

/-! ### A delivered command is taken -/

@[simp] theorem State.unbox_pending (s : State) : s.unbox.pending = s.pending := rfl

@[simp] theorem State.unbox_freeCtr (s : State) : s.unbox.freeCtr = s.freeCtr := rfl

@[simp] theorem State.unbox_start (s : State) : s.unbox.start = s.start := rfl

@[simp] theorem State.unbox_pwr (s : State) : s.unbox.pwr = s.pwr := rfl

@[simp] theorem State.unbox_therm (s : State) : s.unbox.therm = s.therm := rfl

@[simp] theorem State.unbox_tap (s : State) : s.unbox.tap = s.tap := rfl

@[simp] theorem State.unbox_sec (s : State) : s.unbox.sec = s.sec := rfl

@[simp] theorem State.unbox_flash (s : State) : s.unbox.flash = s.flash := rfl

@[simp] theorem State.unbox_xpt (s : State) : s.unbox.xpt = s.xpt := rfl

@[simp] theorem State.unbox_disp (s : State) : s.unbox.disp = s.disp := rfl

@[simp] theorem State.unbox_cirrus (s : State) : s.unbox.cirrus = s.cirrus := rfl

@[simp] theorem State.unbox_scrub (s : State) : s.unbox.scrub = s.scrub := rfl

@[simp] theorem State.unbox_net (s : State) : s.unbox.net = s.net := rfl

@[simp] theorem State.unbox_beacon (s : State) : s.unbox.beacon = s.beacon := rfl

@[simp] theorem State.unbox_ckpt (s : State) : s.unbox.ckpt = s.ckpt := rfl

@[simp] theorem State.unbox_engines (s : State) : s.unbox.engines = s.engines := rfl

@[simp] theorem State.unbox_tcs (s : State) : s.unbox.tcs = s.tcs := rfl

@[simp] theorem State.unbox_chs (s : State) : s.unbox.chs = s.chs := rfl

@[simp] theorem State.unbox_lans (s : State) : s.unbox.lans = s.lans := rfl

@[simp] theorem State.unbox_mem (s : State) : s.unbox.mem = s.mem := rfl

@[simp] theorem State.unbox_poison (s : State) : s.unbox.poison = s.poison := rfl

@[simp] theorem State.unbox_deltas (s : State) : s.unbox.deltas = s.deltas := rfl

@[simp] theorem State.unbox_rebuilds (s : State) : s.unbox.rebuilds = s.rebuilds := rfl

@[simp] theorem State.unbox_inbox (s : State) : s.unbox.pilot.inbox = s.pilot.inbox.tail := rfl

@[simp] theorem State.unbox_busy (s : State) : s.unbox.pilot.busy = s.pilot.busy := rfl

@[simp] theorem State.unbox_errq (s : State) : s.unbox.pilot.errq = s.pilot.errq := rfl

/-! ### The rings count on -/

@[simp] theorem State.ringEdge_pending (s : State) : s.ringEdge.pending = s.pending := rfl

@[simp] theorem State.ringEdge_pilot (s : State) : s.ringEdge.pilot = s.pilot := rfl

@[simp] theorem State.ringEdge_start (s : State) : s.ringEdge.start = s.start := rfl

@[simp] theorem State.ringEdge_pwr (s : State) : s.ringEdge.pwr = s.pwr := rfl

@[simp] theorem State.ringEdge_therm (s : State) : s.ringEdge.therm = s.therm := rfl

@[simp] theorem State.ringEdge_tap (s : State) : s.ringEdge.tap = s.tap := rfl

@[simp] theorem State.ringEdge_sec (s : State) : s.ringEdge.sec = s.sec := rfl

@[simp] theorem State.ringEdge_flash (s : State) : s.ringEdge.flash = s.flash := rfl

@[simp] theorem State.ringEdge_xpt (s : State) : s.ringEdge.xpt = s.xpt := rfl

@[simp] theorem State.ringEdge_disp (s : State) : s.ringEdge.disp = s.disp := rfl

@[simp] theorem State.ringEdge_cirrus (s : State) : s.ringEdge.cirrus = s.cirrus := rfl

@[simp] theorem State.ringEdge_scrub (s : State) : s.ringEdge.scrub = s.scrub := rfl

@[simp] theorem State.ringEdge_net (s : State) : s.ringEdge.net = s.net := rfl

@[simp] theorem State.ringEdge_beacon (s : State) : s.ringEdge.beacon = s.beacon := rfl

@[simp] theorem State.ringEdge_ckpt (s : State) : s.ringEdge.ckpt = s.ckpt := rfl

@[simp] theorem State.ringEdge_engines (s : State) : s.ringEdge.engines = s.engines := rfl

@[simp] theorem State.ringEdge_chs (s : State) : s.ringEdge.chs = s.chs := rfl

@[simp] theorem State.ringEdge_mem (s : State) : s.ringEdge.mem = s.mem := rfl

@[simp] theorem State.ringEdge_poison (s : State) : s.ringEdge.poison = s.poison := rfl

@[simp] theorem State.ringEdge_deltas (s : State) : s.ringEdge.deltas = s.deltas := rfl

@[simp] theorem State.ringEdge_rebuilds (s : State) : s.ringEdge.rebuilds = s.rebuilds := rfl

end Sys2Proof.Machine
end

