-- ==== Sys2Proof/Laws/Memory.lean ====
section
/-!
SUPPORT. Laws/Memory.lean: byte images. Every operation on device memory keeps its canonical form, and
what a read gives after a write.
-/

namespace Sys2Proof.Machine

open Sys2Proof

/-! ### The canonical form -/

theorem cellsWf_cons (c : Host.Cell) (t : List Host.Cell) :
    cellsWf (c :: t) = true ↔ c.2 ≠ 0 ∧ (∀ d ∈ t, c.1 < d.1) ∧ cellsWf t = true := by
  simp [cellsWf, and_assoc]

/-- The canonical form as two facts: no entry is zero, and the addresses rise strictly. -/
theorem cellsWf_iff (m : List Host.Cell) :
    cellsWf m = true ↔ (∀ c ∈ m, c.2 ≠ 0) ∧ m.Pairwise (fun a b => a.1 < b.1) := by
  induction m with
  | nil => simp [cellsWf]
  | cons c t ih =>
    rw [cellsWf_cons, ih, List.forall_mem_cons, List.pairwise_cons]
    tauto

theorem cellsWf_filter {m : List Host.Cell} (h : cellsWf m = true) (p : Host.Cell → Bool) :
    cellsWf (m.filter p) = true := by
  rw [cellsWf_iff] at h ⊢
  exact ⟨fun c hc => h.1 c (List.mem_of_mem_filter hc), h.2.filter p⟩

/-- Three images whose addresses lie one below the other make one image. -/
theorem cellsWf_append3 {a b c : List Host.Cell} {lo hi : Nat} (ha : cellsWf a = true) (hb : cellsWf b = true)
    (hc : cellsWf c = true) (la : ∀ x ∈ a, x.1 < lo) (lb : ∀ x ∈ b, lo ≤ x.1 ∧ x.1 < hi)
    (lc : ∀ x ∈ c, hi ≤ x.1) (hl : lo ≤ hi) : cellsWf (a ++ b ++ c) = true := by
  rw [cellsWf_iff] at *
  refine ⟨?_, ?_⟩
  · intro x hx
    simp only [List.mem_append] at hx
    rcases hx with (h | h) | h
    exacts [ha.1 x h, hb.1 x h, hc.1 x h]
  · rw [List.pairwise_append, List.pairwise_append]
    refine ⟨⟨ha.2, hb.2, fun x hx y hy => ?_⟩, hc.2, fun x hx y hy => ?_⟩
    · have := la x hx; have := (lb y hy).1; omega
    · have := lc y hy
      rcases List.mem_append.mp hx with h | h
      · have := la x h; omega
      · have := (lb x h).2; omega

theorem cellsOf_mem {a : Nat} {bs : List Byte} {c : Host.Cell} (h : c ∈ cellsOf a bs) :
    a ≤ c.1 ∧ c.1 < a + bs.length ∧ c.2 ≠ 0 := by
  induction bs generalizing a with
  | nil => simp [cellsOf] at h
  | cons b t ih =>
    by_cases hb : b = 0
    · have := ih (by simpa [cellsOf, hb] using h)
      exact ⟨by omega, by simp only [List.length_cons]; omega, this.2.2⟩
    · simp only [cellsOf, hb, if_false, List.mem_cons] at h
      rcases h with rfl | h
      · exact ⟨le_refl _, by simp, hb⟩
      · have := ih h
        exact ⟨by omega, by simp only [List.length_cons]; omega, this.2.2⟩

theorem cellsWf_cellsOf (a : Nat) (bs : List Byte) : cellsWf (cellsOf a bs) = true := by
  induction bs generalizing a with
  | nil => rfl
  | cons b t ih =>
    by_cases hb : b = 0
    · simpa [cellsOf, hb] using ih (a + 1)
    · simp only [cellsOf, hb, if_false, cellsWf_cons]
      exact ⟨hb, fun d hd => by have := cellsOf_mem hd; omega, ih (a + 1)⟩

/-- Writing bytes keeps the canonical form. -/
theorem cellsWf_cellsWrite {m : List Host.Cell} (h : cellsWf m = true) (a : Nat) (bs : List Byte) :
    cellsWf (cellsWrite m a bs) = true :=
  cellsWf_append3 (lo := a) (hi := a + bs.length) (cellsWf_filter h _) (cellsWf_cellsOf a bs) (cellsWf_filter h _)
    (fun x hx => by simpa using (List.mem_filter.mp hx).2)
    (fun x hx => ⟨(cellsOf_mem hx).1, (cellsOf_mem hx).2.1⟩)
    (fun x hx => by simpa using (List.mem_filter.mp hx).2) (by omega)

/-- Clearing a range keeps the canonical form. -/
theorem cellsWf_clear {m : List Host.Cell} (h : cellsWf m = true) (a len : Nat) :
    cellsWf (cellsBelow m a ++ cellsFrom m (a + len)) = true := by
  have := cellsWf_append3 (lo := a) (hi := a + len) (cellsWf_filter h (fun c => c.1 < a)) (cellsWf_cellsOf a [])
    (cellsWf_filter h (fun c => a + len ≤ c.1)) (fun x hx => by simpa using (List.mem_filter.mp hx).2)
    (by simp [cellsOf]) (fun x hx => by simpa using (List.mem_filter.mp hx).2) (by omega)
  simpa [cellsOf, cellsBelow, cellsFrom] using this

/-- Copying a range keeps the canonical form. -/
theorem cellsWf_cellsMove {m m' : List Host.Cell} (h : cellsWf m = true) (h' : cellsWf m' = true)
    (src dst len : Nat) : cellsWf (cellsMove m src m' dst len) = true := by
  refine cellsWf_append3 (lo := dst) (hi := dst + len) (cellsWf_filter h' _) ?_ (cellsWf_filter h' _)
    (fun x hx => by simpa using (List.mem_filter.mp hx).2) ?_
    (fun x hx => by simpa using (List.mem_filter.mp hx).2) (by omega)
  · have hi := cellsWf_filter h (fun c => src ≤ c.1 && c.1 < src + len)
    rw [cellsWf_iff] at hi ⊢
    refine ⟨?_, ?_⟩
    · simp only [List.mem_map]
      rintro c ⟨d, hd, rfl⟩
      exact hi.1 d hd
    · rw [List.pairwise_map]
      refine hi.2.imp_of_mem ?_
      intro a b ha hb hab
      simp only [List.mem_filter, Bool.and_eq_true, decide_eq_true_eq] at ha hb
      simp only
      omega
  · simp only [List.mem_map]
    rintro c ⟨d, hd, rfl⟩
    simp only [cellsIn, List.mem_filter, Bool.and_eq_true, decide_eq_true_eq] at hd
    simp only
    omega

/-! ### Reading -/

theorem cellAt_nil (a : Nat) : cellAt [] a = 0 := rfl

theorem cellAt_cons (c : Host.Cell) (m : List Host.Cell) (a : Nat) :
    cellAt (c :: m) a = if c.1 = a then c.2 else cellAt m a := by
  obtain ⟨k, v⟩ := c
  simp only [cellAt, Tab.getD, Tab.find?]
  split <;> simp_all

theorem cellAt_of_not_mem {m : List Host.Cell} {a : Nat} (h : ∀ c ∈ m, c.1 ≠ a) : cellAt m a = 0 := by
  induction m with
  | nil => rfl
  | cons c t ih =>
    rw [cellAt_cons, if_neg (h c (by simp)), ih (fun d hd => h d (by simp [hd]))]

theorem cellAt_append {m m' : List Host.Cell} {a : Nat} :
    cellAt (m ++ m') a = if ∃ c ∈ m, c.1 = a then cellAt m a else cellAt m' a := by
  induction m with
  | nil => simp
  | cons c t ih =>
    rw [List.cons_append, cellAt_cons, cellAt_cons, ih]
    by_cases h : c.1 = a
    · simp [h]
    · simp [h]

theorem cellAt_filter {m : List Host.Cell} {a : Nat} (p : Nat → Bool) :
    cellAt (m.filter (fun c => p c.1)) a = if p a then cellAt m a else 0 := by
  induction m with
  | nil => simp [cellAt_nil]
  | cons c t ih =>
    by_cases hc : p c.1 = true
    · rw [List.filter_cons_of_pos (p := fun (c : Host.Cell) => p c.1) hc, cellAt_cons, cellAt_cons, ih]
      by_cases h : c.1 = a
      · subst h; simp [hc]
      · simp [h]
    · rw [List.filter_cons_of_neg (p := fun (c : Host.Cell) => p c.1) hc, cellAt_cons, ih]
      by_cases h : c.1 = a
      · subst h; simp [hc]
      · simp [h]

theorem cellAt_cellsOf (a : Nat) (bs : List Byte) (x : Nat) :
    cellAt (cellsOf a bs) x = if a ≤ x ∧ x < a + bs.length then bs.getD (x - a) 0 else 0 := by
  induction bs generalizing a with
  | nil => rw [if_neg (by simp)]; rfl
  | cons b t ih =>
    have hx : x = a ∨ x ≠ a := eq_or_ne x a
    by_cases hb : b = 0
    · simp only [cellsOf, hb, if_true, ih, List.length_cons]
      rcases hx with rfl | hx
      · simp
      · by_cases h : a + 1 ≤ x ∧ x < a + 1 + t.length
        · rw [if_pos h, if_pos (by omega), show x - a = (x - (a + 1)) + 1 by omega, List.getD_cons_succ]
        · rw [if_neg h, if_neg (by omega)]
    · simp only [cellsOf, hb, if_false, cellAt_cons, ih, List.length_cons]
      rcases hx with rfl | hx
      · simp
      · rw [if_neg (Ne.symm hx)]
        by_cases h : a + 1 ≤ x ∧ x < a + 1 + t.length
        · rw [if_pos h, if_pos (by omega), show x - a = (x - (a + 1)) + 1 by omega, List.getD_cons_succ]
        · rw [if_neg h, if_neg (by omega)]

/-- A byte after a write: the byte written in the range, the byte before elsewhere. -/
theorem cellAt_cellsWrite (m : List Host.Cell) (a : Nat) (bs : List Byte) (x : Nat) :
    cellAt (cellsWrite m a bs) x =
      if a ≤ x ∧ x < a + bs.length then bs.getD (x - a) 0 else cellAt m x := by
  have hlow := cellAt_filter (m := m) (a := x) (fun k => decide (k < a))
  have hhigh := cellAt_filter (m := m) (a := x) (fun k => decide (a + bs.length ≤ k))
  simp only [decide_eq_true_eq] at hlow hhigh
  unfold cellsWrite
  rw [List.append_assoc, cellAt_append]
  split
  · rename_i h
    obtain ⟨c, hc, rfl⟩ := h
    have : c.1 < a := by simpa using (List.mem_filter.mp hc).2
    rw [if_neg (by omega)]
    exact hlow.trans (if_pos this)
  · rename_i h
    rw [cellAt_append]
    split
    · rename_i h2
      obtain ⟨c, hc, rfl⟩ := h2
      have := cellsOf_mem hc
      rw [cellAt_cellsOf, if_pos ⟨this.1, this.2.1⟩, if_pos ⟨this.1, this.2.1⟩]
    · rename_i h2
      refine hhigh.trans ?_
      by_cases hr : a ≤ x ∧ x < a + bs.length
      · rw [if_neg (by omega), if_pos hr]
        have hz := cellAt_of_not_mem (m := cellsOf a bs) (a := x) (fun c hc e => h2 ⟨c, hc, e⟩)
        rw [cellAt_cellsOf, if_pos hr] at hz
        exact hz.symm
      · rw [if_neg hr]
        by_cases hx : a + bs.length ≤ x
        · rw [if_pos hx]
        · rw [if_neg hx]
          refine (cellAt_of_not_mem ?_).symm
          intro c hc e
          exact h ⟨c, List.mem_filter.mpr ⟨hc, by simp; omega⟩, e⟩

/-! ### The operations of the machine -/

theorem State.physWriteP_memOk {s : State} (h : s.memOk) (pa : Nat) (bs : List Byte) (bad : Nat → Bool) :
    (s.physWriteP pa bs bad).memOk := cellsWf_cellsWrite h pa bs

theorem State.physMove_memOk {s : State} (h : s.memOk) (src dst len : Nat) : (s.physMove src dst len).memOk :=
  cellsWf_cellsMove h h src dst len

theorem State.physZero_memOk {s : State} (h : s.memOk) (pa len : Nat) : (s.physZero pa len).memOk :=
  cellsWf_clear h pa len

theorem State.zeroChannel_memOk {s : State} (h : s.memOk) (c : Nat) : (s.zeroChannel c).memOk :=
  cellsWf_filter h _

/-- What a read of one byte gives after a write of device memory. -/
theorem State.physWriteP_cellAt (s : State) (pa : Nat) (bs : List Byte) (bad : Nat → Bool) (x : Nat) :
    cellAt (s.physWriteP pa bs bad).mem x =
      if pa ≤ x ∧ x < pa + bs.length then bs.getD (x - pa) 0 else cellAt s.mem x :=
  cellAt_cellsWrite s.mem pa bs x

end Sys2Proof.Machine
end

