-- ==== Sys2Proof/Laws/Records.lean ====
section
/-!
SUPPORT. Laws/Records.lean: what the operations over the pilot, the conduits and the ready map can
change, once for each.
-/

namespace Sys2Proof.Machine

open Sys2Proof

theorem mem_setIns {xs : List Nat} {j k : Nat} : j ∈ setIns xs k ↔ j = k ∨ j ∈ xs := by
  induction xs with
  | nil => simp [setIns]
  | cons x t ih =>
    unfold setIns
    split
    · simp
    · split <;> simp_all [or_left_comm]

theorem mem_foldl_setIns {xs ys : List Nat} {j : Nat} : j ∈ ys.foldl setIns xs ↔ j ∈ ys ∨ j ∈ xs := by
  induction ys generalizing xs with
  | nil => simp
  | cons y t ih => simp [ih, mem_setIns, or_assoc, or_left_comm]

/-- `t` differs from `s` in the pilot, the conduits' egress and the beacon sweep at most. -/
def State.SamePRX (s t : State) : Prop :=
  t = { s with pilot := t.pilot, xpt := t.xpt, beacon := t.beacon }

theorem State.SamePRX.refl (s : State) : s.SamePRX s := rfl

theorem State.SamePRX.trans {s t u : State} (h : s.SamePRX t) (k : t.SamePRX u) : s.SamePRX u := by
  unfold State.SamePRX at *
  rw [k, h]

theorem State.SamePRX.foldl {α : Type} {f : State → α → State} (hf : ∀ (s : State) (a : α), s.SamePRX (f s a)) (xs : List α)
    (s : State) : s.SamePRX (xs.foldl f s) := by
  induction xs generalizing s with
  | nil => exact .refl s
  | cons a t ih => exact (hf s a).trans (ih (f s a))

theorem State.SamePRX.ite {s t u : State} {c : Prop} [Decidable c] (ht : c → s.SamePRX t) (hu : ¬c → s.SamePRX u) :
    s.SamePRX (if c then t else u) := by
  split
  · exact ht ‹_›
  · exact hu ‹_›

theorem State.pilot_same (s : State) (p : Pilot) : s.SamePRX { s with pilot := p } := rfl

theorem State.send_same (s : State) (cid : Nat) (typ : Byte) (payload : List Byte) :
    s.SamePRX (s.send cid typ payload) := by
  unfold State.send
  exact .ite (fun _ => rfl) (fun _ => .refl s)

theorem State.setReady_same (s : State) (b : Nat) (on : Bool) : s.SamePRX (s.setReady b on) := by
  unfold State.setReady
  exact .ite (fun _ => .refl s) (fun _ => rfl)

theorem State.notify_same (s : State) (kind : Nat) (body : List Byte) : s.SamePRX (s.notify kind body) := by
  unfold State.notify
  refine (s.pilot_same _).trans (.foldl (fun s h => ?_) _ _)
  exact .ite (fun _ => s.send_same ..) (fun _ => .refl s)

theorem State.inject_same (s : State) (src : Nat) : s.SamePRX (s.inject src) := by
  unfold State.SamePRX State.inject
  rfl

theorem State.beaconTrigger_same (s : State) (src : Nat) : s.SamePRX (s.beaconTrigger src) := by
  unfold State.beaconTrigger
  exact .ite (fun _ => rfl) (fun _ => s.inject_same src)

theorem State.record1_same (s : State) (x : RecIn) : s.SamePRX (s.record1 x) := by
  unfold State.record1
  refine .ite (fun _ => rfl) (fun _ => ?_)
  dsimp only
  refine .ite (fun _ => ?_) (fun _ => rfl)
  have step {s t : State} (c : Prop) [Decidable c] (f : State → State) (h : s.SamePRX t) (hf : ∀ s : State, s.SamePRX (f s)) :
      s.SamePRX (if c then f t else t) := .ite (fun _ => h.trans (hf t)) (fun _ => h)
  refine step _ (fun s => s.beaconTrigger 2) (.trans ?_ (.foldl (fun s o => s.notify_same ..) _ _))
    (fun s => s.beaconTrigger_same 2)
  exact step _ (fun s => s.notify 1 _) rfl (fun s => s.notify_same ..)

theorem State.records_same (s : State) (xs : List RecIn) : s.SamePRX (s.records xs) := by
  unfold State.records
  exact .ite (fun _ => .foldl State.record1_same _ _) (fun _ => .refl s)

theorem State.record_same (s : State) (x : RecIn) : s.SamePRX (s.record x) := s.records_same [x]

end Sys2Proof.Machine
end

