-- ==== Sys2Proof/WellFormed.lean ====
section
/-!
DEFINITION. WellFormed.lean: the ranges that the spec gives the operands of a command: lantern,
array, channel, bank and page numbers, addresses, endpoints, and payload lengths.
-/

namespace Sys2Proof

/-- Lanterns are numbered 0 to 255 (R536). -/
def lanternOk (n : Nat) : Bool := decide (n < 256)
/-- Conduits of peers lie below 1,024, those of host endpoints above them (R454). -/
def conduitOk (c : Nat) : Bool := decide (c < 1088)
/-- Way groups that can lose power (R329). -/
def wayGroupOk (g : Nat) : Bool := decide (1 ≤ g) && decide (g < 4)
/-- The SRC of a block (R404, R536). -/
def srcOk (b : Nat) : Bool := decide (b < 538) || decide (0x400 ≤ b) && decide (b ≤ 0x402)
/-- Physical addresses (R296). -/
def paOk (pa : Nat) : Bool := decide (pa < 0x4800000000)
/-- An aligned address of the REG window (R200, R524). -/
def regAddrOk (a : Nat) : Bool := decide (0x00F000000000 ≤ a) && decide (a < 0x010000000000) && decide (a % 4 = 0)

/-- The requester names a lantern that exists. -/
def Requester.wf : Requester → Bool
  | .pilot => true
  | .wick n => lanternOk n

/-- A cell of an array's 32 by 32 grid (R70). -/
def CellUpset.wf (u : CellUpset) : Bool := decide (u.row < 32) && decide (u.col < 32)

/-- A packet's payload has the length that its header states, at most 8,192 bytes (R454). -/
def Packet.wf (p : Packet) : Bool :=
  decide (p.payload.length = p.plen.toNat) && decide (p.plen.toNat ≤ 8192)

/-- A command payload of a host endpoint holds the parameters that it states (R473). -/
def CmdPkt.wf (p : CmdPkt) : Bool :=
  decide (p.ep < 64) && decide (p.params.length ≤ 65535) && decide (p.sig.length ≤ 64)

/-- The operands of a command lie in the ranges of the spec. -/
def Instr.wf : Instr → Bool
  | .loHalfRead rq addr => rq.wf && regAddrOk addr
  | .rateMeasureStart _ => true
  | .rateMeasureEnd _ => true
  | .stallWatchdog _ _ => true
  | .stallRepeat _ _ => true
  | .powerEvaluation _ => true
  | .errorRecord _ => true
  | .readyNotification => true
  | .nanReport n _ => lanternOk n
  | .nanRecordClear n => lanternOk n
  | .mma n _ => lanternOk n
  | .mdrain n _ => lanternOk n
  | .mfence n _ => lanternOk n
  | .mcap n _ => lanternOk n
  | .mmaShareComplete n m upsets _ => lanternOk n && decide (m < 8) && upsets.all CellUpset.wf
  | .handOff n m => lanternOk n && decide (m < 8)
  | .tileDrain n m _ => lanternOk n && decide (m < 8)
  | .recomputeComplete n m upsets => lanternOk n && decide (m < 8) && upsets.all CellUpset.wf
  | .substituteShareComplete n m upsets => lanternOk n && decide (m < 8) && upsets.all CellUpset.wf
  | .patternSelftestComplete n m _ => lanternOk n && decide (m < 8)
  | .arrayQuarantineEffect n m => lanternOk n && decide (m < 8)
  | .bypassConversion n m => lanternOk n && decide (m < 8)
  | .hchain n _ => lanternOk n
  | .chainStart n => lanternOk n
  | .chainComplete n _ => lanternOk n
  | .vsetl n _ => lanternOk n
  | .pwhile n _ => lanternOk n
  | .pandPorPxorPandn n _ _ => lanternOk n
  | .pcnt n _ => lanternOk n
  | .pfirst n _ => lanternOk n
  | .vaddVsub n _ _ => lanternOk n
  | .vmulVmulh n _ _ => lanternOk n
  | .vminVmaxVminuVmaxu n _ _ => lanternOk n
  | .vandVorVxor n _ _ => lanternOk n
  | .vshlVshrVsra n _ _ => lanternOk n
  | .vfaddVfsubVfmul n _ _ => lanternOk n
  | .vfminVfmax n _ _ => lanternOk n
  | .vfabsVfnegVfsgnj n _ _ => lanternOk n
  | .vfmaVfmsVfnmaVfnms n _ _ => lanternOk n
  | .vfdivVfsqrt n _ _ => lanternOk n
  | .vexpVrecipVrsqrtVlogi n _ _ => lanternOk n
  | .vcmp n _ _ => lanternOk n
  | .vfcmp n _ _ => lanternOk n
  | .vcvt n _ => lanternOk n
  | .vmxpack n _ => lanternOk n
  | .vmxunpack n _ => lanternOk n
  | .vwmulVwmulu n _ _ => lanternOk n
  | .vfwmulVfwma n _ _ => lanternOk n
  | .vdot4Vdot2 n _ _ => lanternOk n
  | .reduction n _ _ => lanternOk n
  | .vslupVsldn n _ _ => lanternOk n
  | .vperm n _ => lanternOk n
  | .vcompress n _ => lanternOk n
  | .vmvVbcastViota n _ _ => lanternOk n
  | .vsel n _ => lanternOk n
  | .vfence n _ => lanternOk n
  | .vld n _ => lanternOk n
  | .vst n _ => lanternOk n
  | .vlds n _ => lanternOk n
  | .vsts n _ => lanternOk n
  | .vgath n _ => lanternOk n
  | .vscat n _ => lanternOk n
  | .vldseg n _ => lanternOk n
  | .vstseg n _ => lanternOk n
  | .fpExceptionReport n => lanternOk n
  | .registerFileError n lg => lanternOk n && decide (lg < 64)
  | .getBGetHGetW n _ _ => lanternOk n
  | .getD n _ => lanternOk n
  | .getSbGetShGetSw n _ _ => lanternOk n
  | .getxGety n _ _ => lanternOk n
  | .seth n _ _ => lanternOk n
  | .putBPutHPutW n _ _ => lanternOk n
  | .putD n _ => lanternOk n
  | .putxPuty n _ _ => lanternOk n
  | .addAddc n _ _ => lanternOk n
  | .subSubb n _ _ => lanternOk n
  | .andOrXor n _ _ => lanternOk n
  | .cmp n _ => lanternOk n
  | .tst n _ => lanternOk n
  | .mul n _ => lanternOk n
  | .mulhMulhu n _ _ => lanternOk n
  | .divDivuRemRemu n _ _ => lanternOk n
  | .shlShrSraRol n _ _ => lanternOk n
  | .notNeg n _ _ => lanternOk n
  | .clzPopc n _ _ => lanternOk n
  | .addxAddy n _ _ => lanternOk n
  | .cmpxCmpy n _ _ => lanternOk n
  | .br n _ => lanternOk n
  | .jmp n _ => lanternOk n
  | .callCalli n _ _ => lanternOk n
  | .ret n _ => lanternOk n
  | .trap n _ => lanternOk n
  | .rte n _ => lanternOk n
  | .kend n _ => lanternOk n
  | .hloop n _ => lanternOk n
  | .syncI n _ => lanternOk n
  | .fence n _ => lanternOk n
  | .ewait n _ => lanternOk n
  | .eadd n _ => lanternOk n
  | .msend n _ => lanternOk n
  | .mrecv n _ => lanternOk n
  | .messageArrival n => lanternOk n
  | .messageAnswer n => lanternOk n
  | .bcopy n _ => lanternOk n
  | .bfill n _ => lanternOk n
  | .bread n _ => lanternOk n
  | .bcomp n _ => lanternOk n
  | .bseek n _ => lanternOk n
  | .blockIteration n => lanternOk n
  | .vblk n _ => lanternOk n
  | .loaderWrite n => lanternOk n
  | .lrD n _ => lanternOk n
  | .scD n _ => lanternOk n
  | .faddDFsubDFmulD n _ _ => lanternOk n
  | .fdivD n _ => lanternOk n
  | .fsqrtD n _ => lanternOk n
  | .fminDFmaxD n _ _ => lanternOk n
  | .fcmpD n _ => lanternOk n
  | .faddSToFcmpS n _ _ => lanternOk n
  | .fcvt n _ => lanternOk n
  | .customerInstruction n _ _ _ => lanternOk n
  | .storeBufferDrain n _ => lanternOk n
  | .instructionRefill n va => lanternOk n && decide (va < 2 ^ 48)
  | .beatCompareMatch n => lanternOk n
  | .svcRequest n => lanternOk n
  | .eventEntry n _ => lanternOk n
  | .machineCheckReport n => lanternOk n
  | .kernelWatchdog n => lanternOk n
  | .dramRead pa _ => paOk pa
  | .dramWrite pa _ _ _ => paOk pa
  | .parityDelta pa q => paOk pa && decide (q < 4)
  | .unitRebuild pa _ => paOk pa
  | .rowClose ch bank => decide (ch < 256) && decide (bank < 48)
  | .refresh ch bank => decide (ch < 256) && decide (bank < 48)
  | .channelTrainingPassEnd ch _ _ => decide (ch < 256)
  | .delayRecentre ch _ => decide (ch < 256)
  | .tileCacheAccess pa _ _ _ => paOk pa
  | .tileCacheFill t _ => decide (t < 4)
  | .l1Invalidation n pa => lanternOk n && paOk pa
  | .l1InvalidationAck pa => paOk pa
  | .wayGroupPowerDown t g => decide (t < 4) && wayGroupOk g
  | .wayGroupCleanEnd t g => decide (t < 4) && wayGroupOk g
  | .wayGroupPowerUp t g => decide (t < 4) && wayGroupOk g
  | .wayGroupOn t g => decide (t < 4) && wayGroupOk g
  | .translationFill n vpn => lanternOk n && decide (vpn < 2 ^ 27)
  | .subPageArrival vpn sub => decide (vpn < 2 ^ 27) && decide (sub < 32)
  | .fetchSlow vpn => decide (vpn < 2 ^ 27)
  | .fetchFail vpn => decide (vpn < 2 ^ 27)
  | .fetchRetry => true
  | .pageHoldExpiry vpn => decide (vpn < 2 ^ 27)
  | .eviction => true
  | .cowCopyComplete vpn => decide (vpn < 2 ^ 27)
  | .pteQuery _ => true
  | .rd d vpn => decide (d < 1024) && decide (vpn < 2 ^ 27)
  | .wr d vpn => decide (d < 1024) && decide (vpn < 2 ^ 27)
  | .inv d vpn => decide (d < 1024) && decide (vpn < 2 ^ 27)
  | .invAcknowledgement d vpn => decide (d < 1024) && decide (vpn < 2 ^ 27)
  | .recallR d vpn => decide (d < 1024) && decide (vpn < 2 ^ 27)
  | .recallW d vpn => decide (d < 1024) && decide (vpn < 2 ^ 27)
  | .wb d vpn => decide (d < 1024) && decide (vpn < 2 ^ 27)
  | .drop d vpn => decide (d < 1024) && decide (vpn < 2 ^ 27)
  | .nocopy d vpn => decide (d < 1024) && decide (vpn < 2 ^ 27)
  | .gone d vpn => decide (d < 1024) && decide (vpn < 2 ^ 27)
  | .grantWithoutData d vpn => decide (d < 1024) && decide (vpn < 2 ^ 27)
  | .mapq d va _ => decide (d < 1024) && decide (va < 2 ^ 48)
  | .mapa d va _ _ => decide (d < 1024) && decide (va < 2 ^ 48)
  | .page d va _ _ data => decide (d < 1024) && decide (va < 2 ^ 48) && decide (data.length ≤ 4096)
  | .kernelStart => true
  | .copyEntryStart => true
  | .copyComplete e => decide (e < 16)
  | .copyFault e => decide (e < 16)
  | .resume q => decide (q < 64)
  | .release _ => true
  | .evcmdRead evt => decide (evt < 4096)
  | .evcmdSet evt => decide (evt < 4096)
  | .evcmdAdd evt => decide (evt < 4096)
  | .scrubRead _ => true
  | .flitRefusal _ _ _ _ => true
  | .spareRemap n => lanternOk n
  | .spareSelftestEnd n _ bank _ badArrays => lanternOk n && decide (bank < 48) && badArrays.all (fun m => decide (m < 8))
  | .fuseRepairEffect _ unit => decide (unit < 256)
  | .beaconTreeArrival b => srcOk b
  | .beaconChannelArrival b _ _ => srcOk b
  | .cutComplete => true
  | .cutWithdrawn => true
  | .trigger => true
  | .triggerRearm => true
  | .triggerStuck => true
  | .triggerCountClear => true
  | .checkpointCutCondition => true
  | .pageStream => true
  | .linkUp => true
  | .linkDown => true
  | .holdDownEnd => true
  | .linkDownTimeout => true
  | .neighborSolicitation _ _ _ => true
  | .echoRequest _ _ _ _ => true
  | .dataPacket p => p.wf
  | .ack p => p.wf
  | .ackTimer cid => conduitOk cid
  | .retransmitTimeout cid => conduitOk cid
  | .rateIncrease cid => conduitOk cid
  | .packetTransmit => true
  | .read cid _ => conduitOk cid
  | .write cid _ => conduitOk cid
  | .flush cid _ => conduitOk cid
  | .doorbell cid _ => conduitOk cid
  | .eventAdd cid _ => conduitOk cid
  | .fetchAdd cid _ => conduitOk cid
  | .hread h _ _ => decide (h < 64)
  | .hwrite h _ data _ => decide (h < 64) && decide (data.length ≤ 4096)
  | .readResponse cid _ => conduitOk cid
  | .flushResponse cid _ => conduitOk cid
  | .fetchAddResponse cid _ => conduitOk cid
  | .hreadResponse cid _ => conduitOk cid
  | .remoteRequest n _ => lanternOk n
  | .hello cid _ => conduitOk cid
  | .answer cid _ => conduitOk cid
  | .finish cid _ => conduitOk cid
  | .helloResend cid => conduitOk cid
  | .answerResend cid => conduitOk cid
  | .handshakeAbandon cid => conduitOk cid
  | .deadlineExpiry => true
  | .freeHolderTimeout d vpn => decide (d < 1024) && decide (vpn < 2 ^ 27)
  | .identify p => p.wf
  | .getStatus p => p.wf
  | .readyMap p => p.wf
  | .claim p => p.wf
  | .openConduit p => p.wf
  | .attest p => p.wf
  | .loadMembership p => p.wf
  | .fwStage p => p.wf
  | .fwCommit p => p.wf
  | .alloc p => p.wf
  | .free p => p.wf
  | .setStrength p => p.wf
  | .queueCreate p => p.wf
  | .queueDestroy p => p.wf
  | .setAddress p => p.wf
  | .snapshot p => p.wf
  | .readSnapshot p => p.wf
  | .checkpoint p => p.wf
  | .restore p => p.wf
  | .retirePage p => p.wf
  | .retireBank p => p.wf
  | .mapOutChannel p => p.wf
  | .scrubConfig p => p.wf
  | .fuseRepair p => p.wf
  | .quarantine p => p.wf
  | .errlogRead p => p.wf
  | .errlogClear p => p.wf
  | .regRead p => p.wf
  | .regWrite p => p.wf
  | .loadDecodeTable p => p.wf
  | .powerDomain p => p.wf
  | .setOperatingPoint p => p.wf
  | .setPowerCap p => p.wf
  | .margin p => p.wf
  | .reset p => p.wf
  | .blockDisable addr => regAddrOk addr
  | .blockEnable addr => regAddrOk addr
  | .blockIdle addr => regAddrOk addr
  | .registerWrite rq addr _ => rq.wf && regAddrOk addr
  | .tmrFieldRead rq addr _ => rq.wf && regAddrOk addr
  | .tmrVoteSweep _ => true
  | .pgInHigh => true
  | .pgInLow => true
  | .resetNLow => true
  | .resetNHigh => true
  | .refclkLoss => true
  | .pllLock => true
  | .pllLockRetry => true
  | .bootRom _ _ => true
  | .pilotReady => true
  | .secReady => true
  | .domainSwitchOn => true
  | .domainPowered d => decide (d < 30)
  | .lanternSelftestEnd n _ bank _ badArrays => lanternOk n && decide (bank < 48) && badArrays.all (fun m => decide (m < 8))
  | .tileCacheSelftestEnd t _ => decide (t < 4)
  | .copyEngineSelftestEnd e _ => decide (e < 16)
  | .cirrusInitEnd => true
  | .bringupLimitExpiry _ => true
  | .supplySample _ _ _ _ => true
  | .sensorReading _ => true
  | .shutdownSecondStage => true
  | .extest => true
  | .samplePreload _ => true
  | .idcode => true
  | .clamp => true
  | .highz => true
  | .bypass _ => true
  | .vectorInstructionComplete n => lanternOk n
  | .commandCompleted _ => true
  | .badOpcode p _ => p.wf
  | .blockLockGained lane => decide (lane < 8)
  | .blockLockLost lane => decide (lane < 8)
  | .refclkPresent => true
  | .trstNLow => true
  | .parityAcknowledgement pa q => paOk pa && decide (q < 4)

end Sys2Proof
end

