-- ==== Sys2Proof/Tests/Slice0.lean ====
section
/-!
SUPPORT. Slice0.lean: the witnesses. For each obligation with hypotheses, `meets_<name>` shows states
and operands that meet them, at the edges of their ranges; the smoke tests show an ill-formed command that
each check refuses.
-/

-- One theorem after another: the kernel checks them in this order anyway, and each that waits costs a stack.
set_option Elab.async false

namespace Sys2Proof.Tests
open Sys2Proof Sys2Proof.Machine

/-! ### States -/

theorem ok_of_toOption {ε α : Type} {x : Except ε α} {a : α} (h : x.toOption = some a) : x = .ok a := by
  cases x with
  | ok b => exact congrArg _ (Option.some.inj h)
  | error e => cases h

/-- A page of the local pool that may be written. -/
def here : Pte := { res := .loc, acc := .write, str := 0, v := true, ppn := 1 }

/-- The page that holds the instructions. -/
def code : Nat × Pte := (8, { here with ppn := 8 })

/-- A result that is there and has a property. -/
theorem ok_exists {ε α : Type} {x : Except ε α} {p : α → Prop} [DecidablePred p]
    (h : (match x with | .ok a => decide (p a) | .error _ => false) = true) : ∃ a, x = .ok a ∧ p a := by
  cases x with
  | ok b => exact ⟨b, rfl, of_decide_eq_true h⟩
  | error e => cases h

/-- Every domain has power, the pilot runs with bit 0 set, the code page is mapped, and lantern 0 is `l`. -/
def onLan (l : Lantern) : State :=
  { pwr := { on := 0x3FFFFFFF#30 }, pilot := { started := true, ready := 1#600 }, cirrus := { ptes := [code] }
    lans := [(0, l)] }

/-- A lantern that runs with these registers, at the start of the code page. -/
def running (k : Wick) : Lantern := { run := .running, wick := { k with pc := 0x1000000 } }

/-- An instruction word of the base form with COND 0. -/
def bw (am : BitVec 3) (s : Bool) (imm : Half) (ext : Word := 0) : BaseWord :=
  { cond := 0, am := am, s := s, imm := imm, ext := ext }

/-! ### The wick -/

theorem meets_WickLoadsComplete :
    let s := onLan (running {})
    (s.issues 0 4 0 ∧ (bw 1 true 8).am ≠ 0 ∧ (bw 1 true 8).am ≠ 6 ∧
      ∃ v u, s.operandValue 0 (bw 1 true 8) (bw 1 true 8).simm SizeBHW.b.bytes = .ok (v, u)) ∧
    (∃ v u, s.operandValue 0 (bw 0 true 0x8000) (bw 0 true 0x8000).simm 8 = .ok (v, u)) ∧
    ((bw 0 false 0xFFFF).am = 0 ∧ (bw 0 false 0xFFFF).s = false) :=
  ⟨⟨⟨by decide, by decide⟩, by decide, by decide, _, _, rfl⟩, ⟨_, _, rfl⟩, by decide⟩

theorem meets_WickSumsComplete :
    let s := onLan (running {})
    s.issues 0 4 0 ∧ (∃ v u, s.operandValue 0 (bw 0 false 0xFFFF) (bw 0 false 0xFFFF).simm 8 = .ok (v, u)) ∧
    (bw 0 false 0xFFFF).s = false ∧ (bw 0 true 0).am = 0 ∧ (bw 0 true 0).imm = 0 :=
  ⟨⟨by decide, by decide⟩, ⟨_, _, rfl⟩, by decide⟩

theorem meets_WickLogicAndProductsComplete :
    let s := onLan (running {})
    s.issues 0 4 0 ∧ (∃ v u, s.operandValue 0 (bw 0 false 64) (bw 0 false 64).zimm 8 = .ok (v, u)) ∧
    (bw 0 false 64).s = false ∧ (∃ v u, s.operandValue 0 (bw 6 false 0) (bw 6 false 0).simm 8 = .ok (v, u)) :=
  ⟨⟨by decide, by decide⟩, ⟨_, _, rfl⟩, by decide, ⟨_, _, rfl⟩⟩

/-- A loader iteration that writes the first 256 bytes of local store. -/
def item0 : LoaderItem :=
  { t := false, dirOut := false, sz := 1, src := 0x200000, dst := 0, x := 0, y := 0, pins := [] }

/-- An 8-byte store at 0x7C crosses a 128-byte boundary. -/
theorem meets_WickStoresComplete :
    let s := onLan (running {})
    let e : SbEntry := { ls := true, addr := 0, bytes := [1] }
    let d : SbEntry := { ls := false, addr := 0x200000, bytes := [1] }
    let sl := onLan { running {} with sb := [e] }
    let p := onLan { running {} with lq := [item0] }
    let sd (pt : Tab Pte) : State := { onLan { running {} with sb := [d] } with cirrus := { ptes := pt } }
    (s.issues 0 4 0 ∧ operandOf (s.lan 0).wick (bw 1 false 0x7C) = some (.mem false 0x7C) ∧
      (∃ u, s.reach 0 false true true 0x7C 8 = .ok u ∧ (u.lan 0).sb.length + 2 ≤ 8 ∧
        (u.lan 0).blocked false true 0x7C 4 = false ∧ (u.lan 0).blocked false true 0x80 4 = false)) ∧
    (p.issues 0 4 0 ∧ ∃ u, p.reach 0 false true true 0x7C 8 = .ok u ∧ (u.lan 0).blocked false true 0x7C 4 = true) ∧
    ((bw 6 false 1).am = 6 ∧ ∃ t, (s.completes 0 4 id).writeReg 0 1 7 = .ok t) ∧
    (sl.lanOn 0 = true ∧ (sl.lan 0).sb = [e] ∧ (sl.lan 0).blocked false true 0 1 = false) ∧
    ((sd [(1, here)]).lanOn 0 = true ∧ ((sd [(1, here)]).lan 0).blocked true true 0x200000 1 = false ∧
      ∃ u pg, (sd [(1, here)]).touch (.wick 0) 0x200000 true = (u, .ok pg)) ∧
    (∃ u, { sd [(1, here)] with cirrus := { ptes := [(1, here), code], moving := [1] } }.touch (.wick 0) 0x200000 true =
      (u, .stall)) :=
  ⟨⟨⟨by decide, by decide⟩, by decide, _, rfl, by decide⟩, ⟨⟨by decide, by decide⟩, _, rfl, by decide⟩,
    ⟨by decide, _, rfl⟩, by decide, ⟨by decide, by decide, _, _, rfl⟩, _, rfl⟩

theorem meets_WickTransfersComplete :
    let s := onLan (running { sp := 0x1000, ssp := 0x3F9000 })
    let d := onLan (running { sp := 0x1000, ssp := 0x400000 })
    let k := (s.lan 0).wick
    let b := onLan { running { sp := 0x1000, ssp := 0x3F9000 } with ls := [(0x1000, 4)] }
    (s.issues 0 4 0 ∧ (relTarget k.pc (bw 0 false 0xFFFF).imm).toNat % 4 = 0) ∧
    (4 ≤ (bw 4 false 0).am.toNat ∧
      ∃ x, { onLan (running { x := 0x200000 }) with cirrus := { ptes := [(1, here), code] } }.target 0 (bw 4 false 0) = .ok x ∧ x.toNat % 4 = 0) ∧
    (s.checkParts 0 false false (k.sp - 8) 8 = .ok () ∧ (s.lan 0).sslim.toNat ≤ (k.ssp - 8).toNat ∧
      (k.ssp - 8).toNat + 8 ≤ lsSize ∧
      (s.lan 0).storeWaits (sbEntries true 0xFF8 [1, 1, 1, 1, 1, 1, 1, 1] ++ sbEntries true 0x3F8FF8 [1, 1, 1, 1, 1, 1, 1, 1]) = false) ∧
    (k.ssp.toNat + 8 ≤ lsSize ∧ (∃ bs, s.load 0 false false k.sp 8 = .ok (bs, s) ∧
      s.readBuffered 0 false k.ssp 8 = .ok (bs, s) ∧ leNat bs % 2 ^ 64 % 4 = 0)) ∧
    lsSize ≤ (d.lan 0).wick.ssp.toNat ∧
    (∃ x y, b.load 0 false false 0x1000 8 = .ok (x, b) ∧ b.readBuffered 0 false 0x3F9000 8 = .ok (y, b) ∧ x ≠ y) :=
  ⟨⟨⟨by decide, by decide⟩, by decide⟩, ⟨by decide, _, rfl, by decide⟩, ⟨rfl, by decide, by decide⟩,
    ⟨by decide, _, rfl, rfl, by decide⟩, by decide, _, _, rfl, rfl, by decide⟩

theorem meets_WickLoopsAndFencesComplete :
    let s := onLan (running {})
    (s.issues 0 4 0 ∧ (bw 0 false 0x1FF).imm.toNat < 512 ∧ s.vfenceDone 0 = true ∧ (s.lan 0).sb = [] ∧
      (s.lan 0).lq = [] ∧ s.visible 0 = true) ∧
    (let d := onLan { running {} with sb := [{ ls := true, addr := 0, bytes := [1] }] }
     d.issues 0 4 0 ∧ ¬((d.lan 0).sb = [] ∧ (d.lan 0).lq = [] ∧ d.visible 0 = true)) ∧
    ((bw 0 false 0xFFF).imm.toNat < 4096 ∧ (s.counter 0xFFF - (s.lan 0).wick.a).toNat < 2 ^ 63) ∧
    (let d := onLan (running { a := 1 })
     2 ^ 63 ≤ (d.counter 0xFFF - (d.lan 0).wick.a).toNat) ∧
    (s.lan 0).matrixDone = true ∧ (s.lan 0).reportsDone = true ∧ s.seenBy (.wick 0) = true :=
  ⟨⟨⟨by decide, by decide⟩, by decide⟩, ⟨⟨by decide, by decide⟩, by decide⟩, by decide, by decide, by decide⟩

/-- Gang 7 of lanterns 0 and 1. -/
def gang2 : Gang :=
  { id := 7, q := 0, idx := 0, members := [0, 1], finished := [], cevtEn := false, cevt := 0, cadd := 0
    wdlimit := 1, tag := 0 }

/-- Lanterns 0 and 1 run gang 7. -/
def onGang (l m : Lantern) : State :=
  { onLan l with lans := [(0, l), (1, m)], disp := { gangs := [gang2] } }

theorem meets_WickMessagesAndReservationsComplete :
    let l := { running { y := 1 } with gang := some 7, gsize := 2 }
    let m : Msg := { rank := 0, w0 := 1, w1 := 2 }
    let o : OutMsg := { dest := 1, msg := m, answer := none }
    let s := onGang l l
    (s.issues 0 4 0 ∧ (s.lan 0).wick.y.toNat < (s.lan 0).gsize ∧ s.gangOf 0 = some gang2 ∧
      gang2.members[(s.lan 0).wick.y.toNat]? = some 1 ∧ (s.lan 0).fifo = []) ∧
    ((onGang { l with fifo := [m] } l).issues 0 4 0) ∧
    (let a := onGang { l with out := some o } { l with fifo := List.replicate 15 m }
     (a.lan 0).out = some o ∧ (a.lan o.dest).run = .running ∧ (a.lan o.dest).halt.halted = false ∧ o.dest ≠ 0 ∧
       (a.lan o.dest).fifo.length < 16) ∧
    (16 ≤ ((onGang l { l with fifo := List.replicate 16 m }).lan 1).fifo.length) ∧
    (let a := onLan (running {})
     let h := onLan { running {} with resv := some (a.granuleOf false 0x78) }
     a.issues 0 4 0 ∧ operandOf (a.lan 0).wick (bw 1 false 0x78) = some (.mem false 0x78) ∧
       a.reach 0 false false true 0x78 8 = .ok a ∧ (∃ bs v, a.readBuffered 0 false 0x78 8 = .ok (bs, v)) ∧
       (a.lan 0).blocked false true 0x78 8 = false ∧ (a.lan 0).resv ≠ some (a.granuleOf false 0x78) ∧
       h.issues 0 4 0 ∧ h.reach 0 false false true 0x78 8 = .ok h ∧
       (h.lan 0).resv = some (h.granuleOf false 0x78)) ∧
    (let h := { onLan { running { x := 0x200000 } with resv := some (false, 0x4000) } with
        cirrus := { ptes := [(1, here), code] } }
     operandOf (h.lan 0).wick (bw 4 false 0) = some (.mem true 0x200000) ∧
       h.reach 0 true false true 0x200000 8 = .ok h ∧ (h.lan 0).blocked true true 0x200000 8 = false ∧
       (h.lan 0).resv = some (h.granuleOf true 0x200000)) :=
  ⟨⟨⟨by decide, by decide⟩, by decide⟩, ⟨by decide, by decide⟩, by decide, by decide,
    ⟨⟨by decide, by decide⟩, by decide, rfl, ⟨_, _, rfl⟩, by decide, by decide, ⟨by decide, by decide⟩, rfl, by decide⟩,
    by decide, rfl, by decide, by decide⟩

/-- 0x00F0 has STOP 0; 0xF000 is STOP "never" with byte elements in local store. -/
theorem meets_BlockInstructionsComplete :
    let s := onLan (running { src := 0x100, dst := 0x200, cnt := 1 })
    let i : LoaderItem := { t := false, dirOut := false, sz := 1, src := 0, dst := 0, x := 0, y := 0, pins := [] }
    (s.issues 0 4 0 ∧ (bw 0 false 0xF000).imm.getLsbD 11 = false ∧ blkLegal .bcopy 0xF000 = true ∧
      blkLegal .bfill 0xF000 = true ∧ blkLegal .bread 0xF000 = true ∧ blkLegal .bcomp 0xF000 = true ∧
      blkLegal .bseek 0xF000 = true ∧
      (∃ b, s.load 0 false false 0x100 1 = .ok (b, s) ∧ ∃ v, s.store 0 false false 0x200 b = .ok v) ∧
      (∃ v, s.store 0 false false 0x200 (leBytes 1 0) = .ok v) ∧
      ∃ c, s.load 0 false false 0x200 1 = .ok (c, s)) ∧
    (let d := { onLan (running { src := 0x200000, dst := 0x100 }) with cirrus := { ptes := [(1, here), code] } }
     d.issues 0 4 0 ∧ (bw 0 false 0).imm.getLsbD 11 = false ∧ vblkLegal 0 = true ∧ ∃ v, d.vblkIter 0 0 = .ok v) ∧
    (s.issues 0 4 0 ∧ (bw 0 false 0xF800).imm.getLsbD 11 = true ∧ (s.lan 0).wick.cnt ≠ 0 ∧
      (∀ op ∈ [BlkOp.bcopy, .bfill, .bread, .bcomp, .bseek], blkLegal op 0xF800 = true) ∧
      vblkLegal 0x0800 = true) ∧
    (let r (k : Dword) : State := onLan { running { cnt := k } with rep := some (.bfill, 0xF800) }
     (∃ u, (r 1).anyIter 0 .bfill 0xF800 = .ok u ∧ (u.lan 0).wick.cnt - 1 = 0) ∧
       (∃ u, (r 2).anyIter 0 .bfill 0xF800 = .ok u ∧ (u.lan 0).wick.cnt - 1 ≠ 0)) ∧
    (let r := onLan { running { cnt := 2 } with rep := some (.bcomp, 0x0800) }
     r.lanOn 0 = true ∧ (r.lan 0).run = .running ∧ (r.lan 0).halt.halted = false ∧ r.entryDue 0 = false ∧
     ∃ u, r.anyIter 0 .bcomp 0x0800 = .ok u ∧ condTrue (BitVec.ofNat 4 (0x0800 / 4096)) (u.lan 0).wick.flags = true) ∧
    (let q := onLan { running {} with lq := [i] }
     (q.lan 0).lq = [i] ∧ q.lanOn 0 = true ∧ (∀ x ∈ i.lsWrites, (q.lan 0).mqBlocks true x.1 x.2 = false) ∧
        ∀ x ∈ i.lsReads, (q.lan 0).mqBlocks false x.1 x.2 = false) :=
  ⟨⟨⟨by decide, by decide⟩, by decide, by decide, by decide, by decide, by decide, by decide, ⟨_, rfl, _, rfl⟩,
      ⟨_, rfl⟩, _, rfl⟩,
    ⟨⟨by decide, by decide⟩, by decide, by decide, _, rfl⟩, ⟨⟨by decide, by decide⟩, by decide⟩,
    ⟨⟨_, rfl, by decide⟩, _, rfl, by decide⟩, ⟨by decide, by decide, by decide, by decide, _, rfl, by decide⟩,
    by decide⟩

/-- FCVT from FP32 (1) to INT32 (13). -/
theorem meets_ScalarFloatComplete :
    let s := onLan (running { a := 0x3F800000 })
    (s.issues 0 4 0 ∧ (bw 0 false 0).s = false ∧
      ∃ v, s.operandValue 0 (bw 0 false 0) (immFloat true 0) 8 = .ok (v, s)) ∧
    (∃ v, s.operandValue 0 (bw 0 false 0) (immFloat false 0) 4 = .ok (v, s)) ∧
    ((bw 0 false 0x1D).imm.toNat = 16 * 1 + 13) :=
  ⟨⟨⟨by decide, by decide⟩, by decide, _, rfl⟩, ⟨_, rfl⟩, by decide⟩

theorem meets_FalseConditionCompletes :
    (onLan (running {})).wickCan 0 4 = true ∧ (onLan (running {})).wickCan 0 8 = true ∧ condTrue 0xF ((onLan (running {})).lan 0).wick.flags = false := by
  decide

/-- A lantern whose handlers stand in a mapped page. -/
def handled (l : Lantern) : State :=
  { onLan { l with evbase := 0x200000 } with cirrus := { ptes := [(1, here), code] } }

theorem meets_EventEntrySavesState :
    (let s := handled (running {})
     (s.lan 0).busy 2 = false ∧ s.fetchBad (0x200000 + 0x40 * 2) = false) ∧
    (let s := handled { running { sstk := 0x3F0000 } with busy1 := true }
     (s.lan 0).busy (causeLevel 0x0A) = true ∧
       (s.lan 0).wick.sstk.toNat < (s.lan 0).lsguard.toNat * 65536 + 32) ∧
    (let s := handled { running { sstk := 0x3F0020 } with busy1 := true }
     (s.lan 0).busy (causeLevel 0x0A) = true ∧
       (s.lan 0).lsguard.toNat * 65536 + 32 ≤ (s.lan 0).wick.sstk.toNat ∧
       s.fetchBad ((s.lan 0).handler (causeLevel 0x0A) 0x0A 0) = false) := by
  decide

theorem meets_TrapReturnAndBoundaryEvents :
    (let s := onLan { running { mode := 0x80000000 } with cl := 2 }
     s.issues 0 4 0 ∧ (bw 0 false 0xFF).imm.toNat < 256 ∧ (s.lan 0).wick.sup = true ∧ (s.lan 0).cl ≠ 0 ∧
       ((s.lan 0).sv 2).pushed = false ∧ (s.lan 0).cl ≠ 1) ∧
    ((onLan (running {})).issues 0 4 0 ∧ ((onLan (running {})).lan 0).wick.sup = false) ∧
    ((bw 0 false 0).cond = BitVec.ofNat 4 ((0x07F00000 : Word).toNat / 2 ^ 28) ∧
      opAssigned (natField (0x07F00000 : Word).toNat 20 8) (natField (0 : Word).toNat 8 6) = false ∧
      (onLan (running {})).wickCan 0 (wordLen (0x07F00000 : Word).toNat) = true) ∧
    (let l := { running {} with pendSvc := true, enSvc := true }
     let m := { running {} with pendBeat := true, enBeat := true }
     let q := { running {} with fifo := [{ rank := 0, w0 := 0, w1 := 0 }], enMsg := true }
     (∀ x ∈ [l, m, q, { l with defRf := some (4, 0) }, { l with defNan := true }, { l with defFx := some (4, 0) },
         { l with cl := 1 }], (onLan x).atBoundary 0 = true) ∧
       (m.pendSvc && m.enSvc) = false ∧ (q.pendSvc && q.enSvc) = false ∧ (q.pendBeat && q.enBeat) = false) :=
  ⟨⟨⟨by decide, by decide⟩, by decide⟩, ⟨⟨by decide, by decide⟩, by decide⟩, by decide, by decide⟩

/-- A NaN report of the vector unit. -/
def nanRep : NanRep :=
  { pc := 4, insn := 0, gen := true, unit := 1, arr := 0, quad := 0, stage := 0, fmt := 1, lgrp := 0, trow := 0
    tcol := 0, row := 0, col := 0, kstep := 0 }

theorem meets_WickReportsComplete :
    let e : VqEntry := { pc := 4, insn := 0 }
    let l := { running {} with nanQ := [nanRep], fxRep := [(4, 0)], vq := [e] }
    let s := onLan l
    ((s.lan 0).nanQ[0]? = some nanRep ∧ (s.lan 0).nan.trapEn = false ∧ s.lanOn 0 = true ∧
      (s.lan 0).fxRep = [(4, 0)] ∧ (s.lan 0).defFx = none ∧ (s.lan 0).vq = [e] ∧ (s.lan 0).lineBuf.Nodup) ∧
    (let t := onLan { l with nan := { trapEn := true, valid := true } }
     (t.lan 0).nanQ[0]? = some nanRep ∧ (t.lan 0).nan.trapEn = true ∧ (t.lan 0).nan.valid = true) ∧
    (let t := onLan { l with nan := { trapEn := true }, defFx := some (8, 1) }
     (t.lan 0).nanQ[0]? = some nanRep ∧ (t.lan 0).nan.trapEn = true ∧ (t.lan 0).nan.valid = false ∧
       (t.lan 0).fxRep = [(4, 0)] ∧ (t.lan 0).defFx = some (8, 1)) ∧
    (let x := { running {} with gang := some 7, lineBuf := [1, 2, 3, 4] }
     ((onGang { x with halt := { halted := true } } x).lan 0).halt.halted = true ∧
       (onGang x x).gangOf 0 = some gang2 ∧ gang2.wdlimit ≠ 0 ∧ 0 ∉ gang2.finished ∧
       ((onGang x x).lan 0).halt.halted = false ∧ ((onGang x x).lan 0).lineBuf.Nodup ∧
       ((onGang x x).lan 0).lineBuf.length ≤ 4) := by
  decide

/-! ### Vector unit -/

/-- A vector operate word with COND 0. -/
def vo (pg : BitVec 4) (vd va vb : BitVec 5) : VOp :=
  { cond := 0, am := 0, zf := false, pg := pg, vd := vd, va := va, ew := 0, vb := vb, vc := 0, fmt := 0, fmt2 := 0
    sb := false, zero := 0 }

/-- A lantern of vector length `vl` and element width `vew`. -/
def vecLan (vl : Nat) (vew : BitVec 2) (f : Wick → Wick := id) : Lantern :=
  { running (f { vl := vl, vew := vew }) with p := [(0, 0xFFFFFFFF#8192)] }

/-- Inside a lantern with two elements and predicate 0 set, element 1 is active and element 2 lies beyond VL. -/
theorem meets_VectorResultsPerElement :
    let l := vecLan 2 2
    32 ∈ [8, 16, 32, 64] ∧ 1 < l.wick.vl ∧ l.wick.vl ≤ 2 ∧ 0 < (vo 0 1 2 3).vd.toNat ∧
      (vo 0 1 2 3).vd.toNat + (l.wick.vl * 32 + 65535) / 65536 ≤ 2 := by
  decide

theorem meets_VectorLengthAndPredicatesComplete :
    let s := onLan (vecLan 2 0 (fun k => { k with y := 8192 }))
    (s.vecIssues 0 { vo 0 0 0 0 with ew := 0 } ∧ (vo 0 0 0 0).zf = false ∧ (vo 0 0 0 0).pg = 0) ∧
    (s.vecIssues 0 (vo 0 15 15 15) ∧ 1 ≤ (vo 0 15 15 15).vd.toNat ∧ (vo 0 15 15 15).vd.toNat < 16 ∧
      (vo 0 15 15 15).va.toNat < 16 ∧ (vo 0 15 15 15).vb.toNat < 16) ∧
    (s.issues 0 8 0 ∧ (s.lan 0).vq = [] ∧ (s.lan 0).sb = [] ∧ s.visible 0 = true) :=
  ⟨⟨⟨⟨by decide +kernel, by decide +kernel⟩, by decide +kernel⟩, by decide +kernel⟩, ⟨⟨⟨by decide +kernel, by decide +kernel⟩, by decide +kernel⟩, by decide +kernel⟩,
    ⟨by decide +kernel, by decide +kernel⟩, by decide +kernel⟩

theorem meets_VectorIntegerComplete :
    let s := onLan (vecLan 2 2)
    s.vecIssues 0 (vo 0 15 2 3) ∧ (vo 0 15 2 3).zf = false ∧ (vo 0 15 2 3).vd.toNat < 16 :=
  ⟨⟨⟨by decide +kernel, by decide +kernel⟩, by decide +kernel⟩, by decide +kernel⟩

theorem meets_VectorFloatComplete :
    let s := onLan (vecLan 2 2)
    let h := onLan (vecLan 2 0)
    (s.vecIssues 0 { vo 0 15 2 3 with fmt := 1 } ∧ fmtBits 1 = 8 * 2 ^ (s.lan 0).wick.vew.toNat) ∧
    (h.vecIssues 0 { vo 0 15 2 3 with fmt := 5 } ∧ fmtBits 5 = 8 * 2 ^ (h.lan 0).wick.vew.toNat) :=
  ⟨⟨⟨⟨by decide +kernel, by decide +kernel⟩, by decide +kernel⟩, by decide +kernel⟩, ⟨⟨by decide +kernel, by decide +kernel⟩, by decide +kernel⟩, by decide +kernel⟩

/-- FP32 to FP16 reads two registers per element group at VEW 1, so VA is even. -/
theorem meets_VectorConversionsComplete :
    let s := onLan (vecLan 32 2)
    let h := onLan (vecLan 32 1)
    let w := { vo 0 1 4 6 with fmt := 3, fmt2 := 1 }
    (h.vecIssues 0 w ∧ cvtLegal (h.lan 0).wick w = true) ∧
    (let x := { vo 0 1 2 3 with fmt := 4, vc := 5 }
     isMx 8 = true ∧ s.vecIssues 0 { x with fmt := 8 } ∧ x.va ≠ x.vd ∧ x.va ≠ x.vc ∧ x.vd ≠ x.vc ∧ x.vd ≠ x.vb ∧
       (s.lan 0).wick.vl ≤ 2048 ∧
       (natRange 0 32).any ((s.lan 0).active 0) = true ∧
       ((onLan { vecLan 32 2 with p := [] }).vecIssues 0 { x with fmt := 8, pg := 1 }) ∧
       (natRange 0 32).any (({ vecLan 32 2 with p := [] } : Lantern).active 1) = false) ∧
    (let x := { vo 0 2 4 6 with fmt := 3 }
     h.vecIssues 0 x ∧ x.vd.toNat % 2 = 0 ∧ ¬(x.va.toNat = x.vd.toNat ∨ x.va.toNat = x.vd.toNat + 1) ∧
       ¬(x.vb.toNat = x.vd.toNat ∨ x.vb.toNat = x.vd.toNat + 1) ∧ (h.lan 0).wick.vew ≠ 3 ∧
       fmtBits x.fmt.toNat = 8 * 2 ^ (h.lan 0).wick.vew.toNat) ∧
    (s.vecIssues 0 { vo 0 1 2 3 with fmt := 0xB, fmt2 := 0xB } ∧ s.vecIssues 0 { vo 0 1 2 3 with fmt := 2, fmt2 := 2 } ∧
      (s.lan 0).wick.vew = 2) :=
  ⟨⟨⟨⟨by decide +kernel, by decide +kernel⟩, by decide +kernel⟩, by decide +kernel⟩,
    ⟨by decide +kernel, ⟨⟨by decide +kernel, by decide +kernel⟩, by decide +kernel⟩, by decide +kernel, by decide +kernel, by decide +kernel, by decide +kernel, by decide +kernel,
      by decide +kernel, ⟨⟨by decide +kernel, by decide +kernel⟩, by decide +kernel⟩, by decide +kernel⟩,
    ⟨⟨⟨by decide +kernel, by decide +kernel⟩, by decide +kernel⟩, by decide +kernel⟩, ⟨⟨by decide +kernel, by decide +kernel⟩, by decide +kernel⟩,
    ⟨⟨by decide +kernel, by decide +kernel⟩, by decide +kernel⟩, by decide +kernel⟩

theorem meets_VectorReductionsAndMovesComplete :
    let s := onLan (vecLan 2 2 (fun k => { k with a := 1 }))
    let w := { vo 0 1 2 3 with fmt := 1 }
    s.vecIssues 0 w ∧ w.zf = false ∧ redIsFp .sum = false ∧ redIsFp .fsum = true ∧
      redLegal .fsum (s.lan 0).wick w.fmt = true ∧ w.vd ≠ w.va ∧ w.vd ≠ w.vb ∧ (s.lan 0).actives 0 = [0, 1] ∧
      (s.lan 0).actives 1 = [] :=
  ⟨⟨⟨by decide +kernel, by decide +kernel⟩, by decide +kernel⟩, by decide +kernel⟩

/-- A vector memory word over local store (AM 1) or device memory (AM 4). -/
def vm (am : BitVec 3) (vb : BitVec 5) (nf : BitVec 2) : VMem :=
  { cond := 0, am := am, zf := false, pg := 0, vd := 1, va := 2, ew := 0, vb := vb, nfm1 := nf, zero := 0, disp := 0 }

/-- Element 1 of a strided store with stride 0 lies at the address of element 0. -/
theorem meets_VectorMemoryComplete :
    let s := onLan (vecLan 2 2)
    let d := { onLan (vecLan 2 2 (fun k => { k with x := 0x200000 })) with cirrus := { ptes := [(1, here), code] } }
    (s.issues 0 8 0 ∧ d.issues 0 8 0 ∧ (s.lan 0).vq.length < 8 ∧ (d.lan 0).vq.length < 8) ∧
    (∀ st, vmemLegal (s.lan 0).wick (vm 1 0 0) .unit st = true ∧ vmemLegal (s.lan 0).wick (vm 1 0 0) .stride st = true ∧
      vmemLegal (s.lan 0).wick (vm 1 4 0) .index st = true ∧ vmemLegal (s.lan 0).wick (vm 1 0 3) .seg st = true ∧
      vmemLegal (d.lan 0).wick (vm 4 0 0) .unit st = true) ∧
    (∀ wr, ∃ u, (s.unpin 0).vtranslate 0 false wr 4 ((s.lan 0).vaccs (vm 1 0 0) .stride) = .ok u ∧
      ((u.pin 0 false ((s.lan 0).vaccs (vm 1 0 0) .stride)).lan 0).vwaits false wr 4
        ((s.lan 0).vaccs (vm 1 0 0) .stride) = false ∧
      (∀ x ∈ (s.lan 0).vaccs (vm 1 0 0) .stride, u.vpoison 0 false x.addr.toNat 4 = false)) ∧
    (∀ wr, ∃ u, (d.unpin 0).vtranslate 0 true wr 4 ((d.lan 0).vaccs (vm 4 0 0) .unit) = .ok u ∧
      ((u.pin 0 true ((d.lan 0).vaccs (vm 4 0 0) .unit)).lan 0).vwaits true wr 4
        ((d.lan 0).vaccs (vm 4 0 0) .unit) = false ∧
      (∀ x ∈ (d.lan 0).vaccs (vm 4 0 0) .unit,
        (u.pin 0 true ((d.lan 0).vaccs (vm 4 0 0) .unit)).vpoison 0 true x.addr.toNat 4 = false)) ∧
    (((s.lan 0).vaccs (vm 1 0 0) .stride).getLast?.isSome = true) := by
  refine ⟨⟨⟨by decide +kernel, by decide +kernel⟩, ⟨by decide +kernel, by decide +kernel⟩, by decide +kernel,
    by decide +kernel⟩, by decide +kernel, ?_, ?_, by decide +kernel⟩
  · intro wr
    cases wr <;> exact ok_exists (by decide +kernel)
  · intro wr
    cases wr <;> exact ok_exists (by decide +kernel)

/-! ### Matrix arrays, chains, customer instructions -/

/-- A long-form word with COND 0. -/
def lw (lo : BitVec 20) (w1 : Word) : LongWord := { cond := 0, lo := lo, w1 := w1 }

/-- A tile of one FP32 element. -/
def tile1 : Tile := { shape := 0, fc := 1, comp := false, mlen := 1, nlen := 1, meff := 32, neff := 32 }

/-- FP32 by FP32 into slot 0, K, M and N of 1; a drain of slot 0 as FP32. -/
theorem meets_MatrixInstructionsComplete :
    let l := running { y := 64 }
    let s := onLan l
    let d := onLan { l with arrs := [(0, { slots := [(0, tile1)] })] }
    (s.issues 0 8 0 ∧ (s.lan 0).mmaLegal ((s.lan 0).mmaOf (lw 0x2220 0)) = true ∧
      (s.lan 0).guardHit ((s.lan 0).mmaOf (lw 0x2220 0)).reads = none ∧ (s.lan 0).mq = [] ∧
      (s.lan 0).mqWaits ((s.lan 0).mmaOf (lw 0x2220 0)).reads [] = false ∧
      ∀ m, m < 8 → (s.lan 0).inSvc m = true ∧ ((s.lan 0).mmaOf (lw 0x2220 0)).skip.getLsbD m = false) ∧
    (∃ x ∈ item0.lsWrites, meets x.1 x.2 (({ l with lq := [item0] } : Lantern).mmaOf (lw 0x2220 0)).reads = true) ∧
    (d.issues 0 8 0 ∧ (d.lan 0).drainLegal (lw 0x2000 4) ((d.lan 0).drainOf (lw 0x2000 4)) = true ∧
      (d.lan 0).guardHit [(((d.lan 0).drainOf (lw 0x2000 4)).ob, ((d.lan 0).drainOf (lw 0x2000 4)).ext)] = none ∧
      (d.lan 0).mqWaits [] [(((d.lan 0).drainOf (lw 0x2000 4)).ob, ((d.lan 0).drainOf (lw 0x2000 4)).ext)] = false) ∧
    ((∀ p ∈ (s.lan 0).arrs, p.2.shadow = []) ∧ (lw 0 0).lo = 0) ∧
    (({ l with mq := [{ id := 0, pc := 0, insn := 0, op := .mma (l.mmaOf (lw 0x2220 0)), done := 0, written := 0 }] } :
      Lantern).mq ≠ []) ∧
    (s.lan 0).mmaLegal ((s.lan 0).mmaOf (lw 0 0)) = true ∧ (s.lan 0).mmaLegal ((s.lan 0).mmaOf (lw 0xFFFFF 0)) = false ∧
    (s.lan 0).drainLegal (lw 0x2000 4) ((s.lan 0).drainOf (lw 0x2000 4)) = false :=
  ⟨⟨⟨by decide +kernel, by decide +kernel⟩, by decide +kernel⟩, by decide +kernel,
    ⟨⟨by decide +kernel, by decide +kernel⟩, by decide +kernel⟩, by decide +kernel⟩

/-- INT8 by INT8 in checksum mode, K, M and N of 1. -/
def mma1 : MmaReq :=
  { shape := 0, fa := 0xB, fb := 0xB, fc := 0xD, acc := false, slot := 0, k := 1, mlen := 1, nlen := 1, ab := 0
    bb := 64, asb := 0, bsb := 0, skip := 0, comp := false, meff := 31, neff := 31, pc := 0, insn := 0 }

/-- A drain of slot 0. -/
def drain1 : DrainReq := { shape := 0, fo := 0xD, e4nan := false, slot := 0, pred := 1, pitch := 4, ob := 0, ext := 4 }

/-- A lantern in checksum mode that is drained of a tile at a step of R93. -/
def held (t : Tile) (x : HeldStep) : Lantern :=
  { running {} with
    chk := true
    arrs := [(0, { shadow := [{ tile := t, banks := 1, id := 0, req := drain1, step := x }] })] }

/-- A flipped bit of the element at row 0 and column 0. -/
def flip : List CellUpset := [{ row := 0, col := 0, flip := 1 }]

theorem meets_MatrixArrayWorkComplete :
    let l := running {}
    let e (o : MqOp) : MqEntry := { id := 0, pc := 0, insn := 0, op := o, done := 0, written := 0 }
    let q := onLan { l with mq := [e (.mma mma1)] }
    let full := onLan { l with
      mq := [e (.drain drain1)]
      arrs := [(0, { slots := [(0, tile1)], shadow := [{ tile := tile1, banks := 16, id := 1, req := drain1 }] })] }
    let good := (mma1.run l {} 0 [] none).1
    let bad := (mma1.run l {} 0 flip none).1
    (q.lanOn 0 = true ∧ (q.lan 0).halt.halted = false ∧ (q.lan 0).inserted 0 = false ∧ ((q.lan 0).arr 0).quar = false ∧
      (q.lan 0).mqHead 0 = some (e (.mma mma1)) ∧
      (q.lan 0).readsBlocked 0 mma1.reads = false) ∧
    (let d := onLan { l with mq := [e (.drain drain1)], arrs := [(0, { slots := [(0, tile1)] })] }
     (d.lan 0).mqHead 0 = some (e (.drain drain1)) ∧ (d.lan 0).inserted 0 = false ∧ ((d.lan 0).arr 0).slots.find? 0 = some tile1 ∧
       ((d.lan 0).arr 0).shad + bankK tile1.fc tile1.comp ≤ 16) ∧
    ((full.lan 0).mqHead 0 = some (e (.drain drain1)) ∧ (full.lan 0).inserted 0 = false ∧
      16 < ((full.lan 0).arr 0).shad + bankK tile1.fc tile1.comp) ∧
    (good.passes 0 = true ∧ bad.passes 0 = false ∧ bad.sameBits bad = true ∧ bad.sameBits good = false) ∧
    (let t := { bad with req := some mma1 }
     let h := (onLan (held t .recompute)).lan 0
     (mma1.run h (h.arr 0) 0 [] none).1.passes 0 = true ∧ (mma1.run h (h.arr 0) 0 flip none).1.passes 0 = false ∧
       (mma1.run h (h.arr 0) 0 flip none).1.sameBits t = true) ∧
    (let t := { bad with req := some mma1 }
     let h := (onLan (held t .substitute)).lan 0
     h.substitute 0 = some 1 ∧ h.readsBlocked 0 mma1.reads = false ∧ t.deferred = false ∧
       (mma1.run h (h.arr 1) 0 [] none).1.passes 0 = true ∧ (mma1.run h (h.arr 1) 0 flip none).1.passes 0 = false) ∧
    (let r := onLan { l with chk := true, arrs := [(0, { quarReq := true })] }
     ((r.lan 0).arr 0).quarReq = true ∧ ((r.lan 0).arr 0).quar = false ∧ (r.lan 0).chk = true) ∧
    (∀ n ∈ [0, 2], let r := onLan { l with arrs := [(0, { bypPend := true, nbyp := n })] }
      ((r.lan 0).arr 0).bypPend = true ∧ (r.lan 0).gang = none ∧ (r.lan 0).claimed = false) ∧
    (let r : State := { onLan l with pilot := { spareReqs := [0] } }
     r.pilot.started = false ∧ 0 ∈ r.pilot.spareReqs ∧ ((r.lan 0).arr 0).quar = false ∧
       (∃ j, j < 8 ∧ j ≠ 0 ∧ ((r.lan 0).arr j).quar = false) ∧ ((r.lan 0).arr 0).nbyp < 2) ∧
    (let r := onLan { l with arrs := (List.range 7).map (fun j => (j + 1, { quar := true })) }
     ((r.lan 0).arr 0).quar = false ∧ ∀ j, j < 8 → j ≠ 0 → ((r.lan 0).arr j).quar = true) := by
  decide +kernel

/-- FP32 chain with one product and one row, column and term: inputs at 0x1000 and 0x2000, output at
0x3000. -/
def desc1 : List Byte :=
  leBytes 2 1 ++ leBytes 10 0 ++ leBytes 4 0x01011111 ++ leBytes 24 0 ++ leBytes 4 0x1000 ++ leBytes 4 0 ++
    leBytes 4 0x2000 ++ leBytes 12 0 ++ leBytes 4 0x3000 ++ leBytes 4 0 ++ leBytes 4 4 ++ leBytes 52 0

/-- The exponent of the element at row 0 and column 0 is flipped. -/
def wrong : List CellUpset := [{ row := 0, col := 0, flip := 0x20000000 }]

/-- One product of 1 by 1 in FP32. -/
def ops1 : ChainOps :=
  { fa := 1, fb := 1, k := 1, as := [[[decodeCode 1 0x3F800000]]], bs := [[[decodeCode 1 0x3F800000]]] }

theorem meets_ChainsComplete :
    let zero := onLan (running {})
    let l := { running {} with ls := cellsOf 0 desc1 }
    let s := onLan l
    let e (b : Bool) : MqEntry := { id := 0, pc := 0, insn := 0, op := .chain desc1 b, done := 0, written := 0 }
    (s.issues 0 8 0 ∧ (s.lan 0).wick.x.toNat % 2 ^ 22 % 128 = 0 ∧ (s.lan 0).narr ≠ 0 ∧
      (s.lan 0).guardHit [(0, 128)] = none ∧ s.readDesc 0 0 = .ok desc1 ∧ (s.lan 0).chainStatus desc1 = 0 ∧
      (s.lan 0).guardHit ((s.lan 0).chainRanges desc1) = none ∧
      (s.lan 0).mqWaits (chainD desc1).reads (chainD desc1).writes = false ∧ (s.lan 0).mq.length < 16) ∧
    (zero.readDesc 0 0 = .ok (List.replicate 128 0) ∧ (zero.lan 0).chainStatus (List.replicate 128 0) ≠ 0) ∧
    ((onLan { l with mq := [e false] }).lan 0).mq = [e false] ∧
    (let x := (onLan { l with mq := [e true] }).runChain 0 (chainD desc1) []
     x.lost = false ∧ (x.s.lan 0).mq = [e true] ∧ ((onLan { l with mq := [e true] }).lan 0).halt.halted = false) ∧
    ((onLan { l with chk := true, mq := [e true], amask := 1, narr := 1
                     arrs := (List.range 7).map (fun j => (j + 1, { quar := true })) }).runChain 0 (chainD desc1)
      [{ tile := { prod2 := false, block := 0, tile := 0, inst := 0, arr := 0 }, first := wrong, again := wrong
         pass := false }]).lost
        = true ∧
    (((onLan { l with chk := true }).lan 0).arr 7).quar = false ∧
    ((ops1.tile {} []).passes 0 = true ∧ (ops1.tile {} wrong).passes 0 = false ∧
      (ops1.tile {} wrong).sameBits (ops1.tile {} wrong) = true ∧
      (ops1.tile {} wrong).sameBits (ops1.tile {} (wrong ++ flip)) = false ∧
      (ops1.tile {} (wrong ++ flip)).passes 0 = false) :=
  ⟨⟨⟨by decide +kernel, by decide +kernel⟩, by decide +kernel, by decide +kernel, by decide +kernel,
      ok_of_toOption (by decide +kernel), by decide +kernel⟩,
    ⟨ok_of_toOption (by decide +kernel), by decide +kernel⟩, by decide +kernel, by decide +kernel, by decide +kernel,
    by decide, by decide +kernel⟩

/-- Slot 0 holds the one-word routine END and accepts AM 0. -/
theorem meets_CustomerInstructionsComplete :
    let l := { running {} with ucslots := [(0, 0x80800000)], ucstore := [(0, 0xFC00000000000000)] }
    let s := onLan l
    let u : Uc := { s := s, k := l.wick, t := [], opv := 0, ea := 0, fxs := 0, sts := [] }
    (s.issues 0 4 0 ∧ (s.lan 0).wick.sup = false ∧ 0 ∉ (s.lan 0).ucBad ∧ entValid ((s.lan 0).ucEntry 0) = true ∧
      natBit (entAm ((s.lan 0).ucEntry 0)) 0 = true ∧ entLen ((s.lan 0).ucEntry 0) = 0 ∧
      entStart ((s.lan 0).ucEntry 0) = 0 ∧ s.ucOperand 0 (bw 0 false 0) = .ok (0, 0) ∧
      ucGo 0 0 {} false [(0, 0xFC00000000000000)] 0 u = .ok (.commit u) ∧
      ∃ t, u.s.ucCommit 0 (bw 0 false 0) u = .ok t) ∧
    ((onLan (running { mode := 0x80000000 })).issues 0 4 0 ∧
      ((onLan (running { mode := 0x80000000 })).lan 0).wick.sup = true) ∧
    ((onLan (running {})).issues 0 4 0 ∧ entValid (((onLan (running {})).lan 0).ucEntry 31) = false) :=
  ⟨⟨⟨by decide, by decide⟩, by decide, by decide, by decide, by decide, by decide, by decide, rfl, rfl, _, rfl⟩,
    ⟨⟨by decide, by decide⟩, by decide⟩, ⟨by decide, by decide⟩, by decide⟩

/-! ### DRAM, tile caches, pages -/

/-- Every channel is in service, and these pages stand in the table. -/
def onDram (pt : Tab Pte) (pl : Tab PlRec := []) : State :=
  { onLan (running {}) with
    chs := (List.range 256).map (fun c => (c, { en := true })), engines := [(0, { en := true })]
    cirrus := { ptes := pt, pls := pl } }

/-- Granules 16 to 271 of the device, of which the last stands on another channel than the first 15. -/
def par1 : PlRec := { parity := [(0, 1536)] }

/-- `dramLo` is a unit of no page; 0x200000 is the first unit of page 1. -/
theorem meets_DramReadsAndRebuilds :
    let s := onDram [(1, here)]
    let p := onDram [(1, { here with str := 1, plx := 1 })] [(1, par1)]
    (s.chServes 0 = true ∧ s.chHeld 0 = false ∧ s.excluded 0 = false ∧ s.rebuilds.find? 0 = none) ∧
    (unitDecode false []).1 = .good ∧ (unitDecode true []).1 = .poisoned ∧ (unitDecode false [1]).1 = .ce ∧
    (unitDecode false [0x111]).1 = .ue ∧ s.strOf 0x200000 = 0 ∧
    (p.chServes 0x200000 = true ∧ p.strOf 0x200000 ≠ 0 ∧
      ∃ g, p.granUse 0x200000 = some g ∧ 16 ≤ (p.usable g 0 []).length ∧ (p.usable g 0 [1, 2]).length < 16) ∧
    (let r := { p with rebuilds := [(0x8000, 7)] }
     r.rebuilds.find? 0x8000 = some 7 ∧ r.deltaAtOffset 0x200000 = false) ∧
    (({ s with rebuilds := [(0, 7)] } : State).rebuilds.find? 0 = some 7 ∧ s.granUse 0 = none) := by
  refine ⟨by decide +kernel, by decide +kernel, by decide +kernel, by decide +kernel, by decide +kernel,
    by decide +kernel, ⟨by decide +kernel, by decide +kernel, ?_⟩, by decide +kernel, by decide +kernel⟩
  exact ⟨{ vpn := 1, pte := { here with str := 1, plx := 1 }, group := 0, idx := 0 }, by decide +kernel⟩

theorem meets_DramWritesAndParity :
    let s := onDram [(1, here)]
    let p := onDram [(1, { here with str := 1, plx := 1 })] [(1, par1)]
    (s.chServes 0 = true ∧ s.chHeld 0 = false ∧ s.excluded 0 = false ∧ s.rebuilds.find? 0 = none ∧ (1 : BitVec 64) ≠ 0 ∧
      (unitDecode false []).1 ≠ .ue ∧ s.granUse 0 = none ∧ s.strOf 0 = 0) ∧
    (∃ g, p.granUse 0x200000 = some g ∧ g.idx < 16 ∧ g.pte.str ≠ 0 ∧ p.chServes 0x200000 = true ∧
      p.offPoison g.pte g.group 0 = false ∧ p.parityPoison g.pte g.group 0 = false) ∧
    ({ p with deltas := [(0x200000, 0, [1])] } : State).deltas.any
      (fun d => decide (d.1 = 0x200000 ∧ d.2.1 = 0) && !d.2.2.isEmpty) = true :=
  ⟨by decide +kernel, ⟨{ vpn := 1, pte := { here with str := 1, plx := 1 }, group := 0, idx := 0 }, by decide +kernel⟩,
    by decide +kernel⟩

/-- Eye widths of 16, 16, 20 and 20 taps are the least that pass. -/
theorem meets_ChannelUpkeepCompletes :
    let s : State := { onLan (running {}) with chs := [(0, { maint := 1 }), (1, { en := true })] }
    let r : State := { onLan (running {}) with chs := [(0, { maint := 1, failedOnce := true })] }
    s.chOn 0 = true ∧ (s.ch 1).en = true ∧ s.chOn 1 = true ∧ (s.ch 0).en = false ∧ (s.ch 0).listed = false ∧
      (s.ch 0).maint = 1 ∧ eyeBad 0x10101414 = false ∧ (s.ch 0).failedOnce = false ∧ (r.ch 0).failedOnce = true ∧
      (r.ch 0).maint = 1 := by
  decide

/-- Tile cache 0 with one line, in way 0 of set 0. -/
def oneLine (dirty : Bool) (c : TCache := {}) : State :=
  { onLan (running {}) with tcs := [(0, { c with lines := [(0, ⟨0, dirty, 0, 0⟩)] })] }

/-- Line 1 << 25 of set 0 has no line. The walk of way group 3 stands past the last set, or at the set. -/
theorem meets_TileCachesComplete :
    let s := onLan (running {})
    let f : TcFill := { pa := 0, age := 1, prefetch := false, dirty := false }
    (s.tcOn (homeTc 0) = true ∧ 0 < paEnd ∧ (s.tc 0).held 0 = false ∧ s.cutHeld (.wick 0) 0 = false ∧
      (s.tc 0).clean = 0 ∧ ((s.walkOn 0).tc 0).walked 0 = false ∧ (((s.walkOn 0).tc 0).find 0).isSome = false) ∧
    (∀ d, let h := oneLine d
      h.tcOn 0 = true ∧ (h.tc 0).held 0 = false ∧ h.cutHeld (.wick 0) 0 = false ∧
      ((h.walkOn 0).tc 0).walked 0 = false ∧ ((h.walkOn 0).tc 0).find 0 = some 0 ∧
      ((h.walkOn 0).tc 0).lines.find? 0 = some ⟨0, d, 0, 0⟩) ∧
    (∀ i, i < 4 → ((oneLine true).walkOn 0).strOf (64 * i) = 0) ∧
    (let w := oneLine false { clean := 8, walk := [(3, tcSets)] }
     let p := homeSet 0
     (w.tc 0).clean ≠ 0 ∧ (w.tc 0).walked 0 = false ∧
       (oneLine false { clean := 8, walk := [(3, p)] } |>.tc 0).walked 0 = true) ∧
    (let h : State := { s with tcs := [(0, { fills := [f] })] }
     h.tcOn 0 = true ∧ (h.tc 0).fills = [f] ∧ (h.tc 0).held f.pa = false ∧ homeTc f.pa = 0 ∧
       ((h.tc 0).find f.pa).isNone = true ∧ f.prefetch = false ∧ h.poison.contains ((f.pa + 64 * 3) / 64) = false) ∧
    (let i : Inval := { pa := 0, lans := [0], writer := .wick 1 }
     ({ s with tcs := [(0, { invals := [i] })] } : State).tc 0 = { invals := [i] } ∧ 0 ∈ i.lans) ∧
    ((s.tc 0).group.getLsbD 3 = true ∧ (s.tc 0).on.getLsbD 3 = true ∧ (s.tc 0).fuse = none ∧
      (s.tc 0).clean.getLsbD 0 = false) ∧
    (let h : State := { s with tcs := [(0, { group := 7, clean := 8 }), (1, { group := 7, on := 7 })] }
     (h.tc 0).group.getLsbD 3 = false ∧ (h.tc 0).clean.getLsbD 3 = true ∧ (h.tc 1).group.getLsbD 3 = false ∧
       (h.tc 1).clean.getLsbD 3 = false) := by
  decide +kernel

/-- A page homed at device 5, none of it here. -/
def away : Pte := { res := .peer, acc := .none, str := 0, v := true, home := 5 }

/-- A fetch of a page into physical page 2, with the first sub-page whole. -/
def fetch1 : Fetch := { write := false, critical := 0, ppn := 2, got := 0xFFFF }

theorem meets_PageFetchesComplete :
    let s := onDram [(1, here)]
    let f : State := { onDram [(1, away)] with
      cirrus := { ptes := [(1, away)], fetches := [(1, fetch1)], holds := [(1, 0)] } }
    (s.view 1 = some here ∧ here.v = true ∧ here.acc ≠ .none ∧ s.lanOn 0 = true ∧ 1 ∉ (s.lan 0).tb ∧
      (s.lan 0).tb.length < 64 ∧ s.tc0On = true) ∧
    (let b : State := { s with lans := [(0, { running {} with tb := [1, 8] })] }
     b.view 1 = some here ∧ b.lanOn 0 = true ∧ 1 ∈ (b.lan 0).tb ∧ (b.lan 0).tb.length ≤ 64) ∧
    (f.pte? 1 = some away ∧ f.cirrus.fetches.find? 1 = some fetch1 ∧ away.res ≠ .host ∧ fetch1.whole 0 = true ∧
      fetch1.slow = false ∧ f.cirGoes 1 = true ∧ ({ f with engines := [] } : State).cirGoes 1 = false) ∧
    (let g := { fetch1 with ct := (512, []) :: (List.range 16).map (fun i => (i, [])) }
     let h := { away with res := .host }
     let t : State := { f with cirrus := { ptes := [(1, h)], fetches := [(1, g)] } }
     t.pte? 1 = some h ∧ t.cirGoes 1 = true ∧ t.cirrus.fetches.find? 1 = some g ∧ g.arrived.getLsbD 0 = false ∧ g.sealed 0 = true ∧
       ∀ i, i < 16 → t.pageHeld (h.on g) i = false) ∧
    (∀ a ∈ [Acc.read, .write],
     let e := { away with acc := a }
     let t := onDram [(1, e)]
     t.tc0On = true ∧ t.cirrus.capFree < 512 * t.cirrus.lowmark.toNat ∧ t.victim = some 1 ∧ t.pte? 1 = some e ∧
       t.cirGoes 1 = true) ∧
    (let e := { away with acc := .read }
     let d := onDram [(1, e)]
     let t : State := { d with cirrus := { d.cirrus with
       lowmark := 0, fetches := [(2, { fetch1 with starved := true })] } }
     ¬t.cirrus.capFree < 512 * t.cirrus.lowmark.toNat ∧ t.fetchStarved = true ∧ t.victim = some 1) ∧
    (let t : State := { s with cirrus := { ptes := [(1, here), code], cows := [(1, 3, 0)], cur := 1 } }
     (t.cow? 1).isSome = true ∧ t.pte? 1 = some here ∧ here.gen ≠ t.cirrus.cur ∧ t.ckCut = false) := by
  decide +kernel

/-- Device 5's conduit is open and holds this message for cirrus. -/
def told (s : State) (msg va : Nat) (data : List Byte := []) : State :=
  { s with xpt := { cons := [(5, { st := .opened, ops := [
      { op := 0x10, status := 0, len := 0, rid := 0, addr := BitVec.ofNat 64 va, opnd := BitVec.ofNat 64 msg
        pmap := 0, data := data }] })] } }

/-- Page 1 is homed here, in an allocation of one page. -/
def homeHere (d : Dir) : State :=
  { onDram [(1, here)] with cirrus := {
      ptes := [(1, here), code], dirs := [(1, d)]
      allocs := [(1, { npages := 1, str := 2, kind := .loc, home := 0, hbase := 0, tile := 0, anyt := true })] } }

theorem meets_HomeMessagesComplete :
    (∀ m ∈ [msgRd, msgWr], ∃ u, (told (homeHere {}) m 0x200000).takeCir 5 (fun o => o.isMsg m 0x200000) = some u ∧
      u.homed 1 = true) ∧
    (∀ m ∈ [msgRd, msgWr], ∃ u, (told (onDram []) m 0x200000).takeCir 5 (fun o => o.isMsg m 0x200000) = some u ∧
      u.homed 1 = false) ∧
    (∀ m ∈ [msgInvAck, msgNocopy],
      (∃ u, (told (homeHere { readers := [5], await := [5] }) m 0x200000).takeCir 5
        (fun o => o.isMsg m 0x200000) = some u ∧ 5 ∈ (u.dir 1).await) ∧
      ∃ u, (told (homeHere {}) m 0x200000).takeCir 5 (fun o => o.isMsg m 0x200000) = some u ∧ 5 ∉ (u.dir 1).await) ∧
    ((∃ u, (told (homeHere {}) msgNocopy 0x200000).takeCir 5 (fun o => o.isMsg msgNocopy 0x200000) = some u ∧
        5 ∉ (u.dir 1).late) ∧
      ∃ u, (told (homeHere { late := [5] }) msgNocopy 0x200000).takeCir 5
        (fun o => o.isMsg msgNocopy 0x200000) = some u ∧ 5 ∈ (u.dir 1).late) ∧
    (∃ u, (told (homeHere { readers := [5] }) msgDrop 0x200000).takeCir 5 (fun o => o.isMsg msgDrop 0x200000) = some u ∧
      5 ∈ (u.dir 1).readers ∧ setDel (u.dir 1).readers 5 = [] ∧ (u.dir 1).owner = none ∧ (u.dir 1).cur = none ∧
      u.pte? 1 = some here) ∧
    (∃ u, (told (homeHere {}) msgDrop 0x200000).takeCir 5 (fun o => o.isMsg msgDrop 0x200000) = some u ∧
      5 ∉ (u.dir 1).readers) ∧
    (∃ u, (told (homeHere { owner := some 5 }) msgWb 0x200000).takeCir 5 (fun o => o.isMsg msgWb 0x200000) = some u ∧
      (u.dir 1).owner = some 5) ∧
    (∀ n ∈ [0x200000, 0x200001],
      ∃ u, (told (homeHere {}) 0x0C 0x200000 (beBytes 8 n)).takeCir 5
          (fun o => o.isMsg 0x0C 0x200000 && decide (beNat o.data = n)) = some u ∧
        u.rangeStr 0x200000 n = if n = 0x200000 then some 2 else none) := by
  refine ⟨?_, ?_, ?_, ?_⟩
  · intro m h
    rcases List.mem_cons.mp h with rfl | h
    · exact ⟨_, rfl, by decide +kernel⟩
    · obtain rfl := List.mem_singleton.mp h
      exact ⟨_, rfl, by decide +kernel⟩
  · intro m h
    rcases List.mem_cons.mp h with rfl | h
    · exact ⟨_, rfl, by decide +kernel⟩
    · obtain rfl := List.mem_singleton.mp h
      exact ⟨_, rfl, by decide +kernel⟩
  · intro m h
    rcases List.mem_cons.mp h with rfl | h
    · exact ⟨⟨_, rfl, by decide +kernel⟩, _, rfl, by decide +kernel⟩
    · obtain rfl := List.mem_singleton.mp h
      exact ⟨⟨_, rfl, by decide +kernel⟩, _, rfl, by decide +kernel⟩
  · refine ⟨⟨⟨_, rfl, by decide +kernel⟩, _, rfl, by decide +kernel⟩, ⟨_, rfl, by decide +kernel⟩,
      ⟨_, rfl, by decide +kernel⟩, ⟨_, rfl, by decide +kernel⟩, ?_⟩
    intro n h
    rcases List.mem_cons.mp h with rfl | h
    · exact ⟨_, rfl, by decide +kernel⟩
    · obtain rfl := List.mem_singleton.mp h
      exact ⟨_, rfl, by decide +kernel⟩

/-- A page of device 5 that stands in physical page 1 with this access. -/
def copyOf (a : Acc) : State := onDram [(1, { away with acc := a, ppn := 1 })]

/-- Lantern 0 holds page 1 as a pin. -/
def pinning (s : State) : State :=
  { s with lans := [(0, { running {} with vq := [{ pc := 0, insn := 0, pins := [1] }] })] }

/-- Conduit 5 has delivered a part of 4 KiB of bytes 7, the last of its page, with one poisoned unit. -/
def paged (s : State) (va : Nat) : State :=
  { s with xpt := { cons := [(5, { st := .opened, ops := [
      { op := 0x11, status := 0, len := 4096, rid := 0, addr := BitVec.ofNat 64 va, opnd := 1, pmap := 1
        data := List.replicate 4096 7 }] })] } }

/-- The delivered part is the one that the command names. -/
def isPart (va : Nat) (o : DpOp) : Bool :=
  o.op = 0x11#8 && decide (o.addr.toNat = va) && o.opnd.getLsbD 0 = true && o.pmap = 1#64 &&
    o.data = List.replicate 4096 7

/-- Cirrus takes the one operation of an open conduit, if it is the one that a command names. -/
theorem takeCir_one {s : State} {d : Nat} {p : DpOp → Bool} {o : DpOp} (h1 : (s.con d).st = .opened) (h2 : d < 1024)
    (h3 : (s.con d).ops = [o]) (h4 : o.isCir = true) (h5 : p o = true) :
    ∃ u, s.takeCir d p = some u ∧ u = s.setCon d { s.con d with ops := [] } := by
  refine ⟨_, ?_, rfl⟩
  simp [State.takeCir, h1, h3, h4, h5, delFirst, Nat.not_le.mpr h2]

theorem meets_HolderMessagesComplete :
    let asked (s : State) (m : Nat) (f : State → Bool) : Bool :=
      match (told s m 0x200000).takeCir 5 (fun o => o.isMsg m 0x200000) with
      | some u => f u
      | none => false
    (∀ m ∈ [msgInv, msgRecallR, msgRecallW],
      asked (onDram []) m (fun u => (u.cirrus.fetches.find? 1).isNone && (u.peerPage 5 1).isNone) = true ∧
      (∀ a ∈ [Acc.none, .read, .write], asked (copyOf a) m (fun u =>
        u.peerPage 5 1 = some { away with acc := a, ppn := 1 } && !u.pinned 1 && !u.pinHeld 1) = true) ∧
      ∀ a ∈ [Acc.read, .write], asked (pinning (copyOf a)) m (fun u => u.pinned 1) = true) ∧
    (asked (copyOf .none) msgGone (fun u => !u.pinHeld 1 && (u.peerPage 5 1).isSome &&
        (u.cirrus.fetches.find? 1).isNone) = true ∧
      asked (pinning (copyOf .read)) msgGone (fun u => u.pinHeld 1) = true) ∧
    (let f := { fetch1 with data := false }
     let s : State := { copyOf .read with cirrus := {
       ptes := [(1, { away with acc := .read, ppn := 1 })], fetches := [(1, f)] } }
     asked s msgGrant (fun u => u.peerPage 5 1 = some { away with acc := .read, ppn := 1 } &&
       u.cirrus.fetches.find? 1 = some f) = true) := by
  decide +kernel

/-- The last part of page 1, and the first part of a page that its owner returns. -/
theorem meets_HolderMessagesComplete_part :
    let s : State := paged { onDram [] with cirrus := { ptes := [(1, away)], fetches := [(1, fetch1)] } } 0x3FF000
    let h := paged (homeHere { owner := some 5 }) 0x200000
    (0x3FF000 % 4096 = 0 ∧ vpnOf 0x3FF000 = 1 ∧ s.partHeld 0x3FF000 = false ∧ s.cirGoes 1 = true ∧ fetch1.data = true ∧
      fetch1.starved = false ∧ ∃ u, s.takeCir 5 (isPart 0x3FF000) = some u ∧ u.pte? 1 = some away ∧
        u.cirrus.fetches.find? 1 = some fetch1) ∧
    (h.partHeld 0x200000 = false ∧ h.cirGoes 1 = true ∧ ∃ u, h.takeCir 5 (isPart 0x200000) = some u ∧ u.pte? 1 = some here ∧
      u.cirrus.fetches.find? 1 = none ∧ (u.dir 1).owner = some 5) := by
  refine ⟨⟨by decide, by decide, by decide +kernel, by decide +kernel, by decide, by decide, ?_⟩, by decide +kernel, by decide +kernel, ?_⟩
  · obtain ⟨u, h, rfl⟩ := takeCir_one (p := isPart 0x3FF000)
      (s := paged { onDram [] with cirrus := { ptes := [(1, away)], fetches := [(1, fetch1)] } } 0x3FF000) (d := 5)
      rfl (by decide) rfl rfl (by simp [isPart])
    exact ⟨_, h, rfl, rfl⟩
  · obtain ⟨u, h, rfl⟩ := takeCir_one (p := isPart 0x200000) (s := paged (homeHere { owner := some 5 }) 0x200000)
      (d := 5) rfl (by decide) rfl rfl (by simp [isPart])
    exact ⟨_, h, rfl, rfl, rfl⟩

/-! ### Integrity, registers, environment -/

/-- The lamplighter runs: cirrus is ready. -/
def scrubbing (tcs : Tab TCache := []) : State :=
  { onDram [] with pilot := { started := true, ready := 0x21#600 }, tcs := tcs }

theorem meets_ScrubReadsComplete :
    let s := scrubbing
    let b : State := { s with scrub := { s.scrub with pos := 1 } }
    let x : TcLine := { tag := 0, dirty := false, age := 0, pres := 0 }
    let c (x : TcLine) : State := scrubbing [(0, { lines := [(16 * 131071 + 15, x)] })]
    s.scrubs = true ∧ s.scrub.pos = 0 ∧ s.noteSkips.scrubSkips 0 = false ∧
    s.inputHeld (readyCh (paChannel 0)) 0x400 = false ∧ s.excluded 0 = false ∧ s.deltaAtOffset 0 = false ∧
    s.strOf 0 = 0 ∧ s.noteSkips.scrubSkips paEnd = true ∧ 0 < b.scrub.pos ∧
    (unitDecode false []).1 = .good ∧ (unitDecode true []).1 = .poisoned ∧ (unitDecode false [1]).1 = .ce ∧
    (unitDecode false [0x111]).1 = .ue ∧
    (∀ d, let t := c { x with dirty := d }
      t.scrubs = true ∧ t.noteSkips.wayOut 0 131071 15 = false ∧
      t.scrub.seen.contains (cacheUnit 0 131071 15 3) = false ∧ t.inputHeld (readyTc 0) 0x400 = false ∧
      (t.tc 0).lines.find? (16 * 131071 + 15) = some { x with dirty := d }) ∧
    ({ s with scrub := { s.scrub with seen := [cacheUnit 0 0 0 0] } } : State).scrub.seen.contains
      (cacheUnit 0 0 0 0) = true := by
  decide +kernel

theorem meets_LinkErrorsAndRepairComplete :
    let q (v : LanSvc) : State := onLan { svc := v }
    ((0, 0) ∉ (onLan {}).net.stuck ∧ (0, 0) ∉ (onLan {}).net.resent) ∧
    (let s : State := { onLan {} with net := { resent := [(0, 0)] } }
     (0, 0) ∈ s.net.resent ∧ (0, 0) ∉ s.net.stuck) ∧
    (((q { quarPend := true }).lan 0).svc.quarPend = true ∧ ((q { quarPend := true }).lan 0).idle = true ∧
      (q { quarPend := true }).spareFree 0 = true ∧ ((q { quarPend := true }).lan 0).svc.spareTest = false ∧
      ((q { quarPend := true }).lan 0).svc.testing = false ∧ ((q { quarPend := true }).lan 0).svc.fusePend = none) ∧
    (({ q { quarPend := true } with flash := { badSpares := [0] } } : State).spareFree 0 = false) ∧
    ((q { spareTest := true }).lan 0).svc.spareTest = true ∧
    (let s : State := { onLan {} with tcs := [(0, { fuse := some (1, 2) })] }
     s.tcOn 0 = true ∧ (s.tc 0).fuse = some (1, 2)) ∧
    (((q { fusePend := some (1, 2) }).lan 0).svc.fusePend = some (1, 2) ∧
      ((q { fusePend := some (1, 2) }).lan 0).idle = true) := by
  decide

/-- Lantern 0's BEAT; word 0x8A000000 asks for BEAT of lantern 160 over 1,000 ms. -/
theorem meets_LatchedReadsAndRatesComplete :
    let s := onLan (running {})
    (blkOf (regLo + 0x10000010) = some (.lan 0, 0x10) ∧ loHi (.lan 0) 0x10 = some 0x14 ∧
      s.blkOn (.lan 0) = true ∧ 0x10 < 0x14) ∧
    (s.lanOn 255 = true ∧ s.tcOn 3 = true ∧ s.tcOn 4 = false ∧ (0x80000000 : Word).getLsbD 31 = true) ∧
    (∀ sel, let r : State := { s with pilot := { started := true, rateBusy := true, rateSel := sel } }
      r.pilot.rateBusy = true ∧ r.lanOn r.pilot.rateTarget.toNat = true ∧ r.tcOn r.pilot.rateTarget.toNat = true) ∧
    (let r : State := { State.reset with pilot := { rateBusy := true } }
     r.pilot.rateBusy = true ∧ r.lanOn r.pilot.rateTarget.toNat = false) := by
  decide

/-- A record of a class in the queue. -/
def rec1 (cls : Nat) : ErrRec :=
  { seq := 0, stamp := 0, src := 0, cls := cls, va := false, code := 0x0501, lockind := 5, devaddr := 0
    loc := locChan 0 7, aux := 0, last := 0 }

/-- The pilot runs with this queue of records. -/
def logged (q : List ErrRec) : State := { State.reset with pilot := { started := true, en := true, errq := q } }

/-- LOC of the last row of the last bank of lantern 255's local store. -/
def locSramLast : List Byte := (onLan (running {})).locSram 255 0 31 4095

/-- Lantern 0 waits for a counter and way group 3 is under clean. -/
theorem meets_ReportsEnterTheQueue_waits :
    let s : State := { onLan { run := .running, wait := .event 0 0 } with tcs := [(0, { clean := 8 })] }
    (s.lan 0).wait = .event 0 0 ∧ (s.tc (22 - 22)).clean.getLsbD 3 = true ∧ s.isStall 22 .other = true ∧
      s.isStall 22 (.wick 255) = true ∧ s.isStall 22 (.page 1) = true ∧ s.isStall 22 (.wayGroup 0) = true ∧
      ({ s with cirrus := { fetches := [(1, fetch1)] } } : State).cirrus.fetches.find? 1 = some fetch1 := by
  decide +kernel

theorem meets_ReportsEnterTheQueue :
    let s : State := { logged [rec1 clsStall] with pilot := {
      started := true, en := true, errq := [rec1 clsStall], stalls := [(0, 7)], readyChanged := true } }
    let x : RecIn := { src := 0, cls := clsStall, code := 0x0501, lockind := 5, loc := locChan 0 7 }
    (blkOfSrc 0 = some .pilot ∧ s.blkOn .pilot = true ∧ s.blkEn .pilot = true ∧ s.pilot.started = true ∧
      (0, 7) ∈ s.pilot.stalls ∧ s.pilot.errq.any (fun r => sameLoc r (stallRec 0 7)) = true ∧
      s.pilot.readyChanged = true ∧ s.msPast s.pilot.readySent = true ∧
      ({ s with pilot := { s.pilot with readySent := some 0 } } : State).msPast (some 0) = false ∧ s.pilot.errq.find? (fun r => sameLoc r (stallRec 0 7)) = some (rec1 clsStall)) ∧
    (logged [rec1 clsStall]).pilot.errq.any (fun r => sameLoc r x) = true ∧
    ((logged []).pilot.errq.any (fun r => sameLoc r x) = false ∧ (logged []).pilot.errq.length < 256) ∧
    (let f := logged (List.replicate 256 { rec1 clsCe with src := 1 })
     f.pilot.errq.any (fun r => sameLoc r x) = false ∧ 256 ≤ f.pilot.errq.length ∧
       f.pilot.errq.any (fun r => r.cls = clsCe) = true) ∧
    (∀ y ∈ [x], y.code ≠ 0x0106 ∧ y.code ≠ 0x0204) ∧
    (let y : RecIn := { src := readyLan 255, cls := clsUe, code := 0x0204, lockind := 4
                        loc := locSramLast }
     (onLan (running {})).lanOn 255 = true ∧ recField y 4 1 = 0 ∧ recField y 5 1 = 31 ∧ recField y 6 2 = 4095) := by
  decide +kernel

theorem meets_BlockControlComplete :
    let s := onLan (running {})
    (blkOf (regLo + 0x10000000) = some (.lan 0, 0) ∧ regExists (.lan 0) 0 = true ∧ s.blkOn (.lan 0) = true) ∧
    (let c := onLan { svc := { en := true, clrPend := true } }
     (c.lan 0).svc.clrPend = true ∧ (c.lan 0).idle = true) ∧
    (let c : State := { s with engines := [(0, { en := true, clrPend := true })] }
     blkOf (regLo + 0x100000) = some (.copy 0, 0) ∧ (c.eng 0).clrPend = true ∧ c.engIdle 0 = true) ∧
    (blkOf (regLo + 0x10000020) = some (.lan 0, 0x20) ∧ regExists (.lan 0) 0x20 = true ∧
      wickMayWrite 0 (.lan 0) 0x20 = true ∧ wickMayWrite 1 (.lan 0) 0x20 = false) ∧
    (blkOf (regLo + 0x10000054) = some (.lan 0, 0x54) ∧ regExists (.lan 0) 0x54 = true ∧
      isTmr (.lan 0) 0x54 = true ∧ isSlot (.lan 0) 0x54 = false ∧ s.pilot.started = true ∧ s.pilot.tmrLost = [] ∧
      s.slotLost (.lan 0) 0x54 = false) ∧
    (let m := BitVec.ofNat 32 (tmrMask (.lan 0) 0x50)
     isTmr (.lan 0) 0x50 = true ∧ isSlot (.lan 0) 0x50 = false ∧
       (0x40000000 : Word) &&& m ≠ 0 ∧ (0x80000000 : Word) &&& m ≠ 0 ∧
       (0x40000000 : Word) &&& m ≠ (0x80000000 : Word) &&& m ∧ (1 : Word) &&& m = 0) := by
  decide

/-- The device is up with every domain powered. -/
def upState : State := { onLan {} with start := { phase := .up } }

theorem meets_EnvironmentCompletes :
    ((onLan {}).pilot.started = true ∧ (onLan {}).powered 15 = true ∧ 2799 < (onLan {}).pwr.capW ∧
      (onLan {}).pilot.stamp.toNat % 100000 = 0 ∧ (onLan {}).pwr.evalAt ≠ some (onLan {}).pilot.stamp ∧
      ({ onLan {} with pilot := { stamp := 99999 } } : State).pilot.stamp.toNat % 100000 ≠ 0) ∧
    (upState.clocked = true ∧ upState.pwr.shut = false ∧ upState.pilot.busy = none) ∧
    (let d : State := { upState with pwr := { upState.pwr with shut := true } }
     let f : State := { d with pwr := { d.pwr with further := true } }
     let h : State := { d with therm := { d.therm with hotRuns := [(272, 9999), (273, 10000)] } }
     d.pwr.shut = true ∧ d.secondDue = false ∧ (f.powered 28 || f.powered 29) = true ∧ f.secondDue = true ∧
       f.pwr.shut = true ∧ h.secondDue = true) ∧
    (Tab.find? [(0, (95 : Int))] 0 = some 95 ∧ Tab.find? [(0, (95 : Int))] 434 = none) := by
  decide +kernel

/-- Sensor 0 has read these values. -/
def oneSensor (r : List Int) : State := { upState with therm := { readings := [(0, r)] } }

/-- What a reading that sensor 0 alone gives leaves, where it excludes no sensor 0. -/
theorem oneSensor_after (r : List Int) (v : Int)
    (h : ((oneSensor r).takeReadings [(0, v)]).excludes [(0, v)] 0 = false) :
    let t := (oneSensor r).takeReadings [(0, v)]
    let u := t.excludeSensors [(0, v)]
    u.therm.readings = t.therm.readings ∧ u.excl 0 = false := by
  intro t u
  have hu : u.therm = { t.therm with excluded := ((List.range 435).filter (fun i =>
      !t.excl i && t.excludes [(0, v)] i)).foldl setIns [] } := (congrArg State.therm (State.records_same _ _) :)
  refine ⟨by rw [hu], ?_⟩
  rw [State.excl, hu]
  simp only [List.contains_eq_mem, decide_eq_false_iff_not, mem_foldl_setIns, List.mem_filter]
  rintro (⟨-, k⟩ | k)
  · simp [t, h] at k
  · exact absurd k List.not_mem_nil

theorem meets_EnvironmentCompletes_hot :
    let u := ((oneSensor [95, 95, 95]).takeReadings [(0, 95)]).excludeSensors [(0, 95)]
    0 ∈ groupSensors 0 ∧ u.threeMeet 0 (fun v => decide (95 ≤ v)) = true := by
  obtain ⟨h, k⟩ := oneSensor_after [95, 95, 95] 95 (by decide +kernel)
  have r : ((oneSensor [95, 95, 95]).takeReadings [(0, 95)]).therm.readings = [(0, [95, 95, 95])] := by
    decide +kernel
  refine ⟨by decide, ?_⟩
  simp only [State.threeMeet, k, h, r]
  decide

theorem meets_EnvironmentCompletes_cool :
    let u := ((oneSensor []).takeReadings [(0, 50)]).excludeSensors [(0, 50)]
    u.excl 0 = false ∧ u.threeMeet 0 (fun v => decide (v < 92)) = false ∧
      ¬∃ i ∈ groupSensors 0, u.threeMeet i (fun v => decide (95 ≤ v)) = true := by
  obtain ⟨h, k⟩ := oneSensor_after [] 50 (by decide +kernel)
  have r : ((oneSensor []).takeReadings [(0, 50)]).therm.readings = [(0, [50])] := by decide +kernel
  refine ⟨k, ?_, ?_⟩
  · simp only [State.threeMeet, k, h, r]
    decide
  · rintro ⟨i, -, hi⟩
    simp only [State.threeMeet, h, r] at hi
    by_cases j : 0 = i <;> simp [Tab.getD, Tab.find?, j] at hi

/-! ### Dispatch, copies, snapshots -/

/-- Queue 0 has one checked entry at 0x200000; lantern 0 and engine 0 are ready. -/
def queued (m : List Host.Cell) : State :=
  { onDram [(1, here)] with
    lans := [(0, { svc := { en := true } })]
    engines := [(0, { en := true })]
    pilot := { started := true, ready := 1#600 ||| 1#600 <<< 282 ||| 1#600 <<< 6 }
    disp := { queues := [(0, { logn := 4, base := 0x200000, tail := 1 })] }
    mem := m }

/-- A copy of one byte from 0x200000 to 0x200040 in the descriptor's fields. -/
def copy1 (dst : Nat) : List Byte :=
  leBytes 8 0 ++ leBytes 8 0x200000 ++ leBytes 8 dst ++ leBytes 4 1 ++ leBytes 4 1 ++ leBytes 4 1 ++ leBytes 28 0

/-- An entry with VERSION 1, this KIND and this part behind 0x40. -/
def entry1 (kind : Nat) (rest : List Byte) : List Host.Cell :=
  cellsOf 0x200000 (leBytes 2 1 ++ leBytes 62 (4 * kind) ++ rest)

theorem meets_DispatchStartsWork :
    let u := (queued (entry1 0 (leBytes 64 0x200000))).examine
    let w := (queued (entry1 1 (copy1 0x200040))).examine
    ((queued []).tc0On = true ∧ u.nextHead = some 0 ∧
      (match u.queue? 0 with
       | some v => entKind v.entry = 0 && u.placeGang (entAff v.entry) (entGang v.entry) = some [0]
       | none => false) = true ∧ [0].Nodup) ∧
    (w.nextHead = some 0 ∧
      (match w.queue? 0 with
       | some v => entKind v.entry = 1 && w.placeCopy (entAff v.entry) = some 0
       | none => false) = true) := by
  decide +kernel

theorem meets_CopiesComplete :
    let s (mv : List Nat) (dst : Nat) : State := { onDram [(1, here)] with
      engines := [(0, { en := true, busy := true, payload := copy1 dst })]
      cirrus := { ptes := [(1, here), code], moving := mv } }
    let d (dst : Nat) : CopyDesc := copyDesc (copy1 dst)
    (((s [] 0x200040).eng 0).busy = true ∧ ((s [] 0x200040).eng 0).written = false ∧
      ((s [] 0x200040).touchCopy 0 (d 0x200040)).2 = .ok ∧ (s [] 0x200040).seenBy (.engine 0) = true) ∧
    ((s [1] 0x200040).touchCopy 0 (d 0x200040)).2 = .stall ∧
    ((s [] 0x400000).touchCopy 0 (d 0x400000)).2 = .unmapped 0 0 0x400000 ∧
    (let w : State := { s [] 0x200040 with
       engines := [(0, { en := true, busy := true, written := true, payload := copy1 0x200040 })]
       tcs := [(0, { invals := [{ pa := 0, lans := [3], writer := .engine 0 }] })] }
     (w.eng 0).busy = true ∧ (w.eng 0).written = true ∧ w.seenBy (.engine 0) = false) ∧
    (let r : CopyRun := { src := 0x200000, dst := 0x200040, len := 64 }
     63 < r.len ∧ r ∈ [r] ∧ (∀ x ∈ [r], ∀ y ∈ [r], ∀ a < x.len, ∀ b < y.len, x.dst + a = y.src + b → False) ∧
       ∀ x ∈ [r], x = r) := by
  decide +kernel

theorem meets_ZenithRegistersComplete :
    let s := queued []
    (s.tc0On = true ∧ (s.queue? 0).isSome = true) ∧
    (let h := onLan { halt := { halted := true } }
     (0x80000000 : Word).getLsbD 31 = true ∧ (h.lan 0).halt.halted = true) ∧
    (let h := onGang { gang := some 7, halt := { halted := true } } {}
     (h.gangOf 0).isSome = true ∧ (h.lan 0).halt.halted = true) ∧
    ((0x80000000 : Word).getLsbD 31 && (s.lan 0).halt.halted) = false := by
  decide

/-- A beacon is in flight. -/
def beaconing (b : Beacon) (src : BitVec 3 := 1) : State :=
  { onLan (running {}) with pilot := { started := true, inflight := true, snapSrc := src }, beacon := b }

/-- The device after the checkpoint that follows has been taken. -/
def ck1 : Ckpt :=
  { evt := 0, val := 1, cutEn := false, cutEvt := 0, cEn := false, cEvt := 0
    dests := [{ ep := 0, dbase := 0, dlen := 0x202000, mbase := 0 }], todo := [(1, 0)] }

theorem meets_BeaconsAndCutsComplete :
    (blkOfSrc 282 = some (.lan 0) ∧ (beaconing {}).pilot.inflight = true ∧ (beaconing {}).blkOn (.lan 0) = true ∧
      isOrigin (.lan 0) = true ∧ 282 ∉ (beaconing {}).beacon.latched ∧ inflightAt (.lan 0) = some 10) ∧
    (282 ∈ (beaconing { latched := [282] }).beacon.latched ∧
      (282, 3) ∉ (beaconing { latched := [282] }).beacon.arrived) ∧
    (let all := (beaconing {}).cutBlocks
     (∀ a ∈ (beaconing { latched := all }).cutBlocks, Config.feeds 282 3 a = true →
       a ∈ (beaconing { latched := all }).beacon.latched) ∧
     (Config.feeds 22 0 282 = true → ∃ a ∈ (beaconing {}).cutBlocks, Config.feeds 22 0 a = true ∧
       a ∉ (beaconing {}).beacon.latched)) ∧
    (blkOfSrc 22 = some (.tc 0) ∧ isOrigin (.tc 0) = false ∧ (setLength (.tc 0)).isSome = true ∧
      (beaconing {}).blkOn (.tc 0) = true) ∧
    (let off (b : BitVec 3) : State := { beaconing {} b with pwr := {}, ckpt := some ck1 }
     (off 1).cutBlocks.all (off 1).hasLatched = true ∧ (off 1).pilot.snapSrc ≠ 4 ∧
       (off 4).cutBlocks.all (off 4).hasLatched = true ∧ (off 4).pilot.snapSrc = 4 ∧ (off 4).ckpt = some ck1) ∧
    (beaconing {}).cutBlocks.all (beaconing {}).hasLatched = false := by
  refine ⟨by decide +kernel, by decide +kernel, ⟨fun a h _ => h, fun h => ⟨282, by decide +kernel, h, by decide⟩⟩,
    by decide +kernel, by decide +kernel, by decide +kernel⟩

/-- A command packet of endpoint 0. -/
def pk (ps : List Byte) : CmdPkt :=
  { ep := 0, length := BitVec.ofNat 16 ps.length, tag := 0, deadline := 1, flags := 0, plen := 16 + ps.length
    params := ps }

theorem meets_TriggersAndStreamsComplete :
    let s (p : Pilot) : State := { onLan {} with pilot := { p with started := true } }
    ((s {}).pilot.started = true ∧ (s {}).trigMasked = false ∧ (s {}).pilot.trigArmed = true ∧
      (s {}).pilot.trigStuck = false ∧ (s {}).pilot.trigLast = none ∧ (s { trigEn := true }).pilot.trigEn = true ∧
      (s {}).pilot.inflight = false) ∧
    ((100000 : Dword) - 0).toNat = 100000 ∧ ((99999 : Dword) - 0).toNat < 100000 ∧
    ((s { trigLevel := false }).pilot.trigLevel = false ∧ (s { inflight := true }).pilot.inflight = true) ∧
    (let b : Busy := { opcode := 0x62, pkt := pk (leBytes 16 0), since := 0, waiting := true }
     (s { busy := some b }).pilot.busy = some b ∧
       reaches ((s { busy := some b }).counter (b.pkt.f 0 2 % 4096)) (BitVec.ofNat 64 (b.pkt.f 8 8)) = true) ∧
    (let c := { ck1 with streaming := true }
     let t : State := { onLan {} with ckpt := some c }
     let r (d : Dir) : State := { t with engines := [(0, { en := true })], xpt := { cons := [(1024, { st := .opened })] }, cirrus := { ptes := [(1, here)], dirs := [(1, d)] } }
     t.ckpt = some c ∧ c.dests.all (fun d => decide ((t.con (hostCid d.ep)).st = .opened)) = false ∧
       c.dests.all (fun d => decide (((r {}).con (hostCid d.ep)).st = .opened)) = true ∧
       (r {}).ckPick c = some (1, 0) ∧ (r {}).cirrus.moving.contains 1 = false ∧ (r {}).cirGoes 1 = true ∧ ((r {}).dir 1).owner = none ∧
       (match (r {}).ckSource c 1 with
        | some x => !(r {}).ckReadWaits x.2
        | none => false) = true ∧
       (r { owner := some 5 }).ckPick c = some (1, 0) ∧ (r { owner := some 5 }).cirGoes 1 = true ∧ ((r { owner := some 5 }).dir 1).owner ≠ none) := by
  decide +kernel

/-! ### The command interface -/

/-- Endpoint 0 of an owned device is open, and the blocks of the table Commands are ready. -/
def cmdOn (s : State) : State :=
  { s with
    xpt := { s.xpt with cons := [(1024, { st := .opened })] }
    pilot := { s.pilot with started := true, ready := 0x3F#600 }
    flash := { s.flash with owner := some [1] }
    start := { s.start with phase := .up } }

theorem unbox_of {s : State} (h : s.pilot.inbox = []) : s.unbox = s := by
  have : { s.pilot with inbox := s.pilot.inbox.tail } = s.pilot := by rw [h, List.tail_nil, ← h]
  exact congrArg (fun p => { s with pilot := p }) this

/-- The checks of an unsigned command pass, and the transport has delivered none. -/
def passes (s : State) (op : Nat) (p : CmdPkt) : Bool :=
  !p.signed && s.hears op p && s.pilot.busy.isNone && (s.commonChecks op p).2.isNone && s.pilot.inbox.isEmpty

theorem takes_of {s : State} {op : Nat} {p : CmdPkt} (h : passes s op p = true) : s.takes s op p := by
  simp only [passes, Bool.and_eq_true, Bool.not_eq_true', Option.isNone_iff_eq_none, List.isEmpty_iff] at h
  obtain ⟨⟨⟨⟨h1, h2⟩, h3⟩, h4⟩, h5⟩ := h
  have ha : (s.authCheck op p).1 = s := by rw [State.authCheck, if_neg (by simp [h1])]
  refine ⟨h2, h3, ?_⟩
  rw [unbox_of h5]
  refine Prod.ext ?_ h4
  unfold State.commonChecks
  dsimp only
  repeat' split
  all_goals first | rfl | exact ha

/-- The checks of a signed command pass but for its signature. -/
def passesKey (s : State) (op : Nat) (p : CmdPkt) : Bool :=
  let u := { s with flash := { s.flash with oseq := p.oseq } }
  s.pilot.inbox.isEmpty && p.signed && s.hears op p && s.pilot.busy.isNone && s.flash.owner = some [1] &&
    decide (s.flash.oseq.toNat < p.oseq.toNat) && opcodes.contains op && lengthOk op p &&
    decide (p.params.length = p.length.toNat ∧ p.plen = 16 + p.length.toNat + 72) &&
    !(p.deadline.toNat = 0 || 600000 < p.deadline.toNat || 1 < p.flags.toNat) && u.needsMet op

theorem takes_signed {s : State} {op : Nat} {p : CmdPkt} (h : passesKey s op p = true)
    (hv : Config.edVerify [1] (signedBytes op p) p.sig = true) :
    s.takes { s with flash := { s.flash with oseq := p.oseq } } op p := by
  simp only [passesKey, Bool.and_eq_true, Bool.not_eq_true', Option.isNone_iff_eq_none,
    decide_eq_true_eq, List.isEmpty_iff] at h
  obtain ⟨⟨⟨⟨⟨⟨⟨⟨⟨⟨h0, h1⟩, h2⟩, h3⟩, h4⟩, h5⟩, h6⟩, h7⟩, h8, h9⟩, h10⟩, h11⟩ := h
  have ha : s.authCheck op p = ({ s with flash := { s.flash with oseq := p.oseq } }, true) := by
    rw [State.authCheck, if_pos h1, h4]
    exact if_pos (by rw [Bool.and_eq_true]; exact ⟨decide_eq_true h5, hv⟩)
  refine ⟨h2, h3, ?_⟩
  rw [unbox_of h0]
  unfold State.commonChecks
  rw [ha, if_neg (by rw [h6]; decide), if_neg (by simp [h1, h7, h8, h9]), if_neg (by rw [h10]; decide)]
  dsimp only
  rw [if_neg (by decide), if_neg (by rw [h11]; decide)]

/-- A signed packet of endpoint 0. -/
def pkSigned (ps : List Byte) : CmdPkt :=
  { pk ps with flags := 1, plen := 16 + ps.length + 72, oseq := 1 }

theorem meets_CommandChecksInOrder :
    let s := cmdOn (onDram [(1, here)])
    let b : Busy := { opcode := 0x62, pkt := pk [], since := 0, waiting := true }
    isCommand 0x31 (pk []) (.free (pk [])) ∧ (State.reset).hears 0x31 (pk []) = false ∧
    (s.hears 0x31 (pk []) = true ∧ { s with pilot := { s.pilot with busy := some b } }.pilot.busy = some b) ∧
    s.pilot.busy = none ∧ lengthOk 0x31 (pk []) = false ∧ lengthOk 0x31 (pk (beBytes 16 0)) = true ∧
    (pk (beBytes 16 0)).plen = 32 ∧ ¬((pk []).deadline.toNat = 0) ∧
    (mustSign 0x31 (pk []) = false ∧ s.flash.owner.isSome = true ∧ mustSign 0x74 (pk []) = true) ∧
    s.needsMet 0x31 = true ∧ { s with pilot := { s.pilot with ready := 1 } }.needsMet 0x31 = false ∧
    (s.con (hostCid (pk []).ep)).st = .opened ∧
    (let m := beBytes 2 0x31 ++ beBytes 2 0 ++ beBytes 4 0 ++ beBytes 4 1 ++ beBytes 4 0
     let d : State := { s with pilot := { s.pilot with inbox := [(1024, m)] } }
     parseCommand 1024 m = (0x31, pk []) ∧ d.hears 0x31 (pk []) = true ∧ d.hears 0x32 (pk []) = false) := by
  refine ⟨?_, by decide +kernel⟩
  simp [isCommand]

/-- The reads of two words of zenith's window, of one that holds no register and of one without power. -/
theorem meets_ReadingCommandsComplete :
    let s := cmdOn (onDram [(1, here)])
    let q := fun a n => pk (beBytes 8 (regLo + a) ++ beBytes 2 n ++ beBytes 6 0)
    (s.takes s 0x01 (pk []) ∧ s.takes s 0x02 (pk []) ∧ s.takes s 0x03 (pk []) ∧
      s.takes s 0x12 (pk (beBytes 32 7)) ∧ s.takes s 0x76 (pk (beBytes 4 0 ++ beBytes 4 0x01000000)) ∧
      (pk (beBytes 4 0 ++ beBytes 4 0x01000000)).f 4 1 = 1 ∧ (pk (beBytes 4 0 ++ beBytes 4 0x01000000)).f 5 3 = 0) ∧
    (s.takes s 0x61 (pk (beBytes 2 5 ++ beBytes 2 1 ++ beBytes 4 0x80000)) ∧
      blkOfSrc 5 = some .cirrus ∧ setLength .cirrus = some 8) ∧
    (let p := pk (beBytes 2 5 ++ beBytes 2 1 ++ beBytes 4 0x80000)
     p.f 0 2 = 5 ∧ p.f 6 2 = 0 ∧ p.f 4 2 = 8 ∧ p.f 2 2 + p.f 4 2 ≤ 9) ∧
    (let p := q 0x40000 2
     s.takes s 0x80 p ∧ p.f 8 2 = 2 ∧ p.f 10 6 = 0 ∧ ∀ a ∈ regAddrs p, hasReg a = true ∧ s.regOn a = true) ∧
    (let p := q 0x48000 1
     s.takes s 0x80 p ∧ p.f 8 2 = 1 ∧ p.f 10 6 = 0 ∧ ∃ a ∈ regAddrs p, hasReg a = false) ∧
    (let p := q 0x40000 256
     let t := { s with pwr := {} }
     t.takes t 0x80 p ∧ p.f 8 2 = 256 ∧ p.f 10 6 = 0 ∧ ∃ a ∈ regAddrs p, t.regOn a = false) ∧
    opcodes.contains 0x04 = false := by
  refine ⟨⟨takes_of ?_, takes_of ?_, takes_of ?_, takes_of ?_, takes_of ?_, ?_, ?_⟩, ⟨takes_of ?_, ?_⟩, ?_, ⟨takes_of ?_, ?_⟩,
    ⟨takes_of ?_, ?_⟩, ⟨takes_of ?_, ?_⟩, ?_⟩ <;> decide +kernel

/-- One more unsigned command. -/
def be (l : List (Nat × Nat)) : CmdPkt := pk (l.flatMap (fun x => beBytes x.1 x.2))

/-- A device with pages 1 and 2 allocated, of which page 1 stands in physical page 1, and channel 255 idle. -/
def cmdHome (c : Cirrus := {}) : State :=
  let a : Alloc := { npages := 2, str := 0, kind := .loc, home := 0, hbase := 0, tile := 0, anyt := true }
  let s := cmdOn (onDram [])
  { s with cirrus := { c with ptes := [(1, here), (2, { here with v := false })], allocs := [(1, a)], capFree := 300000000 } }

theorem meets_SettingCommandsComplete :
    let s := cmdHome
    let t := (s.setQueue 1 { logn := 4, base := 0x200000 })
    (let p := be [(4, 7)]
     s.takes s 0x77 p) ∧
    (let p := be [(8, regLo + 0x40000), (2, 1), (6, 0), (4, 5)]
     s.takes s 0x81 p ∧ p.f 8 2 = 1 ∧ p.f 10 6 = 0 ∧ ∀ a ∈ regAddrs p, hasReg a = true ∧ s.regOn a = true) ∧
    (let p := be [(1, 1), (1, 12), (6, 0), (8, 0x200000)]
     (s.takes s 0x40 p ∧ t.takes t 0x40 p) ∧ p.f 2 6 = 0 ∧ p.f 0 1 = 1 ∧ p.f 1 1 = 12 ∧ p.f 8 8 % 4096 = 0 ∧
       s.ringOk (p.f 8 8) 12 = true ∧ s.queue? 1 = none ∧ t.queue? 1 ≠ none ∧ t.ringOk (p.f 8 8) 12 = true) ∧
    (let p := be [(1, 1), (7, 0)]
     (s.takes s 0x41 p ∧ t.takes t 0x41 p) ∧ p.f 1 7 = 0 ∧ p.f 0 1 = 1) ∧
    (let p := be (List.replicate 15 (2, 800) ++ [(2, 650)])
     let r := be (List.replicate 15 (2, 800) ++ [(2, 651)])
     (s.takes s 0xA1 p ∧ s.takes s 0xA1 r) ∧
       (∀ q, q < 16 → 650 ≤ p.f (2 * q) 2 ∧ p.f (2 * q) 2 ≤ 800 ∧ p.f (2 * q) 2 % 5 = 0) ∧
       ∃ q, q < 16 ∧ ¬(650 ≤ r.f (2 * q) 2 ∧ r.f (2 * q) 2 ≤ 800 ∧ r.f (2 * q) 2 % 5 = 0)) ∧
    (let p := be [(2, 2800), (2, 0)]
     let r := be [(2, 2801), (2, 0)]
     (s.takes s 0xA2 p ∧ s.takes s 0xA2 r) ∧ p.f 0 2 = 2800 ∧ p.f 2 2 = 0 ∧ 2800 < r.f 0 2) ∧
    (let p := be [(1, 1), (1, 168), (2, 0)]
     s.takes s 0x73 p ∧ p.f 0 1 = 1 ∧ p.f 1 1 = 168 ∧ p.f 2 2 = 0 ∧ s.tc0On = true) ∧
    (let p := be [(4, 0)]
     s.takes s 0xF0 p ∧ p.f 0 4 = 0) := by
  refine ⟨takes_of ?_, ⟨takes_of ?_, ?_⟩, ⟨⟨takes_of ?_, takes_of ?_⟩, ?_⟩, ⟨⟨takes_of ?_, takes_of ?_⟩, ?_⟩,
    ⟨⟨takes_of ?_, takes_of ?_⟩, ?_, 15, ?_⟩, ⟨⟨takes_of ?_, takes_of ?_⟩, ?_⟩, ⟨takes_of ?_, ?_⟩, takes_of ?_, ?_⟩ <;>
  decide +kernel

/-- The parameters of an ALLOC of one page. -/
def allocPk (va kind home : Nat) : CmdPkt :=
  be [(8, 0x200000), (8, va), (8, 0), (1, 0), (1, kind), (2, home), (1, 0x80), (3, 0)]

theorem meets_AllocationAndMemoryCommandsComplete :
    let s := cmdHome
    let o : State := { s with xpt := { s.xpt with cons := (7, { st := .opened }) :: s.xpt.cons } }
    let h : State := { o with pilot := { o.pilot with busy := some { opcode := 0x30, pkt := allocPk 0x800000 1 7, since := 0, waiting := true } } }
    (let fit (p : CmdPkt) (st base : Nat) (t : State) : Bool :=
       passes t 0x30 p && allocRangeOk p && (p.f 8 8 = base) && (p.f 0x19 1 = st)
     (fit (allocPk 0x800000 0 0) 0 0x800000 s && fit (allocPk 0 0 0) 0 0 s && fit (allocPk 0x400000 0 0) 0 0x400000 s &&
       fit (allocPk 0x800000 1 7) 1 0x800000 s && fit (allocPk 0x800000 1 7) 1 0x800000 o) = true ∧
       s.allocFits .loc 1 0 0x800000 = true ∧ s.allocFits .loc 1 0 0 = true ∧
       s.overlaps 0x800000 0x200000 = false ∧ s.overlaps 0x400000 0x200000 = true ∧
       (o.con 7).st = .opened ∧ (s.con 7).st ≠ .opened) ∧
    (h.takeCir 7 (fun o => o.isMsg 0x0D 0x800000) = some h ∧ h.waitingPkt 0x30 = some (allocPk 0x800000 1 7) ∧
      (allocPk 0x800000 1 7).f 0x1A 2 = 7 ∧ h.allocFits .peer 1 0 0x800000 = true) ∧
    (let p := be [(8, 0x200000), (8, 0x400000)]
     let q := be [(8, 0x200000), (8, 0x200000)]
     let t := cmdHome { dirs := [(2, { readers := [7], await := [7] })] }
     let u : State := { t with pilot := { t.pilot with busy := some { opcode := 0x31, pkt := p, since := 0, waiting := false } } }
     (s.takes s 0x31 p ∧ s.takes s 0x31 q ∧ t.takes t 0x31 p) ∧
       s.wholeAllocs (p.f 0 8) (p.f 8 8) ≠ [] ∧ s.wholeAllocs (q.f 0 8) (q.f 8 8) = [] ∧
       s.freeReady (allocPages (s.wholeAllocs (p.f 0 8) (p.f 8 8))) = true ∧
       t.freeReady (allocPages (t.wholeAllocs (p.f 0 8) (p.f 8 8))) = false ∧
       u.busyPkt 0x31 = some p ∧ 2 ∈ allocPages (u.wholeAllocs (p.f 0 8) (p.f 8 8)) ∧ 7 ∈ (u.dir 2).await) ∧
    (let p := be [(8, 0x200000), (8, 0x400000), (1, 4), (7, 0)]
     let t := { s with cirrus := { s.cirrus with capFree := 255 } }
     (s.takes s 0x32 p ∧ t.takes t 0x32 p) ∧ p.f 0x11 7 = 0 ∧ p.f 0x10 1 = 4 ∧
       s.wholeAllocs (p.f 0 8) (p.f 8 8) ≠ [] ∧ (∀ x ∈ s.wholeAllocs (p.f 0 8) (p.f 8 8), x.2.kind = .loc) ∧
       strengthNeed (s.wholeAllocs (p.f 0 8) (p.f 8 8)) 4 = 256 ∧ t.cirrus.capFree = 255) := by
  refine ⟨by decide +kernel, by decide +kernel, ⟨⟨takes_of ?_, takes_of ?_, takes_of ?_⟩, ?_⟩, ⟨takes_of ?_, takes_of ?_⟩, ?_⟩ <;>
  decide +kernel

/-- FUSE_REPAIR is signed, so its witness takes a signature that verifies. -/
theorem meets_FuseRepairCompletes :
    let s := cmdHome
    let p := fun k n => pkSigned (beBytes 1 k ++ beBytes 1 0 ++ beBytes 2 n ++ beBytes 1 31 ++ beBytes 1 0 ++ beBytes 2 4095)
    (Config.edVerify [1] (signedBytes 0x74 (p 0 3)) (p 0 3).sig = true → ∃ u, s.takes u 0x74 (p 0 3)) ∧
    (Config.edVerify [1] (signedBytes 0x74 (p 1 255)) (p 1 255).sig = true → ∃ u, s.takes u 0x74 (p 1 255)) ∧
    ((p 0 3).f 1 1 = 0 ∧ (p 0 3).f 4 1 = 31 ∧ (p 0 3).f 5 1 = 0 ∧ (p 0 3).f 6 2 = 4095 ∧ (p 0 3).f 2 2 = 3 ∧
      (p 0 3).f 0 1 = 0 ∧ (p 1 255).f 0 1 = 1 ∧ (p 1 255).f 2 2 = 255) ∧
    (s.repairClaimed 0 3 = false ∧ s.fuseLeft 0 3 31 ≠ 0) ∧
    (s.repairClaimed 1 255 = false ∧ s.fuseLeft 1 255 31 ≠ 0) ∧
    (s.modTc 3 (fun c => { c with fuse := some (0, 0) })).repairClaimed 0 3 = true := by
  refine ⟨fun h => ⟨_, takes_signed ?_ h⟩, fun h => ⟨_, takes_signed ?_ h⟩, ?_⟩ <;> decide +kernel

/-- The same device while a command goes on. -/
def busyWith (s : State) (op : Nat) (p : CmdPkt) (waiting : Bool := false) : State :=
  { s with pilot := { s.pilot with busy := some { opcode := op, pkt := p, since := 0, waiting := waiting } } }

/-- A free page is there for RETIRE_PAGE where page 9 is not reserved. -/
theorem freePage_ne_none {s : State} (h : s.cirrus.capFree + s.cirrus.capRes ≠ 0) {p : Nat} (hp : p < pageCount)
    (hf : s.pageFree p = true) : s.freePage ≠ none := by
  unfold State.freePage
  dsimp only
  rw [if_neg h]
  split
  · simp
  · intro hn
    rw [List.find?_eq_none] at hn
    exact hn p (List.mem_range.mpr hp) hf

/-- Every channel is ready. -/
def allReady (s : State) : State :=
  { s with pilot := { s.pilot with ready := 0x3F#600 ||| ((1#600 <<< 256) - 1#600) <<< 26 } }

/-- The page that RETIRE_PAGE names at its end holds nothing; the free page of its start is 9. -/
theorem meets_MaintenanceCommandsComplete :
    let s := allReady cmdHome
    let r := cmdHome { retired := [1] }
    let off := s.modCh 255 (fun d => { d with en := false })
    let wait := s.modCh 255 (fun d => { d with maint := 3 })
    let out := { s.modCh 255 (fun d => { d with en := false, listed := true }) with
      flash := { s.flash with mapout := [255] } }
    (let p := be [(4, 1)]
     s.takes s 0x70 p ∧ r.takes r 0x70 p ∧ p.f 0 4 < pageCount ∧ p.f 0 4 ∈ r.cirrus.retired ∧
       p.f 0 4 ∉ s.cirrus.retired ∧ s.flash.retPages.length < 4096 ∧ s.cirrus.capFree ≠ 0 ∧
       (Config.reservedPage 9 = false → s.freePage ≠ none)) ∧
    (let p := be [(2, 255), (1, 47), (1, 0)]
     (s.takes s 0x71 p ∧ wait.takes wait 0x71 p) ∧ p.f 3 1 = 0 ∧ p.f 0 2 = 255 ∧ p.f 2 1 = 47 ∧
       (s.ch 255).en = true ∧ (s.ch 255).bankret.getLsbD 47 = false ∧ (s.ch 255).maint = 0 ∧
       (wait.ch 255).en = true ∧ (wait.ch 255).bankret.getLsbD 47 = false ∧ (wait.ch 255).maint ≠ 0) ∧
    (let p := be [(2, 255), (1, 0), (1, 0)]
     s.takes s 0x72 p ∧ p.f 3 1 = 0 ∧ p.f 0 2 = 255 ∧ p.f 2 1 = 0 ∧
       (s.uses (inChan 255)).length ≤ s.freeElsewhere 255) ∧
    (let p := be [(2, 255), (1, 1), (1, 0)]
     out.takes out 0x72 p ∧ p.f 3 1 = 0 ∧ p.f 0 2 = 255 ∧ p.f 2 1 = 1 ∧ 255 ∈ out.flash.mapout) ∧
    (let p := be [(2, 255), (2, 0)]
     let bad := off.modCh 255 (fun d => { d with maint := 3 })
     (off.takes off 0xB0 p ∧ bad.takes bad 0xB0 p) ∧ p.f 2 2 = 0 ∧ p.f 0 2 = 255 ∧ (off.ch 255).en = false ∧
       off.chOn 255 = true ∧ (off.ch 255).maint = 0 ∧ (bad.ch 255).en = false ∧ (bad.ch 255).maint ≠ 0) ∧
    (let f := be [(8, 0x200000), (8, 0x400000)]
     let p := be [(4, 1)]
     let c := { busyWith s 0x21 (pk []) with sec := { s.sec with staged := some [1] } }
     ({ pilotFault := true : CompleteIn }.pilotFault = true ∧ (busyWith s 0x31 f).pilot.busy ≠ none) ∧
     (busyWith s 0x31 f).freeReady (allocPages ((busyWith s 0x31 f).wholeAllocs (f.f 0 8) (f.f 8 8))) = true ∧
     c.sec.staged = some [1] ∧
     (let e := be [(4, 50)]
      let t := busyWith s 0x70 e
      let b : Busy := { opcode := 0x70, pkt := e, since := 0, waiting := false }
      t.noPin t.cirrus.moving = true ∧ e.f 0 4 = 50 ∧
        ({ t with cirrus := { t.cirrus with moving := [1] } } : State).movesGo b = true ∧
        (((t.foundUe true (inPpn 50) [0x6400000]).1).emptyPpn 50).emptied (inPpn 50) = true) ∧
     (busyWith s 0x60 p true).pilot.busy ≠ none ∧
     (let b : Busy := { opcode := 0x60, pkt := pk [], since := 0, waiting := true }
      let late : State := { s with pilot := { s.pilot with busy := some b, stamp := 100000 } }
      late.pilot.busy = some b ∧ b.pkt.deadline.toNat * 100000 ≤ (late.pilot.stamp - b.since).toNat ∧
        ((99999 : Dword) - b.since).toNat < b.pkt.deadline.toNat * 100000)) := by
  refine ⟨⟨takes_of ?_, takes_of ?_, ?_, ?_, ?_, ?_, ?_, fun h => freePage_ne_none (p := 9) ?_ ?_ ?_⟩, ⟨⟨takes_of ?_, takes_of ?_⟩, ?_⟩,
    ⟨takes_of ?_, ?_⟩, ⟨takes_of ?_, ?_⟩, ⟨⟨takes_of ?_, takes_of ?_⟩, ?_⟩, ?_⟩
  all_goals first
    | decide +kernel
    | (unfold State.pageFree; rw [h]; decide +kernel)

/-- Parameters of SET_ADDRESS that write entry 1023 of the peer table. -/
def addr1023 (first : Nat) : CmdPkt :=
  pkSigned (beBytes 1 1 ++ beBytes 1 0 ++ beBytes 2 first ++ beBytes 2 1 ++ beBytes 2 0 ++ beBytes 24 0)

/-- A membership list with one peer, of sequence number 1. -/
def listed : List Byte := [0x4E, 0x51, 0x4D, 0x4C, 1, 0, 1, 0, 0, 0, 0, 0, 0, 0, 0, 0, 1] ++ List.replicate 231 0

/-- A bundle with one word and no slots, of sequence number 1. -/
def bundled : List Byte := [0x4E, 0x51, 0x44, 0x54, 1, 0, 1, 0, 1] ++ List.replicate 207 0

theorem meets_SecurityCommandsComplete :
    let s := cmdHome
    let o := { s with flash := { s.flash with owner := none } }
    (let p := pk (List.replicate 96 1)
     s.takes s 0x10 p ∧ o.takes o 0x10 p) ∧
    (let m : State := { s with mem := (listed.zipIdx 0x200000).filterMap (fun x => if x.1 = 0 then none else some (x.2, x.1)) }
     let p := be [(8, 0x200000), (4, 0xF8), (4, 0)]
     let v := (m.readObj 0x200000 16).1
     m.takes m 0x13 p ∧ p.f 12 4 = 0 ∧ p.f 8 4 = 0xF8 ∧ m.inAlloc 0x200000 0xF8 = true ∧
       (m.readObj 0x200000 16).2 = .ok (listed.take 16) false ∧ (v.readObj 0x200000 0xF8).2 = .ok listed false ∧
       listOk listed = true ∧ 0xF8 = 0x80 + 120 * bfield listed 6 2 + 40 * bfield listed 8 1 ∧
       v.flash.owner = some [1] ∧ v.flash.lseq.toNat < bfield listed 0x10 8 ∧
       (devKey = List.replicate 32 0 → (listPeers listed).find? (fun e => bslice e 8 32 = devKey) =
         some (List.replicate 120 0))) ∧
    (let m : State := { s with mem := (bundled.zipIdx 0x200000).filterMap (fun x => if x.1 = 0 then none else some (x.2, x.1)) }
     let p := be [(8, 0x200000), (4, 0xD8), (4, 0)]
     let v := (m.readObj 0x200000 16).1
     let busy : State := { m with lans := [(0, { halt := { halted := true } })] }
     m.takes m 0x90 p ∧ busy.takes busy 0x90 p ∧ p.f 12 4 = 0 ∧ p.f 8 4 = 0xD0 + 8 * bunWords bundled ∧
       (m.readObj 0x200000 16).2 = .ok (bundled.take 16) false ∧ (v.readObj 0x200000 0xD8).2 = .ok bundled false ∧
       bunOk bundled = true ∧ v.flash.owner = some [1] ∧ v.flash.dtseq.toNat < bfield bundled 8 4 ∧
       v.anyKernel = false ∧ busy.anyKernel = true) ∧
    (listOk [] = false ∧ bunOk [] = false) ∧
    (let p := be [(2, 1024), (2, 0)]
     let q := be [(2, 1087), (2, 0)]
     let t := { s with flash := { s.flash with addr := { s.flash.addr with
       set := true, hosts := [(63, { valid := true })] } } }
     (s.takes s 0x11 p ∧ s.takes s 0x11 q ∧ t.takes t 0x11 q) ∧ (s.addrEntry 1024).valid = true ∧
       (s.con 1024).st = .opened ∧ (s.addrEntry 1087).valid = false ∧ (t.addrEntry 1087).valid = true ∧
       (t.con 1087).st ≠ .opened ∧ t.remoteFirst 1087 = false) ∧
    ((Config.edVerify [1] (signedBytes 0x50 (addr1023 1023)) (addr1023 1023).sig = true →
        ∃ u, s.takes u 0x50 (addr1023 1023)) ∧
      (Config.edVerify [1] (signedBytes 0x50 (addr1023 1024)) (addr1023 1024).sig = true →
        ∃ u, s.takes u 0x50 (addr1023 1024)) ∧
      addressOk (addr1023 1023) = true ∧ addressOk (addr1023 1024) = false) ∧
    (let p := pkSigned (beBytes 8 0x200000 ++ beBytes 4 0x4000000 ++ beBytes 4 0)
     (Config.edVerify [1] (signedBytes 0x20 p) p.sig = true → ∃ u, s.takes u 0x20 p) ∧
       p.f 12 4 = 0 ∧ p.f 8 4 = 0x4000000 ∧ s.recovering = false) ∧
    (let p := pkSigned (List.replicate 64 1)
     let t := { s with sec := { s.sec with staged := some [1] } }
     (Config.edVerify [1] (signedBytes 0x21 p) p.sig = true → (∃ u, s.takes u 0x21 p) ∧ ∃ u, t.takes u 0x21 p) ∧
       t.sec.staged = some [1] ∧ s.sec.staged = none ∧ (Config.sha512 [1] = List.replicate 64 1 → p.bytes 0 64 = Config.sha512 [1])) := by
  refine ⟨⟨takes_of ?_, takes_of ?_⟩, ⟨takes_of ?_, ?_, ?_, ?_, ?_, ?_, ?_, ?_, ?_, ?_, ?_⟩, ⟨takes_of ?_, takes_of ?_, ?_⟩, ?_,
    ⟨⟨takes_of ?_, takes_of ?_, takes_of ?_⟩, ?_⟩, ⟨fun h => ⟨_, takes_signed ?_ h⟩, fun h => ⟨_, takes_signed ?_ h⟩, ?_⟩,
    ⟨fun h => ⟨_, takes_signed ?_ h⟩, ?_⟩, ⟨fun h => ⟨⟨_, takes_signed ?_ h⟩, _, takes_signed ?_ h⟩, ?_, ?_, ?_⟩⟩
  all_goals first
    | decide +kernel
    | (intro h; rw [h]; decide +kernel)

/-- A checkpoint to endpoint 0, a restore from it, and the lanterns and domains the other commands name. -/
theorem meets_ControlCommandsComplete :
    let s := cmdHome
    let a := cmdHome { active := true }
    let i := { s with pilot := { s.pilot with inflight := true } }
    (s.takes s 0x60 (pk []) ∧ i.takes i 0x60 (pk []) ∧ s.pilot.inflight = false ∧ i.pilot.inflight = true) ∧
    (let p := fun ep len => pk (beBytes 2 4095 ++ beBytes 2 0 ++ beBytes 2 0 ++ beBytes 1 1 ++ beBytes 1 0 ++ beBytes 8 1 ++
       beBytes 1 ep ++ beBytes 7 0 ++ beBytes 8 0 ++ beBytes 8 len ++ beBytes 8 0)
     (s.takes s 0x62 (p 0 0x202000) ∧ a.takes a 0x62 (p 0 0x202000) ∧ s.takes s 0x62 (p 63 0x202000) ∧
         s.takes s 0x62 (p 0 0x201FFF)) ∧
       ckRangeOk (p 0 0x202000) = true ∧ ckRangeOk (p 63 0x202000) = true ∧ ckRangeOk (p 0 0x201FFF) = true ∧
       s.ckPages.length = 1 ∧
       a.cirrus.active = true ∧ (∀ x ∈ ckDests (p 0 0x202000), (s.con (hostCid x.ep)).st = .opened) ∧
       (¬∀ x ∈ ckDests (p 63 0x202000), (s.con (hostCid x.ep)).st = .opened) ∧
       (∃ x ∈ ckDests (p 0 0x201FFF), x.dlen < 0x202000) ∧ ∀ x ∈ ckDests (p 0 0x202000), 0x202000 ≤ x.dlen) ∧
    (let p := pkSigned (beBytes 1 0 ++ beBytes 1 1 ++ beBytes 6 0 ++ beBytes 8 0 ++ beBytes 8 0x1000000 ++ beBytes 64 0 ++
       beBytes 1 63 ++ beBytes 7 0 ++ beBytes 8 0)
     (Config.edVerify [1] (signedBytes 0x63 p) p.sig = true → (∃ u, s.takes u 0x63 p) ∧ ∃ u, a.takes u 0x63 p) ∧
       restoreRangeOk p = true ∧ (s.lans.any (fun x => x.2.gang.isSome) || s.cirrus.active) = false) ∧
    (let p := fun k m => be [(1, k), (1, m), (2, 255)]
     let t (l : Lantern) : State := { s with lans := [(255, l)] }
     let q : State := t (({} : Lantern).modArr 7 (fun a => { a with quar := true }))
     let c : State := t { svc := { quarPend := true } }
     (s.takes s 0x75 (p 1 7) ∧ s.takes s 0x75 (p 0 0) ∧ q.takes q 0x75 (p 1 7) ∧ c.takes c 0x75 (p 1 7)) ∧
       (p 1 7).f 0 1 = 1 ∧ (p 0 0).f 0 1 = 0 ∧ (p 1 7).f 1 1 = 7 ∧ (p 1 7).f 2 2 = 255 ∧ s.lanOn 255 = true ∧
       (s.lan 255).claimed = false ∧ ((s.lan 255).arr 7).quar = false ∧ (s.lan 255).svc.noSpare = false ∧
       255 ∉ s.pilot.quars ∧ 255 ∈ { s.pilot with quars := [255] }.quars ∧
       (let n : State := { s with pilot := { s.pilot with quars := [255] } }
        n.takes n 0x75 (p 0 0)) ∧
       ((q.lan 255).arr 7).quar = true ∧ (c.lan 255).claimed = true ∧ ((c.lan 255).arr 7).quarReq = false) ∧
    (let p := fun d on => be [(1, d), (1, on), (2, 0)]
     let t (b : BitVec 30) (r : BitVec 600) : State :=
       { s with pwr := { on := b }, pilot := { s.pilot with ready := r } }
     let u := t 0x3FFFFFFE#30 0x3F#600
     let v := t 0x3FFFFFFE#30 (0x3F#600 ||| 0x400000#600)
     let w : State := { s with lans := [(0, { svc := { wasReady := true, en := true } })] }
     let x : State := { s with lans := (List.range 16).map (fun n => (n, { svc := { wasReady := true } })) }
     (s.takes s 0xA0 (p 0 1) ∧ u.takes u 0xA0 (p 0 1) ∧ v.takes v 0xA0 (p 0 1)) ∧
       (s.takes s 0xA0 (p 29 0) ∧ x.takes x 0xA0 (p 0 0) ∧ w.takes w 0xA0 (p 0 0)) ∧
       (p 29 0).f 0 1 = 29 ∧ (p 0 1).f 1 1 = 1 ∧ (p 0 0).f 1 1 = 0 ∧ (p 0 0).f 2 2 = 0 ∧ s.pwr.shut = false ∧
       s.powered 0 = true ∧ u.powered 0 = false ∧ u.isReady (readyTc (domTile 0)) = false ∧ v.powered 0 = false ∧
       v.isReady (readyTc (domTile 0)) = true ∧ x.mayOff 0 = true ∧ w.mayOff 0 = false) := by
  refine ⟨⟨takes_of ?_, takes_of ?_, ?_, ?_⟩, ⟨⟨takes_of ?_, takes_of ?_, takes_of ?_, takes_of ?_⟩, ?_⟩,
    ⟨fun h => ⟨⟨_, takes_signed ?_ h⟩, _, takes_signed ?_ h⟩, ?_⟩,
    ⟨⟨takes_of ?_, takes_of ?_, takes_of ?_, takes_of ?_⟩, ?_, ?_, ?_, ?_, ?_, ?_, ?_, ?_, ?_, ?_, takes_of ?_, ?_⟩,
    ⟨⟨takes_of ?_, takes_of ?_, takes_of ?_⟩, ⟨takes_of ?_, takes_of ?_, takes_of ?_⟩, ?_⟩⟩ <;>
  decide +kernel

/-! ### Transport -/

/-- Conduit 1024 is in state `k`, and the link is up. -/
def linked (k : Conduit) (x : Xpt := {}) : State :=
  { onDram [(1, here)] with
    xpt := { x with up := true, cons := [(1024, k)] }
    flash := { owner := some [1], addr := { set := true, ip := 5, mac := 6, port := 7000 } }
    pilot := { started := true, ready := 0x3F#600 } }

theorem meets_LinkCompletes :
    let s (x : Xpt) : State := { linked { st := .opened } with xpt := x }
    (s {}).portOn = true ∧
    (let u := s { lock := 0xFF }
     u.xpt.up = false ∧ u.xpt.held = false ∧ ∀ j, j < (if u.xpt.mode800 then 4 else 8) → u.xpt.lock.getLsbD j = true) ∧
    (let u := s { up := true, lock := 0x7F, upAge := some 19999999 }
     u.xpt.up = true ∧ u.xpt.upAge = some 19999999 ∧
       ¬∀ j, j < (if u.xpt.mode800 then 4 else 8) → u.xpt.lock.getLsbD j = true) ∧
    (let u := { linked { st := .opened } with flash := {} }
     (u.con 1024).st = .opened ∧ (u.con 1024).reqs = [] ∧ u.ckpt = none ∧ u.flash.addr.hosts = []) := by
  decide

/-- A packet of endpoint 0 to the device `linked` describes. -/
def packet (typ : Byte) (payload : List Byte) (epoch : Byte := 0) : Packet :=
  { dstMac := 6, dstIp := 5, dstPort := 7000, vlan := none, checksumOk := true, plain := true, congested := false
    ver := 1, typ := typ, dcid := 1024, psn := 0, ack := 1, plen := BitVec.ofNat 16 payload.length, ece := false
    retx := false, epoch := epoch, xsn := 0, payload := payload, tag := 0 }

/-- What is opened of a packet is opaque, so the witness takes it: 32 bytes of a DATA packet with a FLUSH. -/
theorem meets_PacketsComplete :
    let t : TxPkt := { psn := 0, typ := typData, payload := [], sent := true }
    let k : Conduit := { st := .opened, psnTx := 1, unacked := [t] }
    let body : List Byte := 3 :: List.replicate 31 0
    (linked k).linkUp = true ∧ ((linked { k with ackDue := true }).con 1024).ackDue = true ∧
    (((linked k).con 1024).unacked.find? (fun t => t.sent) = some t ∧ k.expiries = 0 ∧
      ((linked { k with expiries := 11 }).con 1024).expiries = 11) ∧
    List.find? (fun (c : Nat × Conduit) => c.2.st = .opened && c.2.ackOut) (linked { k with ackOut := true }).xpt.cons =
      some (1024, { k with ackOut := true }) ∧
    List.find? (fun (c : Nat × Conduit) => c.2.st = .opened && c.2.ackOut) (linked k).xpt.cons = none ∧
    (linked { k with unacked := [{ t with sent := false }] }).txPick = some (1024, { t with sent := false }) ∧
    (linked { k with unacked := [{ t with typ := typReply, sent := false }] }).txPick =
      some (1024, { t with typ := typReply, sent := false }) ∧
    ((linked k).con 1024).xsn.toNat < 2 ^ 32 ∧
    (let p := packet typData body
     p.dcid.toNat = 1024 ∧ (linked k).hdrOk p = true ∧
       k.openPkt (pktHdr (packet typData body 5)) 5 0 (body ++ beBytes 16 0) = none ∧
       (linked k).hdrOk (packet typData body 5) = true ∧ p.psn = k.ackTx ∧ k.reorder = [] ∧
       (∀ c, Config.gcmOpen (epochKey k.secRx) (beBytes 8 0 ++ List.replicate 4 0) (pktHdr p) c = some body →
         k.openPkt (pktHdr p) 0 0 c = some (k, body)) ∧
       ∃ o, parseOp body = some o ∧ opFault 1024 o = 0) ∧
    ((linked k).hdrOk (packet typAck []) = true ∧ psnBelow k.ackRx 1 = true ∧ psnBelow k.psnTx 1 = false ∧
      (∀ c, Config.gcmOpen (epochKey k.secRx) (beBytes 8 0 ++ List.replicate 4 0) (pktHdr (packet typAck [])) c = some [] →
        k.openPkt (pktHdr (packet typAck [])) 0 0 c = some (k, []))) ∧
    ((linked k).hdrOk (packet 2 body) = true ∧ (packet 2 body).fecBad = 0 ∧ (packet 2 body).psn = k.ackTx ∧
      (∀ c, Config.gcmOpen (epochKey k.secRx) (beBytes 8 0 ++ List.replicate 4 0) (pktHdr (packet 2 body)) c = some body →
        k.openPkt (pktHdr (packet 2 body)) 0 0 c = some (k, body))) ∧
    ({ packet typData body with fecBad := 1 }.fecBad ≠ 0 ∧ { packet typData body with fecBad := 1 }.typ ≠ typAck ∧
      (packet typData body).fecBad = 0 ∧ (packet typAck []).fecBad = 0) ∧
    ((5 : BitVec 128) = (linked k).ownIp ∧ 4 ≠ (linked k).ownIp) := by
  refine ⟨by decide, by decide, by decide, by decide, by decide, by decide, by decide, by decide,
    ⟨by decide, by decide, by decide, by decide, by decide, by decide, ?_, _, rfl, by decide⟩,
    ⟨by decide, by decide, by decide, ?_⟩, ⟨by decide, by decide, by decide, ?_⟩, by decide, by decide⟩ <;>
  · intro c h
    rw [Conduit.openPkt]
    exact (if_pos rfl).trans (congrArg (Option.map (Prod.mk _)) h)

/-- An operation. -/
def op (code : Byte) (addr : Dword := 0x200000) (len : Nat := 0) (data : List Byte := []) (status : Byte := 0) : DpOp :=
  { op := code, status := status, len := len, rid := 0, addr := addr, opnd := 0, pmap := 0, data := data }

theorem meets_OperationsComplete :
    let s (o : DpOp) (rq : List (Word × Byte × ReqFor) := []) := linked { st := .opened, ops := [o], reqs := rq }
    (let r := op 1 0x200000 8
     (s r).planeDown = false ∧ (s r).opAt 1024 0 1 = some r ∧ (s r).mayAccess 1024 0 r = true ∧
       ((s r).touchRange (.conduit 1024) false (pieces 0x200000 8)).2 = .ok ∧
       ((s (op 1 0 8)).touchRange (.conduit 1024) false (pieces 0 8)).2 = .unmapped 0 ∧ (s (op 1 0 8)).opAt 1024 0 1 = some (op 1 0 8)) ∧
    (let w := op 2 0x200000 1 [7]
     (s w).opAt 1024 0 2 = some w ∧ (s w).mayAccess 1024 0 w = true ∧
       ((s w).touchRange (.conduit 1024) true (pieces 0x200000 1)).2 = .ok ∧
       ((s w).touchRange (.conduit 1024) true (pieces 0x400000 1)).2 = .unmapped 0x400000) ∧
    ((s (op 3)).mayOrder 1024 0 = true ∧ (s (op 3)).opAt 1024 0 3 = some (op 3) ∧ (s (op 4)).opAt 1024 0 4 = some (op 4) ∧
      (s (op 5)).opAt 1024 0 5 = some (op 5) ∧ (s (op 6)).opAt 1024 0 6 = some (op 6)) ∧
    (((s (op 6)).fetchAdd (.conduit 1024) 0x200000 0).2 = .done 0 ∧ ((s (op 6)).fetchAdd (.conduit 1024) 0x400000 0).2 = .status 1) ∧
    ((0x1000 : Dword).toNat % 4096 + 4096 ≤ 4096) ∧
    (let f (a b : Byte) : Bool :=
       let o := op a
       let u := s o [(0, b, .host)]
       (s o).opAt 1024 0 a.toNat = some o && u.opAt 1024 0 a.toNat = some o &&
         (((s o).opDone 1024 0).con 1024).reqs.find? (fun r => r.1 = o.rid && r.2.1 = b) = none &&
         ((u.opDone 1024 0).con 1024).reqs.find? (fun r => r.1 = o.rid && r.2.1 = b) = some (0, b, .host)
     (f 0x81 0x01 && f 0x83 0x03 && f 0x86 0x06 && f 0x87 0x07) = true) ∧
    (let o := op 0x86
     let u := s o [(0, 6, .xrq 255)]
     u.opAt 1024 0 0x86 = some o ∧ u.lanOn 255 = true ∧
       ((u.opDone 1024 0).con 1024).reqs.find? (fun r => r.1 = o.rid && r.2.1 = 0x06) = some (0, 6, .xrq 255)) ∧
    ((s (op 3)).lanOn 255 = true ∧ (0 : Word).getLsbD 31 = false ∧ (0x80000000 : Word).getLsbD 31 = true ∧
      ((s (op 3)).lan 255).xrq.busy = false) := by
  refine ⟨?_, ?_, ?_, ⟨?_, ?_⟩, ?_, ?_, ?_, ?_⟩ <;> decide +kernel

/-- A HELLO or an ANSWER of the anonymous endpoint or of the owner, and handshakes on either side. -/
theorem meets_HandshakesComplete :
    let s (k : Conduit) := linked k
    let m (msg role : Byte) (key : Byte) : List Byte := [msg, role] ++ List.replicate 38 0 ++ List.replicate 32 key ++ List.replicate 64 0
    let anon : State := { linked {} with flash := { owner := none, addr := { set := true, hosts := [(0, { valid := true })] } } }
    let h (i : Bool) (role : Byte) : Hs := { initiator := i, hello := m 1 role 0, answer := [], priv := [] }
    ((s {}).linkUp = true ∧ 1024 < 1088) ∧
    (anon.isReady 3 = true ∧ (m 1 2 0).length = 136 ∧ anon.helloOk 1024 (m 1 2 0) = true ∧ (anon.con 1024).hs = none ∧
      anon.linkUp = true) ∧
    (hsMsg (m 2 0 1) = 2 ∧ ((s { hs := some (h true 0) }).con 1024).hs = some (h true 0) ∧
      (s { hs := some (h true 0) }).answerOk 1024 (h true 0) (m 2 0 1) = false) ∧
    (let u := { s { hs := some (h true 1) } with flash := { owner := some (List.replicate 32 1) } }
     let a := m 2 1 1
     Config.edVerify (hsIdkey a) (ascii "NQ288 answer" ++ hsTa (h true 1).hello a) (hsSig a) = true →
       u.answerOk 1024 (h true 1) a = true) ∧
    (hsMsg (m 3 0 0) = 3 ∧ ((s { hs := some (h false 2) }).con 1024).hs = some (h false 2) ∧
      hsRole (h false 2).hello = 2) ∧
    ((s {}).con 1024).st ≠ .opened ∧ (s {}).pilot.busy = none := by
  refine ⟨by decide +kernel, by decide +kernel, ⟨by decide +kernel, by decide +kernel, ?_⟩, ?_, by decide +kernel, by decide +kernel⟩
  · exact Bool.and_eq_false_iff.mpr (Or.inl (by decide +kernel))
  · intro u a hv
    exact Bool.and_eq_true_iff.mpr ⟨by decide +kernel, hv⟩

/-! ### Reset, bring-up and environment -/

theorem meets_ResetInputsAndTapComplete :
    let s (st : Start) (t : Tap) : State := { State.reset with start := st, tap := t }
    (s {} {}).start.phase = .reset ∧ (s { phase := .waitRef } {}).start.phase = .waitRef ∧
    (s { phase := .locking } {}).start.phase = .locking ∧ (s { pgIn := true } {}).start.pgIn = true ∧
    (s {} {}).start.pgIn = false ∧ 5 ≤ (15 : BitVec 4).toNat ∧ (s {} { locked := true }).tap.locked = true ∧
    (s {} {}).tap.locked = false ∧ (s {} { instr := .clamp }).tap.instr = .clamp ∧
    (s {} { instr := .highz }).tap.instr = .highz ∧ (s {} {}).tap.instr = .idcode := by
  decide

theorem meets_BringUpCompletes :
    let s (f : Start → Start) : State := { onLan {} with start := f {} }
    (let u := s (fun t => { t with phase := .bootRom })
     u.start.phase = .bootRom ∧ u.romWaits = false) ∧
    (let u := { State.reset with start := { phase := .starting } }
     u.start.phase = .starting ∧ u.start.eligible = [] ∧ u.start.switched = [] ∧ u.pwr.on = 0) ∧
    (let u := { s (fun t => { t with phase := .up }) with lans := [], pilot := { ready := 5 } }
     u.isReady 1 = false ∧ u.start.secFailed = false ∧ u.isReady 2 = true ∧ u.bundleOk = false ∧
       { u with flash := { u.flash with list := some [1] } }.flash.list = some [1] ∧
       (let b : State := { u with flash := { u.flash with owner := some [1] } }
        Config.edVerify [1] ([].take (0x90 + 8 * bunWords [])) ([].drop (0x90 + 8 * bunWords [])) = true → b.bundleOk = true)) ∧
    ((s (fun t => { t with eligible := [16] })).start.eligible = [16] ∧
      (let u := s (fun t => { t with eligible := [16] })
       u.pilot.started = true ∧ u.msPast u.start.lastOn = true ∧ u.msPast (some 0) = false ∧
         ({ u with pilot := {} } : State).pilot.started = false) ∧
      (let u := s (fun t => { t with switched := [0, 20] })
       0 ∈ u.start.switched ∧ 20 ∈ u.start.switched ∧ u.busyPkt 0xA0 = none ∧ 255 ∉ u.flash.mapout)) ∧
    (let u := { s (fun t => t) with
       lans := [(255, { svc := { testing := true } })], pilot := { ready := 2 }
       tcs := [(3, { testing := true })], engines := [(15, { testing := true })] }
     (u.lanOn 255 = true ∧ (u.lan 255).svc.testing = true ∧ u.isReady 1 = true ∧ 6 ≤ (u.lan 255).narr ∧
       u.disp.queues = []) ∧ (u.tcOn 3 = true ∧ (u.tc 3).testing = true) ∧
       u.engOn 15 = true ∧ (u.eng 15).testing = true) ∧
    (let u := { s (fun t => t) with
       pilot := { ready := 2#600 ||| 15#600 <<< 22 }, chs := (List.range 256).map (fun c => (c, { tfail := 1 })) }
     let v := { u with pilot := { ready := 2#600 ||| 15#600 <<< 22 ||| (1#600 <<< 224 - 1#600) <<< 26 } }
     v.tc0On = true ∧ v.isReady 5 = false ∧ v.start.cirrusFailed = false ∧ v.recovering = false ∧
       (∀ b ∈ [1, 22, 23, 24, 25], v.isReady b = true) ∧ (∀ c, c < 256 → v.settled c = true) ∧
       ((List.range 256).filter (fun c => !v.isReady (readyCh c))).length = 32) := by
  refine ⟨by decide +kernel, by decide +kernel, ⟨?_, ?_, ?_, ?_, ?_, fun h => h⟩, by decide +kernel, by decide +kernel, ?_⟩ <;> decide +kernel

/-! ### Steps -/

theorem meets_IdleStepAndReset :
    let s (r : Option Nat) : State := { State.reset with pilot := { resetIn := r } }
    ((s none).pending = [] ∧ (s (some 2)).pilot.resetIn = some 2 ∧ (s (some 1)).pilot.resetIn = some 1) ∧
    (let m (x : Option Dword) : State := { onLan {} with pilot := { rateBusy := true, rateFirst := x }, xpt := { upAge := some 0 } }
     (m none).pending = [] ∧ (m none).pilot.resetIn = none ∧ (m none).pilot.rateBusy = true ∧
       (m none).pilot.rateFirst = none ∧ (m (some 5)).pilot.rateFirst = some 5 ∧ (m none).xpt.upAge = some 0 ∧
       (m none).lanOn 0 = true ∧ (m none).lans.find? 0 = some {} ∧ (m none).lanOn 256 = false ∧
       (ringBoundsAt ((m none).veff 0) ((m none).lanTemp 0)).1 < 2 ^ 64 ∧
       (ringBoundsAt ((m none).veff 0) ((m none).lanTemp 0)).2 < 2 ^ 64) := by
  decide +kernel

theorem meets_StepKeepsMemoryForm :
    (onLan (running {})).memOk ∧ ∃ t, step { onLan {} with mem := [(5, 1)] } = .next t ∧ t.mem = [(5, 1)] :=
  ⟨rfl, _, rfl, rfl⟩

theorem meets_StepKeepsOwner :
    (cmdOn (onLan {})).flash.owner ≠ none ∧ ∃ t, step (cmdOn (onLan {})) = .next t :=
  ⟨by decide, _, rfl⟩

/-! ### Elementwise functions: the FP32 values nearest to e, 1/3, 1/sqrt 2, the logistic of 1 and GELU of 1 -/

theorem test_exp : roundReal {} (elemReal .exp fixOne) = 0x402DF854 := by decide +kernel
theorem test_recip : roundReal {} (elemReal .recip (3 * fixOne)) = 0x3EAAAAAB := by decide +kernel
theorem test_rsqrt : roundReal {} (elemReal .rsqrt (2 * fixOne)) = 0x3F3504F3 := by decide +kernel
theorem test_logi : roundReal {} (elemReal .logi fixOne) = 0x3F3B26A8 := by decide +kernel
theorem test_gelu : roundReal {} (elemReal .gelu fixOne) = 0x3F57585C := by decide +kernel

/-! ### Well-formedness: each check refuses an ill-formed command -/

theorem smoke_lantern : Instr.wf (.nanRecordClear 256) = false ∧ Instr.wf (.nanRecordClear 255) = true := by decide
theorem smoke_array : Instr.wf (.handOff 255 8) = false ∧ Instr.wf (.handOff 255 7) = true := by decide
theorem smoke_upset : Instr.wf (.mmaShareComplete 0 0 [{ row := 32, col := 0, flip := 0 }] .good) = false := by decide
theorem smoke_line_group : Instr.wf (.registerFileError 0 64) = false := by decide
theorem smoke_refill : Instr.wf (.instructionRefill 0 (2 ^ 48)) = false := by decide
theorem smoke_bank : Instr.wf (.refresh 255 48) = false ∧ Instr.wf (.refresh 255 47) = true := by decide
theorem smoke_channel : Instr.wf (.rowClose 256 0) = false := by decide
theorem smoke_physical : Instr.wf (.l1InvalidationAck 0x4800000000) = false := by decide
theorem smoke_parity : Instr.wf (.parityAcknowledgement 0 4) = false := by decide
theorem smoke_way_group : Instr.wf (.wayGroupOn 3 0) = false ∧ Instr.wf (.wayGroupOn 3 3) = true := by decide
theorem smoke_tile_cache : Instr.wf (.tileCacheSelftestEnd 4 0) = false := by decide
theorem smoke_page : Instr.wf (.fetchSlow (2 ^ 27)) = false := by decide
theorem smoke_sub_page : Instr.wf (.subPageArrival 0 32) = false := by decide
theorem smoke_device : Instr.wf (.inv 1024 0) = false := by decide
theorem smoke_map_address : Instr.wf (.mapa 0 (2 ^ 48) 0 0) = false := by decide
theorem smoke_engine : Instr.wf (.copyComplete 16) = false := by decide
theorem smoke_queue : Instr.wf (.resume 64) = false := by decide
theorem smoke_counter : Instr.wf (.evcmdRead 4096) = false := by decide
theorem smoke_unit : Instr.wf (.fuseRepairEffect 0 256) = false := by decide
theorem smoke_source : Instr.wf (.beaconTreeArrival 538) = false ∧ Instr.wf (.beaconTreeArrival 0x400) = true := by decide
theorem smoke_packet : Instr.wf (.ack { packet typAck [] with plen := 1 }) = false := by decide
theorem smoke_conduit : Instr.wf (.ackTimer 1088) = false ∧ Instr.wf (.ackTimer 1087) = true := by decide
theorem smoke_endpoint : Instr.wf (.hread 64 0 0) = false := by decide
theorem smoke_command : Instr.wf (.identify { pk [] with ep := 64 }) = false := by decide
theorem smoke_register : Instr.wf (.blockIdle (regLo + 2)) = false ∧ Instr.wf (.blockIdle (regLo + 4)) = true := by decide
theorem smoke_requester : Instr.wf (.loHalfRead (.wick 256) regLo) = false := by decide
theorem smoke_domain : Instr.wf (.domainPowered 30) = false := by decide
theorem smoke_lane : Instr.wf (.blockLockLost 8) = false := by decide

end Sys2Proof.Tests
end

/-! ## The pilot's queue of records (R28, R30, R332, R404 to R410, R498) -/

namespace Sys2Proof.Machine

open Sys2Proof

/-! ### The fields outside the pilot, the conduits and the beacon sweep -/

section Frame

variable {s t : State} (h : s.SamePRX t)
include h

theorem State.SamePRX.mem : t.mem = s.mem := by rw [h]

theorem State.SamePRX.lans : t.lans = s.lans := by rw [h]

theorem State.SamePRX.cirrus : t.cirrus = s.cirrus := by rw [h]

end Frame

/-! ### The lists of the queue -/

section Lists

variable {α : Type} (p : α → Bool) (f : α → α)

@[simp] theorem length_updFirst (xs : List α) : (updFirst p f xs).length = xs.length := by
  induction xs with
  | nil => rfl
  | cons a t ih => by_cases h : p a <;> simp [updFirst, h, ih]

theorem find?_updFirst (hp : ∀ a, p (f a) = p a) (xs : List α) :
    (updFirst p f xs).find? p = (xs.find? p).map f := by
  induction xs with
  | nil => rfl
  | cons a t ih => by_cases h : p a <;> simp [updFirst, h, hp, ih]

theorem length_delFirst {xs : List α} (h : xs.any p = true) : (delFirst p xs).length + 1 = xs.length := by
  induction xs with
  | nil => simp at h
  | cons a t ih =>
    by_cases ha : p a
    · simp [delFirst, ha]
    · simp [delFirst, ha, ih (by simpa [ha] using h)]

end Lists

/-! ### What announcing a record leaves of the queue -/

/-- The queue, the next number and OVF of `t` are those of `s`. -/
def State.SameLog (s t : State) : Prop :=
  t.pilot.errq = s.pilot.errq ∧ t.pilot.seq = s.pilot.seq ∧ t.pilot.ovf = s.pilot.ovf

theorem State.SameLog.refl (s : State) : s.SameLog s := ⟨rfl, rfl, rfl⟩

theorem State.SameLog.trans {s t u : State} (h : s.SameLog t) (k : t.SameLog u) : s.SameLog u :=
  ⟨k.1.trans h.1, k.2.1.trans h.2.1, k.2.2.trans h.2.2⟩

theorem State.SameLog.foldl {α : Type} {f : State → α → State} (hf : ∀ (s : State) (a : α), s.SameLog (f s a))
    (xs : List α) (s : State) : s.SameLog (xs.foldl f s) := by
  induction xs generalizing s with
  | nil => exact .refl s
  | cons a t ih => exact (hf s a).trans (ih (f s a))

/-- A conditional operation keeps the log when it keeps the log of every state. -/
theorem State.SameLog.ite {s t : State} {c : Prop} [Decidable c] {f : State → State} (h : s.SameLog t)
    (hf : ∀ u : State, u.SameLog (f u)) : s.SameLog (if c then f t else t) := by
  split
  · exact h.trans (hf t)
  · exact h

@[simp] theorem State.send_pilot (s : State) (cid : Nat) (typ : Byte) (payload : List Byte) :
    (s.send cid typ payload).pilot = s.pilot := by
  unfold State.send
  dsimp only
  split
  · exact s.setCon_pilot ..
  · rfl

theorem State.send_sameLog (s : State) (cid : Nat) (typ : Byte) (payload : List Byte) :
    s.SameLog (s.send cid typ payload) := by
  simp [State.SameLog]

theorem State.notify_sameLog (s : State) (kind : Nat) (body : List Byte) : s.SameLog (s.notify kind body) := by
  unfold State.notify
  refine .trans ?_ (.foldl (fun u h => ?_) _ _)
  · exact ⟨rfl, rfl, rfl⟩
  · exact .ite (.refl u) fun v => v.send_sameLog _ _ _

theorem State.beaconTrigger_sameLog (s : State) (src : Nat) : s.SameLog (s.beaconTrigger src) := by
  unfold State.beaconTrigger
  split <;> exact ⟨rfl, rfl, rfl⟩

/-! ### One record (R406 to R409) -/

/-- The record that a new occurrence makes in the queue of `p`, but for RETIRE_URGENT (R404). -/
structure ErrRec.Of (r : ErrRec) (p : Pilot) (x : RecIn) : Prop where
  seq : r.seq = p.seq
  stamp : r.stamp = p.stamp
  src : r.src = x.src
  code : r.code = x.code
  cls : r.cls = x.cls
  devaddr : r.devaddr = x.devaddr
  aux : r.aux = x.aux
  rep : r.rep = 0

/-- An open record of the location counts the occurrence (R408). -/
theorem State.record1_merges {s : State} {x : RecIn} (h : s.pilot.errq.any (fun r => sameLoc r x) = true) :
    s.record1 x = { s with pilot := { s.pilot with
      errq := updFirst (fun r => sameLoc r x)
        (fun r => { r with rep := satAdd 32 r.rep 1, last := s.pilot.stamp }) s.pilot.errq } } :=
  if_pos h

/-- Where room has been made, the occurrence becomes the last record of the queue, with the next number. -/
theorem State.record1_enters {s : State} {x : RecIn} {p : Pilot}
    (hnew : s.pilot.errq.any (fun r => sameLoc r x) = false) (hroom : s.pilot.makeRoom x.cls = (p, true)) :
    ∃ (marked : List ErrRec) (r : ErrRec), marked.length = p.errq.length ∧ r.Of p x ∧
      State.SameLog { s with pilot := { p with errq := marked ++ [r], seq := p.seq + 1 } } (s.record1 x) := by
  unfold State.record1
  rw [if_neg (by simp [hnew]), hroom]
  dsimp only
  rw [if_pos rfl]
  refine ⟨_, _, List.length_map _, ?_, .ite (f := fun u => u.beaconTrigger 2) (.trans
    (.ite (f := fun u => u.notify 1 _) (.refl _) fun u => u.notify_sameLog ..)
    (.foldl (fun u o => u.notify_sameLog ..) ..)) fun u => u.beaconTrigger_sameLog 2⟩
  exact ⟨rfl, rfl, rfl, rfl, rfl, rfl, rfl, rfl⟩

/-- A queue below 256 records has room (R406). -/
theorem Pilot.makeRoom_of_lt {p : Pilot} (cls : Nat) (h : p.errq.length < 256) : p.makeRoom cls = (p, true) :=
  if_pos h

/-- A full queue with a CE record gives up the oldest of them (R406). -/
theorem Pilot.makeRoom_of_ce {p : Pilot} (cls : Nat) (h : 256 ≤ p.errq.length)
    (hce : p.errq.any (fun r => r.cls = clsCe) = true) :
    p.makeRoom cls = ({ p.addOvf with errq := delFirst (fun r => r.cls = clsCe) p.errq }, true) := by
  have hc : evictClass p.errq = some clsCe := if_pos hce
  simp [Pilot.makeRoom, Nat.not_lt.2 h, hc]

/-! ### Records that a running pilot enters -/

theorem State.record_started {s : State} (h : s.pilot.started = true) (x : RecIn) : s.record x = s.record1 x :=
  if_pos h

/-! ### The local-store row of an SRAM_UE (R332, R333) -/

theorem lsBank_lsRowAddr {bank row : Nat} (hb : bank < 32) {d : Nat} (hd : d < 4) :
    lsBank (lsRowAddr bank row + 8 * d) = bank := by
  unfold lsBank lsRowAddr
  have hx : bank ^^^ row % 32 < 32 := Nat.xor_lt_two_pow (n := 5) hb (Nat.mod_lt _ (by decide))
  rw [show (row * 1024 + (bank ^^^ row % 32) % 32 * 32 + 8 * d) / 32 % 32 = bank ^^^ row % 32 by omega,
    show (row * 1024 + (bank ^^^ row % 32) % 32 * 32 + 8 * d) / 1024 % 32 = row % 32 by omega,
    Nat.xor_assoc, Nat.xor_self, Nat.xor_zero]

theorem lsRow_lsRowAddr (bank row : Nat) {d : Nat} (hd : d < 4) : lsRow (lsRowAddr bank row + 8 * d) = row := by
  unfold lsRow lsRowAddr
  omega

theorem lsRowAddr_lt_lsSize (bank : Nat) {row d : Nat} (hr : row < 4096) (hd : d < 4) :
    lsRowAddr bank row + 8 * d < lsSize := by
  unfold lsRowAddr lsSize
  omega

theorem eight_dvd_lsRowAddr (bank row d : Nat) : 8 ∣ lsRowAddr bank row + 8 * d := by
  unfold lsRowAddr
  omega

theorem State.blockEffect_of_code {s : State} {r : RecIn} (h1 : r.code ≠ 0x0106) (h2 : r.code ≠ 0x0204) :
    s.blockEffect r = s := by
  simp [State.blockEffect, h1, h2]

theorem State.blockEffects_of_code (s : State) {rs : List RecIn}
    (h : ∀ r ∈ rs, r.code ≠ 0x0106 ∧ r.code ≠ 0x0204) : rs.foldl State.blockEffect s = s := by
  induction rs with
  | nil => rfl
  | cons r t ih =>
    obtain ⟨h1, h2⟩ := h r (.head _)
    rw [List.foldl_cons, s.blockEffect_of_code h1 h2, ih fun x hx => h x (.tail _ hx)]

theorem State.blockEffect_localStore {s : State} {n : Nat} {r : RecIn} (hon : s.lanOn n = true)
    (hsrc : r.src = readyLan n) (hcode : r.code = 0x0204) (hk : r.lockind = 4) (hst : recField r 4 1 = 0)
    (hb : recField r 5 1 < 32) (hr : recField r 6 2 < 4096) :
    ∃ w, w ∈ ((s.blockEffect r).lan n).lsPoison ∧ (s.blockEffect r).mem = s.mem ∧
      lsBank (8 * w) = recField r 5 1 ∧ lsRow (8 * w) = recField r 6 2 := by
  obtain ⟨d, hdraw⟩ : ∃ d, s.draw.1.toNat % 4 = d := ⟨_, rfl⟩
  have hd : d < 4 := hdraw ▸ Nat.mod_lt _ (by decide)
  have hn : r.src - readyLan 0 = n := by simp [hsrc, readyLan]
  have hlan : ¬r.src < readyLan 0 := by simp [hsrc, readyLan]
  have heq : s.blockEffect r = s.draw.2.modLan n (fun l =>
      { l with lsPoison := setIns l.lsPoison ((lsRowAddr (recField r 5 1) (recField r 6 2) + 8 * d) / 8) }) := by
    simp [State.blockEffect, hlan, hn, hon, hcode, hk, hst, hdraw, lsRowAddr_lt_lsSize _ hr hd]
  have hw := Nat.mul_div_cancel' (eight_dvd_lsRowAddr (recField r 5 1) (recField r 6 2) d)
  rw [heq]
  refine ⟨_, ?_, by simp, by rw [hw, lsBank_lsRowAddr hb hd],
    by rw [hw, lsRow_lsRowAddr _ _ hd]⟩
  rw [State.lan_modLan]
  exact mem_setIns.2 (.inl rfl)

theorem State.sited_loc (s : State) {n : Nat} {x : RecIn} (hn : n < 256) (hsrc : x.src = readyLan n)
    (hk : x.lockind = 3 ∨ x.lockind = 4) :
    (s.sited x).loc = beBytes 2 n ++ beBytes 1 (s.site n).1 ++ beBytes 1 (s.site n).2 ++ x.loc.drop 4 := by
  have hlo : readyLan 0 ≤ x.src := by simp [hsrc, readyLan]
  have hhi : x.src < readyLan 256 := by rw [hsrc]; exact Nat.add_lt_add_left hn _
  have he : x.src - readyLan 0 = n := by simp [hsrc, readyLan]
  simp only [State.sited, hk, hlo, hhi, he, Bool.or_eq_true, Bool.and_eq_true, decide_eq_true_eq, and_self, if_true]

/-! ### Stalls (R28 to R30) -/

theorem State.stallWatchdog_eq {s : State} {src : Nat} {b : Blk} (hb : blkOfSrc src = some b)
    (hon : s.blkOn b = true) (hen : s.blkEn b = true) (hst : s.pilot.started = true) (c : StallChan) :
    exec (.stallWatchdog src c) s = .next (if s.isStall src c.serves then
      { s with pilot := { s.pilot with
        stalls := s.pilot.stalls.filter (fun x => x ≠ (src, c.num)) ++ [(src, c.num)] } }.record (stallRec src c.num)
      else s) := by
  change execStallWatchdog src c s = _
  simp only [execStallWatchdog, hb, hon, hen, hst, Bool.true_and]

/-- A record's location does not depend on what a repeat changes (R30). -/
theorem sameLoc_repeat (r : ErrRec) (x : RecIn) (k : Nat) (t : Dword) :
    sameLoc { r with rep := k, last := t } x = sameLoc r x := rfl

theorem State.stallRepeat_eq {s : State} {src chan : Nat} (hmem : (src, chan) ∈ s.pilot.stalls)
    (hrec : s.pilot.errq.any (fun r => sameLoc r (stallRec src chan)) = true) (hst : s.pilot.started = true) :
    exec (.stallRepeat src chan) s = .next { s with pilot := { s.pilot with
      errq := updFirst (fun r => sameLoc r (stallRec src chan))
        (fun r => { r with rep := satAdd 32 r.rep 1, last := s.pilot.stamp }) s.pilot.errq } } := by
  change execStallRepeat src chan s = _
  rw [execStallRepeat, if_pos (by simp [hmem, hrec]), s.record_started hst, s.record1_merges hrec]

/-! ### READY notifications (R498) -/

theorem State.readyNotification_eq {s : State} (hst : s.pilot.started = true) (hch : s.pilot.readyChanged = true) :
    exec .readyNotification s = .next (if s.msPast s.pilot.readySent then
      { s with pilot := { s.pilot with readyChanged := false, readySent := some s.pilot.stamp } }.notify 2 s.readyBytes
      else s) := by
  change execReadyNotification s = _
  simp only [execReadyNotification, hst, hch, Bool.true_and]

/-! ### The statement -/

/-- What one record does to the queue: the three cases of R406 and R408. -/
theorem State.record1_log (s : State) (x : RecIn) :
    let q := s.pilot.errq
    let t := s.record1 x
    (q.any (fun r => sameLoc r x) = true → t.pilot.errq.length = q.length ∧ t.pilot.seq = s.pilot.seq ∧
      t.pilot.ovf = s.pilot.ovf) ∧
    (q.any (fun r => sameLoc r x) = false → q.length < 256 →
      t.pilot.errq.length = q.length + 1 ∧ t.pilot.seq = s.pilot.seq + 1 ∧
      ∃ r, t.pilot.errq.getLast? = some r ∧ r.Of s.pilot x) ∧
    (q.any (fun r => sameLoc r x) = false → 256 ≤ q.length → q.any (fun r => r.cls = clsCe) = true →
      t.pilot.errq.length = q.length ∧ t.pilot.ovf = min (s.pilot.ovf + 1) 4095) := by
  refine ⟨fun h => ?_, fun hnew hlt => ?_, fun hnew hfull hce => ?_⟩
  · simp [s.record1_merges h]
  · obtain ⟨marked, r, hlen, hr, hq, hseq, -⟩ := s.record1_enters hnew (Pilot.makeRoom_of_lt x.cls hlt)
    exact ⟨by simp [hq, hlen], hseq, r, by simp [hq], hr⟩
  · obtain ⟨marked, r, hlen, -, hq, -, hovf⟩ := s.record1_enters hnew (Pilot.makeRoom_of_ce x.cls hfull hce)
    refine ⟨?_, hovf⟩
    rw [hq, List.length_append, hlen]
    exact length_delFirst _ hce

/-- Settles O37: each row through the equation of its meaning, and the queue through `State.record1_log`. -/
theorem reportsEnterTheQueue : Obligations.ReportsEnterTheQueue := by
  unfold Obligations.ReportsEnterTheQueue
  refine ⟨fun s src chan b recs => ⟨?watchdog, rfl, ?wick, ?page, ?wayGroup, ?repeats, ?records, ?sited,
    ?localStore, ?ready⟩, fun s x => ?queue⟩
  case watchdog =>
    intro hb hon hen hst w
    rw [State.stallWatchdog_eq hb hon hen hst]
    refine ⟨fun h => ?_, fun h => by simp [h]⟩
    rw [if_pos h]
    exact ⟨_, rfl, by simp, rfl⟩
  case wick =>
    intro n c d h
    simp [State.isStall, h]
  case page =>
    intro vpn f h
    simp [State.isStall, h]
  case wayGroup =>
    intro g h
    simp [State.isStall, readyTc, h]
  case repeats =>
    intro hmem hrec hst
    refine ⟨_, State.stallRepeat_eq hmem hrec hst, length_updFirst .., fun r hr => ?_⟩
    rw [find?_updFirst _ _ fun a => sameLoc_repeat a _ _ _, hr]
    rfl
  case records =>
    intro h
    change execErrorRecord recs s = _
    rw [execErrorRecord, s.blockEffects_of_code h]
    rfl
  case sited => exact fun n x hn hsrc hk => s.sited_loc hn hsrc hk
  case localStore =>
    intro n x _ hon hsrc hcode hk hst hb hr
    obtain ⟨w, hw, hmem, hbank, hrow⟩ := State.blockEffect_localStore hon hsrc hcode hk hst hb hr
    have hsame := (s.blockEffect x).records_same [s.sited x]
    refine ⟨(s.blockEffect x).records [s.sited x], w, rfl, ?_, hsame.mem.trans hmem, hbank, hrow⟩
    rw [State.lan, hsame.lans]
    exact hw
  case ready =>
    intro hst hch
    rw [State.readyNotification_eq hst hch]
    exact ⟨fun h => by rw [if_pos h]; rfl, fun h => by simp [h]⟩
  case queue =>
    obtain ⟨hmerge, henter, hevict⟩ := s.record1_log x
    have hsame := s.record1_same x
    refine ⟨hmerge, fun hnew hlt => ?_, hevict, hsame.mem, hsame.lans, hsame.cirrus⟩
    obtain ⟨hlen, hseq, r, hlast, hr⟩ := henter hnew hlt
    exact ⟨hlen, hseq, r, hlast, hr.seq, hr.stamp, hr.src, hr.code, hr.cls, hr.devaddr, hr.aux, hr.rep⟩

end Sys2Proof.Machine

/-! ## Latched reads and rate measurements (R22, R24) -/

namespace Sys2Proof.Machine

open Sys2Proof

/-! ### The latch of R22 -/

/-- A HI half is no LO half. -/
theorem loHi_hi {b : Blk} {lo hi : Nat} (h : loHi b lo = some hi) : loHi b hi = none := by
  cases b <;> simp only [loHi, reduceCtorEq] at h ⊢
  case pilot =>
    split at h <;> cases h
    rfl
  case tc =>
    split at h <;> cases h
    rfl
  case lan =>
    split at h
    · cases h
      rfl
    · split at h <;> cases h
      rfl

theorem find?_latchDrop_self (xs : List ((Requester × Nat) × Word)) (k : Requester × Nat) :
    (latchDrop xs k).find? (fun p => p.1 = k) = none := by
  simp [latchDrop]

theorem find?_latchDrop_of_ne (xs : List ((Requester × Nat) × Word)) {k m : Requester × Nat} (h : m ≠ k) :
    (latchDrop xs k).find? (fun p => p.1 = m) = xs.find? (fun p => p.1 = m) := by
  rw [latchDrop, List.find?_filter]
  congr 1
  funext p
  by_cases hp : p.1 = m <;> simp [hp, h]

/-- A state whose requester `k` has latched `v`, in place of what it had latched for that address. -/
def State.latchHi (s : State) (k : Requester × Nat) (v : Word) : State :=
  { s with pilot := { s.pilot with latches := (k, v) :: latchDrop s.pilot.latches k } }

theorem State.find?_latchHi_of_ne (s : State) {k m : Requester × Nat} (v : Word) (h : m ≠ k) :
    (s.latchHi k v).pilot.latches.find? (fun p => p.1 = m) = s.pilot.latches.find? (fun p => p.1 = m) := by
  simp only [State.latchHi, List.find?_cons, Ne.symm h, decide_false, find?_latchDrop_of_ne _ h]

/-- A read of a LO half latches its HI half. -/
theorem State.regRead_lo (s : State) (rq : Requester) (addr : Nat) {b : Blk} {lo hi : Nat} (h : loHi b lo = some hi) :
    (s.regRead rq addr b lo).2 =
      s.latchHi (rq, addr - lo + hi) (BitVec.ofNat 32 (s.regSeen (addr - lo + hi) b hi)) := by
  simp only [State.regRead, h, State.latchHi]

/-- A read that finds its value latched returns it and drops the latch. -/
theorem State.regRead_latchHi (s : State) (rq : Requester) (addr : Nat) {b : Blk} {off : Nat} (v : Word)
    (h : loHi b off = none) : ((s.latchHi (rq, addr) v).regRead rq addr b off).1 = v ∧
      ((s.latchHi (rq, addr) v).regRead rq addr b off).2.pilot.latches =
        latchDrop (s.latchHi (rq, addr) v).pilot.latches (rq, addr) := by
  simp [State.regRead, h, State.latchHi]

theorem execLoHalfRead_eq {s : State} (rq : Requester) {addr lo hi : Nat} {b : Blk} (hb : blkOf addr = some (b, lo))
    (hh : loHi b lo = some hi) (hon : s.blkOn b = true) :
    exec (.loHalfRead rq addr) s =
      .next (s.latchHi (rq, addr - lo + hi) (BitVec.ofNat 32 (s.regSeen (addr - lo + hi) b hi))) := by
  change execLoHalfRead rq addr s = _
  simp [execLoHalfRead, hb, hh, hon, s.regRead_lo rq addr hh]

/-! ### Rate measurements (R24) -/

/-- The pilot after a write of RATECTL has cleared ERR and set the fields, before GO acts. -/
def Pilot.rateSet (p : Pilot) (v : Word) : Pilot :=
  { p with
    rateErr := p.rateErr && !v.getLsbD 29
    rateSel := v.getLsbD 28
    rateTarget := BitVec.ofNat 8 (natField v.toNat 20 8)
    rateWindow := BitVec.ofNat 10 (natField v.toNat 10 10) }

/-- The target that a write of RATECTL names has power. -/
def State.rateOn (s : State) (v : Word) : Bool :=
  if v.getLsbD 28 then s.tcOn (natField v.toNat 20 8) else s.lanOn (natField v.toNat 20 8)

@[simp] theorem toNat_ofNat_natField (v lo w : Nat) : (BitVec.ofNat w (natField v lo w)).toNat = natField v lo w :=
  (BitVec.toNat_ofNat ..).trans (Nat.mod_eq_of_lt (Nat.mod_lt _ (Nat.two_pow_pos w)))

theorem ite_refused {α : Type} (busy on : Bool) (a b : α) :
    (if busy then a else if on then b else a) = if busy || !on then a else b := by
  cases busy <;> cases on <;> rfl

/-- GO starts a measurement of a powered target, or sets ERR while one runs and where the target has no power. -/
theorem State.rateWrite_eq (s : State) (v : Word) :
    s.rateWrite v = { s with
      pilot :=
        if v.getLsbD 31 then
          if s.pilot.rateBusy || !s.rateOn v then { s.pilot.rateSet v with rateErr := true }
          else { s.pilot.rateSet v with rateBusy := true, rateFirst := none }
        else s.pilot.rateSet v } := by
  cases hclear : v.getLsbD 29 <;>
    simp only [State.rateWrite, Pilot.rateSet, State.rateOn, hclear, toNat_ofNat_natField, ite_refused, Bool.not_false,
      Bool.not_true, Bool.and_true, Bool.and_false, if_true, if_false, reduceCtorEq]

/-- The target of the measurement that runs has power. -/
def State.rateTargetOn (s : State) : Bool :=
  if s.pilot.rateSel then s.tcOn s.pilot.rateTarget.toNat else s.lanOn s.pilot.rateTarget.toNat

theorem State.addBeats_mem (s : State) (d : Dword) : (s.addBeats d).mem = s.mem := by
  unfold State.addBeats
  split <;> simp

theorem State.addBeats_lan (s : State) (d : Dword) (h : s.pilot.rateSel = false) :
    ((s.addBeats d).lan s.pilot.rateTarget.toNat).beat = (s.lan s.pilot.rateTarget.toNat).beat + d := by
  simp [State.addBeats, h, Lantern.countBeats]

theorem State.addBeats_tc (s : State) (d : Dword) (h : s.pilot.rateSel = true) :
    ((s.addBeats d).tc s.pilot.rateTarget.toNat).beat = (s.tc s.pilot.rateTarget.toNat).beat + d := by
  simp [State.addBeats, h]

theorem rateMs_eq (w : BitVec 10) : rateMs w = if w.toNat = 0 ∨ 1000 < w.toNat then 1000 else w.toNat := by
  simp [rateMs]

/-- The second sample of a measurement ends it with KBEATS, or with ERR where the target has no power. -/
theorem State.rateMeasureEnd_eq {s : State} (beats : Dword) (h : s.pilot.rateBusy = true) :
    exec (.rateMeasureEnd beats) s = .next (if s.rateTargetOn then
        { s.addBeats beats with pilot := { s.pilot with
          rateBusy := false
          kbeats := BitVec.ofNat 32 ((s.rateCounter + beats - s.pilot.rateFirst.getD s.rateCounter).toNat /
            rateMs s.pilot.rateWindow) } }
      else { s with pilot := { s.pilot with rateBusy := false, rateErr := true } }) := by
  change execRateMeasureEnd beats s = _
  simp only [execRateMeasureEnd, h, Bool.not_true]
  rfl

/-! ### The statement -/

/-- Settles O36: the latch of R22 through `State.latchHi`, and R24 through the equations of RATECTL and of the
second sample. -/
theorem latchedReadsAndRatesComplete : Obligations.LatchedReadsAndRatesComplete := by
  unfold Obligations.LatchedReadsAndRatesComplete
  refine ⟨fun s rq addr lo hi b hb hh hon _ => ?latch,
    fun s v beats => ⟨?start, fun hbusy => ⟨fun hon => ?ends, fun hoff => ?fails⟩⟩⟩
  case latch =>
    obtain ⟨hval, hdrop⟩ := s.regRead_latchHi rq (addr - lo + hi)
      (BitVec.ofNat 32 (s.regSeen (addr - lo + hi) b hi)) (loHi_hi hh)
    refine ⟨_, execLoHalfRead_eq rq hb hh hon, rfl, hval, fun k hk => s.find?_latchHi_of_ne _ hk, ?_⟩
    rw [hdrop, find?_latchDrop_self]
  case start =>
    refine ⟨_, congrArg Host.Outcome.next (s.rateWrite_eq v), ?_⟩
    -- The power of the target that the write names is `s.rateOn v`.
    change _ ∧ _ ∧ _ ∧ _ = (s.pilot.rateBusy || (v.getLsbD 31 && s.rateOn v)) ∧
      (_ → (_ ∨ s.rateOn v = false) → _) ∧ _
    cases v.getLsbD 31
    case false => simp [Pilot.rateSet, natField]
    case true =>
      cases hstarts : s.pilot.rateBusy || !s.rateOn v
      · obtain ⟨hidle, hon⟩ : s.pilot.rateBusy = false ∧ s.rateOn v = true := by simpa using hstarts
        simp [hidle, hon, Pilot.rateSet, natField]
      · have hbusy : s.rateOn v = true → s.pilot.rateBusy = true := fun hon => by simpa [hon] using hstarts
        simpa [Pilot.rateSet, natField] using hbusy
  case ends =>
    rw [s.rateMeasureEnd_eq beats hbusy, if_pos (show s.rateTargetOn = true from hon), rateMs_eq]
    exact ⟨_, rfl, rfl, s.addBeats_mem beats, s.addBeats_lan beats, s.addBeats_tc beats⟩
  case fails =>
    rw [s.rateMeasureEnd_eq beats hbusy, if_neg (show ¬s.rateTargetOn = true from ne_true_of_eq_false hoff)]

end Sys2Proof.Machine

/-! ## The commands that set (R31, R33, R394, R407, R480, R491, R496, R527) -/

namespace Sys2Proof

theorem Tab.find?_map_graph {α : Type} (ks : List Nat) (f : Nat → α) (k : Nat) :
    Tab.find? (ks.map (fun q => (q, f q))) k = if k ∈ ks then some (f k) else none := by
  induction ks with
  | nil => rfl
  | cons j t ih =>
    by_cases hj : j = k
    · simp [Tab.find?, hj]
    · simp [Tab.find?, hj, Ne.symm hj, ih]

/-- The voltages of SET_OPERATING_POINT, by quadrant, are in range (R31). -/
def CmdPkt.setpointsOk (p : CmdPkt) : Prop :=
  ∀ q, q < 16 → 650 ≤ p.f (2 * q) 2 ∧ p.f (2 * q) 2 ≤ 800 ∧ p.f (2 * q) 2 % 5 = 0

theorem CmdPkt.setpointsOk_iff (p : CmdPkt) : ((List.range 16).map (fun q => p.f (2 * q) 2)).all
    (fun v => 650 ≤ v && v ≤ 800 && v % 5 = 0) = true ↔ p.setpointsOk := by
  simp only [CmdPkt.setpointsOk, List.all_eq_true, List.forall_mem_map, List.mem_range, Bool.and_eq_true,
    decide_eq_true_eq, and_assoc]

end Sys2Proof

namespace Sys2Proof.Machine

open Sys2Proof

/-! ### A command that the pilot takes -/

section Takes

variable {s u t : State} {op : Nat} {p : CmdPkt} {own : State → State × CmdRes} (h : s.takes u op p)
include h

/-- The command's own meaning decides what follows the common checks (R480). -/
theorem State.takes.commandThen (after : State → State) : s.commandThen op p own after =
    if (own u).2.isOk then after ((own u).1.conclude op p (own u).2) else (own u).1.conclude op p (own u).2 := by
  obtain ⟨hears, hbusy, hchecks⟩ := h
  simp only [State.commandThen, State.judge, hears, hbusy, hchecks, Bool.not_true]
  rfl

/-- A command whose own meaning ends it is answered at once. -/
theorem State.takes.command_reply {st : Nat} {rs : List Byte} (ho : own u = (t, .reply st rs)) :
    s.command op p own = t.reply op p st rs := by
  rw [State.command, h.commandThen, ho]
  exact ite_self _

/-- A command whose own meaning goes on holds the interface. -/
theorem State.takes.command_run {waiting : Bool} (ho : own u = (t, .run waiting)) :
    s.command op p own = t.held op p waiting := by
  rw [State.command, h.commandThen, ho]
  exact ite_self _

end Takes

section Own

variable {s u : State} {p : CmdPkt}

/-! ### ERRLOG_CLEAR (R407) -/

theorem State.clearLog_eq (u : State) (n : Nat) : u.clearLog n = { u with
    pilot := { u.pilot with errq := (u.clearLog n).pilot.errq, uelost := (u.clearLog n).pilot.uelost } } := rfl

theorem State.clearLog_uelost (u : State) (n : Nat) : (u.clearLog n).pilot.uelost =
    if (u.clearLog n).pilot.errq = [] then 0 else u.pilot.uelost := by
  simp only [State.clearLog, List.isEmpty_iff]

theorem State.takes.errlogClear (h : s.takes u 0x77 p) : exec (.errlogClear p) s =
    (u.clearLog (p.f 0 4)).replied 0x77 p stOk (beBytes 4 (u.clearLog (p.f 0 4)).errqWord.toNat) :=
  congrArg Host.Outcome.next (h.command_reply rfl)

/-! ### REG_WRITE (R527) -/

theorem State.regCheck_ok {u : State} {p : CmdPkt} (hpos : 1 ≤ p.f 8 2) (hmax : p.f 8 2 ≤ 256) (hzero : p.f 10 6 = 0)
    (hregs : ∀ a ∈ regAddrs p, hasReg a = true ∧ u.regOn a = true) : u.regCheck p = stOk := by
  have hexist : (regAddrs p).all hasReg = true := List.all_eq_true.2 fun a ha => (hregs a ha).1
  have hpower : (regAddrs p).all u.regOn = true := List.all_eq_true.2 fun a ha => (hregs a ha).2
  simp [State.regCheck, hexist, hpower, hzero, Nat.ne_of_gt hpos, Nat.not_lt.2 hmax]

theorem State.takes.regWrite (h : s.takes u 0x81 p) (hok : u.regCheck p = stOk) : exec (.regWrite p) s =
    State.replied ((List.range (p.f 8 2)).foldl (fun v i =>
      v.pilotWrite (p.f 0 8 + 4 * i) (BitVec.ofNat 32 (p.f (16 + 4 * i) 4))) u) 0x81 p stOk [] :=
  congrArg Host.Outcome.next (h.command_reply (by simp only [State.regWriteOwn, hok]; rfl))

/-! ### QUEUE_CREATE and QUEUE_DESTROY (R491) -/

/-- The parameters of QUEUE_CREATE are in range. -/
def State.createInRange (u : State) (p : CmdPkt) : Prop :=
  p.f 2 6 = 0 ∧ p.f 0 1 ≤ 63 ∧ 4 ≤ p.f 1 1 ∧ p.f 1 1 ≤ 12 ∧ p.f 8 8 % 4096 = 0 ∧
    u.ringOk (p.f 8 8) (p.f 1 1) = true

theorem State.createOwn_eq (h : u.createInRange p) : u.createOwn p =
    if (u.queue? (p.f 0 1)).isSome then (u, .st stState)
    else (u.setQueue (p.f 0 1) { logn := p.f 1 1, base := p.f 8 8 }, .st stOk) := by
  obtain ⟨hzero, hq, hlo, hhi, hbase, hring⟩ := h
  simp [State.createOwn, hzero, hbase, hring, Nat.not_lt.2 hq, Nat.not_lt.2 hlo, Nat.not_lt.2 hhi]

theorem State.destroyOwn_eq (hzero : p.f 1 7 = 0) (hq : p.f 0 1 ≤ 63) : u.destroyOwn p =
    if (u.queue? (p.f 0 1)).isNone then (u, .st stState)
    else ({ u with disp := { u.disp with queues := u.disp.queues.erase (p.f 0 1) } }.examine, .st stOk) := by
  simp [State.destroyOwn, hzero, Nat.not_lt.2 hq]

/-! ### SET_OPERATING_POINT and SET_POWER_CAP (R31, R33) -/

theorem State.takes.setOperatingPoint_ok (h : s.takes u 0xA1 p) (hok : p.setpointsOk) :
    exec (.setOperatingPoint p) s = State.replied { u with
      pwr := { u.pwr with setMv := (List.range 16).map (fun q => (q, p.f (2 * q) 2)) } } 0xA1 p stOk [] :=
  congrArg Host.Outcome.next (h.command_reply (if_pos (p.setpointsOk_iff.2 hok)))

theorem State.takes.setOperatingPoint_range (h : s.takes u 0xA1 p) (hbad : ¬p.setpointsOk) :
    exec (.setOperatingPoint p) s = u.replied 0xA1 p stRange [] :=
  congrArg Host.Outcome.next (h.command_reply (if_neg (mt p.setpointsOk_iff.1 hbad)))

theorem State.capOwn_ok (hlo : 1200 ≤ p.f 0 2) (hhi : p.f 0 2 ≤ 2800) (hzero : p.f 2 2 = 0) :
    u.capOwn p = ({ u with pwr := { u.pwr with capW := p.f 0 2 } }, .st stOk) := by
  simp [State.capOwn, hlo, hhi, hzero]

theorem State.capOwn_range (hbad : p.f 0 2 < 1200 ∨ 2800 < p.f 0 2 ∨ p.f 2 2 ≠ 0) :
    u.capOwn p = (u, .st stRange) := by
  refine if_neg fun h => ?_
  simp only [Bool.and_eq_true, decide_eq_true_eq] at h
  omega

/-! ### SCRUB_CONFIG (R394) and RESET (R496) -/

theorem State.scrubOwn_on (hen : p.f 0 1 ≤ 1) (hpos : 1 ≤ p.f 1 1) (hmax : p.f 1 1 ≤ 168) (hzero : p.f 2 2 = 0)
    (hon : u.tc0On = true) : u.scrubOwn p =
      ({ u with scrub := { u.scrub with en := p.f 0 1 = 1, hours := BitVec.ofNat 8 (p.f 1 1) } }, .st stOk) := by
  simp [State.scrubOwn, Nat.not_lt.2 hen, Nat.ne_of_gt hpos, Nat.not_lt.2 hmax, hzero, hon]

theorem State.takes.reset (h : s.takes u 0xF0 p) (hzero : p.f 0 4 = 0) : ∃ t : State, t = u.reply 0xF0 p stOk [] ∧
    exec (.reset p) s = .next { t with pilot := { t.pilot with resetIn := some 100000 } } := by
  refine ⟨_, rfl, ?_⟩
  change execReset p s = _
  have hown : u.resetOwn p = (u, .st stOk) := by simp [State.resetOwn, hzero]
  rw [execReset, h.commandThen, hown]
  rfl

end Own

/-! ### The statement -/

/-- Settles O47: for each command, what its own meaning answers, through `State.takes.command_reply`. -/
theorem settingCommandsComplete : Obligations.SettingCommandsComplete := by
  unfold Obligations.SettingCommandsComplete
  intro s u p
  refine ⟨fun h => ?errlogClear, fun h hpos hmax hzero hregs => h.regWrite (State.regCheck_ok hpos hmax hzero hregs),
    fun h hzero hq hlo hhi hbase hring => ?queueCreate, fun h hzero hq => ?queueDestroy, fun h => ?setOperatingPoint,
    fun h => ?setPowerCap, fun h hen hpos hmax hzero hon => ?scrubConfig, fun h hzero => h.reset hzero⟩
  case errlogClear =>
    refine ⟨_, h.errlogClear, rfl, fun hne => ?_, fun hnil => ?_, u.clearLog_eq _⟩
    · rw [u.clearLog_uelost, if_neg hne]
    · rw [u.clearLog_uelost, if_pos hnil]
  case queueCreate =>
    have hown := State.createOwn_eq ⟨hzero, hq, hlo, hhi, hbase, hring⟩
    refine ⟨fun hfree => ?_, fun hused => ?_⟩
    · exact congrArg Host.Outcome.next (h.command_reply (by simp [hown, hfree]))
    · exact congrArg Host.Outcome.next (h.command_reply (by simp [hown, Option.isSome_iff_ne_none, hused]))
  case queueDestroy =>
    have hown := State.destroyOwn_eq (u := u) hzero hq
    refine ⟨fun hused => ?_, fun hfree => ?_⟩
    · exact congrArg Host.Outcome.next (h.command_reply (by simp [hown, hused]))
    · exact congrArg Host.Outcome.next (h.command_reply (by simp [hown, hfree]))
  case setOperatingPoint =>
    refine ⟨fun hok => ⟨_, h.setOperatingPoint_ok hok, rfl, fun q hq => ?_⟩, fun hbad => ?_⟩
    · simp [Tab.getD, Tab.find?_map_graph, hq]
    · obtain ⟨q, hq, hmv⟩ := hbad
      exact h.setOperatingPoint_range fun hok => hmv (hok q hq)
  case setPowerCap =>
    exact ⟨fun hlo hhi hzero => congrArg Host.Outcome.next (h.command_reply (State.capOwn_ok hlo hhi hzero)),
      fun hbad => congrArg Host.Outcome.next (h.command_reply (State.capOwn_range hbad))⟩
  case scrubConfig =>
    exact congrArg Host.Outcome.next (h.command_reply (State.scrubOwn_on hen hpos hmax hzero hon))

end Sys2Proof.Machine

/-! ## Steps: the command in front, and the edge of the slow clock (R19 to R21, R24, R36, R450, R496) -/

namespace Sys2Proof

/-- A change of a table's values by key is read entry by entry. -/
theorem Tab.find?_map_of_keys {α : Type} (g : Nat × α → Nat × α) (hg : ∀ e, (g e).1 = e.1) (t : Tab α) (k : Nat) :
    Tab.find? (t.map g) k = (Tab.find? t k).map (fun v => (g (k, v)).2) := by
  induction t with
  | nil => rfl
  | cons e t ih =>
    obtain ⟨j, v⟩ := e
    have he : g (j, v) = (j, (g (j, v)).2) := Prod.ext (hg _) rfl
    rw [List.map_cons, he]
    by_cases hj : j = k
    · subst hj
      simp [Tab.find?]
    · simp [Tab.find?, hj, ih]

end Sys2Proof

namespace Sys2Proof.Machine

open Sys2Proof

/-! ### The rings (R19 to R21) -/

theorem State.ringEdge_find? (s : State) (n : Nat) : s.ringEdge.lans.find? n = (s.lans.find? n).map (fun l =>
    if s.lanOn n then l.countBeats (s.ringStep n (s.veff (n / 16)) (s.lanTemp n)) else l) := by
  refine (Tab.find?_map_of_keys _ (fun e => ?keys) s.lans n).trans (congrArg (Option.map · _) (funext fun l => ?values))
  case keys => split <;> rfl
  case values =>
    dsimp only
    split <;> rfl

theorem State.ringEdge_lan_off {s : State} {n : Nat} (h : s.lanOn n = false) : s.ringEdge.lan n = s.lan n := by
  simp only [State.lan, Tab.getD, s.ringEdge_find?, h]
  cases s.lans.find? n <;> rfl

theorem State.ringEdge_lan_on {s : State} {n : Nat} {l : Lantern} (h : s.lanOn n = true) (hl : s.lans.find? n = some l) :
    s.ringEdge.lan n = l.countBeats (s.ringStep n (s.veff (n / 16)) (s.lanTemp n)) := by
  simp only [State.lan, Tab.getD, s.ringEdge_find?, h, hl]
  rfl

/-- The beats of an edge lie within the bounds, which may be equal (R20). -/
theorem State.ringStep_bounds (s : State) (k mv : Nat) (t : Option Int) (hlo : (ringBoundsAt mv t).1 < 2 ^ 64)
    (hhi : (ringBoundsAt mv t).2 < 2 ^ 64) : (ringBoundsAt mv t).1 ≤ (s.ringStep k mv t).toNat ∧
      (s.ringStep k mv t).toNat ≤ max (ringBoundsAt mv t).1 (ringBoundsAt mv t).2 := by
  obtain ⟨⟨lo, hi⟩, hb⟩ : ∃ b, ringBoundsAt mv t = b := ⟨_, rfl⟩
  simp only [hb] at hlo hhi ⊢
  have hmod := Nat.mod_lt (Config.ringBeats s.freeCtr k) (Nat.add_one_pos (hi - lo))
  have hval : (s.ringStep k mv t).toNat = lo + Config.ringBeats s.freeCtr k % (hi - lo + 1) := by
    simp only [State.ringStep, hb, BitVec.toNat_ofNat]
    exact Nat.mod_eq_of_lt (by omega)
  omega

/-! ### The other parts of an edge (R24, R36, R450) -/

theorem State.rateSample_frame (s : State) : s.rateSample = { s with
    pilot := { s.pilot with rateFirst := s.rateSample.pilot.rateFirst } } := by
  unfold State.rateSample
  split <;> rfl

theorem State.rateSample_keeps {s : State} {x : Dword} (h : s.pilot.rateFirst = some x) : s.rateSample = s := by
  simp [State.rateSample, h]

theorem State.rateSample_takes {s : State} (hbusy : s.pilot.rateBusy = true) (h : s.pilot.rateFirst = none) :
    s.rateSample.pilot.rateFirst = some s.rateCounter := by
  simp [State.rateSample, hbusy, h]

theorem State.linkAges_frame (s : State) : s.linkAges = { s with xpt := s.linkAges.xpt } := by
  unfold State.linkAges
  split
  · split <;> rfl
  · rfl

theorem State.linkAges_upAge {s : State} {k : Nat} (h : s.xpt.upAge = some k) (hk : k < 20000000) :
    s.linkAges.xpt.upAge = some (k + 1) := by
  simp [State.linkAges, h, hk]

/-- The pilot stamp counts from pilot start (R36). -/
def State.stampEdge (s : State) : State :=
  { s with pilot := { s.pilot with stamp := if s.pilot.started then s.pilot.stamp + 1 else s.pilot.stamp } }

/-- What an edge does before a RESET that has replied counts down. -/
def State.edge (s : State) : State := s.ringEdge.rateSample.linkAges.stampEdge

/-- Each part of an edge has its own fields. -/
theorem State.edge_eq (s : State) : s.edge = { s with
    freeCtr := s.freeCtr + 1
    lans := s.ringEdge.lans
    tcs := s.ringEdge.tcs
    xpt := s.ringEdge.rateSample.linkAges.xpt
    pilot := { s.pilot with
      stamp := if s.pilot.started then s.pilot.stamp + 1 else s.pilot.stamp
      rateFirst := s.ringEdge.rateSample.pilot.rateFirst } } := by
  unfold State.edge State.stampEdge
  rw [State.linkAges_frame, State.rateSample_frame]
  rfl

theorem State.edge_lan (s : State) (n : Nat) : s.edge.lan n = s.ringEdge.lan n := by
  rw [s.edge_eq]
  rfl

theorem State.edge_upAge {s : State} {k : Nat} (h : s.xpt.upAge = some k) (hk : k < 20000000) :
    s.edge.xpt.upAge = some (k + 1) := by
  refine State.linkAges_upAge ?_ hk
  rw [State.rateSample_frame]
  exact h

theorem State.edge_rateFirst_keeps {s : State} {x : Dword} (h : s.pilot.rateFirst = some x) :
    s.edge.pilot.rateFirst = some x := by
  rw [s.edge_eq]
  exact (congrArg (fun u : State => u.pilot.rateFirst) (State.rateSample_keeps (s := s.ringEdge) h)).trans h

theorem State.edge_rateFirst_takes {s : State} (hbusy : s.pilot.rateBusy = true) (h : s.pilot.rateFirst = none) :
    s.edge.pilot.rateFirst = some s.edge.rateCounter := by
  rw [s.edge_eq]
  exact State.rateSample_takes (s := s.ringEdge) hbusy h

/-! ### The countdown of RESET (R496) -/

theorem State.stampEdge_eq (s : State) :
    (if s.pilot.started then { s with pilot := { s.pilot with stamp := s.pilot.stamp + 1 } } else s) = s.stampEdge := by
  unfold State.stampEdge
  split <;> rfl

theorem State.edge_resetIn (s : State) : s.edge.pilot.resetIn = s.pilot.resetIn := by
  rw [s.edge_eq]

/-- An edge, then the countdown of a RESET that has replied. -/
theorem State.tick_eq (s : State) : s.tick = s.pilot.resetIn.elim s.edge fun k =>
    if k ≤ 1 then s.edge.commandReset else { s.edge with pilot := { s.edge.pilot with resetIn := some (k - 1) } } := by
  rw [← s.edge_resetIn]
  simp only [State.tick, State.stampEdge_eq, ← State.edge.eq_def]
  cases s.edge.pilot.resetIn <;> rfl

theorem State.tick_of_none {s : State} (h : s.pilot.resetIn = none) : s.tick = s.edge := by
  rw [s.tick_eq, h, Option.elim_none]

theorem State.tick_of_waits {s : State} {k : Nat} (h : s.pilot.resetIn = some k) (hk : 2 ≤ k) :
    s.tick = { s.edge with pilot := { s.edge.pilot with resetIn := some (k - 1) } } := by
  rw [s.tick_eq, h, Option.elim_some, if_neg (Nat.not_le.2 hk)]

theorem State.tick_of_due {s : State} {k : Nat} (h : s.pilot.resetIn = some k) (hk : k ≤ 1) :
    s.tick = s.edge.commandReset := by
  rw [s.tick_eq, h, Option.elim_some, if_pos hk]

/-! ### Steps -/

theorem step_of_cons {s : State} {c : Instr} {rest : List Instr} (h : s.pending = c :: rest) :
    step s = exec c { s with pending := rest } := by
  simp only [step, h]

theorem step_of_idle {s : State} (h : s.pending = []) : step s = .next s.tick := by
  simp only [step, h]

/-! ### The statements -/

/-- Settles O1, by the rule of a step on a queue that is not empty. -/
theorem stepRunsFront : Obligations.StepRunsFront := by
  unfold Obligations.StepRunsFront
  exact fun s c rest => step_of_cons rfl

/-- Settles O58: an edge through its parts, and the reset state by its fields. -/
theorem idleStepAndReset : Obligations.IdleStepAndReset := by
  unfold Obligations.IdleStepAndReset
  refine ⟨fun s hidle => ⟨fun hr => ?edge, fun k hr hk => ?waits, fun k hr hk => ?due⟩, ?reset⟩
  case edge =>
    refine ⟨s.edge, ?_, ?_, ?_, fun x h => State.edge_rateFirst_keeps h,
      State.edge_rateFirst_takes, fun k h hk => State.edge_upAge h hk, fun n h => ?_, fun n l h hl => ?_⟩
    · rw [step_of_idle hidle, State.tick_of_none hr]
    · rw [s.edge_eq]
    · rw [s.edge_eq]
    · rw [s.edge_lan, State.ringEdge_lan_off h]
    · exact ⟨_, (s.edge_lan n).trans (State.ringEdge_lan_on h hl), fun hlo hhi => s.ringStep_bounds _ _ _ hlo hhi⟩
  case waits =>
    refine ⟨_, (step_of_idle hidle).trans (congrArg _ (State.tick_of_waits hr hk)), rfl, ?_, ?_⟩ <;>
      rw [s.edge_eq]
  case due =>
    refine ⟨_, (step_of_idle hidle).trans (congrArg _ (State.tick_of_due hr hk)), rfl, rfl, rfl, rfl, ?_⟩
    change s.edge.flash = s.flash
    rw [s.edge_eq]
  case reset =>
    exact ⟨rfl, rfl, rfl, rfl, rfl, rfl, rfl, rfl, rfl, fun n => rfl, fun n => ⟨rfl, rfl, rfl⟩⟩

end Sys2Proof.Machine

/-! ## Floating-point vector instructions (R65, R179 to R181, R193) -/

namespace Sys2Proof

theorem Tab.erase_insert_self {α : Type} (t : Tab α) (k : Nat) (v : α) :
    Tab.erase (Tab.insert t k v) k = Tab.erase t k := by
  induction t with
  | nil => simp [Tab.insert, Tab.erase]
  | cons e t ih =>
    obtain ⟨j, w⟩ := e
    by_cases hlt : k < j
    · simp [Tab.insert, Tab.erase, hlt]
    · simp [Tab.insert, Tab.erase, hlt, ih]

theorem Tab.erase_erase_self {α : Type} (t : Tab α) (k : Nat) : Tab.erase (Tab.erase t k) k = Tab.erase t k := by
  induction t with
  | nil => rfl
  | cons e t ih =>
    obtain ⟨j, w⟩ := e
    by_cases hj : j = k <;> simp [Tab.erase, hj, ih]

/-- The later of two settings of an entry stands. -/
@[simp] theorem Tab.put_put {α : Type} (t : Tab α) (k : Nat) (v w : α) :
    Tab.put (Tab.put t k v) k w = Tab.put t k w := by
  rw [Tab.put, Tab.put, Tab.erase_insert_self, Tab.erase_erase_self, Tab.put]

end Sys2Proof

namespace Sys2Proof.Machine

open Sys2Proof

@[simp] theorem State.setLan_setLan (s : State) (n : Nat) (l m : Lantern) :
    (s.setLan n l).setLan n m = s.setLan n m := by
  simp [State.setLan]

/-! ### Completion (R21, R243) -/

theorem Lantern.enterLine_work (l : Lantern) (line : Nat) : (l.enterLine line).work = l.work := by
  unfold Lantern.enterLine
  dsimp only
  split <;> split <;> rfl

theorem Lantern.done_work (l : Lantern) (k : Wick) : (l.done k).work = l.work := by
  change (l.follow k).work = l.work
  unfold Lantern.follow
  split
  · rfl
  · exact Lantern.enterLine_work ..

/-- An instruction that completes where it issues counts once in WORK (R21, R243). -/
theorem State.complete_issued (s : State) (n len : Nat) : (s.complete n len).issued n = s.completes n len id := by
  simp only [State.issued, State.complete, State.modLan, State.lan_setLan, State.setLan_setLan, Lantern.done_work]
  rfl

theorem State.runWick_ok {s t : State} {n len : Nat} {cond : BitVec 4} {body : State → Run State}
    (h : s.issues n len cond) (hbody : body s = .ok t) : s.runWick n len cond body = .next (t.issued n) := by
  rw [State.runWick, if_pos h.1, if_pos h.2, hbody]

/-! ### Operate instructions -/

section Operate

variable {s : State} {n : Nat} {w : VOp} (h : s.vecIssues n w)
include h

/-- An operate instruction of AM and EW 0 whose own checks hold enters the queue and completes (R153, R162, R174). -/
theorem State.vecIssues.vecOp {opc : Nat} {u : PredUse} {legal : Wick → Bool} {f : Lantern → VRes}
    (hpred : u.ok w.zf w.pg = true) (hlegal : legal (s.lan n).wick = true) :
    s.vecOp n w opc u legal f = s.vecDone n w opc (f (s.lan n)) := by
  obtain ⟨hissues, ham, hew, hzero, hfmt, hfmt2, hroom⟩ := h
  refine (State.runWick_ok hissues ?_).trans (congrArg _ (State.complete_issued ..))
  have hfields : (fmtsOk w && w.am = 0 && w.zero = 0 && (w.ew = 0 || opc = 0x80) && u.ok w.zf w.pg &&
      legal (s.lan n).wick) = true := by
    simpa [fmtsOk, ham, hew, hzero, hpred, hlegal] using And.intro hfmt hfmt2
  have hqueue : (s.lan n).vqRoom = true := decide_eq_true hroom
  dsimp only
  rw [State.need, if_pos hfields, State.await, if_pos hqueue]
  rfl

/-- A floating-point operation whose format is one of the row's and has the width of VEW maps its active elements
(R178, R179). -/
theorem State.vecIssues.vecFp {opc lo hi : Nat} {f : Lantern → FCtx → Nat → Nat → Nat → Nat → ERes}
    (hwidth : fmtBits w.fmt.toNat = (s.lan n).wick.ewBits) (hlo : lo ≤ w.fmt.toNat) (hhi : w.fmt.toNat ≤ hi) :
    s.vecFp n w opc lo hi f = s.vecDone n w opc ((s.lan n).vmap w (s.lan n).wick.ewBits (fun i =>
      f (s.lan n) (s.lan n).wick.fctx w.fmt.toNat i ((s.lan n).elem w.va.toNat (s.lan n).wick.ewBits i)
        ((s.lan n).vbElem w (s.lan n).wick.ewBits i))) :=
  h.vecOp rfl (by simp [fmtFits, hwidth, hlo, hhi])

/-- A floating-point compare into a predicate that may be written (R155, R178 to R180). -/
theorem State.vecIssues.vfcmp (f : VFCmpOp) (hwidth : fmtBits w.fmt.toNat = (s.lan n).wick.ewBits)
    (hhi : w.fmt.toNat ≤ 5) (hzf : w.zf = false) (hdest : predDest w.vd = true) :
    exec (.vfcmp n f w) s = s.vecDone n w 0x8E ((s.lan n).vcompare w (fun i =>
      fcmpRes f (s.lan n).wick.fctx w.fmt.toNat ((s.lan n).elem w.va.toNat (s.lan n).wick.ewBits i)
        ((s.lan n).vbElem w (s.lan n).wick.ewBits i))) := by
  have hpred : PredUse.gu.ok w.zf w.pg = true := by simp [PredUse.ok, hzf]
  change execVfcmp n f w s = _
  exact h.vecOp hpred (by simp [fmtFits, hwidth, hhi, hdest])

end Operate

/-- P1 to P15 may be written (R155). -/
theorem predDest_of_range {vd : BitVec 5} (hlo : 1 ≤ vd.toNat) (hhi : vd.toNat < 16) : predDest vd = true := by
  have hbit : vd.getLsbD 4 = false := Nat.testBit_lt_two_pow hhi
  have hne : vd ≠ 0 := by rintro rfl; simp at hlo
  rw [predDest, hbit, decide_eq_true hne]
  rfl

/-- Settles O19: each instruction maps its own operation over the elements, through `State.vecIssues.vecFp`; a case
names the function that `exec` calls, whose operation the rule reads off. -/
theorem vectorFloatComplete : Obligations.VectorFloatComplete := by
  unfold Obligations.VectorFloatComplete
  intro s n w h l e c ctx a b out two hwidth
  change fmtBits w.fmt.toNat = (s.lan n).wick.ewBits at hwidth
  refine ⟨fun hc => ⟨?add, ?sub, ?mul, ?min, ?max, ?abs, ?neg, ?sgnj, fun f => ?fma, fun f hzf hlo hhi => ?cmp⟩,
    fun hc => ⟨?div, ?sqrt⟩, fun hc f => ?elementwise⟩
  case add => exact (h.vecFp hwidth (Nat.zero_le _) hc : execVfaddVfsubVfmul n .add w s = _)
  case sub => exact (h.vecFp hwidth (Nat.zero_le _) hc : execVfaddVfsubVfmul n .sub w s = _)
  case mul => exact (h.vecFp hwidth (Nat.zero_le _) hc : execVfaddVfsubVfmul n .mul w s = _)
  case min => exact (h.vecFp hwidth (Nat.zero_le _) hc : execVfminVfmax n .min w s = _)
  case max => exact (h.vecFp hwidth (Nat.zero_le _) hc : execVfminVfmax n .max w s = _)
  case abs => exact (h.vecFp hwidth (Nat.zero_le _) hc : execVfabsVfnegVfsgnj n .abs w s = _)
  case neg => exact (h.vecFp hwidth (Nat.zero_le _) hc : execVfabsVfnegVfsgnj n .neg w s = _)
  case sgnj => exact (h.vecFp hwidth (Nat.zero_le _) hc : execVfabsVfnegVfsgnj n .sgnj w s = _)
  case fma => exact (h.vecFp hwidth (Nat.zero_le _) hc : execVfmaVfmsVfnmaVfnms n f w s = _)
  case cmp => exact h.vfcmp f hwidth hc hzf (predDest_of_range hlo hhi)
  case div => exact (h.vecFp hwidth (Nat.zero_le _) hc : execVfdivVfsqrt n .div w s = _)
  case sqrt => exact (h.vecFp hwidth (Nat.zero_le _) hc : execVfdivVfsqrt n .sqrt w s = _)
  case elementwise =>
    have hval := (h.vecFp hwidth hc.ge hc.le : execVexpVrecipVrsqrtVlogi n f w s = _)
    have hone : w.fmt.toNat = 1 := hc
    rw [hone] at hval
    exact hval

end Sys2Proof.Machine

/-! ## Reports to a wick, and the NaN record (R65 to R69, R194, R211, R224, R267) -/

namespace Sys2Proof.Machine

open Sys2Proof

/-! ### NaN reports (R65 to R69) -/

/-- The lantern once report `k` of those that wait has filled the record. -/
def Lantern.nanFilled (l : Lantern) (k : Nat) (p : NanRep) : Lantern :=
  { l with nanQ := l.nanQ.eraseIdx k, nan := l.nan.fill p, defNan := true }

section Nan

variable {s : State} {n k : Nat} {p : NanRep} (hrep : (s.lan n).nanQ[k]? = some p)
include hrep

theorem execNanReport_eq : execNanReport n k s =
    .next ((s.setLan n { s.lan n with nanQ := (s.lan n).nanQ.eraseIdx k }).nanAccept n p) := by
  simp only [execNanReport, hrep]

/-- With the trap off the report is dropped. -/
theorem execNanReport_untrapped (htrap : (s.lan n).nan.trapEn = false) : execNanReport n k s =
    .next (s.setLan n { s.lan n with nanQ := (s.lan n).nanQ.eraseIdx k }) := by
  simp [execNanReport_eq hrep, State.nanAccept, htrap]

/-- A record that is already valid counts the report and keeps the rest. -/
theorem execNanReport_counts (htrap : (s.lan n).nan.trapEn = true) (hvalid : (s.lan n).nan.valid = true) :
    execNanReport n k s = .next (s.setLan n { s.lan n with
      nanQ := (s.lan n).nanQ.eraseIdx k
      nan := { (s.lan n).nan with cnt := satAdd 32 (s.lan n).nan.cnt 1 } }) := by
  simp [execNanReport_eq hrep, State.nanAccept, htrap, hvalid]

/-- The first report fills the record and asks for the trap, and for a beacon under NANEN (R430). -/
theorem execNanReport_fills (htrap : (s.lan n).nan.trapEn = true) (hvalid : (s.lan n).nan.valid = false) :
    execNanReport n k s = .next (if s.pilot.nanEn then (s.setLan n ((s.lan n).nanFilled k p)).beaconTrigger 3
      else s.setLan n ((s.lan n).nanFilled k p)) := by
  simp [execNanReport_eq hrep, State.nanAccept, htrap, hvalid, Lantern.nanFilled]

end Nan

/-! ### Exception reports (R194) -/

section Exception

variable {s : State} {n : Nat} {r : Dword × Nat} {q : List (Dword × Nat)} (hrep : (s.lan n).fxRep = r :: q)
include hrep

theorem execFpExceptionReport_first (hnone : (s.lan n).defFx = none) : execFpExceptionReport n s =
    .next (s.setLan n { s.lan n with fxRep := q, defFx := some r }) := by
  simp only [execFpExceptionReport, hrep, hnone]

/-- A report finds the event already deferred and only leaves its queue. -/
theorem execFpExceptionReport_later {d : Dword × Nat} (hsome : (s.lan n).defFx = some d) : execFpExceptionReport n s =
    .next (s.setLan n { s.lan n with fxRep := q }) := by
  simp only [execFpExceptionReport, hrep, hsome]

end Exception

/-! ### The write phase and a bad register (R162, R194, R267) -/

theorem State.writePhase_nil (s : State) (n : Nat) {e : VqEntry} (h : e.stores = []) : s.writePhase n e = s := by
  rw [State.writePhase, h, List.foldl_nil]

theorem execVectorInstructionComplete_cons {s : State} {n : Nat} {e : VqEntry} {q : List VqEntry}
    (h : (s.lan n).vq = e :: q) : execVectorInstructionComplete n s =
      .next ((s.writePhase n e).modLan n (fun l => { l with
        vq := q
        fxRep := l.fxRep ++ (e.fx.map (fun i => (e.pc, i))).toList
        nanQ := l.nanQ ++ e.nan.toList })).pumpPins := by
  simp only [execVectorInstructionComplete, h]
  cases e.fx <;> rfl

/-- The lantern after a vector or predicate read of line group `lg` has failed: the queue is discarded and what it
gave the wick is taken back. -/
def Lantern.registersLost (l : Lantern) (pc : Dword) (lg : Nat) : Lantern :=
  { l with
    wick := l.vq.reverse.foldl Wick.undo l.wick
    vq := []
    v := []
    p := l.p.filter (fun q => q.1 = 0)
    defRf := some (pc, lg) }

/-- The UE record of a bad register; its bank and row are drawn. -/
def State.registerRecord (s : State) (n lg : Nat) : RecIn :=
  { src := readyLan n, cls := clsUe, code := 0x0205, lockind := 4
    loc := s.locSram n (if s.draw.1.getLsbD 63 then 2 else 1) (natField s.draw.1.toNat 0 8)
      (natField s.draw.1.toNat 8 16)
    aux := lg }

theorem execRegisterFileError_cons {s : State} {n lg : Nat} {e : VqEntry} {q : List VqEntry}
    (h : (s.lan n).vq = e :: q) : execRegisterFileError n lg s =
      .next ((s.draw.2.setLan n ((s.lan n).registersLost e.pc lg)).record (s.registerRecord n lg)).pumpPins := by
  simp only [execRegisterFileError, h]
  rw [Lantern.registersLost, h]
  rfl

/-! ### The line buffer (R211) -/

theorem delFirst_sublist {α : Type} (p : α → Bool) (xs : List α) : (delFirst p xs).Sublist xs := by
  induction xs with
  | nil => exact .slnil
  | cons a t ih =>
    rw [delFirst]
    split
    · exact List.sublist_cons_self a t
    · exact ih.cons_cons a

/-- Where an earlier element goes, the last one stays. -/
theorem mem_delFirst_append {α : Type} {p : α → Bool} {xs : List α} (h : xs.any p = true) (a : α) :
    a ∈ delFirst p (xs ++ [a]) := by
  induction xs with
  | nil => simp at h
  | cons x t ih =>
    rw [List.cons_append, delFirst]
    split
    · simp
    · next hx => exact List.mem_cons_of_mem x (ih (by simpa [hx] using h))

/-- Two distinct elements do not both equal `b`. -/
theorem any_not_of_nodup {xs : List Nat} (hnd : xs.Nodup) (hlen : 2 ≤ xs.length) {keep : Nat → Bool} {b : Nat}
    (hkeep : ∀ x, keep x = true → x = b) : xs.any (fun x => !keep x) = true := by
  match xs, hlen with
  | x :: y :: t, _ =>
    by_contra hall
    simp only [List.any_cons, Bool.or_eq_true, not_or, Bool.not_eq_true, Bool.not_eq_false'] at hall
    obtain ⟨hx, hy, -⟩ := hall
    simp [hkeep x hx, hkeep y hy] at hnd

/-- The line buffer holds at most four lines, each once. -/
def Lantern.lineBufOk (l : Lantern) : Prop := l.lineBuf.Nodup ∧ l.lineBuf.length ≤ 4

/-- A line that enters stands in the line buffer, which keeps to four lines: of four others, at most one is the line
of LBEG, so one can go (R211, R242). -/
theorem Lantern.lineBufAdd_ok {l : Lantern} (h : l.lineBufOk) (line : Nat) :
    Lantern.lineBufOk { l with lineBuf := l.lineBufAdd line } ∧ line ∈ l.lineBufAdd line := by
  obtain ⟨hnd, hlen⟩ := h
  obtain ⟨xs, hxs⟩ : ∃ xs, l.lineBuf.filter (fun x => x ≠ line) = xs := ⟨_, rfl⟩
  have hlen' : xs.length ≤ 4 := hxs ▸ (List.length_filter_le ..).trans hlen
  have hnd' : xs.Nodup := hxs ▸ hnd.filter _
  have hall : (xs ++ [line]).Nodup := hnd'.append (List.nodup_singleton line) (by simp [← hxs])
  rw [Lantern.lineBufOk, Lantern.lineBufAdd, hxs]
  dsimp only
  split
  · exact ⟨⟨hall, ‹_›⟩, by simp⟩
  · next hfull =>
    rw [List.length_append, List.length_singleton] at hfull
    have hany := any_not_of_nodup hnd' (by omega) (b := l.wick.lbeg.toNat / 128)
      (keep := fun x => l.wick.lcnt ≠ 0 && x = l.wick.lbeg.toNat / 128) (by simp)
    have hdel := length_delFirst _ (xs := xs ++ [line]) (by rw [List.any_append, hany, Bool.true_or])
    rw [List.length_append, List.length_singleton] at hdel
    exact ⟨⟨hall.sublist (delFirst_sublist ..), by omega⟩, mem_delFirst_append hany line⟩

/-! ### Instruction refill (R211, R323) -/

theorem State.modLine_lans (s : State) (pa : Nat) (f : TcLine → TcLine) : (s.modLine pa f).lans = s.lans := by
  unfold State.modLine
  dsimp only
  split
  · exact s.modTc_lans ..
  · rfl

theorem State.askFills_lans (s : State) (f : TcFill) : (s.askFills f).lans = s.lans := by
  unfold State.askFills
  dsimp only
  split <;> simp only [State.modTc_lans]

/-- A read's line is asked of the home tile cache, and no lantern changes. -/
theorem State.lineAccessed_read_lans (s : State) (pa : Nat) (w : Writer) (l1 : Option Nat) :
    (s.lineAccessed pa .read w l1).lans = s.lans := by
  unfold State.lineAccessed
  dsimp only
  split
  · exact s.modLine_lans ..
  · exact s.askFills_lans _

theorem State.lans_foldl {α : Type} {f : State → α → State} (hf : ∀ (s : State) (a : α), (f s a).lans = s.lans)
    (xs : List α) (s : State) : (xs.foldl f s).lans = s.lans := by
  induction xs generalizing s with
  | nil => rfl
  | cons a t ih => exact (ih (f s a)).trans (hf s a)

theorem State.linesAccessed_read_lans (s : State) (pa len : Nat) (w : Writer) :
    (s.linesAccessed pa len w (readKind false)).lans = s.lans := by
  unfold State.linesAccessed
  split
  · rfl
  · refine State.lans_foldl (fun u l => ?_) _ s
    split
    · exact u.lineAccessed_read_lans ..
    · rfl

theorem State.dvLoadLines_lan (s : State) (va len n : Nat) : (s.dvLoadLines va len false).lan n = s.lan n := by
  have hlans : (s.dvLoadLines va len false).lans = s.lans :=
    State.lans_foldl (fun u p => u.linesAccessed_read_lans ..) _ s
  rw [State.lan, hlans, State.lan]

/-- What a refill of two lines does to its lantern: both enter the instruction cache, then the line buffer. -/
def Lantern.refill (l : Lantern) (line : Nat) : Lantern :=
  let l := { l with icache := [line, line + 1].foldl (fun t x => lineAccess t 4 (x % 64) (x / 64) 1) l.icache }
  let l := { l with lineBuf := l.lineBufAdd line }
  { l with lineBuf := l.lineBufAdd (line + 1) }

theorem Lantern.refill_lineBuf {l : Lantern} (h : l.lineBufOk) (line : Nat) :
    (l.refill line).lineBufOk ∧ line + 1 ∈ (l.refill line).lineBuf :=
  Lantern.lineBufAdd_ok (Lantern.lineBufAdd_ok (l := { l with icache := _ }) h line).1 (line + 1)

/-- The cache of the two lines' home is read, then the lantern takes them. -/
theorem execInstructionRefill_on {s : State} {n : Nat} (hon : s.lanOn n = true) (va : Nat) :
    execInstructionRefill n va s = .next ((s.dvLoadLines (128 * (va / 128)) 256 false).modLan n (fun l =>
      { l with
        icache := ((s.lan n).refill (va / 128)).icache
        lineBuf := ((s.lan n).refill (va / 128)).lineBuf })) := by
  simp only [execInstructionRefill, hon, if_true, State.modLan, State.dvLoadLines_lan]
  rfl

/-! ### The beat counter (R224) -/

/-- The counter's low half steps to the compare value. -/
theorem beat_to_compare (b : Dword) (c : Word) : (b + (c - b.setWidth 32).setWidth 64).setWidth 32 = c ∧
    (b + (c - b.setWidth 32).setWidth 64 - b).toNat < 2 ^ 32 := by
  constructor
  · bv_omega
  · rw [add_sub_cancel_left, BitVec.toNat_setWidth]
    exact (Nat.mod_le ..).trans_lt (BitVec.isLt _)

/-! ### The statement -/

/-- Settles O15: for each report, what its own operation does. -/
theorem wickReportsComplete : Obligations.WickReportsComplete := by
  unfold Obligations.WickReportsComplete
  intro s n l
  refine ⟨fun k p hrep => ?nanReport, fun hon => ?nanClear, fun r q hrep => ?fpException, fun e q hvq => ?vectorEnd,
    fun e q lg hvq => ?registerFile, fun hon => ?interrupts, fun hhalt g hgang => ?machineCheck,
    fun hhalt g hgang hlim hrun => ?watchdog⟩
  case nanReport =>
    exact ⟨execNanReport_untrapped hrep, execNanReport_counts hrep, fun htrap hvalid =>
      ⟨_, execNanReport_fills hrep htrap hvalid, rfl, rfl, rfl, rfl, rfl, rfl, rfl, rfl⟩⟩
  case nanClear =>
    exact ⟨{ l with nan := l.nan.clear }, congrArg Host.Outcome.next (if_pos hon), rfl, rfl⟩
  case fpException =>
    exact ⟨execFpExceptionReport_first hrep, fun d hsome => execFpExceptionReport_later hrep hsome⟩
  case vectorEnd =>
    exact ⟨execVectorInstructionComplete_cons hvq, s.writePhase_nil n⟩
  case registerFile =>
    refine ⟨_, _, execRegisterFileError_cons hvq, rfl, rfl, rfl, rfl, ?_⟩
    rw [State.lan_setLan]
    exact ⟨rfl, rfl, rfl, rfl, rfl, rfl, fun m hm => State.lan_setLan_of_ne _ _ hm⟩
  case interrupts =>
    obtain ⟨hlow, hnear⟩ := beat_to_compare l.beat l.beatcmp
    refine ⟨congrArg Host.Outcome.next (if_pos hon), ⟨_, congrArg Host.Outcome.next (if_pos hon), hlow, hnear⟩,
      fun va hnd hlen => ?_⟩
    obtain ⟨⟨hnd', hlen'⟩, hmem⟩ := Lantern.refill_lineBuf ⟨hnd, hlen⟩ (va / 128)
    exact ⟨_, _, execInstructionRefill_on hon va, hlen', hnd', hmem⟩
  case machineCheck =>
    change execMachineCheckReport n s = _
    rw [execMachineCheckReport, if_pos hhalt, hgang]
  case watchdog =>
    change execKernelWatchdog n s = _
    have hhalt' : (s.lan n).halt.halted = false := hhalt
    have hdue : (g.wdlimit ≠ 0 && !g.finished.contains n && !(s.lan n).halt.halted) = true := by
      simpa [hrun, hhalt'] using hlim
    simp only [execKernelWatchdog, hgang]
    exact congrArg Host.Outcome.next (if_pos hdue)

end Sys2Proof.Machine

/-! ## Instructions that complete, wait, or have a false COND (R77, R121, R175, R207, R221, R228, R243, R244) -/

namespace Sys2Proof.Machine

open Sys2Proof

/-! ### What completion changes (R211, R243) -/

theorem Lantern.enterLine_eq (l : Lantern) (line : Nat) : l.enterLine line =
    { l with icache := (l.enterLine line).icache, lineBuf := (l.enterLine line).lineBuf } := by
  unfold Lantern.enterLine
  dsimp only
  split <;> split <;> rfl

theorem Lantern.follow_eq (l : Lantern) (k : Wick) : l.follow k =
    { l with wick := k, icache := (l.follow k).icache, lineBuf := (l.follow k).lineBuf } := by
  unfold Lantern.follow
  split
  · rfl
  · exact Lantern.enterLine_eq ..

/-- Completion changes the registers, what fetch holds, and what the wick waits for. -/
theorem Lantern.done_eq (l : Lantern) (k : Wick) : l.done k =
    { l with
      wick := k, icache := (l.done k).icache, lineBuf := (l.done k).lineBuf
      wait := .none, entered := false, pins := [] } := by
  unfold Lantern.done
  rw [Lantern.follow_eq]

/-- Fetch does not read WORK. -/
theorem Lantern.enterLine_setWork (l : Lantern) (line : Nat) (x : Dword) :
    { l with work := x }.enterLine line = { l.enterLine line with work := x } := by
  unfold Lantern.enterLine Lantern.icHas Lantern.lineBufAdd
  dsimp only
  split <;> dsimp only <;> split <;> rfl

theorem Lantern.follow_setWork (l : Lantern) (k : Wick) (x : Dword) :
    { l with work := x }.follow k = { l.follow k with work := x } := by
  unfold Lantern.follow
  dsimp only
  split
  · rfl
  · exact Lantern.enterLine_setWork { l with wick := k } _ x

theorem Lantern.done_setWork (l : Lantern) (k : Wick) (x : Dword) :
    { l with work := x }.done k = { l.done k with work := x } :=
  congrArg (fun m => { m with wait := .none, entered := false, pins := [] }) (l.follow_setWork k x)

/-- An instruction that is counted in WORK and then completes has completed. -/
theorem State.issued_complete (s : State) (n len : Nat) : (s.issued n).complete n len = s.completes n len id := by
  simp only [State.issued, State.complete, State.modLan, State.lan_setLan, State.setLan_setLan, Lantern.done_setWork]
  rfl

theorem State.completes_modLan (s : State) (n len : Nat) (f : Lantern → Lantern) :
    (s.modLan n f).completes n len id = s.completes n len f := by
  simp only [State.completes, State.modLan, State.lan_setLan, State.setLan_setLan, id]

/-! ### How an instruction ends -/

/-- Of the branches of `State.runWick`, a false COND takes the one that only completes, whatever the instruction does
under a true one (R207, R228). -/
theorem State.completes_of_false {s : State} {n len : Nat} {cond : BitVec 4} (hcan : s.wickCan n len = true)
    (hfalse : condTrue cond (s.lan n).wick.flags = false) (whenTrue otherwise : Out) :
    (if s.wickCan n len then
      if condTrue cond (s.lan n).wick.flags then whenTrue else .next ((s.issued n).complete n len)
    else otherwise) = .next (s.completes n len id) := by
  rw [if_pos hcan, if_neg (ne_true_of_eq_false hfalse), State.issued_complete]

section Ends

variable {s u : State} {n len : Nat} {cond : BitVec 4} {body : State → Run State} (h : s.issues n len cond)
include h

theorem State.runWick_completes (hbody : body s = .ok (u.complete n len)) :
    s.runWick n len cond body = .next (u.completes n len id) := by
  rw [State.runWick_ok h hbody, State.complete_issued]

theorem State.runWick_error {a : Abort} (hbody : body s = .error a) :
    s.runWick n len cond body = .next (a.land n) := by
  rw [State.runWick, if_pos h.1, if_pos h.2, hbody]

/-- An instruction that fails its own checks raises event 0x21 and changes nothing else (R266). -/
theorem State.runWick_illegal (hbody : body s = s.illegal n 0x21) : s.runWick n len cond body =
    .next ((s.issued n).takeEvent n 0x21 (s.lan n).wick.pc (s.lan n).wick.pc 0 0) :=
  State.runWick_error h hbody

end Ends

/-! ### A false COND -/

/-- VMXPACK draws no free value under a false COND. -/
theorem execVmxpack_of_false {s : State} {n : Nat} {w : VOp} (hcan : s.wickCan n 8 = true)
    (hfalse : condTrue w.cond (s.lan n).wick.flags = false) : execVmxpack n w s = .next (s.completes n 8 id) := by
  simp only [execVmxpack, hfalse, Bool.and_false, Bool.false_eq_true, if_false]
  exact State.completes_of_false hcan hfalse _ _

/-- Settles O12: each instruction is `State.runWick` under its COND, and VMXPACK draws a free value under a true one
only. -/
theorem falseConditionCompletes : Obligations.FalseConditionCompletes := by
  unfold Obligations.FalseConditionCompletes
  intro s n fails
  refine ⟨fun w ⟨hcan, hfalse⟩ => ?wick, fun w ⟨hcan, hfalse⟩ => ?operate, fun w ⟨hcan, hfalse⟩ => ?memory,
    fun w ⟨hcan, hfalse⟩ => ?matrix⟩
  case operate =>
    have hpack : exec (.vmxpack n w) s = _ := execVmxpack_of_false hcan hfalse
    simp only [List.forall_mem_cons, hpack, true_and, List.not_mem_nil, false_imp_iff, implies_true, and_true]
    and_intros
    all_goals intros; exact State.completes_of_false hcan hfalse _ _
  all_goals
    simp only [List.forall_mem_cons, List.not_mem_nil, false_imp_iff, implies_true, and_true]
    and_intros
    all_goals intros; exact State.completes_of_false hcan hfalse _ _

end Sys2Proof.Machine

/-! ## Matrix instructions (R77 to R83, R88, R254) -/

namespace Sys2Proof.Machine

open Sys2Proof

/-! ### The checks of an instruction -/

theorem State.need_true (s : State) (n : Nat) {ok : Bool} (h : ok = true) : s.need n ok = .ok () := if_pos h

theorem State.need_false (s : State) (n : Nat) {ok : Bool} (h : ok = false) : s.need n ok = s.illegal n 0x21 :=
  if_neg (ne_true_of_eq_false h)

theorem State.await_true (s : State) {ok : Bool} (h : ok = true) : s.await ok = .ok () := if_pos h

theorem State.await_false (s : State) {ok : Bool} (h : ok = false) : s.await ok = .error (.wait s .drain) :=
  if_neg (ne_true_of_eq_false h)

theorem State.awaitFence_true (s : State) {ok : Bool} (h : ok = true) : s.awaitFence ok = .ok () := if_pos h

theorem State.awaitFence_false (s : State) {ok : Bool} (h : ok = false) :
    s.awaitFence ok = .error (.wait s .fence) :=
  if_neg (ne_true_of_eq_false h)

theorem State.guardRanges_none (s : State) (n : Nat) {rs : List Rng} (h : (s.lan n).guardHit rs = none) :
    s.guardRanges n rs = .ok () := by
  rw [State.guardRanges, h]

theorem State.mqEnter_completes (s : State) (n : Nat) (insn : Word) (op : MqOp) :
    (s.mqEnter n insn op).completes n 8 id = s.completes n 8 (fun l => (l.mqAdd insn op).mqTidy) :=
  s.completes_modLan n 8 _

section Issues

variable {s : State} {n : Nat} {w : LongWord} (h : s.issues n 8 w.cond)
include h

/-! ### MMA (R78, R80, R81) -/

theorem execMma_enters (hlegal : (s.lan n).mmaLegal ((s.lan n).mmaOf w) = true)
    (hguard : (s.lan n).guardHit ((s.lan n).mmaOf w).reads = none)
    (hwaits : (s.lan n).mqWaits ((s.lan n).mmaOf w).reads [] = false) (hroom : (s.lan n).mq.length < 16) :
    exec (.mma n w) s = .next (s.completes n 8 (fun l =>
      (l.mqAdd ((s.lan n).mmaOf w).insn (.mma ((s.lan n).mmaOf w))).mqTidy)) := by
  rw [← s.mqEnter_completes]
  change execMma n w s = _
  rw [execMma]
  refine State.runWick_completes h ?_
  have hready : ((s.lan n).mqRoom && !(s.lan n).mqWaits ((s.lan n).mmaOf w).reads []) = true := by
    simp [Lantern.mqRoom, hroom, hwaits]
  dsimp only
  rw [s.need_true n hlegal, s.guardRanges_none n hguard, s.await_true hready]
  rfl

theorem execMma_waits (hlegal : (s.lan n).mmaLegal ((s.lan n).mmaOf w) = true)
    (hguard : (s.lan n).guardHit ((s.lan n).mmaOf w).reads = none)
    (hwaits : (s.lan n).mqWaits ((s.lan n).mmaOf w).reads [] = true) :
    exec (.mma n w) s = .next (s.modLan n (fun l => { l with wait := .drain })) := by
  change execMma n w s = _
  rw [execMma]
  refine State.runWick_error (a := .wait s .drain) h ?_
  dsimp only
  rw [s.need_true n hlegal, s.guardRanges_none n hguard, s.await_false (by simp [hwaits])]
  rfl

theorem execMma_illegal (hillegal : (s.lan n).mmaLegal ((s.lan n).mmaOf w) = false) : exec (.mma n w) s =
    .next ((s.issued n).takeEvent n 0x21 (s.lan n).wick.pc (s.lan n).wick.pc 0 0) := by
  change execMma n w s = _
  rw [execMma]
  refine State.runWick_illegal h ?_
  dsimp only
  rw [s.need_false n hillegal]
  rfl

/-! ### MDRAIN (R78, R80, R81) -/

theorem execMdrain_enters (hlegal : (s.lan n).drainLegal w ((s.lan n).drainOf w) = true)
    (hguard : (s.lan n).guardHit [(((s.lan n).drainOf w).ob, ((s.lan n).drainOf w).ext)] = none)
    (hwaits : (s.lan n).mqWaits [] [(((s.lan n).drainOf w).ob, ((s.lan n).drainOf w).ext)] = false)
    (hroom : (s.lan n).mq.length < 16) : exec (.mdrain n w) s = .next (s.completes n 8 (fun l =>
      (l.mqAdd (longInsn w 0xA1) (.drain ((s.lan n).drainOf w))).mqTidy)) := by
  rw [← s.mqEnter_completes]
  change execMdrain n w s = _
  rw [execMdrain]
  refine State.runWick_completes h ?_
  have hready : ((s.lan n).mqRoom &&
      !(s.lan n).mqWaits [] [(((s.lan n).drainOf w).ob, ((s.lan n).drainOf w).ext)]) = true := by
    simp [Lantern.mqRoom, hroom, hwaits]
  dsimp only
  rw [s.need_true n hlegal, s.guardRanges_none n hguard, s.await_true hready]
  rfl

theorem execMdrain_illegal (hillegal : (s.lan n).drainLegal w ((s.lan n).drainOf w) = false) :
    exec (.mdrain n w) s =
      .next ((s.issued n).takeEvent n 0x21 (s.lan n).wick.pc (s.lan n).wick.pc 0 0) := by
  change execMdrain n w s = _
  rw [execMdrain]
  refine State.runWick_illegal h ?_
  dsimp only
  rw [s.need_false n hillegal]
  rfl

/-! ### MFENCE and MCAP (R82, R88) -/

section Plain

variable (hlo : w.lo = 0) (hw1 : w.w1 = 0)
include hlo hw1

theorem execMfence_completes (hdone : (s.lan n).matrixDone = true) :
    exec (.mfence n w) s = .next (s.completes n 8 id) := by
  change execMfence n w s = _
  rw [execMfence]
  refine State.runWick_completes h ?_
  rw [s.need_true n (by simp [hlo, hw1]), s.awaitFence_true hdone]
  rfl

theorem execMfence_waits (hleft : (s.lan n).matrixDone = false) :
    exec (.mfence n w) s = .next (s.modLan n (fun l => { l with wait := .fence })) := by
  change execMfence n w s = _
  rw [execMfence]
  refine State.runWick_error (a := .wait s .fence) h ?_
  rw [s.need_true n (by simp [hlo, hw1]), s.awaitFence_false hleft]
  rfl

theorem execMcap_completes : exec (.mcap n w) s =
    .next (s.completes n 8 (onWick (fun k => { k with a := BitVec.ofNat 64 (s.lan n).mcap }))) := by
  change execMcap n w s = _
  rw [execMcap]
  refine (State.runWick_completes (u := s.modWick n fun k => { k with a := BitVec.ofNat 64 (s.lan n).mcap }) h ?_).trans
    (congrArg _ (s.completes_modLan n 8 _))
  rw [s.need_true n (by simp [hlo, hw1])]
  rfl

end Plain

end Issues

/-! ### What an MMA leaves of the queue (R80) -/

/-- An array that cannot pass over its head stays there. -/
theorem Lantern.pumpArr_stays {l : Lantern} {m : Nat} {e : MqEntry} (hhead : l.mqHead m = some e)
    (hstays : l.passOver m e = none) (k : Nat) : Lantern.pumpArr m k l = l := by
  cases k with
  | zero => rfl
  | succ k => simp only [Lantern.pumpArr, hhead, hstays]

theorem foldl_eq_self {α β : Type} {f : α → β → α} {a : α} {xs : List β} (h : ∀ b ∈ xs, f a b = a) :
    xs.foldl f a = a := by
  induction xs with
  | nil => rfl
  | cons b t ih => rw [List.foldl_cons, h b (.head _), ih fun c hc => h c (.tail _ hc)]

/-- Where no array can go on, only what reports finished entries changes, and they leave the queue. -/
theorem Lantern.mqTidy_stays {l : Lantern} (h : ∀ m, m < 8 → ∀ k, Lantern.pumpArr m k l = l) :
    l.mqTidy = { l with
      nanQ := l.mqTidy.nanQ, nanLate := l.mqTidy.nanLate, mq := l.mq.filter (fun e => !e.over) } := by
  have hpump : arrayNos.foldl (fun l m => Lantern.pumpArr m l.mq.length l) l = l :=
    foldl_eq_self fun m hm => h m (List.mem_range.1 hm) _
  unfold Lantern.mqTidy
  rw [hpump]

/-- The entry that an instruction makes in the queue. -/
def Lantern.mqEntry (l : Lantern) (insn : Word) (op : MqOp) : MqEntry :=
  { id := l.mqNext, pc := l.wick.pc, insn := insn, op := op, done := 0, written := 0 }

theorem Lantern.mqAdd_mq {l : Lantern} (insn : Word) (op : MqOp) (hempty : l.mq = []) :
    (l.mqAdd insn op).mq = [l.mqEntry insn op] := by
  rw [Lantern.mqAdd, hempty]
  rfl

/-- A multiply that enters an empty queue, and that no array skips, waits there for all its shares. -/
theorem Lantern.mqTidy_mqAdd_mma {l : Lantern} {r : MmaReq} (insn : Word) (hempty : l.mq = [])
    (hrun : ∀ m, m < 8 → l.inSvc m = true ∧ r.skip.getLsbD m = false) :
    (l.mqAdd insn (.mma r)).mqTidy = { l.mqAdd insn (.mma r) with
      nanQ := (l.mqAdd insn (.mma r)).mqTidy.nanQ
      nanLate := (l.mqAdd insn (.mma r)).mqTidy.nanLate
      mq := [l.mqEntry insn (.mma r)] } := by
  have hmq := l.mqAdd_mq insn (.mma r) hempty
  have hstays (m : Nat) (hm : m < 8) : ∀ k, Lantern.pumpArr m k (l.mqAdd insn (.mma r)) = l.mqAdd insn (.mma r) := by
    obtain ⟨hsvc, hskip⟩ := hrun m hm
    refine Lantern.pumpArr_stays (e := l.mqEntry insn (.mma r)) ?_ ?_
    · simp [Lantern.mqHead, hmq, Lantern.mqEntry]
    · have hsvc' : (l.mqAdd insn (.mma r)).inSvc m = true := hsvc
      simp [Lantern.passOver, Lantern.mqEntry, hskip, hsvc']
  refine (Lantern.mqTidy_stays hstays).trans ?_
  rw [hmq]
  rfl

/-! ### The statement -/

theorem Lantern.matrixDone_iff (l : Lantern) :
    l.matrixDone = true ↔ l.mq = [] ∧ ∀ p ∈ l.arrs, p.2.shadow = [] := by
  simp [Lantern.matrixDone]

theorem Lantern.mqWaits_of_loader {l : Lantern} {rs ws : List Rng}
    (h : ∃ i ∈ l.lq, ∃ x ∈ i.lsWrites, meets x.1 x.2 rs = true) : l.mqWaits rs ws = true := by
  have hlq : l.lq.any (fun i => i.lsWrites.any (fun r => meets r.1 r.2 rs)) = true := by simpa using h
  simp [Lantern.mqWaits, hlq]

/-- Settles O23: each instruction through the equations of its meaning, and the queue through
`Lantern.mqTidy_mqAdd_mma`. -/
theorem matrixInstructionsComplete : Obligations.MatrixInstructionsComplete := by
  unfold Obligations.MatrixInstructionsComplete
  refine ⟨fun s n w h => ⟨fun hlegal hguard hwaits hroom => ?mma, fun hlegal hguard hloader => ?loader,
    execMdrain_enters h, fun hlo hw1 => ⟨?fence, ?fenceWaits, ?mcap⟩⟩,
    fun s n w h => ⟨execMma_illegal h, execMdrain_illegal h⟩⟩
  case mma =>
    have hexec := execMma_enters h hlegal hguard hwaits hroom
    refine ⟨hexec, fun hempty hrun => ⟨_, hexec, ?_⟩⟩
    rw [State.completes, State.lan_setLan, State.setLan_mem, Lantern.mqTidy_mqAdd_mma _ hempty hrun, Lantern.done_eq]
    exact ⟨rfl, rfl, rfl, rfl⟩
  case loader => exact execMma_waits h hlegal hguard (Lantern.mqWaits_of_loader hloader)
  case fence =>
    exact fun hmq hshadow => execMfence_completes h hlo hw1 ((Lantern.matrixDone_iff _).2 ⟨hmq, hshadow⟩)
  case fenceWaits =>
    intro hleft
    refine execMfence_waits h hlo hw1 (Bool.eq_false_iff.2 fun hdone => ?_)
    obtain ⟨hmq, hshadow⟩ := (Lantern.matrixDone_iff _).1 hdone
    obtain hne | ⟨p, hp, hne⟩ := hleft
    · exact hne hmq
    · exact hne (hshadow p hp)
  case mcap =>
    rw [execMcap_completes h hlo hw1, Lantern.mcap]
    cases (s.lan n).chk <;> rfl

end Sys2Proof.Machine

/-! ## Stores and the store buffer (R81, R215, R218, R230, R231, R245) -/

namespace Sys2Proof

@[simp] theorem length_leBytes (n v : Nat) : (leBytes n v).length = n := by
  induction n generalizing v with
  | zero => rfl
  | succ n ih => simp [leBytes, ih]

end Sys2Proof

namespace Sys2Proof.Machine

open Sys2Proof

/-! ### Entries of the store buffer (R215, R218) -/

theorem sbEntries_of_le {ls : Bool} {a : Dword} {bs : List Byte} (h : a.toNat % 128 + bs.length ≤ 128) :
    sbEntries ls a bs = [{ ls := ls, addr := a.toNat, bytes := bs }] := by
  simp only [sbEntries, halves, if_pos (show bs.length ≤ 128 - a.toNat % 128 by omega)]

/-- A store across a 128-byte boundary takes two entries, which pin each other's page (R218). -/
theorem sbEntries_of_lt {ls : Bool} {a : Dword} {bs : List Byte} (h : 128 < a.toNat % 128 + bs.length) :
    sbEntries ls a bs =
      [{ ls := ls, addr := a.toNat, bytes := bs.take (128 - a.toNat % 128)
         pins := if ls then [] else
           [a.toNat / pageSize, (a + BitVec.ofNat 64 (128 - a.toNat % 128)).toNat / pageSize] },
       { ls := ls, addr := (a + BitVec.ofNat 64 (128 - a.toNat % 128)).toNat, bytes := bs.drop (128 - a.toNat % 128)
         pins := if ls then [] else
           [a.toNat / pageSize, (a + BitVec.ofNat 64 (128 - a.toNat % 128)).toNat / pageSize] }] := by
  simp only [sbEntries, halves, if_neg (show ¬bs.length ≤ 128 - a.toNat % 128 by omega), vpnOf]

theorem sbEntries_ls {ls : Bool} {a : Dword} {bs : List Byte} {e : SbEntry} (he : e ∈ sbEntries ls a bs) :
    e.ls = ls := by
  by_cases h : a.toNat % 128 + bs.length ≤ 128
  · rw [sbEntries_of_le h, List.mem_singleton] at he
    rw [he]
  · rw [sbEntries_of_lt (Nat.lt_of_not_le h), List.mem_pair] at he
    obtain rfl | rfl := he <;> rfl

/-- The entries of a store wait where queued work holds a range of one of them. -/
theorem Lantern.storeWaits_sbEntries (l : Lantern) (dv : Bool) (a : Dword) (bs : List Byte) :
    l.storeWaits (sbEntries (!dv) a bs) = true ↔
      ∃ e ∈ sbEntries (!dv) a bs, l.blocked dv true e.addr e.bytes.length = true := by
  simp only [Lantern.storeWaits, List.any_eq_true]
  refine exists_congr fun e => and_congr_right fun he => ?_
  rw [sbEntries_ls he, Bool.not_not]

/-! ### A store that has reached its memory -/

section Reached

variable {s u : State} {n : Nat} {dv : Bool} {a : Dword} {bs : List Byte} (hreg : (dv && inReg a.toNat) = false)
  (hreach : s.reach n dv true true a bs.length = .ok u)
include hreg hreach

theorem State.store_eq_enterStores : s.store n dv true a bs = u.enterStores n (sbEntries (!dv) a bs) := by
  rw [State.store, hreach]
  exact if_neg (ne_true_of_eq_false hreg)

theorem State.store_enters
    (hfree : ∀ e ∈ sbEntries (!dv) a bs, (u.lan n).blocked dv true e.addr e.bytes.length = false)
    (hroom : (u.lan n).sb.length + (sbEntries (!dv) a bs).length ≤ 8) :
    s.store n dv true a bs = .ok (u.modLan n fun l => { l with sb := l.sb ++ sbEntries (!dv) a bs }) := by
  have hgo : (u.lan n).storeWaits (sbEntries (!dv) a bs) = false := by
    rw [Bool.eq_false_iff, Ne, Lantern.storeWaits_sbEntries]
    rintro ⟨e, he, hblocked⟩
    simp [hfree e he] at hblocked
  rw [State.store_eq_enterStores hreg hreach]
  exact if_pos (by simp [hgo, hroom])

theorem State.store_waits
    (hheld : ∃ e ∈ sbEntries (!dv) a bs, (u.lan n).blocked dv true e.addr e.bytes.length = true) :
    s.store n dv true a bs = .error (.wait u .drain) := by
  have hwait : (u.lan n).storeWaits (sbEntries (!dv) a bs) = true := (Lantern.storeWaits_sbEntries ..).2 hheld
  rw [State.store_eq_enterStores hreg hreach]
  exact if_neg (by simp [hwait])

end Reached

/-! ### The memory forms (R230, R231) -/

theorem operandOf_mem_am {k : Wick} {w : BaseWord} {dv : Bool} {a : Dword} (h : operandOf k w = some (.mem dv a)) :
    w.am ≠ 0 ∧ w.am ≠ 6 := by
  constructor <;> intro ham <;> simp [operandOf, ham] at h

section Memory

variable {s u : State} {n : Nat} {w : BaseWord} {legal : Bool} {len : Nat} {v : Wick → Dword} {dv : Bool} {a : Dword}
  (h : s.issues n w.len w.cond) (hlegal : legal = true)
  (hop : operandOf (s.lan n).wick w = some (.mem dv a))
include h hlegal hop

theorem State.baseStore_completes (hstore : s.store n dv true a (leBytes len (v (s.lan n).wick).toNat) = .ok u) :
    s.baseStore n w legal len v = .next (u.completes n w.len id) := by
  refine State.runWick_completes h ?_
  rw [s.need_true n hlegal, if_neg (operandOf_mem_am hop).2, State.operandStore, hop]
  dsimp only
  rw [hstore]
  rfl

theorem State.baseStore_waits {x : Abort}
    (hstore : s.store n dv true a (leBytes len (v (s.lan n).wick).toNat) = .error x) :
    s.baseStore n w legal len v = .next (x.land n) := by
  refine State.runWick_error h ?_
  rw [s.need_true n hlegal, if_neg (operandOf_mem_am hop).2, State.operandStore, hop]
  dsimp only
  rw [hstore]
  rfl

end Memory

/-! ### Writing a register by its code (R204, R245) -/

/-- The wick may write the register of this mode 6 code. -/
def regWritable (code : Nat) (sup : Bool) : Bool :=
  (32 ≤ code && code < 64) || (code < 13 && (code ≠ 4 || sup)) || (code = 15 && sup)

/-- The wick's registers after a write of the one that a code below 32 names. -/
def Wick.putReg (k : Wick) (code : Nat) (v : Dword) : Wick :=
  match code with
  | 0x00 => { k with a := v }
  | 0x01 => { k with x := v }
  | 0x02 => { k with y := v }
  | 0x03 => { k with sp := v }
  | 0x04 => { k with ssp := v }
  | 0x05 => { k with flags := v.setWidth 4 }
  | 0x06 => { k with mode := modeWrite k.mode v }
  | 0x07 => { k with cnt := v }
  | 0x08 => { k with src := v }
  | 0x09 => { k with dst := v }
  | 0x0A => { k with lcnt := v }
  | 0x0B => { k with lbeg := v }
  | 0x0C => { k with lend := v }
  | _ => { k with sstk := v &&& ~~~31#64 }

/-- The lantern after a write of a register; a write of MODE takes the sticky flags from queued work (R267). -/
def Lantern.putReg (l : Lantern) (code : Nat) (v : Dword) : Lantern :=
  if 32 ≤ code then l.setF (code - 32) v
  else if code = 6 then { l.keepFx 0x1F with wick := l.wick.putReg code v }
  else { l with wick := l.wick.putReg code v }

theorem State.writeReg_eq (s : State) (n code : Nat) (v : Dword) : s.writeReg n code v =
    if regWritable code (s.lan n).wick.sup then .ok (s.modLan n (fun l => l.putReg code v))
    else s.illegal n (if code = 4 ∨ code = 15 then 0x22 else 0x21) := by
  unfold State.writeReg
  dsimp only
  generalize (s.lan n).wick.sup = sup
  split
  case isTrue h =>
    rw [if_neg (by grind [regWritable]), if_neg (by omega)]
  case isFalse hlt =>
    split
    case isTrue hf =>
      rw [if_pos (by grind [regWritable]), State.modLan, Lantern.putReg, if_pos hf]
    case isFalse hk =>
      split
      case h_15 => rw [if_neg (by grind [regWritable]), if_neg (by grind)]
      all_goals cases sup <;> rfl

theorem Lantern.putReg_setWork (l : Lantern) (code : Nat) (v x : Dword) :
    { l with work := x }.putReg code v = { l.putReg code v with work := x } := by
  unfold Lantern.putReg
  split
  · rfl
  · split <;> rfl

/-- WORK is counted before or after a change that does not read it. -/
theorem State.issued_modLan (s : State) (n : Nat) {f : Lantern → Lantern}
    (hf : ∀ l x, f { l with work := x } = { f l with work := x }) :
    (s.modLan n f).issued n = (s.issued n).modLan n f := by
  have hself : f (s.lan n) = { f (s.lan n) with work := (s.lan n).work } := hf (s.lan n) (s.lan n).work
  have hwork : (f (s.lan n)).work = (s.lan n).work := congrArg (fun l => l.work) hself
  simp only [State.issued, State.modLan, State.lan_setLan, State.setLan_setLan, hwork]
  exact congrArg (s.setLan n) (hf ..).symm

theorem Wick.advance_mode (k : Wick) (len : Nat) : (k.advance len).mode = k.mode := by
  unfold Wick.advance
  dsimp only
  split <;> rfl

theorem State.complete_sup (s : State) (n len : Nat) : ((s.complete n len).lan n).wick.sup = (s.lan n).wick.sup := by
  rw [State.complete, State.lan_modLan, Lantern.done_eq, Wick.sup, Wick.advance_mode, Wick.sup]

/-- A register form completes, and then writes its register (R245). -/
theorem State.baseStore_register {s t : State} {n : Nat} {w : BaseWord} {legal : Bool} {len : Nat} {v : Wick → Dword}
    (h : s.issues n w.len w.cond) (hlegal : legal = true) (ham : w.am = 6)
    (hwrite : (s.completes n 4 id).writeReg n w.imm.toNat (v (s.lan n).wick) = .ok t) :
    s.baseStore n w legal len v = .next t := by
  have hlen : w.len = 4 := by simp [BaseWord.len, ham]
  have hsup : ((s.completes n 4 id).lan n).wick.sup = (s.lan n).wick.sup := by
    rw [← s.complete_issued, State.issued, State.lan_modLan, ← s.complete_sup n 4]
  rw [State.writeReg_eq, hsup] at hwrite
  obtain ⟨hok, rfl⟩ : regWritable w.imm.toNat (s.lan n).wick.sup = true ∧
      (s.completes n 4 id).modLan n (fun l => l.putReg w.imm.toNat (v (s.lan n).wick)) = t := by
    split at hwrite
    · exact ⟨‹_›, Except.ok.inj hwrite⟩
    · cases hwrite
  rw [← s.complete_issued, ← State.issued_modLan _ _ fun l x => l.putReg_setWork ..]
  refine State.runWick_ok h ?_
  rw [s.need_true n hlegal, if_pos ham, State.writeReg_eq, State.writeReg_eq, State.complete_sup, if_pos hok,
    if_pos hok, hlen]
  rfl

/-! ### Draining (R81, R221, R258, R390) -/

theorem Lantern.lsStoreP_eq (l : Lantern) (a : Nat) (bs : List Byte) (bad : Nat → Bool) : l.lsStoreP a bs bad =
    { l with
      ls := cellsWrite l.ls a bs
      lsPoison := (l.lsWriteP a bs bad).lsPoison
      resv := (l.lsStoreP a bs bad).resv } := by
  unfold Lantern.lsStoreP
  dsimp only
  split
  · split <;> rfl
  · rfl

/-- A poisoned write poisons every word that it meets. -/
theorem Lantern.mem_lsPoison_lsWriteP (l : Lantern) (a : Nat) (bs : List Byte) {w : Nat}
    (h : w ∈ wordsOf a bs.length) : w ∈ (l.lsWriteP a bs fun _ => true).lsPoison :=
  mem_foldl_setIns.2 (.inl h)

section Drain

variable {s : State} {n : Nat} {bad : Bool} {e : SbEntry} {r : List SbEntry} (hon : s.lanOn n = true)
  (hsb : (s.lan n).sb = e :: r) (hfree : (s.lan n).blocked (!e.ls) true e.addr e.bytes.length = false)
include hon hsb

theorem execStoreBufferDrain_eq :
    exec (.storeBufferDrain n bad) s = .next (s.drainHead n { e with poison := e.poison || bad } r) := by
  change execStoreBufferDrain n bad s = _
  simp only [execStoreBufferDrain, hsb, hon, if_true]

include hfree

theorem execStoreBufferDrain_localStore (hls : e.ls = true) : exec (.storeBufferDrain n bad) s =
    .next (s.setLan n ({ s.lan n with sb := r }.lsStoreP e.addr e.bytes fun _ => e.poison || bad)) := by
  rw [execStoreBufferDrain_eq hon hsb, State.drainHead]
  dsimp only
  rw [if_neg (ne_true_of_eq_false hfree), if_pos hls]

variable {u : State} {pg : Pte} (hdv : e.ls = false)
include hdv

theorem execStoreBufferDrain_deviceMemory (htouch : s.touch (.wick n) e.addr true = (u, .ok pg)) :
    exec (.storeBufferDrain n bad) s = .next ((u.modLan n fun l => { l with sb := r }).dvStore (.wick n)
      e.addr e.bytes fun _ => e.poison || bad).pumpPins := by
  rw [execStoreBufferDrain_eq hon hsb, State.drainHead]
  dsimp only
  rw [if_neg (ne_true_of_eq_false hfree), if_neg (ne_true_of_eq_false hdv), htouch]

theorem execStoreBufferDrain_stalls (htouch : s.touch (.wick n) e.addr true = (u, .stall)) :
    exec (.storeBufferDrain n bad) s = .next u := by
  rw [execStoreBufferDrain_eq hon hsb, State.drainHead]
  dsimp only
  rw [if_neg (ne_true_of_eq_false hfree), if_neg (ne_true_of_eq_false hdv), htouch]

end Drain

/-! ### The statement -/

/-- Settles O6: a store through `State.store`, a register form through `State.writeReg_eq`, and a drain through
`State.drainHead`. -/
theorem wickStoresComplete : Obligations.WickStoresComplete := by
  unfold Obligations.WickStoresComplete
  refine ⟨fun s u t n w dv a h hs => ⟨?memory, fun ham => ?register⟩,
    fun s u n bad pg e r hon hsb hfree => ⟨fun hls => ?localStore, execStoreBufferDrain_deviceMemory hon hsb hfree,
      execStoreBufferDrain_stalls hon hsb hfree⟩⟩
  case memory =>
    intro hop hreg len i v hi r c pins es hreach
    obtain ⟨ham0, ham6⟩ := operandOf_mem_am hop
    have hM : w.amM = true := Bool.and_eq_true_iff.2 ⟨decide_eq_true ham0, decide_eq_true ham6⟩
    have hM6 : w.amM6 = true := decide_eq_true ham0
    obtain ⟨legal, f, hexec, hlegal, rfl⟩ : ∃ legal f, exec i s = s.baseStore n w legal len f ∧ legal = true ∧
        f (s.lan n).wick = v := by
      obtain ⟨f, rfl, rfl, rfl⟩ | ⟨rfl, rfl, rfl⟩ | ⟨rfl, rfl, rfl⟩ | ⟨rfl, rfl, rfl⟩ := hi
      · exact ⟨_, _, rfl, by simp [hM, hs], rfl⟩
      all_goals exact ⟨_, _, rfl, by simp [hM6, hs], rfl⟩
    have hes : es = sbEntries (!dv) a (leBytes len (f (s.lan n).wick).toNat) := by
      by_cases hr : r ≤ 128
      · rw [sbEntries_of_le (by simpa using hr)]
        exact if_pos hr
      · rw [sbEntries_of_lt (by simpa using hr)]
        refine (if_neg hr).trans ?_
        cases dv <;> rfl
    rw [← length_leBytes len (f (s.lan n).wick).toNat] at hreach
    rw [hexec, hes]
    refine ⟨fun hfree hroom => ?_, fun hheld => ?_⟩
    · rw [State.baseStore_completes h hlegal hop (State.store_enters hreg hreach hfree hroom), State.completes_modLan]
    · exact State.baseStore_waits h hlegal hop (State.store_waits hreg hreach hheld)
  case register =>
    have hlegal : (w.amM6 && !w.s) = true := by simp [BaseWord.amM6, ham, hs]
    exact ⟨State.baseStore_register h hlegal ham, State.baseStore_register h hlegal ham,
      State.baseStore_register h hlegal ham⟩
  case localStore =>
    refine ⟨_, execStoreBufferDrain_localStore hon hsb hfree hls, ?_⟩
    rw [State.lan_setLan, Lantern.lsStoreP_eq]
    refine ⟨rfl, rfl, fun m hm => s.lan_setLan_of_ne _ hm, fun hbad x hx => ?_, fun x => ?_⟩
    · rw [hbad]
      exact Lantern.mem_lsPoison_lsWriteP _ _ _ hx
    · change [cellAt (cellsWrite (s.lan n).ls e.addr e.bytes) x] = _
      rw [cellAt_cellsWrite]
      split <;> rfl

end Sys2Proof.Machine

/-! ## Chains and the halo (R93, R121 to R126) -/

namespace Sys2Proof.Machine

open Sys2Proof

theorem State.modLan_completes (s : State) (n len : Nat) (f g : Lantern → Lantern) :
    (s.modLan n f).completes n len g = s.completes n len (fun l => g (f l)) := by
  simp only [State.completes, State.modLan, State.lan_setLan, State.setLan_setLan]

/-! ### HCHAIN (R121 to R123) -/

/-- HCHAIN leaves its status in A, and Z says whether it is 0. -/
def Lantern.chainAnswer (st : Nat) : Lantern → Lantern :=
  onWick (fun k => { k with a := BitVec.ofNat 64 st, flags := withZ k.flags (st = 0) })

/-- Local-store address of the descriptor that X names (R121). -/
def Lantern.descAt (l : Lantern) : Nat := l.wick.x.toNat % 2 ^ 22

theorem Lantern.natField_descAt (l : Lantern) : natField l.wick.x.toNat 0 22 = l.descAt := by
  simp [natField, Lantern.descAt]

/-- An aligned descriptor ends within the local store. -/
theorem Lantern.descAt_fits {l : Lantern} (h : l.descAt % 128 = 0) : l.descAt + 128 ≤ lsSize := by
  simp only [Lantern.descAt, lsSize] at *
  omega

section Hchain

variable {s : State} {n : Nat} {w : LongWord} {d : List Byte} (h : s.issues n 8 w.cond)
  (hlo : w.lo = 0) (hw1 : w.w1 = 0) (halign : (s.lan n).descAt % 128 = 0) (hnarr : (s.lan n).narr ≠ 0)
  (hguard : (s.lan n).guardHit [((s.lan n).descAt, 128)] = none) (hread : s.readDesc n (s.lan n).descAt = .ok d)
include h hlo hw1 halign hnarr hguard hread

theorem execHchain_refuses (hst : (s.lan n).chainStatus d ≠ 0) : exec (.hchain n w) s =
    .next (s.completes n 8 (Lantern.chainAnswer ((s.lan n).chainStatus d))) := by
  change execHchain n w s = _
  rw [execHchain]
  refine (State.runWick_completes
    (u := s.modLan n (Lantern.chainAnswer ((s.lan n).chainStatus d))) h ?_).trans
    (congrArg _ (s.modLan_completes n 8 _ _))
  dsimp only
  rw [Lantern.natField_descAt, s.need_true n (by simp [hlo, hw1, halign, hnarr, Lantern.descAt_fits]), hguard, hread]
  exact if_neg hst

theorem execHchain_queues (hst : (s.lan n).chainStatus d = 0)
    (hranges : (s.lan n).guardHit ((s.lan n).chainRanges d) = none)
    (hwaits : (s.lan n).mqWaits (chainD d).reads (chainD d).writes = false) (hroom : (s.lan n).mq.length < 16) :
    exec (.hchain n w) s = .next (s.completes n 8 (fun l =>
      Lantern.chainAnswer ((s.lan n).chainStatus d) (l.mqAdd (longInsn w 0xB0) (.chain d false)).mqTidy)) := by
  change execHchain n w s = _
  rw [execHchain]
  refine (State.runWick_completes (u := (s.mqEnter n (longInsn w 0xB0) (.chain d false)).modLan n
    (Lantern.chainAnswer ((s.lan n).chainStatus d))) h ?_).trans (congrArg _ ?_)
  · have hready : ((s.lan n).mqRoom && !(s.lan n).mqWaits (chainD d).reads (chainD d).writes) = true := by
      simp [Lantern.mqRoom, hroom, hwaits]
    dsimp only
    rw [Lantern.natField_descAt, s.need_true n (by simp [hlo, hw1, halign, hnarr, Lantern.descAt_fits]), hguard, hread]
    refine (if_pos hst).trans ?_
    rw [s.guardRanges_none n hranges, s.await_true hready]
    rfl
  · rw [State.modLan_completes, State.mqEnter, State.modLan_completes]
    rfl

end Hchain

/-! ### The start and the end of a chain (R124 to R126) -/

/-- A change of the entry at the head by its identity changes the head alone. -/
theorem Lantern.modMq_head {l : Lantern} {e : MqEntry} {t : List MqEntry} (hmq : l.mq = e :: t)
    (f : MqEntry → MqEntry) : l.modMq e.id f = { l with mq := f e :: t } := by
  simp [Lantern.modMq, hmq, updFirst]

/-- The entry `id` has run on every array with this first NaN, and every slot is empty. -/
def Lantern.chainOver (l : Lantern) (id : Nat) (nan : Option ChainNan) : Lantern :=
  { l.modMq id (fun e => { e with done := 0xFF, nan := nan.map (chainNanRep e.pc e.insn) }) with
    arrs := l.arrs.map (fun p => (p.1, { p.2 with slots := [] })) }

theorem Lantern.ls_chainOver (l : Lantern) (id : Nat) (nan : Option ChainNan) : (l.chainOver id nan).ls = l.ls := rfl

theorem Lantern.mq_chainOver {l : Lantern} {e : MqEntry} {t : List MqEntry} (hmq : l.mq = e :: t)
    (nan : Option ChainNan) :
    (l.chainOver e.id nan).mq = { e with done := 0xFF, nan := nan.map (chainNanRep e.pc e.insn) } :: t := by
  rw [Lantern.chainOver, Lantern.modMq_head hmq]

theorem Lantern.slots_chainOver (l : Lantern) (id : Nat) (nan : Option ChainNan) :
    ∀ p ∈ (l.chainOver id nan).arrs, p.2.slots = [] := by
  intro p hp
  obtain ⟨q, -, rfl⟩ := List.mem_map.1 hp
  rfl

section Runs

variable {s : State} {n : Nat} {d : List Byte} {e : MqEntry} {t : List MqEntry} (hrun : s.arraysRun n = true)
  (hmq : (s.lan n).mq = e :: t)
include hrun hmq

theorem execChainStart_head (hop : e.op = .chain d false) : exec (.chainStart n) s =
    .next (s.setLan n { s.lan n with mq := { e with op := .chain d true } :: t }) := by
  change execChainStart n s = _
  simp only [execChainStart, if_pos hrun, hmq, hop, Lantern.modMq_head hmq]

theorem execChainComplete_head (hop : e.op = .chain d true) (ups : List ChainUpset) :
    exec (.chainComplete n ups) s = .next (
      let x := s.runChain n (chainD d) ups
      if x.lost then x.s else x.s.modLan n (fun l => (l.chainOver e.id x.nan).mqTidy)) := by
  change execChainComplete n ups s = _
  rw [execChainComplete, if_pos hrun, hmq]
  dsimp only
  rw [hop]
  rfl

end Runs

/-! ### A product tile in checksum mode (R93, R126) -/

section Tile

variable {s : State} {n : Nat} {u : ChainUpset} {o : ChainOps}

theorem State.chainTile_unchecked (hchk : (s.lan n).chk = false) :
    s.chainTile n u o = (s, some ((s.lan n).arr u.tile.arr, u.first)) :=
  if_pos (by simp [hchk])

/-- An array in service checks the tile that it forms; a mismatch takes the recompute that passes, the stable result
of an array that passes its own test, or a substitute of the array that is now quarantined. -/
theorem State.chainTile_checked (hchk : (s.lan n).chk = true) (hsvc : ((s.lan n).arr u.tile.arr).quar = false) :
    s.chainTile n u o =
      let a := (s.lan n).arr u.tile.arr
      let t := o.tile a u.first
      let t2 := o.tile a u.again
      if t.passes 0 then (s, some (a, u.first))
      else if t2.passes 0 then (s.recomputePassed n u.tile.arr t 0, some (a, u.again))
      else if t2.sameBits t && u.pass then (s.stablePair n u.tile.arr, some (a, u.first))
      else (s.quarantineArr n u.tile.arr).chainSub n u.tile.arr o 8 u.subs := by
  have hrun : ¬(!(s.lan n).inSvc u.tile.arr) = true := by simp [Lantern.inSvc, hsvc]
  exact (if_neg (by simp [hchk])).trans (if_neg hrun)

end Tile

/-! ### The statement -/

/-- Settles O25: HCHAIN by its status, the start and the end of a chain at the head of the queue, and the ladder of
`State.chainTile_checked`. -/
theorem chainsComplete : Obligations.ChainsComplete := by
  unfold Obligations.ChainsComplete
  intro s n w d l at_
  refine ⟨fun h hlo hw1 halign hnarr hguard hread => ?hchain, fun hon hhalt e t hmq => ?runs, fun u o => ?tile⟩
  case hchain =>
    exact ⟨execHchain_refuses h hlo hw1 halign hnarr hguard hread,
      execHchain_queues h hlo hw1 halign hnarr hguard hread⟩
  case runs =>
    have hrun : s.arraysRun n = true := Bool.and_eq_true_iff.2 ⟨hon, congrArg Bool.not hhalt⟩
    refine ⟨execChainStart_head hrun hmq, fun hop ups x hx => ?_⟩
    rw [execChainComplete_head hrun hmq hop ups, ← hx]
    exact ⟨fun hlost => congrArg Host.Outcome.next (if_pos hlost), fun hlost hkept =>
      ⟨(x.s.lan n).chainOver e.id x.nan, congrArg Host.Outcome.next (if_neg (ne_true_of_eq_false hlost)),
        Lantern.mq_chainOver (hkept.trans hmq) _, Lantern.ls_chainOver _ _ _, Lantern.slots_chainOver _ _ _⟩⟩
  case tile =>
    refine ⟨State.chainTile_unchecked, fun hchk hsvc => ?_⟩
    rw [State.chainTile_checked hchk hsvc]
    refine ⟨fun hpass => if_pos hpass, fun hfail hpass => ?recompute, fun hfail hfail2 hsame htest => ?stable,
      fun hfail hfail2 hbad => ?quarantine⟩
    all_goals refine (if_neg (ne_true_of_eq_false hfail)).trans ?_
    case recompute => exact if_pos hpass
    all_goals refine (if_neg (ne_true_of_eq_false hfail2)).trans ?_
    case stable => exact if_pos (Bool.and_eq_true_iff.2 ⟨hsame, htest⟩)
    case quarantine =>
      refine if_neg fun hgood => ?_
      obtain ⟨hsame, htest⟩ := Bool.and_eq_true_iff.1 hgood
      obtain hdiff | hbroken := hbad
      · exact ne_true_of_eq_false hdiff hsame
      · exact ne_true_of_eq_false hbroken htest

end Sys2Proof.Machine

/-! ## A result per element (R148, R150, R156) -/

namespace Sys2Proof

theorem Tab.getD_putD {α : Type} [DecidableEq α] (t : Tab α) (k m : Nat) (v d : α) :
    Tab.getD (Tab.putD t k v d) m d = if m = k then v else Tab.getD t m d := by
  rw [Tab.putD]
  split
  · next hdefault =>
    rw [Tab.getD, Tab.find?_erase]
    split
    · exact hdefault.symm
    · rfl
  · exact Tab.getD_put ..

end Sys2Proof

namespace Sys2Proof.Machine

open Sys2Proof

/-! ### One element -/

/-- A write into a register reaches the bits of its field and no other. -/
theorem getLsbD_regPut (r : BitVec 65536) {pos w : Nat} (v : Nat) (hfits : pos + w ≤ 65536) (j : Nat) :
    (regPut r pos w v).getLsbD j = if pos ≤ j ∧ j < pos + w then v.testBit (j - pos) else r.getLsbD j := by
  simp only [regPut, BitVec.getLsbD_or, BitVec.getLsbD_and, BitVec.getLsbD_not, BitVec.getLsbD_shiftLeft,
    BitVec.getLsbD_ofNat, Nat.testBit_two_pow_sub_one, Nat.testBit_mod_two_pow]
  split
  · next hin =>
    obtain ⟨hlow, hhigh⟩ := hin
    simp [show j < 65536 by omega, show ¬j < pos by omega, show j - pos < w by omega, show j - pos < 65536 by omega]
  · next hout =>
    by_cases hword : j < 65536
    · have hbit : j < pos ∨ ¬j - pos < w := by omega
      obtain hlow | hhigh := hbit <;> simp [*]
    · simp [hword, show ¬j - pos < w by omega, BitVec.getLsbD_of_ge r j (by omega)]

theorem extractLsb'_regPut_same (r : BitVec 65536) {pos w : Nat} (v : Nat) (hfits : pos + w ≤ 65536) :
    ((regPut r pos w v).extractLsb' pos w).toNat = v % 2 ^ w := by
  have hfield : (regPut r pos w v).extractLsb' pos w = BitVec.ofNat w v :=
    BitVec.eq_of_getLsbD_eq fun i hi => by
      rw [BitVec.getLsbD_extractLsb', getLsbD_regPut r v hfits, if_pos (by omega), BitVec.getLsbD_ofNat,
        Nat.add_sub_cancel_left]
  rw [hfield, BitVec.toNat_ofNat]

theorem extractLsb'_regPut_apart (r : BitVec 65536) {pos w p : Nat} (v : Nat) (hfits : pos + w ≤ 65536)
    (hapart : p + w ≤ pos ∨ pos + w ≤ p) :
    (regPut r pos w v).extractLsb' p w = r.extractLsb' p w :=
  BitVec.eq_of_getLsbD_eq fun i hi => by
    have hout : ¬(pos ≤ p + i ∧ p + i < pos + w) := by omega
    simp [getLsbD_regPut r v hfits, hout]

/-- The width of an element is one of the four of R148. -/
abbrev ElemWidth (wd : Nat) : Prop := wd ∈ [8, 16, 32, 64]

theorem ElemWidth_iff {wd : Nat} : ElemWidth wd ↔ wd = 8 ∨ wd = 16 ∨ wd = 32 ∨ wd = 64 := by
  simp [ElemWidth]

/-- An element lies within one register. -/
theorem ElemWidth.fits {wd : Nat} (h : ElemWidth wd) (i : Nat) : i * wd % 65536 + wd ≤ 65536 := by
  obtain rfl | rfl | rfl | rfl := ElemWidth_iff.1 h <;> omega

/-- Two elements of one register lie apart. -/
theorem ElemWidth.apart {wd i j : Nat} (h : ElemWidth wd) (hne : j ≠ i) (hreg : j * wd / 65536 = i * wd / 65536) :
    j * wd % 65536 + wd ≤ i * wd % 65536 ∨ i * wd % 65536 + wd ≤ j * wd % 65536 := by
  obtain rfl | rfl | rfl | rfl := ElemWidth_iff.1 h <;> omega

/-- The elements below VL lie in the registers that VL elements fill. -/
theorem ElemWidth.reg_lt {wd i vl : Nat} (h : ElemWidth wd) (hi : i < vl) :
    i * wd / 65536 < (vl * wd + 65535) / 65536 := by
  obtain rfl | rfl | rfl | rfl := ElemWidth_iff.1 h <;> omega

theorem Lantern.v_setElem (l : Lantern) (g wd i v m : Nat) :
    (l.setElem g wd i v).v.getD m 0 =
      if m = g + i * wd / 65536 then regPut (l.v.getD m 0) (i * wd % 65536) wd v else l.v.getD m 0 := by
  refine (Tab.getD_putD ..).trans ?_
  split
  · next hm => rw [hm]
  · rfl

/-- A written element holds the low bits of what was written, and every other one keeps its own. -/
theorem Lantern.elem_setElem (l : Lantern) {wd : Nat} (h : ElemWidth wd) (g i v j : Nat) :
    (l.setElem g wd i v).elem g wd j = if j = i then v % 2 ^ wd else l.elem g wd j := by
  rw [Lantern.elem, Lantern.v_setElem]
  by_cases hreg : j * wd / 65536 = i * wd / 65536
  · rw [if_pos (congrArg _ hreg)]
    by_cases hij : j = i
    · rw [if_pos hij, hij, extractLsb'_regPut_same _ v (h.fits i)]
    · rw [if_neg hij, extractLsb'_regPut_apart _ v (h.fits i) (h.apart hij hreg), Lantern.elem]
  · have hij : j ≠ i := fun hij => hreg (by rw [hij])
    rw [if_neg (by omega), if_neg hij, Lantern.elem]

/-! ### The elements of a list -/

/-- Writes the elements of a list that get a value. -/
def Lantern.setElems (l : Lantern) (g wd : Nat) (f : Nat → Option Nat) (xs : List Nat) : Lantern :=
  xs.foldl (fun l i => (f i).elim l (l.setElem g wd i)) l

section Elems

variable (l : Lantern) (g wd : Nat) (f : Nat → Option Nat)

theorem Lantern.setElems_succ (k : Nat) : l.setElems g wd f (List.range (k + 1)) =
    (f k).elim (l.setElems g wd f (List.range k)) ((l.setElems g wd f (List.range k)).setElem g wd k) := by
  rw [Lantern.setElems, List.range_succ, List.foldl_append]
  rfl

theorem Lantern.setElems_frame (k : Nat) : l.setElems g wd f (List.range k) =
    { l with v := (l.setElems g wd f (List.range k)).v } := by
  induction k with
  | zero => rfl
  | succ k ih =>
    rw [Lantern.setElems_succ]
    cases f k with
    | none => exact ih
    | some v => exact congrArg (fun m => m.setElem g wd k v) ih

variable {wd} (h : ElemWidth wd)
include h

/-- Each element below `k` that gets a value holds it, and every other one keeps its bits. -/
theorem Lantern.elem_setElems (k j : Nat) : (l.setElems g wd f (List.range k)).elem g wd j =
    if j < k then (f j).elim (l.elem g wd j) (· % 2 ^ wd) else l.elem g wd j := by
  induction k with
  | zero => rfl
  | succ k ih =>
    have hlt : j < k + 1 ↔ j = k ∨ j < k := by omega
    rw [Lantern.setElems_succ]
    by_cases hjk : j = k
    · subst hjk
      cases f j with
      | none => simp [ih]
      | some v => simp [Lantern.elem_setElem _ h]
    · cases f k with
      | none => simp [ih, hlt, hjk]
      | some v => simp [Lantern.elem_setElem _ h, ih, hlt, hjk]

/-- The registers below the group, and those past its first `k` elements, keep their bits. -/
theorem Lantern.v_setElems (k m : Nat) (hm : m < g ∨ g + (k * wd + 65535) / 65536 ≤ m) :
    (l.setElems g wd f (List.range k)).v.getD m 0 = l.v.getD m 0 := by
  induction k with
  | zero => rfl
  | succ k ih =>
    have hlast := h.reg_lt (Nat.lt_add_one k)
    have hsmaller : k * wd ≤ (k + 1) * wd := Nat.mul_le_mul_right wd (Nat.le_add_right k 1)
    rw [Lantern.setElems_succ]
    cases f k with
    | none => exact ih (by omega)
    | some v =>
      refine (Lantern.v_setElem ..).trans ?_
      rw [if_neg (by omega), ih (by omega)]

end Elems

/-! ### A result per element -/

/-- What a result per element gives element `i`: the result of an active one, zero to an inactive one under ZF, and
nothing otherwise. -/
def Lantern.vmapPut (l : Lantern) (w : VOp) (f : Nat → ERes) (i : Nat) : Option Nat :=
  if l.active w.pg.toNat i then some (f i).bits else if w.zf then some 0 else none

theorem Lantern.l_vmap (l : Lantern) (w : VOp) (wd : Nat) (f : Nat → ERes) :
    (l.vmap w wd f).l = l.setElems w.vd.toNat wd (l.vmapPut w f) (List.range l.wick.vl) := by
  refine (List.foldl_hom VRes.l fun r i => ?_).symm
  rw [Lantern.vmapPut]
  split
  · rfl
  · split <;> rfl

/-! ### The statement -/

/-- Settles O16: a result per element writes, element by element, what `Lantern.vmapPut` gives. -/
theorem vectorResultsPerElement : Obligations.VectorResultsPerElement := by
  unfold Obligations.VectorResultsPerElement
  intro l w wd f hwd r
  have hr : r = l.setElems w.vd.toNat wd (l.vmapPut w f) (List.range l.wick.vl) := l.l_vmap w wd f
  have helem := l.elem_setElems w.vd.toNat (l.vmapPut w f) hwd l.wick.vl
  have hreg := l.v_setElems w.vd.toNat (l.vmapPut w f) hwd l.wick.vl
  rw [← hr] at helem hreg
  refine ⟨fun i hi => ?below, fun i hi => ?beyond, fun g hg => hreg g (.inl hg),
    fun g hg => hreg g (.inr hg), ?frame⟩
  case below =>
    rw [helem, if_pos hi, Lantern.vmapPut]
    split
    · rfl
    · split <;> simp
  case beyond => rw [helem, if_neg (Nat.not_lt.2 hi)]
  case frame =>
    rw [hr]
    exact l.setElems_frame ..

end Sys2Proof.Machine

/-! ## Vector length, predicates and VFENCE (R152, R154, R179, R196) -/

namespace Sys2Proof.Machine

open Sys2Proof

/-! ### Bits of a predicate -/

/-- The number whose bits below `k` are those of `f`. -/
def natOfBits (f : Nat → Bool) (k : Nat) : Nat :=
  (List.range k).foldl (fun m i => if f i then m + 2 ^ i else m) 0

theorem predOf_eq (vl : Nat) (f : Nat → Bool) : predOf vl f = BitVec.ofNat 8192 (natOfBits f vl) := rfl

theorem natOfBits_succ (f : Nat → Bool) (k : Nat) :
    natOfBits f (k + 1) = if f k then natOfBits f k + 2 ^ k else natOfBits f k := by
  rw [natOfBits, List.range_succ, List.foldl_append]
  rfl

theorem natOfBits_lt (f : Nat → Bool) (k : Nat) : natOfBits f k < 2 ^ k := by
  induction k with
  | zero => exact Nat.one_pos
  | succ k ih =>
    rw [natOfBits_succ, Nat.pow_succ]
    split <;> omega

theorem testBit_natOfBits (f : Nat → Bool) (k i : Nat) :
    (natOfBits f k).testBit i = (decide (i < k) && f i) := by
  induction k with
  | zero => simp [natOfBits]
  | succ k ih =>
    have hlt : i < k + 1 ↔ i = k ∨ i < k := by omega
    rw [natOfBits_succ]
    split
    · next hset =>
      have hor := Nat.two_pow_add_eq_or_of_lt (natOfBits_lt f k) 1
      rw [Nat.mul_one] at hor
      rw [Nat.add_comm, hor, Nat.testBit_or, Nat.testBit_two_pow, ih]
      by_cases hik : i = k
      · simp [hik, hset]
      · simp [hlt, hik, Ne.symm hik]
    · next hclear =>
      rw [ih]
      by_cases hik : i = k
      · simp [hik, hclear]
      · simp [hlt, hik]

/-- Below 8,192, a predicate made from a function has its bits below VL and zeros above (R154). -/
theorem getLsbD_predOf (vl : Nat) (f : Nat → Bool) {i : Nat} (hi : i < 8192) :
    (predOf vl f).getLsbD i = (decide (i < vl) && f i) := by
  rw [predOf_eq, BitVec.getLsbD_ofNat, testBit_natOfBits, decide_eq_true hi, Bool.true_and]

/-- P0 to P15 may be read (R178). -/
theorem predSource_of_lt {v : BitVec 5} (h : v.toNat < 16) : (!v.getLsbD 4) = true := by
  have hbit : v.getLsbD 4 = false := Nat.testBit_lt_two_pow h
  rw [hbit, Bool.not_false]

/-! ### Active elements (R150) -/

theorem Lantern.length_actives (l : Lantern) (pg : Nat) :
    (l.actives pg).length = (List.range l.wick.vl).countP (fun i => (l.pred pg).getLsbD i) := by
  rw [Lantern.actives, ← List.countP_eq_length_filter]
  refine List.countP_congr fun i hi => ?_
  simp [Lantern.active, List.mem_range.1 hi]

/-- The first active element: VL where there is none. -/
def Lantern.firstActive (l : Lantern) (pg : Nat) : Nat := (l.actives pg).head?.getD l.wick.vl

/-- The first active element is the first below VL whose bit is set. -/
theorem Lantern.firstActive_spec (l : Lantern) (pg : Nat) :
    (∀ j, j < l.firstActive pg → (l.pred pg).getLsbD j = false) ∧
      (l.firstActive pg = l.wick.vl ∨
        l.firstActive pg < l.wick.vl ∧ (l.pred pg).getLsbD (l.firstActive pg) = true) := by
  rw [Lantern.firstActive, Lantern.actives, List.head?_filter]
  cases hfirst : (List.range l.wick.vl).find? (l.active pg) with
  | none =>
    rw [List.find?_range_eq_none] at hfirst
    exact ⟨fun j hj => by simpa [Lantern.active, show j < l.wick.vl from hj] using hfirst j hj, .inl rfl⟩
  | some i =>
    obtain ⟨hactive, hrange, hbefore⟩ := List.find?_range_eq_some.1 hfirst
    have hi : i < l.wick.vl := List.mem_range.1 hrange
    refine ⟨fun j (hj : j < i) => ?_, .inr ⟨hi, (Bool.and_eq_true_iff.1 hactive).2⟩⟩
    simpa [Lantern.active, hj.trans hi] using hbefore j hj

/-! ### Instructions whose fields are checked one by one -/

theorem fmtsOk_of_ne {w : VOp} (hfmt : w.fmt ≠ 0xF) (hfmt2 : w.fmt2 ≠ 0xF) : fmtsOk w = true := by
  rw [fmtsOk, decide_eq_true hfmt, decide_eq_true hfmt2]
  rfl

section Issues

variable {s : State} {n : Nat} {w : VOp} (h : s.issues n 8 w.cond)
include h

/-- An operate instruction whose checks hold enters the queue and completes, whatever the row makes of EW (R152,
R153, R162). -/
theorem State.vecOp_completes {opc : Nat} {u : PredUse} {legal : Wick → Bool} {f : Lantern → VRes}
    (hfmts : fmtsOk w = true) (ham : w.am = 0) (hzero : w.zero = 0) (hew : w.ew = 0 ∨ opc = 0x80)
    (hpred : u.ok w.zf w.pg = true) (hlegal : legal (s.lan n).wick = true) (hroom : (s.lan n).vqRoom = true) :
    s.vecOp n w opc u legal f = s.vecDone n w opc (f (s.lan n)) := by
  rw [State.vecOp]
  refine State.runWick_completes h ?_
  dsimp only
  rw [s.need_true n (by simpa [hfmts, ham, hzero, hpred, hlegal] using hew), s.await_true hroom]
  rfl

theorem execVfence_completes (hfields : (fmtsOk w && w.am = 0 && w.zero = 0 && w.ew = 0 &&
      PredUse.none.ok w.zf w.pg) = true) (hdone : s.vfenceDone n = true) :
    exec (.vfence n w) s = .next (s.completes n 8 id) := by
  change execVfence n w s = _
  rw [execVfence]
  refine State.runWick_completes h ?_
  rw [s.need_true n hfields, s.awaitFence_true hdone]
  rfl

end Issues

/-- PFIRST gives the first active element, or VL with Z set (R179). -/
theorem execPfirst_completes {s : State} {n : Nat} {w : VOp} (h : s.vecIssues n w)
    (hpred : PredUse.none.ok w.zf w.pg = true) (hlegal : (!w.va.getLsbD 4) = true) :
    let l := s.lan n
    let i := l.firstActive w.va.toNat
    exec (.pfirst n w) s = s.vecDone n w 0x81 { l := l.setAZ i (i = l.wick.vl) } := by
  intro l i
  change execPfirst n w s = _
  refine (h.vecOp hpred hlegal).trans (congrArg (s.vecDone n w 0x81) ?_)
  have hi : i = ((l.actives w.va.toNat).head?).getD l.wick.vl := rfl
  rw [hi]
  cases hhead : (l.actives w.va.toNat).head? with
  | none => simp [l]
  | some j =>
    have hmem := (List.mem_filter.1 (List.mem_of_mem_head? hhead)).1
    have hj : j ≠ l.wick.vl := (List.mem_range.1 hmem).ne
    simp [l, hj]

/-! ### The statement -/

/-- Settles O17: each instruction through `State.vecIssues.vecOp`, and the bits of its predicate through
`getLsbD_predOf`. -/
theorem vectorLengthAndPredicatesComplete : Obligations.VectorLengthAndPredicatesComplete := by
  unfold Obligations.VectorLengthAndPredicatesComplete
  intro s n w l k
  refine ⟨fun ⟨h, ham, _, hzero, hfmt, hfmt2, hroom⟩ hzf hpg => ?vsetl, fun h hzf hpg => ?predicates,
    fun h ham hzero hew hfmt hfmt2 hzf hpg hvq hsb hvis => ?vfence⟩
  case vsetl =>
    exact (State.vecOp_completes (w := w) h (fmtsOk_of_ne hfmt hfmt2) ham hzero (.inr rfl)
      (by simp [PredUse.ok, hzf, hpg]) rfl (decide_eq_true hroom) : execVsetl n w s = _)
  case predicates =>
    have hpred : PredUse.none.ok w.zf w.pg = true := by simp [PredUse.ok, hzf, hpg]
    refine ⟨fun hlo hhi => ?written, fun hva => ?counted⟩
    case written =>
      have hdest := predDest_of_range hlo hhi
      refine ⟨⟨_, fun i hi => getLsbD_predOf _ _ hi, (h.vecOp hpred hdest : execPwhile n w s = _)⟩,
        fun hva hvb f => ?_⟩
      have hlegal : (predDest w.vd && !w.va.getLsbD 4 && !w.vb.getLsbD 4) = true := by
        rw [hdest, predSource_of_lt hva, predSource_of_lt hvb]
        rfl
      refine ⟨_, fun i hi => ?_, (h.vecOp hpred hlegal : execPandPorPxorPandn n f w s = _)⟩
      rw [getLsbD_predOf _ _ hi]
      cases f <;> rfl
    case counted =>
      have hread := predSource_of_lt hva
      refine ⟨?_, _, execPfirst_completes h hpred hread, l.firstActive_spec _⟩
      rw [← l.length_actives]
      exact (h.vecOp hpred hread : execPcnt n w s = _)
  case vfence =>
    refine execVfence_completes h ?_ (by simpa [State.vfenceDone, l] using ⟨⟨hvq, hsb⟩, hvis⟩)
    simp [fmtsOk_of_ne hfmt hfmt2, PredUse.ok, ham, hzero, hew, hzf, hpg]

end Sys2Proof.Machine

/-! ## Vector loads and stores (R164 to R169, R176, R182 to R184) -/

namespace Sys2Proof.Machine

open Sys2Proof

/-! ### Byte images: reads, and runs of writes -/

theorem cellsRead_eq_map (m : List Host.Cell) (a len : Nat) :
    cellsRead m a len = (List.range len).map (fun i => cellAt m (a + i)) := by
  induction len generalizing a with
  | zero => rfl
  | succ len ih =>
    rw [cellsRead, ih, List.range_succ_eq_map, List.map_cons, List.map_map]
    refine congrArg _ (List.map_congr_left fun i _ => congrArg (cellAt m) (?_ : a + 1 + i = a + (i + 1)))
    omega

/-- Bytes read where they were written. -/
theorem cellsRead_cellsWrite (m : List Host.Cell) (a : Nat) (bs : List Byte) :
    cellsRead (cellsWrite m a bs) a bs.length = bs := by
  rw [cellsRead_eq_map]
  refine List.ext_getElem (by simp) fun i _ hi => ?_
  simp [cellAt_cellsWrite, hi]

/-- Writes of several runs, in order. -/
def cellsWrites (m : List Host.Cell) (rs : List (Nat × List Byte)) : List Host.Cell :=
  rs.foldl (fun m r => cellsWrite m r.1 r.2) m

/-- Writes keep two images that agree on every byte in agreement. -/
theorem cellAt_cellsWrites_congr (rs : List (Nat × List Byte)) {m m' : List Host.Cell}
    (h : ∀ x, cellAt m x = cellAt m' x) (x : Nat) : cellAt (cellsWrites m rs) x = cellAt (cellsWrites m' rs) x := by
  induction rs generalizing m m' with
  | nil => exact h x
  | cons r t ih => exact ih fun y => by rw [cellAt_cellsWrite, cellAt_cellsWrite, h]

theorem cellAt_cellsWrites_outside {rs : List (Nat × List Byte)} {x : Nat}
    (h : ∀ r ∈ rs, ¬(r.1 ≤ x ∧ x < r.1 + r.2.length)) (m : List Host.Cell) :
    cellAt (cellsWrites m rs) x = cellAt m x := by
  induction rs generalizing m with
  | nil => rfl
  | cons r t ih =>
    refine (ih (fun s hs => h s (.tail _ hs)) (cellsWrite m r.1 r.2)).trans ?_
    rw [cellAt_cellsWrite, if_neg (h r (.head _))]

/-- A run is the write of its first part, then of the part that follows it. -/
theorem cellAt_cellsWrite_append (m : List Host.Cell) (a : Nat) (bs cs : List Byte) (x : Nat) :
    cellAt (cellsWrite m a (bs ++ cs)) x = cellAt (cellsWrite (cellsWrite m a bs) (a + bs.length) cs) x := by
  simp only [cellAt_cellsWrite, List.length_append]
  by_cases hfirst : a ≤ x ∧ x < a + bs.length
  · rw [if_pos (by omega), if_neg (by omega), if_pos hfirst, List.getD_append _ _ _ _ (by omega)]
  · by_cases hsecond : a + bs.length ≤ x ∧ x < a + bs.length + cs.length
    · rw [if_pos (by omega), if_pos hsecond, List.getD_append_right _ _ _ _ (by omega), Nat.sub_sub]
    · rw [if_neg (by omega), if_neg hsecond, if_neg hfirst]

/-- Joining runs that follow one another changes no byte that they write. -/
theorem cellAt_cellsWrites_joinRuns (rs : List (Nat × List Byte)) (m : List Host.Cell) (x : Nat) :
    cellAt (cellsWrites m (joinRuns rs)) x = cellAt (cellsWrites m rs) x := by
  induction rs generalizing m with
  | nil => rfl
  | cons r t ih =>
    obtain ⟨a, bs⟩ := r
    refine Eq.trans ?_ (ih (cellsWrite m a bs))
    cases hjoin : joinRuns t with
    | nil => simp only [joinRuns, hjoin]; rfl
    | cons q rest =>
      obtain ⟨b, cs⟩ := q
      simp only [joinRuns, hjoin]
      split
      · next hnext =>
        rw [hnext]
        exact cellAt_cellsWrites_congr rest (cellAt_cellsWrite_append m a bs cs) x
      · rfl

/-! ### The write phase in local store (R164, R169) -/

theorem Lantern.ls_lsStore (l : Lantern) (a : Nat) (bs : List Byte) :
    (l.lsStore a bs).ls = cellsWrite l.ls a bs :=
  congrArg Lantern.ls (l.lsStoreP_eq a bs _)

/-- A write phase over local store writes its runs in order, on its own lantern alone. -/
theorem State.writePhase_localStore {rs : List (Nat × List Byte)} {e : VqEntry}
    (h : e.stores = rs.map (fun r => (false, r.1, r.2))) (s : State) (n : Nat) :
    (s.writePhase n e).mem = s.mem ∧ (∀ m, m ≠ n → (s.writePhase n e).lan m = s.lan m) ∧
      ((s.writePhase n e).lan n).ls = cellsWrites (s.lan n).ls rs := by
  have hphase : s.writePhase n e = rs.foldl (fun s r => s.modLan n (fun l => l.lsStore r.1 r.2)) s := by
    rw [State.writePhase, h, List.foldl_map]
    rfl
  rw [hphase]
  clear h hphase
  induction rs generalizing s with
  | nil => exact ⟨rfl, fun m _ => rfl, rfl⟩
  | cons r t ih =>
    obtain ⟨hmem, hothers, hls⟩ := ih (s.modLan n fun l => l.lsStore r.1 r.2)
    refine ⟨hmem, fun m hm => (hothers m hm).trans (s.lan_modLan_of_ne _ hm), hls.trans ?_⟩
    rw [State.lan_modLan, Lantern.ls_lsStore]
    rfl

/-! ### What the L1 loads of a read change (R323, R325) -/

theorem State.modLine_mem (s : State) (pa : Nat) (f : TcLine → TcLine) : (s.modLine pa f).mem = s.mem := by
  unfold State.modLine
  dsimp only
  split
  · exact s.modTc_mem ..
  · rfl

theorem State.askFills_mem (s : State) (f : TcFill) : (s.askFills f).mem = s.mem := by
  unfold State.askFills
  dsimp only
  split <;> simp only [State.modTc_mem]

theorem State.lineAccessed_read_mem (s : State) (pa : Nat) (w : Writer) (l1 : Option Nat) :
    (s.lineAccessed pa .read w l1).mem = s.mem := by
  unfold State.lineAccessed
  dsimp only
  split
  · exact s.modLine_mem ..
  · exact s.askFills_mem _

theorem Lantern.v_l1Fill (l : Lantern) (pa : Nat) : (l.l1Fill pa).v = l.v := by
  unfold Lantern.l1Fill
  dsimp only
  split <;> rfl

/-- A load of a line into the L1 leaves device memory and the vector registers. -/
theorem State.l1Load_keeps (s : State) (n pa : Nat) :
    (s.l1Load n pa).mem = s.mem ∧ ((s.l1Load n pa).lan n).v = (s.lan n).v := by
  have hread (u : State) (a : Nat) : (u.lineAccessed a .read (.lantern n) (some a)).mem = u.mem ∧
      (u.lineAccessed a .read (.lantern n) (some a)).lan n = u.lan n :=
    ⟨u.lineAccessed_read_mem .., by rw [State.lan, State.lineAccessed_read_lans, State.lan]⟩
  unfold State.l1Load
  dsimp only
  split
  · exact ⟨rfl, by rw [State.lan_setLan]; rfl⟩
  · split
    · exact ⟨rfl, rfl⟩
    · rw [(hread _ _).1, (hread _ _).2]
      split
      · exact ⟨rfl, by rw [State.lan_setLan, Lantern.v_l1Fill]⟩
      · exact ⟨rfl, rfl⟩

/-- The lines of a load's accesses, each taken once; local store has none. -/
def State.l1Loads (s : State) (n : Nat) (dv : Bool) (xs : List VAcc) : State :=
  if dv then ((xs.map (fun x => s.vaPa x.addr.toNat / 128)).eraseDups).foldl (fun s a => s.l1Load n (128 * a)) s
  else s

theorem State.l1Loads_keeps (s : State) (n : Nat) (dv : Bool) (xs : List VAcc) :
    (s.l1Loads n dv xs).mem = s.mem ∧ ((s.l1Loads n dv xs).lan n).v = (s.lan n).v := by
  rw [State.l1Loads]
  split
  · refine List.foldlRecOn _ _ (motive := fun t : State => t.mem = s.mem ∧ (t.lan n).v = (s.lan n).v) ⟨rfl, rfl⟩
      fun t ⟨hmem, hv⟩ a _ => ?_
    obtain ⟨hmem', hv'⟩ := t.l1Load_keeps n (128 * a)
    exact ⟨hmem'.trans hmem, hv'.trans hv⟩
  · exact ⟨rfl, rfl⟩

/-! ### Issue (R164 to R168) -/

theorem Wick.ewBits_div (k : Wick) : k.ewBits / 8 = 2 ^ k.vew.toNat := Nat.mul_div_cancel_left _ (by decide)

section Issues

variable {s u p : State} {n : Nat} {w : VMem} {opc : Nat} {form : VForm} {xs : List VAcc} {dv : Bool} {wb : Nat}
  (h : s.issues n 8 w.cond) (hroom : (s.lan n).vqRoom = true) (hdv : dv = decide (4 ≤ w.am.toNat))
  (hwb : wb = (s.lan n).wick.ewBits / 8) (hxs : xs = (s.lan n).vaccs w form) (hp : u.pin n dv xs = p)
include h hroom hdv hwb hxs hp

/-- A load whose elements are translated, unobstructed and not poisoned enters the queue with the bytes read. -/
theorem State.vload_completes (hlegal : vmemLegal (s.lan n).wick w form false = true)
    (htranslated : (s.unpin n).vtranslate n dv false wb xs = .ok u)
    (hfree : (p.lan n).vwaits dv false wb xs = false)
    (hgood : ∀ x ∈ xs, p.vpoison n dv x.addr.toNat wb = false) :
    let t := p.l1Loads n dv xs
    s.vload n w opc form = .next ((t.vecEnter n (vmemWord w opc)
      { l := (t.lan n).vloadWrite w form (xs.map (fun x => (x, leNat (p.vread n dv x.addr.toNat wb)))) }
      (t.lan n).pins []).completes n 8 id) := by
  rw [State.vload]
  refine State.runWick_completes h ?_
  have hclean : (xs.find? fun x => p.vpoison n dv x.addr.toNat wb) = none :=
    List.find?_eq_none.2 fun x hx => ne_true_of_eq_false (hgood x hx)
  have hwait := p.await_true (congrArg Bool.not hfree)
  dsimp only
  rw [s.need_true n hlegal, s.await_true hroom, ← hwb, ← hxs, ← hdv, htranslated]
  simp only [bind, Except.bind, hp]
  rw [hwait, hclean, State.l1Loads, hdv]
  simp only [decide_eq_true_eq]

/-- A store whose elements are translated and unobstructed enters the queue with its bytes, in runs. -/
theorem State.vstore_completes (hlegal : vmemLegal (s.lan n).wick w form true = true)
    (htranslated : (s.unpin n).vtranslate n dv true wb xs = .ok u)
    (hfree : (p.lan n).vwaits dv true wb xs = false) :
    s.vstore n w opc form = .next ((p.vecEnter n (vmemWord w opc) { l := p.lan n } (p.lan n).pins
      ((joinRuns (xs.map (fun x => (x.addr.toNat, leBytes wb ((s.lan n).elem x.reg (s.lan n).wick.ewBits x.i))))).map
        (fun r => (dv, r.1, r.2)))).completes n 8 id) := by
  rw [State.vstore]
  refine State.runWick_completes h ?_
  have hwait := p.await_true (congrArg Bool.not hfree)
  dsimp only
  rw [s.need_true n hlegal, s.await_true hroom, ← hwb, ← hxs, ← hdv, htranslated]
  simp only [bind, Except.bind, hp]
  rw [hwait]

end Issues

/-- The four instructions that load, with their operation codes and address forms. -/
theorem exec_vload {n : Nat} {w : VMem} {i : Instr} {opc : Nat} {form : VForm}
    (h : (i, opc, form) ∈ [(Instr.vld n w, 0x82, VForm.unit), (.vlds n w, 0x84, .stride), (.vgath n w, 0x86, .index),
      (.vldseg n w, 0x88, .seg)]) (s : State) : exec i s = s.vload n w opc form := by
  simp only [List.mem_cons, Prod.mk.injEq, List.not_mem_nil, or_false] at h
  obtain ⟨rfl, rfl, rfl⟩ | ⟨rfl, rfl, rfl⟩ | ⟨rfl, rfl, rfl⟩ | ⟨rfl, rfl, rfl⟩ := h <;> rfl

/-- The four instructions that store. -/
theorem exec_vstore {n : Nat} {w : VMem} {i : Instr} {opc : Nat} {form : VForm}
    (h : (i, opc, form) ∈ [(Instr.vst n w, 0x83, VForm.unit), (.vsts n w, 0x85, .stride), (.vscat n w, 0x87, .index),
      (.vstseg n w, 0x89, .seg)]) (s : State) : exec i s = s.vstore n w opc form := by
  simp only [List.mem_cons, Prod.mk.injEq, List.not_mem_nil, or_false] at h
  obtain ⟨rfl, rfl, rfl⟩ | ⟨rfl, rfl, rfl⟩ | ⟨rfl, rfl, rfl⟩ | ⟨rfl, rfl, rfl⟩ := h <;> rfl

/-! ### What a store leaves in local store (R169) -/

/-- What the accesses of a local-store write phase leave in local store: bytes that no access meets stay, and the last
access stands (R169). -/
theorem Lantern.lsRead_cellsWrites_joinRuns {l t : Lantern} {xs : List VAcc} {wb : Nat} {bytes : VAcc → List Byte}
    (hlen : ∀ x, (bytes x).length = wb)
    (hls : t.ls = cellsWrites l.ls (joinRuns (xs.map (fun x => (x.addr.toNat, bytes x))))) :
    (∀ x, (∀ y ∈ xs, ¬(y.addr.toNat ≤ x ∧ x < y.addr.toNat + wb)) → t.lsRead x 1 = l.lsRead x 1) ∧
      ∀ y, xs.getLast? = some y → t.lsRead y.addr.toNat wb = bytes y := by
  have hbyte (a : Nat) : cellAt t.ls a = cellAt (cellsWrites l.ls (xs.map (fun x => (x.addr.toNat, bytes x)))) a := by
    rw [hls, cellAt_cellsWrites_joinRuns]
  refine ⟨fun x hout => ?_, fun y hy => ?_⟩
  · have hkeep : cellAt t.ls x = cellAt l.ls x := by
      refine (hbyte x).trans (cellAt_cellsWrites_outside (fun r hr => ?_) _)
      obtain ⟨y, hy, rfl⟩ := List.mem_map.1 hr
      dsimp only
      rw [hlen]
      exact hout y hy
    simp only [Lantern.lsRead, cellsRead, hkeep]
  · obtain ⟨ys, rfl⟩ := List.getLast?_eq_some_iff.1 hy
    have hlast (a : Nat) : cellAt t.ls a = cellAt (cellsWrite (cellsWrites l.ls
        (ys.map fun x => (x.addr.toNat, bytes x))) y.addr.toNat (bytes y)) a := by
      rw [hbyte, List.map_append, cellsWrites, List.foldl_append]
      rfl
    have hread := cellsRead_cellsWrite (cellsWrites l.ls (ys.map fun x => (x.addr.toNat, bytes x))) y.addr.toNat
      (bytes y)
    rw [hlen] at hread
    rw [Lantern.lsRead, ← hread]
    simp only [cellsRead_eq_map, hlast]

/-! ### The statement -/

/-- Settles O22: a load through `State.vload_completes`, a store through `State.vstore_completes`, and its write phase
through `State.writePhase_localStore`. -/
theorem vectorMemoryComplete : Obligations.VectorMemoryComplete := by
  unfold Obligations.VectorMemoryComplete
  intro s u n w h hqueue l dv wb
  have hroom : (s.lan n).vqRoom = true := decide_eq_true hqueue
  have hwb : wb = (s.lan n).wick.ewBits / 8 := (s.lan n).wick.ewBits_div.symm
  refine ⟨?loads, ?stores⟩
  case loads =>
    intro i opc form hi hlegal xs htranslated p hfree hgood vals
    obtain ⟨hmem, hv⟩ := p.l1Loads_keeps n dv xs
    refine ⟨p.l1Loads n dv xs, ?_, hmem, hv, fun hls => if_neg (ne_true_of_eq_false hls)⟩
    exact (exec_vload hi s).trans (State.vload_completes h hroom rfl hwb rfl rfl hlegal htranslated hfree hgood)
  case stores =>
    intro i opc form hi hlegal xs htranslated p hfree st
    refine ⟨(exec_vstore hi s).trans (State.vstore_completes h hroom rfl hwb rfl rfl hlegal htranslated hfree),
      fun v e hst hls => ?_⟩
    have hruns : e.stores = (joinRuns (xs.map fun x => (x.addr.toNat, leBytes wb (l.elem x.reg l.wick.ewBits x.i)))).map
        fun r => (false, r.1, r.2) := by
      rw [hst, ← hls]
    obtain ⟨hmem, hothers, himage⟩ := State.writePhase_localStore hruns v n
    exact ⟨hmem, hothers, Lantern.lsRead_cellsWrites_joinRuns (fun x => length_leBytes _ _) himage⟩

end Sys2Proof.Machine

/-! ## Integer vector instructions (R150, R155, R156, R179, R180) -/

namespace Sys2Proof.Machine

open Sys2Proof

/-! ### What elements report (R65, R193) -/

theorem VRes.l_note (r : VRes) (i : Nat) (e : ERes) : (r.note i e).l = r.l := rfl

theorem VRes.l_foldl {α : Type} {g : VRes → α → VRes} (hg : ∀ r a, (g r a).l = r.l) (xs : List α) (r : VRes) :
    (xs.foldl g r).l = r.l :=
  List.foldlRecOn xs g (motive := fun t => t.l = r.l) rfl fun t ht a _ => (hg t a).trans ht

/-- The result of an element raises no exception and shows no NaN. -/
def ERes.Clean (e : ERes) : Prop := e.exc = 0 ∧ e.nan = none

/-- An element that raises no exception and shows no NaN reports nothing (R180). -/
theorem VRes.note_of_clean (r : VRes) (i : Nat) {e : ERes} (h : e.Clean) : r.note i e = r := by
  obtain ⟨hexc, hnan⟩ := h
  obtain ⟨l, excs, nan⟩ := r
  cases nan <;> simp [VRes.note, hexc, hnan]

/-! ### A compare into a predicate -/

theorem Lantern.mem_actives {l : Lantern} {pg i : Nat} : i ∈ l.actives pg ↔ l.active pg i = true := by
  simp only [Lantern.actives, Lantern.active, List.mem_filter, List.mem_range, Bool.and_eq_true, decide_eq_true_eq]
  exact and_iff_right_of_imp And.left

theorem find?_map_index (f : Nat → ERes) (xs : List Nat) (i : Nat) :
    (xs.map fun j => (j, f j)).find? (fun p => p.1 = i) = if i ∈ xs then some (i, f i) else none := by
  induction xs with
  | nil => rfl
  | cons j t ih =>
    by_cases hj : j = i
    · simp [hj]
    · simp [hj, Ne.symm hj, ih]

theorem b2n_eq_one (b : Bool) : decide (b2n b = 1) = b := by cases b <;> rfl

/-- An integer compare writes its predicate and reports nothing. -/
theorem Lantern.vcompare_b2n (l : Lantern) (w : VOp) (p : Nat → Bool) :
    l.vcompare w (fun i => { bits := b2n (p i) }) =
      { l := l.setPred (w.vd.toNat % 16) (predOf l.wick.vl fun i =>
          if l.active w.pg.toNat i then p i else (l.pred (w.vd.toNat % 16)).getLsbD i) } := by
  rw [Lantern.vcompare, foldl_eq_self fun q hq => ?clean]
  case clean =>
    obtain ⟨i, -, rfl⟩ := List.mem_map.1 hq
    exact VRes.note_of_clean _ _ ⟨rfl, rfl⟩
  dsimp only
  congr 3
  funext i
  rw [find?_map_index]
  by_cases hactive : l.active w.pg.toNat i
  · rw [if_pos (Lantern.mem_actives.2 hactive), if_pos hactive]
    exact b2n_eq_one (p i)
  · rw [if_neg (mt Lantern.mem_actives.1 hactive), if_neg hactive]

/-! ### The statement -/

/-- An integer operation maps its active elements (R179). -/
theorem State.vecIssues.vecInt {s : State} {n : Nat} {w : VOp} (h : s.vecIssues n w) (f : Nat → Nat → Nat → Nat) :
    s.vecInt n w f = s.vecDone n w 0x8A ((s.lan n).vmap w (s.lan n).wick.ewBits (fun i =>
      { bits := f (s.lan n).wick.ewBits ((s.lan n).elem w.va.toNat (s.lan n).wick.ewBits i)
          ((s.lan n).vbElem w (s.lan n).wick.ewBits i) })) :=
  h.vecOp rfl rfl

/-- An integer compare into a predicate that may be written (R155, R178, R179). -/
theorem State.vecIssues.vcmp {s : State} {n : Nat} {w : VOp} (h : s.vecIssues n w) (f : VCmpOp)
    (hzf : w.zf = false) (hlo : 1 ≤ w.vd.toNat) (hhi : w.vd.toNat < 16) :
    exec (.vcmp n f w) s = s.vecDone n w 0x8E { l := (s.lan n).setPred w.vd.toNat (predOf (s.lan n).wick.vl fun i =>
      if (s.lan n).active w.pg.toNat i then
        cmpHolds f (s.lan n).wick.ewBits ((s.lan n).elem w.va.toNat (s.lan n).wick.ewBits i)
          ((s.lan n).vbElem w (s.lan n).wick.ewBits i)
      else ((s.lan n).pred w.vd.toNat).getLsbD i) } := by
  have hpred : PredUse.gu.ok w.zf w.pg = true := by simp [PredUse.ok, hzf]
  change execVcmp n f w s = _
  refine (h.vecOp hpred (predDest_of_range hlo hhi)).trans ?_
  dsimp only
  rw [Lantern.vcompare_b2n, Nat.mod_eq_of_lt hhi]

/-- Settles O18: each instruction maps its own operation over the elements, through `State.vecIssues.vecInt`, and the
bits of a compare are those of `getLsbD_predOf`. -/
theorem vectorIntegerComplete : Obligations.VectorIntegerComplete := by
  unfold Obligations.VectorIntegerComplete
  intro s n w h l e a b out
  refine ⟨?add, ?sub, ?mul, ?mulh, ?min, ?max, ?minu, ?maxu, ?and, ?or, ?xor, ?shl, ?shr, ?sra,
    fun f hzf hlo hhi => ⟨_, h.vcmp f hzf hlo hhi, fun i hi => ?cmp⟩⟩
  case add => exact (h.vecInt _ : execVaddVsub n .add w s = _)
  case sub => exact (h.vecInt _ : execVaddVsub n .sub w s = _)
  case mul => exact (h.vecInt _ : execVmulVmulh n .mul w s = _)
  case mulh => exact (h.vecInt _ : execVmulVmulh n .mulh w s = _)
  case min => exact (h.vecInt _ : execVminVmaxVminuVmaxu n .min w s = _)
  case max => exact (h.vecInt _ : execVminVmaxVminuVmaxu n .max w s = _)
  case minu => exact (h.vecInt _ : execVminVmaxVminuVmaxu n .minu w s = _)
  case maxu => exact (h.vecInt _ : execVminVmaxVminuVmaxu n .maxu w s = _)
  case and => exact (h.vecInt _ : execVandVorVxor n .and w s = _)
  case or => exact (h.vecInt _ : execVandVorVxor n .or w s = _)
  case xor => exact (h.vecInt _ : execVandVorVxor n .xor w s = _)
  case shl => exact (h.vecInt _ : execVshlVshrVsra n .shl w s = _)
  case shr => exact (h.vecInt _ : execVshlVshrVsra n .shr w s = _)
  case sra => exact (h.vecInt _ : execVshlVshrVsra n .sra w s = _)
  case cmp =>
    rw [getLsbD_predOf _ _ hi]
    cases f <;> rfl

end Sys2Proof.Machine

/-! ## Conversions, MX packing, widening and dot products (R177, R185 to R189) -/

namespace Sys2Proof.Machine

open Sys2Proof

/-! ### Widening: a destination group of two registers (R177, R178) -/

theorem groupOk_two {vd : BitVec 5} (h : vd.toNat % 2 = 0) : groupOk vd.toNat 2 = true := by
  have hlt := vd.isLt
  simp only [groupOk, Bool.and_eq_true, decide_eq_true_eq]
  omega

theorem not_groupsMeet_two {d a : Nat} (h : ¬(a = d ∨ a = d + 1)) : (!groupsMeet d 2 a 1) = true := by
  simp only [groupsMeet, Bool.not_eq_true', Bool.and_eq_false_iff, decide_eq_false_iff_not]
  omega

/-- VB is the scalar Fb, or lies outside the destination group. -/
theorem vb_apart {sb : Bool} {d b : Nat} (h : sb = true ∨ ¬(b = d ∨ b = d + 1)) :
    (sb || !groupsMeet d 2 b 1) = true := by
  obtain hsb | hb := h
  · rw [hsb, Bool.true_or]
  · rw [not_groupsMeet_two hb, Bool.or_true]

/-! ### Dot products (R186) -/

theorem Wick.ewBits_of_two {k : Wick} (h : k.vew = 2) : k.ewBits = 32 := by
  rw [Wick.ewBits, h]
  rfl

theorem foldl_add_eq_add_sum {α : Type} (g : α → Int) (xs : List α) (z : Int) :
    xs.foldl (fun z a => z + g a) z = z + (xs.map g).sum := by
  induction xs generalizing z with
  | nil => simp
  | cons a t ih => rw [List.foldl_cons, ih, List.map_cons, List.sum_cons, add_assoc]

/-- The two halves of a 32-bit element. -/
theorem halves_eq (a b : Nat) : (List.range 2).map (fun j => (natField a (16 * j) 16, natField b (16 * j) 16)) =
    [(a % 2 ^ 16, b % 2 ^ 16), (a / 2 ^ 16 % 2 ^ 16, b / 2 ^ 16 % 2 ^ 16)] := by
  simp [List.range_succ, natField]

section Dot

variable {s : State} {n : Nat} {w : VOp} (h : s.vecIssues n w) (hvew : (s.lan n).wick.vew = 2)
include h hvew

theorem execVdot4Vdot2_int (hfa : w.fmt2 = 0xB) (hfb : w.fmt = 0xB) : exec (.vdot4Vdot2 n .dot4 w) s =
    s.vecDone n w 0x92 ((s.lan n).vmap w 32 (fun i =>
      { bits := uInt 32 ((((s.lan n).elem w.vd.toNat 32 i : Nat) : Int) + ((List.range 4).map (fun j =>
          sInt 8 (natField ((s.lan n).elem w.va.toNat 32 i) (8 * j) 8) *
            sInt 8 (natField ((s.lan n).vbElem w 32 i) (8 * j) 8))).sum) })) := by
  change execVdot4Vdot2 n .dot4 w s = _
  refine (h.vecOp rfl (by rw [hvew, hfa, hfb]; rfl)).trans ?_
  simp only [hfa, foldl_add_eq_add_sum, List.map_map]
  rfl

theorem execVdot4Vdot2_fp {f : VDot} {c : Nat} (hlegal : dotLegal f w.fmt2.toNat w.fmt.toNat = true)
    (hfa : w.fmt2.toNat ≠ 0xB) (hbits : fmtBits w.fmt2.toNat = c) : exec (.vdot4Vdot2 n f w) s =
    s.vecDone n w 0x92 ((s.lan n).vmap w 32 (fun i => dotFp (s.lan n).wick.fctx w.fmt2.toNat w.fmt.toNat
      ((List.range (32 / c)).map (fun j => (natField ((s.lan n).elem w.va.toNat 32 i) (c * j) c,
        natField ((s.lan n).vbElem w 32 i) (c * j) c)))
      ((s.lan n).elem w.vd.toNat 32 i))) := by
  change execVdot4Vdot2 n f w s = _
  refine (h.vecOp rfl (by rw [hvew, hlegal]; rfl)).trans ?_
  simp only [if_neg hfa, hbits]

end Dot

/-! ### MX packing: what it writes (R188) -/

/-- Writes results at their elements, in order. -/
def Lantern.putEls (l : Lantern) (g wd : Nat) (ps : List (Nat × ERes)) : Lantern :=
  ps.foldl (fun l p => l.setElem g wd p.1 p.2.bits) l

theorem Lantern.putEls_frame (l : Lantern) (g wd : Nat) (ps : List (Nat × ERes)) :
    l.putEls g wd ps = { l with v := (l.putEls g wd ps).v } :=
  List.foldlRecOn ps _ (motive := fun t : Lantern => t = { l with v := t.v }) rfl
    fun _ ht p _ => congrArg (fun m : Lantern => m.setElem g wd p.1 p.2.bits) ht

/-- Elements that lie in the first register of the group leave every other register. -/
theorem Lantern.v_putEls (l : Lantern) {g wd m : Nat} {ps : List (Nat × ERes)} (hps : ∀ p ∈ ps, p.1 * wd < 65536)
    (hm : m ≠ g) : (l.putEls g wd ps).v.getD m 0 = l.v.getD m 0 :=
  List.foldlRecOn ps _ (motive := fun t : Lantern => t.v.getD m 0 = l.v.getD m 0) rfl fun t ht p hp => by
    rw [Lantern.v_setElem, Nat.div_eq_of_lt (hps p hp), Nat.add_zero, if_neg hm, ht]

section Pack

variable (l : Lantern) (w : VOp)

/-- Block `b` has an active element. -/
def Lantern.blockActive (b : Nat) : Bool := (natRange (32 * b) (32 * b + 32)).any (l.active w.pg.toNat)

/-- The results of the blocks that have an active element. -/
def Lantern.packEls : List (Nat × ERes) :=
  (((List.range ((l.wick.vl + 31) / 32)).filter (l.blockActive w)).map (l.packBlock w)).flatMap (·.1)

/-- The scale of a block that has an active element. -/
def Lantern.packScale (b : Nat) : Option Nat := if l.blockActive w b then some (l.packBlock w b).2.2 else none

/-- Writes the elements into VD. -/
def Lantern.putPacked (t : Lantern) : Lantern := t.putEls w.vd.toNat (fmtBits w.fmt.toNat) (l.packEls w)

/-- Writes the scales into VC. -/
def Lantern.putScales (t : Lantern) : Lantern :=
  (((List.range ((l.wick.vl + 31) / 32)).filter (l.blockActive w)).map (l.packBlock w)).foldl
    (fun t b => t.setElem w.vc.toNat 8 b.2.1 b.2.2) t

/-- The registers after VMXPACK: elements in VD and scales in VC, and where VC is VD, each bit of it from one of the
two orders of writing, as `m` says. -/
def Lantern.packed (m : BitVec 65536) : Lantern :=
  let x := l.putScales w (l.putPacked w l)
  if w.vd.toNat = w.vc.toNat then
    let y := (l.putPacked w (l.putScales w l)).v.getD w.vd.toNat 0
    { x with v := x.v.putD w.vd.toNat ((x.v.getD w.vd.toNat 0 &&& m) ||| (y &&& ~~~m)) 0 }
  else x

theorem Lantern.putScales_eq (t : Lantern) : l.putScales w t =
    t.setElems w.vc.toNat 8 (l.packScale w) (List.range ((l.wick.vl + 31) / 32)) := by
  rw [Lantern.putScales, List.foldl_map, List.foldl_filter, Lantern.setElems]
  congr 1
  funext u b
  rw [Lantern.packScale]
  split <;> rfl

theorem Lantern.putScales_frame (t : Lantern) : l.putScales w t = { t with v := (l.putScales w t).v } := by
  rw [Lantern.putScales_eq]
  exact t.setElems_frame ..

theorem Lantern.packed_frame (m : BitVec 65536) : l.packed w m = { l with v := (l.packed w m).v } := by
  have hx : l.putScales w (l.putPacked w l) = { l with v := (l.putScales w (l.putPacked w l)).v } :=
    (l.putScales_frame w _).trans
      (congrArg (fun t : Lantern => { t with v := (l.putScales w (l.putPacked w l)).v }) (l.putEls_frame ..))
  rw [Lantern.packed]
  split
  · rw [hx]
  · exact hx

/-- An element that VMXPACK writes lies below VL. -/
theorem Lantern.lt_of_mem_packEls {p : Nat × ERes} (hp : p ∈ l.packEls w) : p.1 < l.wick.vl := by
  obtain ⟨q, hq, hp⟩ := List.mem_flatMap.1 hp
  obtain ⟨b, -, rfl⟩ := List.mem_map.1 hq
  obtain ⟨x, hx, rfl⟩ := List.mem_map.1 hp
  simpa using (List.mem_filter.1 hx).2

/-- An element of an MX format has at most 8 bits. -/
theorem fmtBits_le_of_isMx {fmt : BitVec 4} (h : isMx fmt.toNat = true) : fmtBits fmt.toNat ≤ 8 := by
  revert fmt
  decide

section Short

variable (hmx : isMx w.fmt.toNat = true) (hvl : l.wick.vl ≤ 2048)
include hmx hvl

theorem Lantern.v_putPacked (t : Lantern) {g : Nat} (hg : g ≠ w.vd.toNat) :
    (l.putPacked w t).v.getD g 0 = t.v.getD g 0 := by
  refine t.v_putEls (fun p hp => ?_) hg
  have hlt : p.1 < 2048 := (l.lt_of_mem_packEls w hp).trans_le hvl
  have hbits := Nat.mul_le_mul hlt.le (fmtBits_le_of_isMx hmx)
  omega

theorem Lantern.v_packed (m : BitVec 65536) {g : Nat} (hd : g ≠ w.vd.toNat) (hc : g ≠ w.vc.toNat) :
    (l.packed w m).v.getD g 0 = l.v.getD g 0 := by
  have hx : (l.putScales w (l.putPacked w l)).v.getD g 0 = l.v.getD g 0 := by
    rw [Lantern.putScales_eq, Lantern.v_setElems _ _ _ (by simp) _ _ (by omega)]
    exact l.v_putPacked w hmx hvl l hd
  rw [Lantern.packed]
  split
  · exact (Tab.getD_putD ..).trans ((if_neg hd).trans hx)
  · exact hx

/-- The scale of a block that has an active element is written, and the bits of any other stay (R188). -/
theorem Lantern.scale_packed (m : BitVec 65536) (hapart : w.vd ≠ w.vc) {b : Nat} (hb : 32 * b < l.wick.vl) :
    (l.packed w m).elem w.vc.toNat 8 b =
      if l.blockActive w b then (l.packBlock w b).2.2 % 256 else l.elem w.vc.toNat 8 b := by
  have hne : w.vd.toNat ≠ w.vc.toNat := fun heq => hapart (BitVec.eq_of_toNat_eq heq)
  have hold : (l.putPacked w l).elem w.vc.toNat 8 b = l.elem w.vc.toNat 8 b := by
    rw [Lantern.elem, Nat.div_eq_of_lt (by omega), Nat.add_zero, l.v_putPacked w hmx hvl l hne.symm,
      Lantern.elem, Nat.div_eq_of_lt (by omega), Nat.add_zero]
  rw [Lantern.packed, if_neg hne, Lantern.putScales_eq, Lantern.elem_setElems _ _ _ (by simp), if_pos (by omega), hold,
    Lantern.packScale]
  split <;> rfl

end Short

end Pack

/-- The registers after VMXPACK with what its elements report. -/
def Lantern.packRes (l : Lantern) (w : VOp) (m : BitVec 65536) : VRes :=
  (l.packEls w).foldl (fun r p => r.note p.1 p.2) { l := l.packed w m }

theorem Lantern.l_packRes (l : Lantern) (w : VOp) (m : BitVec 65536) : (l.packRes w m).l = l.packed w m :=
  VRes.l_foldl (fun r _ => r.l_note ..) _ _

theorem execVmxpack_eq (n : Nat) (w : VOp) (s : State) : execVmxpack n w s =
    State.vecOp (if s.wickCan n 8 && condTrue w.cond (s.lan n).wick.flags then { s with freeCtr := s.freeCtr + 1 }
      else s) n w 0x90 .gu (fun k => k.vew = 2 && mxVec w.fmt.toNat && w.va ≠ w.vd && w.va ≠ w.vc)
      (fun l => l.packRes w (Config.freeVec s.freeCtr)) := rfl

theorem execVmxpack_completes {s : State} {n : Nat} {w : VOp} (h : s.vecIssues n w)
    (hlegal : ((s.lan n).wick.vew = 2 && mxVec w.fmt.toNat && w.va ≠ w.vd && w.va ≠ w.vc) = true)
    (hzf : w.zf = false) : exec (.vmxpack n w) s = State.vecDone { s with freeCtr := s.freeCtr + 1 } n w 0x90
      ((s.lan n).packRes w (Config.freeVec s.freeCtr)) := by
  have hgo : (s.wickCan n 8 && condTrue w.cond (s.lan n).wick.flags) = true :=
    Bool.and_eq_true_iff.2 ⟨h.1.1, h.1.2⟩
  have hpred : PredUse.gu.ok w.zf w.pg = true := by simp [PredUse.ok, hzf]
  have hdrawn : State.vecIssues { s with freeCtr := s.freeCtr + 1 } n w := h
  change execVmxpack n w s = _
  rw [execVmxpack_eq, if_pos hgo]
  exact hdrawn.vecOp hpred hlegal

/-! ### The statement -/

/-- Settles O20: VMXPACK through the registers that it leaves, `Lantern.packed`; each of the others maps its own
operation over the elements. -/
theorem vectorConversionsComplete : Obligations.VectorConversionsComplete := by
  unfold Obligations.VectorConversionsComplete
  intro s n w h l k e ctx a b
  refine ⟨fun hlegal => ?cvt, fun hvew hmx hva => ?mx, fun hpair hva hvb => ?wide, fun hvew => ?dot⟩
  case cvt => exact (h.vecOp rfl hlegal : execVcvt n w s = _)
  case mx =>
    have he : e = 32 := Wick.ewBits_of_two hvew
    refine ⟨fun hzf hvc => ?pack, fun hvb => ?unpack⟩
    case pack =>
      have hlegal : (k.vew = 2 && mxVec w.fmt.toNat && w.va ≠ w.vd && w.va ≠ w.vc) = true := by
        simp [hvew, mxVec, hmx, hva, hvc]
      refine ⟨_, execVmxpack_completes h hlegal hzf, ?_⟩
      rw [Lantern.l_packRes]
      refine ⟨l.packed_frame w _, fun g hd hc hvl => l.v_packed w hmx hvl (Config.freeVec s.freeCtr) hd hc,
        fun hapart hvl b hb => ?_⟩
      have hscale := l.scale_packed w hmx hvl (Config.freeVec s.freeCtr) hapart hb
      refine ⟨fun hany => ?_, fun hnone => ?_⟩
      · refine (hscale.trans (if_pos hany)).trans ?_
        simp only [Lantern.packBlock, a, he]
        rfl
      · exact hscale.trans (if_neg (ne_true_of_eq_false hnone))
    case unpack =>
      have hlegal : (k.vew = 2 && mxVec w.fmt.toNat && w.vd ≠ w.va && (w.sb || w.vd ≠ w.vb)) = true := by
        simpa [hvew, mxVec, hmx, hva.symm] using hvb
      exact (h.vecOp rfl hlegal : execVmxunpack n w s = _)
  case wide =>
    have hgroup := groupOk_two hpair
    have hapart := not_groupsMeet_two hva
    have hapart' := vb_apart hvb
    refine ⟨fun hvew => ?int, fun hlo hhi hwidth => ?float⟩
    case int =>
      have hlegal : (k.vew ≠ 3 && groupOk w.vd.toNat 2 && !groupsMeet w.vd.toNat 2 w.va.toNat 1 &&
          (w.sb || !groupsMeet w.vd.toNat 2 w.vb.toNat 1)) = true := by
        rw [decide_eq_true hvew, hgroup, hapart, hapart']
        rfl
      refine ⟨?signed, ?unsigned⟩
      case signed => exact (h.vecOp rfl hlegal : execVwmulVwmulu n .signed w s = _)
      case unsigned => exact (h.vecOp rfl hlegal : execVwmulVwmulu n .unsigned w s = _)
    case float =>
      have hfits : fmtFits k w.fmt 1 3 = true := by
        rw [fmtFits, decide_eq_true hlo, decide_eq_true hhi]
        exact decide_eq_true hwidth
      have hlegal : (fmtFits k w.fmt 1 3 && groupOk w.vd.toNat 2 && !groupsMeet w.vd.toNat 2 w.va.toNat 1 &&
          (w.sb || !groupsMeet w.vd.toNat 2 w.vb.toNat 1)) = true := by
        rw [hfits, hgroup, hapart, hapart']
        rfl
      refine ⟨?mul, ?ma⟩
      case mul => exact (h.vecOp rfl hlegal : execVfwmulVfwma n .mul w s = _)
      case ma => exact (h.vecOp rfl hlegal : execVfwmulVfwma n .ma w s = _)
  case dot =>
    simp only [a, b, show e = 32 from Wick.ewBits_of_two hvew]
    refine ⟨fun hfa hfb => execVdot4Vdot2_int h hvew hfa hfb, fun hfa hfb => ?fp8, fun hfa hfb => ?bf16⟩
    case fp8 =>
      have hlegal : dotLegal .dot4 w.fmt2.toNat w.fmt.toNat = true := by
        obtain hfa | hfa := hfa <;> obtain hfb | hfb := hfb <;> rw [hfa, hfb] <;> rfl
      have hbits : fmtBits w.fmt2.toNat = 8 := by
        obtain hfa | hfa := hfa <;> rw [hfa] <;> rfl
      have hne : w.fmt2.toNat ≠ 0xB := by
        obtain hfa | hfa := hfa <;> simp [hfa]
      exact execVdot4Vdot2_fp h hvew hlegal hne hbits
    case bf16 =>
      have hlegal : dotLegal .dot2 w.fmt2.toNat w.fmt.toNat = true := by rw [hfa, hfb]; rfl
      have hbits : fmtBits w.fmt2.toNat = 16 := by rw [hfa]; rfl
      have hdot := execVdot4Vdot2_fp h hvew hlegal (by simp [hfa]) hbits
      rw [hfa, hfb] at hdot
      simp only [← halves_eq]
      exact hdot

end Sys2Proof.Machine

/-! ## Reductions, slides, permutations and moves (R179, R190, R191) -/

namespace Sys2Proof.Machine

open Sys2Proof

/-! ### A fixed tree -/

section Tree

variable {α β : Type} {P : List β → α → Prop} {f : α → α → α}

/-- `us` cut into successive parts, one for each node of `xs`, of which `P` holds. -/
def Gathers (P : List β → α → Prop) (us : List β) (xs : List α) : Prop :=
  ∃ ys, List.Forall₂ P ys xs ∧ ys.flatten = us

variable (hnode : ∀ us vs x y, P us x → P vs y → P (us ++ vs) (f x y))
include hnode

/-- A level joins the parts of the nodes that it combines. -/
theorem pairUp_gathers {k : Nat} {us : List β} {xs : List α} (hlen : xs.length = 2 * k) (h : Gathers P us xs) :
    (pairUp f xs).length = k ∧ Gathers P us (pairUp f xs) := by
  induction k generalizing us xs with
  | zero =>
    obtain rfl := List.eq_nil_of_length_eq_zero hlen
    exact ⟨rfl, h⟩
  | succ k ih =>
    match xs, hlen, h with
    | x :: y :: t, hlen, ⟨p :: q :: ys, .cons hp (.cons hq hys), hflat⟩ =>
      simp only [List.length_cons] at hlen
      obtain ⟨hlen', zs, hzs, hflat'⟩ := ih (by omega) ⟨ys, hys, rfl⟩
      refine ⟨congrArg (· + 1) hlen', (p ++ q) :: zs, .cons (hnode p q x y hp hq) hzs, ?_⟩
      rw [List.flatten_cons, hflat', ← hflat, List.flatten_cons, List.flatten_cons, List.append_assoc]

/-- `c` levels over 2^c leaves end in one node, of which `P` holds with all that the leaves hold, in order (R191). -/
theorem treeLevels_gathers {c : Nat} {us : List β} {xs : List α} (hlen : xs.length = 2 ^ c) (h : Gathers P us xs) :
    ∃ x, treeLevels f c xs = [x] ∧ P us x := by
  induction c generalizing xs with
  | zero =>
    match xs, hlen, h with
    | [x], _, ⟨[p], .cons hp .nil, hflat⟩ => exact ⟨x, rfl, by simpa [← hflat] using hp⟩
  | succ c ih =>
    obtain ⟨hlen', h'⟩ := pairUp_gathers hnode (by rw [hlen, Nat.pow_succ']) h
    exact ih hlen' h'

end Tree

/-! ### The root of a reduction (R191) -/

/-- The tree has a leaf for every element below VL. -/
theorem le_two_pow_redLevels (vl : Nat) : vl ≤ 2 ^ redLevels vl := by
  rw [redLevels]
  split
  · assumption
  · have hlog := Nat.lt_log2_self (n := vl - 1)
    omega

/-- No element from VL on is active. -/
theorem Lantern.actives_eq_filter_range (l : Lantern) (pg : Nat) {m : Nat} (hm : l.wick.vl ≤ m) :
    (List.range m).filter (l.active pg) = l.actives pg := by
  obtain ⟨d, rfl⟩ := Nat.exists_eq_add_of_le hm
  rw [List.range_add, List.filter_append, Lantern.actives]
  refine List.append_right_eq_self.2 (List.filter_eq_nil_iff.2 fun i hi => ?_)
  obtain ⟨j, -, rfl⟩ := List.mem_map.1 hi
  simp [Lantern.active]

theorem flatten_map_singletons {α : Type} (p : α → Bool) (xs : List α) :
    (xs.map fun a => if p a then [a] else []).flatten = xs.filter p := by
  induction xs with
  | nil => rfl
  | cons a t ih => by_cases ha : p a <;> simp [ha, ih]

/-- The leaf of an active element. -/
def RNode.ofLeaf (leaf : Nat → ERes) (i : Nat) : RNode := { bits := (leaf i).bits, idx := i, log := [(i, leaf i)] }

/-- The root of the tree over the active elements of `pg`; none where it is empty. -/
def Lantern.redRoot (l : Lantern) (pg : Nat) (leaf : Nat → ERes) (op : Nat → Nat → ERes) : Option RNode :=
  ((treeLevels (redNode op) (redLevels l.wick.vl) ((List.range (2 ^ redLevels l.wick.vl)).map (fun i =>
    if l.active pg i then some (RNode.ofLeaf leaf i) else none))).head?).join

/-- What holds of every leaf, and of a node when it holds of the two nodes below it, holds of the root with the active
elements. -/
theorem Lantern.redRoot_induction {l : Lantern} {pg : Nat} {leaf : Nat → ERes} {op : Nat → Nat → ERes}
    {P : List Nat → Option RNode → Prop} (hempty : P [] none) (hleaf : ∀ i, P [i] (some (RNode.ofLeaf leaf i)))
    (hnode : ∀ xs ys x y, P xs x → P ys y → P (xs ++ ys) (redNode op x y)) :
    P (l.actives pg) (l.redRoot pg leaf op) := by
  have hleaves : Gathers P (l.actives pg) ((List.range (2 ^ redLevels l.wick.vl)).map (fun i =>
      if l.active pg i then some (RNode.ofLeaf leaf i) else none)) := by
    refine ⟨_, ?_, (flatten_map_singletons (l.active pg) _).trans
      (l.actives_eq_filter_range pg (le_two_pow_redLevels _))⟩
    rw [List.forall₂_map_left_iff, List.forall₂_map_right_iff, List.forall₂_same]
    intro i _
    split
    · exact hleaf i
    · exact hempty
  obtain ⟨x, hx, hP⟩ := treeLevels_gathers hnode (c := redLevels l.wick.vl) (by simp) hleaves
  rw [Lantern.redRoot, hx]
  exact hP

/-- A node is empty where no active element feeds it, and over one element it is that element's leaf. -/
def RedSole (leaf : Nat → ERes) (xs : List Nat) (x : Option RNode) : Prop :=
  (x = none ↔ xs = []) ∧ ∀ i t, xs = [i] → x = some t → t.bits = (leaf i).bits

theorem Lantern.redRoot_sole (l : Lantern) (pg : Nat) (leaf : Nat → ERes) (op : Nat → Nat → ERes) :
    RedSole leaf (l.actives pg) (l.redRoot pg leaf op) := by
  refine Lantern.redRoot_induction (P := RedSole leaf) ⟨by simp, by simp⟩ (fun i => ⟨by simp, ?leaf⟩)
    fun xs ys x y ⟨hx, hxs⟩ ⟨hy, hys⟩ => ?node
  case leaf =>
    rintro j _ hij ⟨⟩
    rw [← List.singleton_inj.1 hij]
    rfl
  case node =>
    cases x with
    | none =>
      obtain rfl := hx.1 rfl
      exact ⟨hy, hys⟩
    | some a =>
      have hne : xs ≠ [] := fun hnil => by simp [hnil] at hx
      cases y with
      | none =>
        obtain rfl := hy.1 rfl
        rw [List.append_nil]
        exact ⟨hx, hxs⟩
      | some b =>
        have hne' : ys ≠ [] := fun hnil => by simp [hnil] at hy
        exact ⟨by simp [redNode, hne], fun i t h => by simp [List.append_eq_singleton_iff, hne, hne'] at h⟩

/-- Where no leaf and no node operation reports anything, the root reports nothing. -/
theorem Lantern.redRoot_clean {l : Lantern} {pg : Nat} {leaf : Nat → ERes} {op : Nat → Nat → ERes}
    (hleaf : ∀ i, (leaf i).Clean) (hop : ∀ a b, (op a b).Clean) {t : RNode} (h : l.redRoot pg leaf op = some t) :
    ∀ p ∈ t.log, p.2.Clean := by
  refine Lantern.redRoot_induction (l := l) (pg := pg) (leaf := leaf) (op := op)
    (P := fun _ x => ∀ t, x = some t → ∀ p ∈ t.log, p.2.Clean) (by simp) (fun i => ?leaf)
    (fun _ _ x y hx hy => ?node) t h
  case leaf => simp [RNode.ofLeaf, hleaf]
  case node =>
    cases x with
    | none => exact hy
    | some a =>
      cases y with
      | none => exact hx
      | some b =>
        rintro _ ⟨⟩ p hp
        simp only [List.mem_append, List.mem_singleton] at hp
        obtain (hp | hp) | rfl := hp
        · exact hx a rfl p hp
        · exact hy b rfl p hp
        · exact hop _ _

/-- The root of an integer sum is the sum of the active elements modulo 2^e; an empty one counts 0. -/
theorem Lantern.redRoot_sum (l : Lantern) (pg e : Nat) (leaf : Nat → ERes) :
    (l.redRoot pg leaf (redIntNode .sum e)).elim 0 RNode.bits ≡
      ((l.actives pg).map (fun i => (leaf i).bits)).sum [MOD 2 ^ e] := by
  refine Lantern.redRoot_induction (P := fun xs x =>
      x.elim 0 RNode.bits ≡ (xs.map fun i => (leaf i).bits).sum [MOD 2 ^ e])
    (Nat.ModEq.refl 0) (fun i => Nat.ModEq.refl _) fun xs ys x y hx hy => ?node
  rw [List.map_append, List.sum_append]
  refine Nat.ModEq.trans ?_ (hx.add hy)
  cases x with
  | none => exact (congrArg (· % 2 ^ e) (Nat.zero_add _)).symm
  | some a =>
    cases y with
    | none => exact Nat.ModEq.refl _
    | some b => exact Nat.mod_modEq _ _

/-! ### The result of a reduction (R190, R191) -/

/-- Adds what the operations below a node reported, element by element. -/
def RNode.reports (t : RNode) (vl : Nat) (r : VRes) : VRes :=
  (natRange 0 vl).foldl (fun v i => (t.log.filter (fun p => p.1 = i)).foldl (fun v p => v.note i p.2) v) r

theorem RNode.reports_eq (t : RNode) (vl : Nat) (r : VRes) : t.reports vl r =
    (natRange 0 vl).foldl (fun v i => (t.log.filter (fun p => p.1 = i)).foldl (fun v p => v.note i p.2) v) r := rfl

theorem RNode.l_reports (t : RNode) (vl : Nat) (r : VRes) : (t.reports vl r).l = r.l := by
  rw [RNode.reports_eq]
  exact VRes.l_foldl (fun v _ => VRes.l_foldl (fun u _ => u.l_note ..) _ v) _ r

theorem RNode.reports_of_clean {t : RNode} (h : ∀ p ∈ t.log, p.2.Clean) (vl : Nat) (r : VRes) :
    t.reports vl r = r :=
  foldl_eq_self fun i _ => foldl_eq_self fun p hp => r.note_of_clean i (h p (List.mem_of_mem_filter hp))

/-- The start value combined with the root. -/
def Lantern.redValue (l : Lantern) (pg : Nat) (leaf : Nat → ERes) (op : Nat → Nat → ERes) (start : Nat) : Nat :=
  (l.redRoot pg leaf op).elim start fun t => (op start t.bits).bits

section Reduce

variable (l : Lantern) (leaf : Nat → ERes) (op : Nat → Nat → ERes) (start : Nat)

theorem Lantern.redValue_of_none {pg : Nat} (h : l.actives pg = []) : l.redValue pg leaf op start = start := by
  obtain ⟨hempty, -⟩ := l.redRoot_sole pg leaf op
  rw [Lantern.redValue, hempty.2 h]
  rfl

theorem Lantern.redValue_of_one {pg i : Nat} (h : l.actives pg = [i]) :
    l.redValue pg leaf op start = (op start (leaf i).bits).bits := by
  obtain ⟨hempty, hone⟩ := l.redRoot_sole pg leaf op
  rw [Lantern.redValue]
  cases hroot : l.redRoot pg leaf op with
  | none => simp [hempty.1 hroot] at h
  | some t => rw [Option.elim_some, hone i t h hroot]

theorem Lantern.redValue_sum (pg e : Nat) : l.redValue pg leaf (redIntNode .sum e) (start % 2 ^ e) =
    (start + ((l.actives pg).map (fun i => (leaf i).bits)).sum) % 2 ^ e := by
  refine Eq.trans ?_ ((l.redRoot_sum pg e leaf).add_left start)
  rw [Lantern.redValue]
  cases l.redRoot pg leaf (redIntNode .sum e) with
  | none => rfl
  | some t => exact Nat.mod_add_mod ..

variable (w : VOp) (startNan : NanSeen)

theorem Lantern.reduce_of_none (h : l.redRoot w.pg.toNat leaf op = none) : l.reduce w leaf op start startNan =
    { l := l.setF w.vd.toNat (BitVec.ofNat 64 start), nan := startNan.map (fun x => (none, x)) } := by
  simp only [Lantern.redRoot, RNode.ofLeaf] at h
  simp only [Lantern.reduce, h]

theorem Lantern.l_reduce : (l.reduce w leaf op start startNan).l =
    l.setF w.vd.toNat (BitVec.ofNat 64 (l.redValue w.pg.toNat leaf op start)) := by
  rw [Lantern.redValue]
  cases hroot : l.redRoot w.pg.toNat leaf op with
  | none => rw [l.reduce_of_none _ _ _ _ _ hroot, Option.elim_none]
  | some t =>
    have hreports := t.l_reports l.wick.vl { l := l.setF w.vd.toNat (BitVec.ofNat 64 (op start t.bits).bits) }
    simp only [Lantern.redRoot, RNode.ofLeaf] at hroot
    simp only [Lantern.reduce, hroot, ← RNode.reports_eq]
    refine Eq.trans ?_ hreports
    split <;> split <;> rfl

/-- A reduction of which no operation reports anything reports nothing. -/
theorem Lantern.reduce_clean {leaf : Nat → ERes} {op : Nat → Nat → ERes} (hleaf : ∀ i, (leaf i).Clean)
    (hop : ∀ a b, (op a b).Clean) :
    (l.reduce w leaf op start none).excs = [] ∧ (l.reduce w leaf op start none).nan = none := by
  cases hroot : l.redRoot w.pg.toNat leaf op with
  | none =>
    rw [l.reduce_of_none _ _ _ _ _ hroot]
    exact ⟨rfl, rfl⟩
  | some t =>
    have hquiet := RNode.reports_of_clean (Lantern.redRoot_clean hleaf hop hroot) l.wick.vl
    obtain ⟨hexc, hnan⟩ := hop start t.bits
    simp only [Lantern.redRoot, RNode.ofLeaf] at hroot
    simp [Lantern.reduce, hroot, ← RNode.reports_eq, hquiet, hexc, hnan]

end Reduce

/-! ### Elements taken from other places -/

theorem Lantern.elem_lt (l : Lantern) (g wd i : Nat) : l.elem g wd i < 2 ^ wd := BitVec.isLt _

theorem Lantern.vbElem_lt (l : Lantern) (w : VOp) (wd i : Nat) : l.vbElem w wd i < 2 ^ wd := by
  rw [Lantern.vbElem]
  split
  · exact Nat.mod_lt _ (Nat.two_pow_pos wd)
  · exact l.elem_lt ..

/-- The width that VEW names is one of the four of R148. -/
theorem Wick.elemWidth_ewBits (k : Wick) : ElemWidth k.ewBits := by
  rw [Wick.ewBits]
  generalize k.vew = e
  revert e
  decide

/-- The active elements of VA packed into the first elements of VD. -/
def Lantern.compressed (l : Lantern) (w : VOp) : Lantern :=
  l.setElems w.vd.toNat l.wick.ewBits
    (fun j => some (l.elem w.va.toNat l.wick.ewBits ((l.actives w.pg.toNat).getD j 0)))
    (List.range (l.actives w.pg.toNat).length)

theorem zip_range_eq_map (xs : List Nat) :
    (List.range xs.length).zip xs = (List.range xs.length).map (fun j => (j, xs.getD j 0)) :=
  List.ext_getElem (by simp) fun j hj _ => by
    have hlen : j < xs.length := by simpa using hj
    simp [hlen]

theorem Lantern.elem_compressed (l : Lantern) (w : VOp) {j i : Nat} (h : (l.actives w.pg.toNat)[j]? = some i) :
    (l.compressed w).elem w.vd.toNat l.wick.ewBits j = l.elem w.va.toNat l.wick.ewBits i := by
  obtain ⟨hj, -⟩ := List.getElem?_eq_some_iff.1 h
  rw [Lantern.compressed, Lantern.elem_setElems _ _ _ l.wick.elemWidth_ewBits, if_pos hj, Option.elim_some,
    List.getD_eq_getElem?_getD, h]
  exact Nat.mod_eq_of_lt (l.elem_lt ..)

/-- The elements of VA where active, of VB where not. -/
def Lantern.selected (l : Lantern) (w : VOp) : Lantern :=
  l.setElems w.vd.toNat l.wick.ewBits (fun i => some (if l.active w.pg.toNat i then
    l.elem w.va.toNat l.wick.ewBits i else l.vbElem w l.wick.ewBits i)) (List.range l.wick.vl)

theorem Lantern.elem_selected (l : Lantern) (w : VOp) {i : Nat} (hi : i < l.wick.vl) :
    (l.selected w).elem w.vd.toNat l.wick.ewBits i =
      if l.active w.pg.toNat i then l.elem w.va.toNat l.wick.ewBits i else l.vbElem w l.wick.ewBits i := by
  rw [Lantern.selected, Lantern.elem_setElems _ _ _ l.wick.elemWidth_ewBits, if_pos hi, Option.elim_some]
  refine Nat.mod_eq_of_lt ?_
  split
  · exact l.elem_lt ..
  · exact l.vbElem_lt ..

/-! ### What issues -/

/-- An integer reduction takes every width (R190). -/
theorem redLegal_of_int {f : RedOp} (hint : redIsFp f = false) (k : Wick) (fmt : BitVec 4) :
    redLegal f k fmt = true := by
  revert hint
  cases f <;> simp [redIsFp, redLegal]

section Issues

variable {s : State} {n : Nat} {w : VOp} (h : s.vecIssues n w)
include h

theorem execVcompress_completes (hpred : PredUse.gu.ok w.zf w.pg = true) (hapart : w.vd ≠ w.va) :
    exec (.vcompress n w) s = s.vecDone n w 0x94 { l := onWick (fun k => { k with
      a := BitVec.ofNat 64 ((s.lan n).actives w.pg.toNat).length }) ((s.lan n).compressed w) } := by
  change execVcompress n w s = _
  refine (h.vecOp hpred (decide_eq_true hapart)).trans ?_
  dsimp only
  rw [zip_range_eq_map, List.foldl_map]
  rfl

theorem execVsel_completes (hpred : PredUse.gu.ok w.zf w.pg = true) :
    exec (.vsel n w) s = s.vecDone n w 0x95 { l := (s.lan n).selected w } :=
  (h.vecOp hpred rfl : execVsel n w s = _)

theorem execReduction_int {f : RedOp} (hpred : PredUse.gu.ok w.zf w.pg = true) (hint : redIsFp f = false) :
    exec (.reduction n f w) s = s.vecDone n w 0x93 ((s.lan n).reduce w
      (fun i => { bits := (s.lan n).elem w.va.toNat (s.lan n).wick.ewBits i })
      (redIntNode f (s.lan n).wick.ewBits) (((s.lan n).fReg w.vb.toNat).toNat % 2 ^ (s.lan n).wick.ewBits) none) := by
  change execReduction n f w s = _
  refine (h.vecOp hpred (redLegal_of_int hint _ _)).trans ?_
  dsimp only
  rw [hint]
  rfl

theorem execReduction_fp {f : RedOp} (hpred : PredUse.gu.ok w.zf w.pg = true)
    (hlegal : redLegal f (s.lan n).wick w.fmt = true) (hfp : redIsFp f = true) :
    let l := s.lan n
    let wc := if f = .fwsum then wideFmt w.fmt.toNat else w.fmt.toNat
    let start := (l.fReg w.vb.toNat).toNat % 2 ^ fmtBits wc
    exec (.reduction n f w) s = s.vecDone n w 0x93 (l.reduce w
      (fun i => redLeaf l.wick.fctx w.fmt.toNat wc (l.elem w.va.toNat l.wick.ewBits i)) (redFpNode f l.wick.fctx wc)
      start (if bitsNan wc start then some (false, wc) else none)) := by
  change execReduction n f w s = _
  refine (h.vecOp hpred hlegal).trans ?_
  dsimp only
  rw [hfp]
  rfl

end Issues

/-! ### The statement -/

/-- Settles O21: the reductions through the root of their tree, VCOMPRESS and VSEL through the elements that they
write, and each of the others maps its own operation over the elements. -/
theorem vectorReductionsAndMovesComplete : Obligations.VectorReductionsAndMovesComplete := by
  unfold Obligations.VectorReductionsAndMovesComplete
  intro s n w h l k e a out
  refine ⟨fun hzf => ?governed, fun hva hvb => ?perm, ?mv, ?bcast, ?iota⟩
  case governed =>
    have hpred : PredUse.gu.ok w.zf w.pg = true := by simp [PredUse.ok, hzf]
    refine ⟨fun f hint => ?int, fun f hlegal hfp => ?fp, fun hva => ⟨?up, ?down, ?compress⟩, ?sel⟩
    case int =>
      obtain ⟨hexcs, hnan⟩ := l.reduce_clean ((l.fReg w.vb.toNat).toNat % 2 ^ e) w
        (leaf := fun i => { bits := a i }) (op := redIntNode f e) (fun _ => ⟨rfl, rfl⟩) fun _ _ => ⟨rfl, rfl⟩
      refine ⟨_, execReduction_int h hpred hint, hexcs, hnan, _, l.l_reduce .., l.redValue_of_none _ _ _, ?_⟩
      rintro rfl
      exact l.redValue_sum ..
    case fp =>
      exact ⟨_, execReduction_fp h hpred hlegal hfp, _, l.l_reduce .., l.redValue_of_none _ _ _,
        fun i hi => l.redValue_of_one _ _ _ hi⟩
    case up => exact (h.vecOp hpred (decide_eq_true hva) : execVslupVsldn n .up w s = _)
    case down => exact (h.vecOp hpred (decide_eq_true hva) : execVslupVsldn n .down w s = _)
    case compress =>
      have hwick : (l.compressed w).wick = k := by
        rw [Lantern.compressed, Lantern.setElems_frame]
      exact ⟨_, execVcompress_completes h hpred hva, by rw [onWick, hwick],
        fun j i hji => l.elem_compressed w hji⟩
    case sel =>
      exact ⟨_, execVsel_completes h hpred, l.setElems_frame .., fun i hi => l.elem_selected w hi⟩
  case perm =>
    have hlegal : (w.vd ≠ w.va && (w.sb || w.vd ≠ w.vb)) = true := by simpa using ⟨hva, hvb⟩
    exact (h.vecOp rfl hlegal : execVperm n w s = _)
  case mv => exact (h.vecOp rfl rfl : execVmvVbcastViota n .mv w s = _)
  case bcast => exact (h.vecOp rfl rfl : execVmvVbcastViota n .bcast w s = _)
  case iota => exact (h.vecOp rfl rfl : execVmvVbcastViota n .iota w s = _)

end Sys2Proof.Machine

/-! ## Loops, fences, event counters and KEND (R213, R241, R242, R259, R260) -/

namespace Sys2Proof

theorem BaseWord.len_of_am {w : BaseWord} (ham : w.am = 0) : w.len = 4 := by
  simp [BaseWord.len, ham]

/-- An instruction without an operand passes the check of its AM, S and IMM. -/
theorem BaseWord.am00_legal {w : BaseWord} (hs : w.s = false) (ham : w.am = 0) (himm : w.imm = 0) :
    (w.am00 && !w.s) = true := by
  simp [BaseWord.am00, hs, ham, himm]

theorem natField_of_lt {v lo : Nat} (h : v < 2 ^ lo) (w : Nat) : natField v lo w = 0 := by
  rw [natField, Nat.div_eq_of_lt h, Nat.zero_mod]

end Sys2Proof

namespace Sys2Proof.Machine

open Sys2Proof

/-! ### Completion and transfer -/

/-- A taken transfer counts once in WORK (R21, R238). -/
theorem State.transfer_issued (s : State) (n : Nat) (x : Dword) : (s.transfer n x).issued n = s.jumps n x id := by
  simp only [State.issued, State.transfer, State.modLan, State.lan_setLan, State.setLan_setLan, Lantern.done_work]
  rfl

theorem State.lan_completes_of_ne (s : State) {n m : Nat} (len : Nat) (f : Lantern → Lantern) (h : m ≠ n) :
    (s.completes n len f).lan m = s.lan m := s.lan_setLan_of_ne _ h

theorem State.lan_jumps_of_ne (s : State) {n m : Nat} (x : Dword) (f : Lantern → Lantern) (h : m ≠ n) :
    (s.jumps n x f).lan m = s.lan m := s.lan_setLan_of_ne _ h

/-! ### A change of a counter -/

theorem State.counter_setCounter (s : State) (e x : Nat) (v : Dword) :
    (s.setCounter e v).counter x = if x = e then v else s.counter x := Tab.getD_putD ..

/-- The counter operand as an immediate (R260). -/
theorem State.counterOperand_imm (s : State) (n : Nat) {w : BaseWord} (hs : w.s = false) (ham : w.am = 0)
    (himm : w.imm.toNat < 4096) : s.counterOperand n w = .ok w.imm.toNat := by
  have hval : s.operandValue n w w.zimm 8 = .ok (w.zimm, s) := by simp [State.operandValue, operandOf, ham]
  have hzimm : w.zimm.toNat = w.imm.toNat := by
    rw [BaseWord.zimm, BitVec.toNat_setWidth]
    omega
  rw [State.counterOperand, s.need_true n (by simp [BaseWord.amI6, hs, ham]), hval]
  change (if w.zimm.toNat > 4095 then _ else Except.ok w.zimm.toNat) = _
  rw [hzimm, if_neg (by omega)]

/-! ### The instructions -/

/-- HLOOP's own effect: its registers (R242). -/
def Lantern.setLoop (beg lend count : Dword) : Lantern → Lantern :=
  onWick (fun k => { k with lbeg := beg, lend := lend, lcnt := count })

section Control

variable {s : State} {n : Nat} {w : BaseWord} (h : s.issues n w.len w.cond) (hs : w.s = false) (ham : w.am = 0)
include h hs ham

/-- HLOOP passes over the body where its count is 0 and completes else; its registers change last (R242, R245). -/
theorem execHloop_sets (himm : w.imm.toNat < 512) :
    let k := (s.lan n).wick
    let count := if w.imm.getLsbD 8 then k.x else k.a
    let lend := k.pc + 4 + BitVec.ofNat 64 (4 * (w.imm.toNat % 256 + 1))
    execHloop n w s = .next ((if count = 0 then s.jumps n lend id else s.completes n 4 id).modLan n
      (Lantern.setLoop (k.pc + 4) lend count)) := by
  intro k count lend
  have hbit : natBit w.imm.toNat 8 = w.imm.getLsbD 8 := by
    simp [natBit, BitVec.getLsbD, Nat.testBit_eq_decide_div_mod_eq]
  have hfield : natField w.imm.toNat 0 8 = w.imm.toNat % 256 := by simp [natField]
  have hlegal : (w.am = 0 && !w.s && natField w.imm.toNat 9 7 = 0) = true := by
    simp [hs, ham, natField_of_lt (lo := 9) himm]
  rw [← BaseWord.len_of_am ham, ← State.transfer_issued, ← State.complete_issued, ← apply_ite (State.issued · n),
    ← State.issued_modLan _ _ fun _ _ => rfl]
  refine State.runWick_ok h ?_
  rw [s.need_true n hlegal, hbit, hfield]
  exact congrArg Except.ok (apply_ite (State.modLan · n (Lantern.setLoop (k.pc + 4) lend count)) ..).symm

theorem execSyncI_completes (himm : w.imm = 0) (hdone : s.vfenceDone n = true) :
    execSyncI n w s = .next (s.completes n 4 (fun l => { l with icache := [], lineBuf := [] })) := by
  rw [← BaseWord.len_of_am ham, ← State.completes_modLan]
  refine State.runWick_completes h ?_
  rw [s.need_true n (BaseWord.am00_legal hs ham himm), s.awaitFence_true hdone]
  rfl

theorem execFence_completes (himm : w.imm = 0) (hsb : (s.lan n).sb = []) (hlq : (s.lan n).lq = [])
    (hvis : s.visible n = true) : execFence n w s = .next (s.completes n 4 id) := by
  rw [← BaseWord.len_of_am ham]
  refine State.runWick_completes h ?_
  rw [s.need_true n (BaseWord.am00_legal hs ham himm), s.awaitFence_true (by simp [hsb, hlq, hvis])]
  rfl

theorem execFence_waits (himm : w.imm = 0)
    (hleft : (s.lan n).sb = [] ∧ (s.lan n).lq = [] ∧ s.visible n = true → False) :
    execFence n w s = .next (s.modLan n (fun l => { l with wait := .fence })) := by
  refine State.runWick_error (a := .wait s .fence) h ?_
  rw [s.need_true n (BaseWord.am00_legal hs ham himm), s.awaitFence_false (by simpa [and_assoc] using hleft)]
  rfl

theorem execEwait_completes (himm : w.imm.toNat < 4096)
    (hreached : (s.counter w.imm.toNat - (s.lan n).wick.a).toNat < 2 ^ 63) :
    execEwait n w s = .next (s.completes n 4 id) := by
  rw [← BaseWord.len_of_am ham]
  refine State.runWick_completes h ?_
  rw [s.counterOperand_imm n hs ham himm]
  exact if_pos (decide_eq_true hreached)

theorem execEwait_waits (himm : w.imm.toNat < 4096)
    (hbelow : 2 ^ 63 ≤ (s.counter w.imm.toNat - (s.lan n).wick.a).toNat) :
    execEwait n w s = .next ((s.issued n).modLan n (fun l =>
      { l with wait := .event w.imm.toNat (s.lan n).wick.a })) := by
  refine State.runWick_error (a := .wait s (.event w.imm.toNat (s.lan n).wick.a)) h ?_
  rw [s.counterOperand_imm n hs ham himm]
  exact if_neg (by simpa [reaches] using hbelow)

/-- EADD completes, and then adds; zenith examines its heads (R260, R361). -/
theorem execEadd_adds (himm : w.imm.toNat < 4096) (hsb : (s.lan n).sb = []) (hseen : s.seenBy (.wick n) = true) :
    execEadd n w s = .next (((s.complete n w.len).setCounter w.imm.toNat
      (s.counter w.imm.toNat + (s.lan n).wick.a)).examine.issued n) := by
  refine State.runWick_ok h ?_
  rw [s.counterOperand_imm n hs ham himm]
  change (s.await _ >>= _) = _
  rw [s.await_true (by simp [hsb, hseen])]
  rfl

theorem execKend_reports (himm : w.imm = 0) (hmatrix : (s.lan n).matrixDone = true) (hvf : s.vfenceDone n = true)
    (hlq : (s.lan n).lq = []) (hreports : (s.lan n).reportsDone = true) :
    execKend n w s = .next (((s.modLan n (fun l =>
      { l with run := .kended, wait := .none, resv := none })).kernelDone n).issued n) := by
  refine State.runWick_ok h ?_
  rw [s.need_true n (BaseWord.am00_legal hs ham himm),
    s.awaitFence_true (by simp [hmatrix, hvf, hlq, hreports])]
  rfl

end Control

/-! ### The statement -/

/-- Settles O8: HLOOP and EADD by what they leave in the lantern and in the counters, each of the others through its
own equation. -/
theorem wickLoopsAndFencesComplete : Obligations.WickLoopsAndFencesComplete := by
  unfold Obligations.WickLoopsAndFencesComplete
  intro s n w h hs ham l k
  refine ⟨?hloop, execSyncI_completes h hs ham,
    execFence_completes h hs ham, execFence_waits h hs ham, execEwait_completes h hs ham, execEwait_waits h hs ham,
    fun himm hsb hseen => ?eadd, execKend_reports h hs ham⟩
  case hloop =>
    intro himm count lend set
    refine ⟨_, execHloop_sets h hs ham himm, ?_, fun m hm => ?_⟩
    · rw [State.lan_modLan, apply_ite (State.lan · n)]
      rfl
    · rw [State.lan_modLan_of_ne _ _ hm, apply_ite (State.lan · m), s.lan_jumps_of_ne _ _ hm,
        s.lan_completes_of_ne _ _ hm, ite_self]
  case eadd =>
    refine ⟨_, execEadd_adds h hs ham himm hsb hseen, rfl, ?_, fun e he => ?_⟩
    · rw [State.counter_setCounter, if_pos rfl]
    · rw [State.counter_setCounter, if_neg he]
      rfl

end Sys2Proof.Machine

/-! ## Messages and reservations (R223, R256, R257, R261) -/

namespace Sys2Proof.Machine

open Sys2Proof

/-! ### Messages (R223, R261) -/

section Messages

variable {s : State} {n : Nat} {w : BaseWord} (h : s.issues n w.len w.cond) (hs : w.s = false) (ham : w.am = 0)
  (himm : w.imm = 0)
include h hs ham himm

/-- MSEND counts as issued when its message leaves, and waits for the answer. -/
theorem execMsend_sends {d : Nat} {g : Gang} (hrank : (s.lan n).wick.y.toNat < (s.lan n).gsize)
    (hgang : s.gangOf n = some g) (hdest : g.members[(s.lan n).wick.y.toNat]? = some d) :
    execMsend n w s = .next (s.modLan n (fun l => { l with
      out := some { dest := d, msg := { rank := l.rank, w0 := l.wick.a, w1 := l.wick.x }, answer := none }
      wait := .answer, work := l.work + 1 })) := by
  refine (State.runWick_error (a := .wait (s.modLan n fun l => { l with
    out := some { dest := d, msg := { rank := l.rank, w0 := l.wick.a, w1 := l.wick.x }, answer := none } })
    .answer) h ?_).trans ?_
  · rw [s.need_true n (BaseWord.am00_legal hs ham himm)]
    dsimp only
    rw [if_pos hrank, hgang, Option.bind_some, hdest]
    rfl
  · simp only [Abort.land, State.issued, State.modLan, State.lan_setLan, State.setLan_setLan]

theorem execMrecv_empty (hfifo : (s.lan n).fifo = []) : execMrecv n w s =
    .next (s.completes n 4 (onWick (fun k => { k with flags := withC k.flags false }))) := by
  rw [← BaseWord.len_of_am ham, ← State.completes_modLan]
  refine State.runWick_completes h ?_
  rw [s.need_true n (BaseWord.am00_legal hs ham himm)]
  dsimp only
  rw [hfifo]
  rfl

theorem execMrecv_takes {x : Msg} {q : List Msg} (hfifo : (s.lan n).fifo = x :: q) : execMrecv n w s =
    .next (s.completes n 4 (fun l => { l with
      fifo := q
      wick := { l.wick with
        a := x.w0, x := x.w1, y := BitVec.ofNat 64 x.rank, flags := withC l.wick.flags true } })) := by
  rw [← BaseWord.len_of_am ham, ← State.completes_modLan]
  refine State.runWick_completes h ?_
  rw [s.need_true n (BaseWord.am00_legal hs ham himm)]
  dsimp only
  rw [hfifo]
  rfl

end Messages

section Arrival

variable {s : State} {n : Nat} {o : OutMsg} (hout : (s.lan n).out = some o)
include hout

/-- A message is taken where its destination runs and its FIFO has room, and else is counted as refused. -/
theorem execMessageArrival_eq (hanswer : o.answer = none) (hrun : (s.lan o.dest).run = .running)
    (hhalt : (s.lan o.dest).halt.halted = false) :
    let ok : Bool := (s.lan o.dest).fifo.length < 16
    execMessageArrival n s = .next ((s.modLan o.dest (fun l => if ok then { l with fifo := l.fifo ++ [o.msg] }
      else { l with refused := satAdd 16 l.refused 1 })).modLan n
        (fun l => { l with out := some { o with answer := some ok } })) := by
  simp [execMessageArrival, hout, hanswer, hrun, hhalt, State.modLan]

theorem execMessageAnswer_completes {b : Bool} (hanswer : o.answer = some b) : execMessageAnswer n s =
    .next ((s.modLan n (fun l => { l with
      out := none, wick := { l.wick with flags := withC l.wick.flags b } })).complete n 4) := by
  simp only [execMessageAnswer, hout, hanswer]

end Arrival

/-! ### Reservations (R256, R257) -/

/-- Completion depends on what a change does to its own lantern alone. -/
theorem State.completes_congr {s : State} {n : Nat} (len : Nat) {f g : Lantern → Lantern}
    (h : f (s.lan n) = g (s.lan n)) : s.completes n len f = s.completes n len g := by
  rw [State.completes, State.completes, h]

/-- LR.D and SC.D take a memory operand (R256). -/
theorem BaseWord.amM_legal {k : Wick} {w : BaseWord} {dv : Bool} {a : Dword} (hs : w.s = false)
    (hop : operandOf k w = some (.mem dv a)) : (w.amM && !w.s) = true := by
  obtain ⟨ham0, ham6⟩ := operandOf_mem_am hop
  rw [BaseWord.amM, hs, decide_eq_true ham0, decide_eq_true ham6]
  rfl

theorem State.resvAddr_of_reach {s u : State} {n : Nat} {w : BaseWord} {dv : Bool} {a : Dword}
    (hop : operandOf (s.lan n).wick w = some (.mem dv a)) (halign : a.toNat % 8 = 0)
    (hreach : s.reach n dv false true a 8 = .ok u) : s.resvAddr n w = .ok ((dv, a), u) := by
  simp only [State.resvAddr, hop, hreach]
  exact if_neg (not_not_intro halign)

section Reservations

variable {s u : State} {n : Nat} {w : BaseWord} {dv : Bool} {a : Dword} (h : s.issues n w.len w.cond)
  (hs : w.s = false) (hop : operandOf (s.lan n).wick w = some (.mem dv a)) (halign : a.toNat % 8 = 0)
  (hsb : (s.lan n).sb = []) (hreach : s.reach n dv false true a 8 = .ok u)
include h hs hop halign hsb hreach

theorem execLrD_reserves {v : State} {bs : List Byte} (hread : u.readBuffered n dv a 8 = .ok (bs, v)) :
    execLrD n w s = .next (v.completes n w.len (fun l => { l with
      resv := some (v.granuleOf dv a), wick := { l.wick with a := BitVec.ofNat 64 (leNat bs) } })) := by
  rw [← State.completes_modLan]
  refine State.runWick_completes h ?_
  rw [s.need_true n (BaseWord.amM_legal hs hop), s.await_true (by simp [hsb]),
    State.resvAddr_of_reach hop halign hreach]
  change (u.readBuffered n dv a 8 >>= _) = _
  rw [hread]
  rfl

/-- SC.D stores A under its reservation, which ends, and C says whether it has stored. -/
theorem execScD_completes (hfree : (u.lan n).blocked dv true a.toNat 8 = false) :
    let bs := leBytes 8 (u.lan n).wick.a.toNat
    let holds : Prop := (u.lan n).resv = some (u.granuleOf dv a)
    execScD n w s = .next ((if holds then
        if dv then u.dvStore (.wick n) a.toNat bs (fun _ => false) else u.modLan n (fun l => l.lsStore a.toNat bs)
      else u).completes n w.len (fun l => { l with
        resv := none, wick := { l.wick with flags := withC l.wick.flags (decide holds) } })) := by
  intro bs holds
  rw [← State.completes_modLan]
  refine State.runWick_completes h ?_
  rw [s.need_true n (BaseWord.amM_legal hs hop), s.await_true (by simp [hsb]),
    State.resvAddr_of_reach hop halign hreach]
  change (u.await (!(u.lan n).blocked dv true a.toNat 8) >>= _) = _
  rw [u.await_true (by simp [hfree])]
  rfl

end Reservations

/-! ### The statement -/

/-- Settles O9: each instruction and each arrival through its own equation, and SC.D by whether its reservation holds
and where it stores. -/
theorem wickMessagesAndReservationsComplete : Obligations.WickMessagesAndReservationsComplete := by
  unfold Obligations.WickMessagesAndReservationsComplete
  refine ⟨?messages, fun s u v n w dv a bs h hs hop halign hsb hreach =>
    ⟨execLrD_reserves h hs hop halign hsb hreach, fun hfree => ?scd⟩⟩
  case messages =>
    intro s n d w g o x q l k
    refine ⟨fun h hs ham himm => ?instructions, fun hout hanswer hrun hhalt _ => ?arrival,
      fun b hout hanswer => ?answer⟩
    case instructions =>
      exact ⟨execMsend_sends h hs ham himm, execMrecv_empty h hs ham himm, execMrecv_takes h hs ham himm⟩
    case arrival =>
      have heq : exec (.messageArrival n) s = _ := execMessageArrival_eq hout hanswer hrun hhalt
      rw [heq]
      refine ⟨fun hroom => ?_, fun hfull => ?_⟩
      · rw [decide_eq_true hroom]
        rfl
      · rw [decide_eq_false (Nat.not_lt.2 hfull)]
        rfl
    case answer =>
      refine ⟨_, execMessageAnswer_completes hout hanswer, ?_, fun m hm => ?_⟩
      · simp only [State.complete, State.lan_modLan]
        rfl
      · rw [State.complete, State.lan_modLan_of_ne _ _ hm, State.lan_modLan_of_ne _ _ hm]
  case scd =>
    have heq : exec (.scD n w) s = _ := execScD_completes h hs hop halign hsb hreach hfree
    rw [heq]
    refine ⟨fun hnone => ?_, fun hholds hdv => ?_, fun hholds hls => ?_⟩
    · rw [if_neg hnone, decide_eq_false hnone]
    · rw [if_pos hholds, if_pos hdv, decide_eq_true hholds]
    · rw [if_pos hholds, if_neg (ne_true_of_eq_false hls), decide_eq_true hholds, State.modLan_completes]
      refine congrArg Host.Outcome.next (State.completes_congr _ ?_)
      dsimp only
      rw [Lantern.lsStore, Lantern.lsStoreP_eq]
      rfl

end Sys2Proof.Machine

/-! ## TRAP, RTE and the events of a boundary (R211, R226, R241, R266, R269, R270, R275, R276) -/

namespace Sys2Proof.Machine

open Sys2Proof

/-! ### The level that ends -/

@[simp] theorem Lantern.busy_setBusy (l : Lantern) (lv : Nat) (b : Bool) : (l.setBusy lv b).busy lv = b := by
  unfold Lantern.setBusy Lantern.busy
  split
  · rfl
  · split <;> rfl

theorem Lantern.setBusy_eq (l : Lantern) (lv : Nat) (b : Bool) : l.setBusy lv b =
    { l with
      busy1 := (l.setBusy lv b).busy1, busy2 := (l.setBusy lv b).busy2, busy3 := (l.setBusy lv b).busy3 } := by
  unfold Lantern.setBusy
  split
  · rfl
  · split <;> rfl

/-- The wick's registers as event entry has saved them (R276). -/
def Lantern.savedWick (l : Lantern) : Wick :=
  let v := l.sv l.cl.toNat
  { l.wick with pc := v.spc.setWidth 64, flags := v.sflags, mode := v.smode &&& 0x80003FFF#32 }

/-- The lantern after the return from its level, of which nothing stands on the save stack (R276). -/
def Lantern.returned (l : Lantern) : Lantern :=
  ({ l.done l.savedWick with cl := (l.sv l.cl.toNat).pl, resv := none }.keepFx 0x1F).setBusy l.cl.toNat false

/-- A return changes nothing beyond what completion does, the level and its BUSY, the reservation, and the sticky
flags of queued work. -/
theorem Lantern.returned_eq (l : Lantern) : l.returned =
    { l with
      wick := l.savedWick, icache := (l.done l.savedWick).icache, lineBuf := (l.done l.savedWick).lineBuf
      wait := .none, entered := false, pins := [], vq := (l.keepFx 0x1F).vq
      cl := (l.sv l.cl.toNat).pl, resv := none
      busy1 := l.returned.busy1, busy2 := l.returned.busy2, busy3 := l.returned.busy3 } := by
  conv_lhs => rw [Lantern.returned, Lantern.setBusy_eq, Lantern.done_eq]
  rw [Lantern.returned, Lantern.done_eq]
  rfl

/-- RTE returns where the level has no frame and no asynchronous event chains (R275, R276). -/
theorem State.rte_returns {s : State} {n : Nat}
    (hpushed : ((s.lan n).sv (s.lan n).cl.toNat).pushed = false)
    (hlast : ((s.lan n).sv (s.lan n).cl.toNat).pl ≠ 0 ∨ (s.lan n).cl ≠ 1 ∨ (s.lan n).async = none) :
    s.rte n = s.setLan n (s.lan n).returned := by
  have hchain : (if !((s.lan n).sv (s.lan n).cl.toNat).pushed && ((s.lan n).sv (s.lan n).cl.toNat).pl = 0 &&
      (s.lan n).cl.toNat = 1 then (s.lan n).async else none) = none := by
    obtain hpl | hcl | hasync := hlast
    · rw [decide_eq_false hpl, Bool.and_false, Bool.false_and]
      rfl
    · have hlv : (s.lan n).cl.toNat ≠ 1 := fun h => hcl (BitVec.eq_of_toNat_eq h)
      rw [decide_eq_false hlv, Bool.and_false]
      rfl
    · rw [hasync, ite_self]
  unfold State.rte
  dsimp only
  rw [hchain]
  exact if_neg (ne_true_of_eq_false hpushed)

/-! ### TRAP, RTE and an unassigned word -/

section Issues

variable {s : State} {n : Nat} {w : BaseWord} (h : s.issues n w.len w.cond)
include h

/-- TRAP completes before its event is entered (R241, R277). -/
theorem execTrap_enters (hs : w.s = false) (ham : w.am = 0) (himm : w.imm.toNat < 256) :
    execTrap n w s = .next (((s.complete n 4).takeEvent n 1 ((s.complete n 4).lan n).wick.pc 0 0
      w.imm.toNat).issued n) := by
  refine State.runWick_ok h ?_
  rw [s.need_true n (by simp [hs, ham, natField_of_lt (lo := 8) himm]), BaseWord.len_of_am ham]
  rfl

variable (hs : w.s = false) (ham : w.am = 0) (himm : w.imm = 0)
include hs ham himm

theorem execRte_returns (hsup : (s.lan n).wick.sup = true) (hcl : (s.lan n).cl ≠ 0)
    (hpushed : ((s.lan n).sv (s.lan n).cl.toNat).pushed = false)
    (hlast : ((s.lan n).sv (s.lan n).cl.toNat).pl ≠ 0 ∨ (s.lan n).cl ≠ 1 ∨ (s.lan n).async = none) :
    execRte n w s = .next ((s.setLan n (s.lan n).returned).issued n) := by
  refine State.runWick_ok h ?_
  rw [s.need_true n (BaseWord.am00_legal hs ham himm), ← State.rte_returns hpushed hlast]
  change (if (s.lan n).wick.sup then _ else _) = _
  rw [if_pos hsup, if_neg hcl, s.await_true (by simp [hpushed])]
  rfl

theorem execRte_user (hsup : (s.lan n).wick.sup = false) : execRte n w s =
    .next ((s.issued n).takeEvent n 0x22 (s.lan n).wick.pc (s.lan n).wick.pc 0 0) := by
  refine State.runWick_error (a := .trap s 0x22 (s.lan n).wick.pc 0) h ?_
  rw [s.need_true n (BaseWord.am00_legal hs ham himm)]
  exact if_neg (ne_true_of_eq_false hsup)

end Issues

/-- A word without an assigned opcode or function raises event 0x21 under a true COND (R226, R228). -/
theorem execEventEntry_unassigned {s : State} {n : Nat} {w0 w1 : Word}
    (hop : opAssigned (natField w0.toNat 20 8) (natField w1.toNat 8 6) = false)
    (h : s.issues n (wordLen w0.toNat) (BitVec.ofNat 4 (natField w0.toNat 28 4))) :
    execEventEntry n (.unassigned w0 w1) s =
      .next ((s.issued n).takeEvent n 0x21 (s.lan n).wick.pc (s.lan n).wick.pc 0 0) :=
  (if_neg (ne_true_of_eq_false hop)).trans (State.runWick_illegal h rfl)

/-! ### The events of a boundary (R269, R270) -/

theorem execEventEntry_boundary {s : State} {n : Nat} (h : s.atBoundary n = true) :
    execEventEntry n .boundary s = .next (s.boundaryEvent n) := congrArg Host.Outcome.next (if_pos h)

section Deferred

variable {s : State} {n : Nat}

theorem State.boundaryEvent_registerFile {a : Dword} {e : Nat} (hrf : (s.lan n).defRf = some (a, e)) :
    s.boundaryEvent n =
      (s.modLan n (fun l => { l with defRf := none })).takeEvent n 0x42 (s.lan n).wick.pc a e 0 := by
  simp only [State.boundaryEvent, hrf]

variable (hrf : (s.lan n).defRf = none)
include hrf

theorem State.boundaryEvent_nan (hnan : (s.lan n).defNan = true) : s.boundaryEvent n =
    (s.modLan n (fun l => { l with defNan := false })).takeEvent n 0x30 (s.lan n).wick.pc
      ((s.lan n).nan.pc.setWidth 64) 0 0 := by
  simp only [State.boundaryEvent, hrf, hnan, if_true]

variable (hnan : (s.lan n).defNan = false)
include hnan

theorem State.boundaryEvent_fpException {a : Dword} {e : Nat} (hfx : (s.lan n).defFx = some (a, e)) :
    s.boundaryEvent n =
      (s.modLan n (fun l => { l with defFx := none })).takeEvent n 0x31 (s.lan n).wick.pc a e 0 := by
  simp only [State.boundaryEvent, hrf, hnan, hfx, Bool.false_eq_true, if_false]

variable (hfx : (s.lan n).defFx = none)
include hfx

/-- Without a deferred event, an asynchronous one is entered at level 0 alone. -/
theorem State.boundaryEvent_async {c : Nat} (hcl : (s.lan n).cl = 0) (hasync : (s.lan n).async = some c) :
    s.boundaryEvent n = s.takeEvent n c (s.lan n).wick.pc 0 0 0 := by
  simp only [State.boundaryEvent, hrf, hnan, hfx, hcl, hasync, Bool.false_eq_true, if_false, if_true]

theorem State.boundaryEvent_masked (hcl : (s.lan n).cl ≠ 0) : s.boundaryEvent n = s := by
  simp only [State.boundaryEvent, hrf, hnan, hfx, if_neg hcl, Bool.false_eq_true, if_false]

end Deferred

section Async

variable {l : Lantern}

theorem Lantern.async_service (hpend : l.pendSvc = true) (hen : l.enSvc = true) : l.async = some 0x0A :=
  if_pos (Bool.and_eq_true_iff.2 ⟨hpend, hen⟩)

variable (hsvc : (l.pendSvc && l.enSvc) = false)
include hsvc

theorem Lantern.async_beat (hpend : l.pendBeat = true) (hen : l.enBeat = true) : l.async = some 0x09 :=
  (if_neg (ne_true_of_eq_false hsvc)).trans (if_pos (Bool.and_eq_true_iff.2 ⟨hpend, hen⟩))

theorem Lantern.async_message (hbeat : (l.pendBeat && l.enBeat) = false) (hfifo : l.fifo ≠ [])
    (hen : l.enMsg = true) : l.async = some 0x08 :=
  (if_neg (ne_true_of_eq_false hsvc)).trans ((if_neg (ne_true_of_eq_false hbeat)).trans
    (if_pos (by simp [hfifo, hen])))

end Async

/-! ### The statement -/

/-- Settles O14: RTE by the lantern that it leaves, `Lantern.returned`, and a boundary by its first event in the order
of R269 and R270. -/
theorem trapReturnAndBoundaryEvents : Obligations.TrapReturnAndBoundaryEvents := by
  unfold Obligations.TrapReturnAndBoundaryEvents
  refine ⟨?instructions, ?boundary⟩
  case instructions =>
    intro s n w h l k
    refine ⟨execTrap_enters h, fun hs ham himm hsup hcl => ?rte, execRte_user h,
      fun w0 w1 hcond hop hcan => ?unassigned⟩
    case rte =>
      intro v hpushed hlast
      refine ⟨{ l.returned with work := l.returned.work + 1 }, ?_, Lantern.busy_setBusy .., ?_⟩
      · refine (execRte_returns h hs ham himm hsup hcl hpushed hlast).trans ?_
        simp only [State.issued, State.modLan, State.lan_setLan, State.setLan_setLan]
        rfl
      · rw [Lantern.returned_eq]
        exact ⟨rfl, rfl, rfl, rfl, rfl⟩
    case unassigned =>
      have hfield : BitVec.ofNat 4 (natField w0.toNat 28 4) = w.cond :=
        hcond ▸ BitVec.eq_of_toNat_eq (toNat_ofNat_natField ..)
      exact execEventEntry_unassigned hop ⟨hcan, hfield ▸ h.2⟩
  case boundary =>
    intro s n h l pc go
    have hgo {t : State} (ht : s.boundaryEvent n = t) : go t :=
      (execEventEntry_boundary h).trans (congrArg Host.Outcome.next ht)
    exact ⟨fun a e hrf => hgo (State.boundaryEvent_registerFile hrf),
      fun hrf hnan => hgo (State.boundaryEvent_nan hrf hnan),
      fun a e hrf hnan hfx => hgo (State.boundaryEvent_fpException hrf hnan hfx),
      fun hrf hnan hfx hcl =>
        ⟨fun hpend hen => hgo (State.boundaryEvent_async hrf hnan hfx hcl (Lantern.async_service hpend hen)),
          fun hsvc hpend hen => hgo (State.boundaryEvent_async hrf hnan hfx hcl (Lantern.async_beat hsvc hpend hen)),
          fun hsvc hbeat hfifo hen =>
            hgo (State.boundaryEvent_async hrf hnan hfx hcl (Lantern.async_message hsvc hbeat hfifo hen))⟩,
      fun hrf hnan hfx hcl => hgo (State.boundaryEvent_masked hrf hnan hfx hcl)⟩

end Sys2Proof.Machine

/-! ## The flags of sums and differences (R198, R229) -/

namespace Sys2Proof.Machine

open Sys2Proof

/-! ### FLAGS by their bits (R198) -/

@[simp] theorem fN_mkFlags (n z c v : Bool) : fN (mkFlags n z c v) = n := by
  revert n z c v; decide

@[simp] theorem fZ_mkFlags (n z c v : Bool) : fZ (mkFlags n z c v) = z := by
  revert n z c v; decide

@[simp] theorem fC_mkFlags (n z c v : Bool) : fC (mkFlags n z c v) = c := by
  revert n z c v; decide

@[simp] theorem fV_mkFlags (n z c v : Bool) : fV (mkFlags n z c v) = v := by
  revert n z c v; decide

theorem b2n_le_one (b : Bool) : b2n b ≤ 1 := by cases b <;> decide

/-! ### Signed overflow (R229) -/

/-- A sum of two 64-bit values and a carry overflows where both have one sign and the result the other. -/
theorem signs_iff_sum_overflow {i j r c : Int} (hi : -2 ^ 63 ≤ i ∧ i < 2 ^ 63) (hj : -2 ^ 63 ≤ j ∧ j < 2 ^ 63)
    (hc : 0 ≤ c ∧ c ≤ 1) (hr : r = (i + j + c).bmod (2 ^ 64)) :
    ((i < 0 ↔ j < 0) ∧ ¬(r < 0 ↔ i < 0)) ↔ r ≠ i + j + c := by
  have hmod := Int.bmod_def (i + j + c) (2 ^ 64)
  grind

theorem signs_iff_difference_overflow {i j r c : Int} (hi : -2 ^ 63 ≤ i ∧ i < 2 ^ 63)
    (hj : -2 ^ 63 ≤ j ∧ j < 2 ^ 63) (hc : 0 ≤ c ∧ c ≤ 1) (hr : r = (i - j - c).bmod (2 ^ 64)) :
    (¬(i < 0 ↔ j < 0) ∧ ¬(r < 0 ↔ i < 0)) ↔ r ≠ i - j - c := by
  have hmod := Int.bmod_def (i - j - c) (2 ^ 64)
  grind

theorem toInt_bounds (v : Dword) : -2 ^ 63 ≤ v.toInt ∧ v.toInt < 2 ^ 63 :=
  ⟨BitVec.le_toInt v, BitVec.toInt_lt⟩

theorem toInt_addFlags (a b : Dword) (c : Bool) :
    (addFlags a b c).1.toInt = (a.toInt + b.toInt + b2n c).bmod (2 ^ 64) := by
  cases c <;> simp [addFlags, b2n, BitVec.toInt_add]

theorem toInt_subFlags (a b : Dword) (c : Bool) :
    (subFlags a b c).1.toInt = (a.toInt - b.toInt - b2n c).bmod (2 ^ 64) := by
  cases c <;> simp [subFlags, b2n, BitVec.toInt_sub]

theorem overflow_addFlags (a b : Dword) (c : Bool) : fV (addFlags a b c).2 =
    decide ((addFlags a b c).1.toInt ≠ a.toInt + b.toInt + b2n c) := by
  rw [← Bool.coe_iff_coe, decide_eq_true_eq, ← signs_iff_sum_overflow (toInt_bounds a) (toInt_bounds b)
    ⟨Int.natCast_nonneg _, Int.ofNat_le.2 (b2n_le_one c)⟩ (toInt_addFlags a b c)]
  simp [addFlags, BitVec.msb_eq_toInt]

theorem overflow_subFlags (a b : Dword) (c : Bool) : fV (subFlags a b c).2 =
    decide ((subFlags a b c).1.toInt ≠ a.toInt - b.toInt - b2n c) := by
  rw [← Bool.coe_iff_coe, decide_eq_true_eq, ← signs_iff_difference_overflow (toInt_bounds a) (toInt_bounds b)
    ⟨Int.natCast_nonneg _, Int.ofNat_le.2 (b2n_le_one c)⟩ (toInt_subFlags a b c)]
  simp [subFlags, BitVec.msb_eq_toInt]

theorem toNat_addFlags (a b : Dword) (c : Bool) :
    (addFlags a b c).1.toNat = (a.toNat + b.toNat + b2n c) % 2 ^ 64 := by
  simp [addFlags, BitVec.toNat_add]

/-! ### The statement -/

/-- Settles O4: V through the signs of the operands and of the result, each of the others by the bits of FLAGS. -/
theorem sumFlagsMeanOverflow : Obligations.SumFlagsMeanOverflow := by
  unfold Obligations.SumFlagsMeanOverflow
  intro a b c x y
  refine ⟨⟨toNat_addFlags a b c, ?_, ?_, ?_, overflow_addFlags a b c⟩,
    toInt_subFlags a b c, ?_, ?_, ?_, overflow_subFlags a b c⟩
  · exact fN_mkFlags ..
  · exact fZ_mkFlags ..
  · exact fC_mkFlags ..
  · exact fN_mkFlags ..
  · exact fZ_mkFlags ..
  · exact fC_mkFlags ..

end Sys2Proof.Machine

/-! ## Loads, sums, logic, products, shifts and counts (R229 to R232) -/

namespace Sys2Proof

theorem BaseWord.amM_true {w : BaseWord} (ham0 : w.am ≠ 0) (ham6 : w.am ≠ 6) : w.amM = true :=
  Bool.and_eq_true_iff.2 ⟨decide_eq_true ham0, decide_eq_true ham6⟩

end Sys2Proof

namespace Sys2Proof.Machine

open Sys2Proof

/-! ### A result and its flags (R229) -/

@[simp] theorem fst_addFlags {w : Nat} (a b : BitVec w) : (addFlags a b false).1 = a + b := by
  simp [addFlags, b2n]

@[simp] theorem fst_subFlags {w : Nat} (a b : BitVec w) : (subFlags a b false).1 = a - b := by
  simp [subFlags, b2n]

theorem Wick.setFlags_eq (k : Wick) (s : Bool) (f : BitVec 4) :
    k.setFlags s f = { k with flags := if s then f else k.flags } := by
  cases s <;> rfl

theorem Wick.putA_eq (k : Wick) (w : BaseWord) (v : Dword) : k.putA w.s v = setA w v k :=
  Wick.setFlags_eq ..

/-! ### An instruction that changes the wick's registers alone (R243) -/

section Operations

variable {s u : State} {n : Nat} {w : BaseWord} (h : s.issues n w.len w.cond)
include h

/-- An instruction of one operand changes the wick's registers by its own operation and completes. -/
theorem State.baseOp_completes {legal : Bool} {immv v : Dword} {len : Nat} {f : Wick → Dword → Wick}
    {g : Wick → Wick} (hval : s.operandValue n w immv len = .ok (v, u)) (hlegal : legal = true)
    (hf : ∀ k, f k v = g k) :
    s.baseOp n w legal immv len f = .next (u.completes n w.len (onWick g)) := by
  obtain rfl : (f · v) = g := funext hf
  rw [← State.completes_modLan]
  refine State.runWick_completes h ?_
  rw [s.need_true n hlegal, hval]
  rfl

/-- A that an instruction of one operand gives, with N and Z under S. -/
theorem State.baseOp_setsA {legal : Bool} {immv v : Dword} {len : Nat} {r : Wick → Dword → Dword}
    (hval : s.operandValue n w immv len = .ok (v, u)) (hlegal : legal = true) :
    s.baseOp n w legal immv len (fun k x => k.putA w.s (r k x)) =
      .next (u.completes n w.len (onWick (fun k => setA w (r k v) k))) :=
  State.baseOp_completes h hval hlegal fun k => k.putA_eq w _

/-- An instruction without an operand changes the wick's registers and completes. -/
theorem State.runWick_onWick {legal : Bool} {f g : Wick → Wick} (hlegal : legal = true) (hf : ∀ k, f k = g k) :
    s.runWick n w.len w.cond (fun s => do
      s.need n legal
      .ok ((s.modWick n f).complete n w.len)) = .next (s.completes n w.len (onWick g)) := by
  obtain rfl : f = g := funext hf
  rw [← State.completes_modLan]
  refine State.runWick_completes h ?_
  rw [s.need_true n hlegal]
  rfl

end Operations

/-! ### SETH (R230) -/

theorem getLsbD_insertHalf (a : Dword) {h : Nat} (hh : h < 4) (v : Half) (i : Nat) : (insertHalf a h v).getLsbD i =
    if 16 * h ≤ i ∧ i < 16 * h + 16 then v.getLsbD (i - 16 * h) else a.getLsbD i := by
  have hmask (j : Nat) : (0xFFFF#64).getLsbD j = decide (j < 16) := by
    rw [show 0xFFFF#64 = (BitVec.allOnes 16).setWidth 64 by decide, BitVec.getLsbD_setWidth, BitVec.getLsbD_allOnes]
    grind
  simp only [insertHalf, BitVec.getLsbD_or, BitVec.getLsbD_and, BitVec.getLsbD_not, BitVec.getLsbD_shiftLeft, hmask,
    BitVec.getLsbD_setWidth]
  grind

/-! ### Division (R232) -/

/-- The one quotient of two 64-bit values that does not fit is that of -2^63 by -1. -/
theorem quotient_overflows_iff (a b : Dword) :
    (a = 0x8000000000000000#64 && b = -1) = true ↔ a.toInt = -2 ^ 63 ∧ b.toInt = -1 := by
  have hmin : a = 0x8000000000000000#64 ↔ a.toInt = -2 ^ 63 := BitVec.toInt_inj.symm
  have hneg : b = -1 ↔ b.toInt = -1 := BitVec.toInt_inj.symm
  simp only [Bool.and_eq_true, decide_eq_true_eq, hmin, hneg]

theorem sdiv_eq_ofInt_tdiv (a b : Dword) : a.sdiv b = BitVec.ofInt 64 (a.toInt.tdiv b.toInt) :=
  BitVec.eq_of_toInt_eq (by simp [BitVec.toInt_sdiv])

theorem srem_eq_ofInt_tmod (a b : Dword) : a.srem b = BitVec.ofInt 64 (a.toInt.tmod b.toInt) := by
  rw [← BitVec.toInt_srem, BitVec.ofInt_toInt]

section Divide

variable (a b : Dword)

theorem fst_divide_div : (divide .div a b).1 = if b = 0 then -1
    else if a.toInt = -2 ^ 63 ∧ b.toInt = -1 then a else BitVec.ofInt 64 (a.toInt.tdiv b.toInt) := by
  simp only [divide, quotient_overflows_iff, sdiv_eq_ofInt_tdiv, apply_ite Prod.fst]

theorem fst_divide_divu : (divide .divu a b).1 = if b = 0 then -1 else BitVec.ofNat 64 (a.toNat / b.toNat) := by
  simp only [divide, apply_ite Prod.fst, BitVec.udiv_def]

/-- The remainder of the quotient that overflows is 0. -/
theorem fst_divide_rem : (divide .rem a b).1 = if b = 0 then a else BitVec.ofInt 64 (a.toInt.tmod b.toInt) := by
  simp only [divide, quotient_overflows_iff, srem_eq_ofInt_tmod, apply_ite Prod.fst]
  congr 1
  split
  case isTrue h =>
    rw [h.1, h.2]
    rfl
  case isFalse => rfl

theorem fst_divide_remu : (divide .remu a b).1 = if b = 0 then a else BitVec.ofNat 64 (a.toNat % b.toNat) := by
  simp only [divide, apply_ite Prod.fst, BitVec.umod_def]

theorem snd_divide (f : DivOp) : (divide f a b).2 =
    decide (b = 0 ∨ (f = .div ∨ f = .rem) ∧ a.toInt = -2 ^ 63 ∧ b.toInt = -1) := by
  cases f <;> simp only [divide, quotient_overflows_iff, apply_ite Prod.snd] <;> grind

end Divide

/-! ### Counts (R230) -/

/-- The leading zeros end at the highest bit that is set. -/
theorem leadZeros_spec {w : Nat} (v : BitVec w) : (∀ i, i < leadZeros v → v.getLsbD (w - 1 - i) = false) ∧
    (leadZeros v = w ∨ leadZeros v < w ∧ v.getLsbD (w - 1 - leadZeros v) = true) := by
  unfold leadZeros
  split
  case h_1 i hfind =>
    obtain ⟨hbit, hi, hclear⟩ := List.find?_range_eq_some.1 hfind
    exact ⟨fun j hj => by simpa using hclear j hj, .inr ⟨List.mem_range.1 hi, hbit⟩⟩
  case h_2 hfind =>
    exact ⟨fun i hi => by simpa using List.find?_eq_none.1 hfind i (List.mem_range.2 hi), .inl rfl⟩

theorem popCount_eq_countP {w : Nat} (v : BitVec w) : popCount v = (List.range w).countP (fun i => v.getLsbD i) :=
  List.countP_eq_length_filter.symm

/-! ### The statements -/

/-- Settles O2: each load through `State.baseOp_completes`, and SETH by the bits that it leaves in A. -/
theorem wickLoadsComplete : Obligations.WickLoadsComplete := by
  unfold Obligations.WickLoadsComplete
  intro s u n w v h
  refine ⟨fun f ham0 ham6 hval => ?sized, fun hval => ⟨?getD, ?getX, ?getY⟩, fun p ham hs => ?seth⟩
  case sized =>
    have hM : w.amM = true := BaseWord.amM_true ham0 ham6
    have hsigned : execGetSbGetShGetSw n f w s = _ := State.baseOp_setsA h hval hM
    refine ⟨(State.baseOp_setsA h hval hM : execGetBGetHGetW n f w s = _), hsigned.trans ?_⟩
    cases f <;> rfl
  case getD => exact (State.baseOp_setsA h hval rfl : execGetD n w s = _)
  case getX => exact (State.baseOp_completes h hval rfl fun k => Wick.setFlags_eq .. : execGetxGety n .x w s = _)
  case getY => exact (State.baseOp_completes h hval rfl fun k => Wick.setFlags_eq .. : execGetxGety n .y w s = _)
  case seth =>
    exact ⟨_, (State.runWick_onWick h (by simp [hs, ham]) fun _ => rfl : execSeth n p w s = _),
      getLsbD_insertHalf _ p.isLt _⟩

/-- Settles O3: each sum, difference and compare through `State.baseOp_completes`, NOT and NEG through
`State.runWick_onWick`. -/
theorem wickSumsComplete : Obligations.WickSumsComplete := by
  unfold Obligations.WickSumsComplete
  intro s u n w v h
  refine ⟨fun hval => ⟨fun f => ?add, fun f => ?sub, ?addx, ?addy, fun hs => ?compares⟩, fun ham himm => ?registers⟩
  case add =>
    change execAddAddc n f w s = _
    cases f <;> exact State.baseOp_completes h hval rfl fun k => Wick.setFlags_eq ..
  case sub =>
    change execSubSubb n f w s = _
    cases f <;> exact State.baseOp_completes h hval rfl fun k => Wick.setFlags_eq ..
  case addx =>
    change execAddxAddy n .x w s = _
    exact State.baseOp_completes h hval rfl fun k => (Wick.setFlags_eq ..).trans (by simp)
  case addy =>
    change execAddxAddy n .y w s = _
    exact State.baseOp_completes h hval rfl fun k => (Wick.setFlags_eq ..).trans (by simp)
  case compares =>
    have hlegal : (!w.s) = true := by simp [hs]
    exact ⟨(State.baseOp_completes h hval hlegal fun _ => rfl : execCmp n w s = _),
      (State.baseOp_completes h hval hlegal fun _ => rfl : execCmpxCmpy n .x w s = _),
      (State.baseOp_completes h hval hlegal fun _ => rfl : execCmpxCmpy n .y w s = _)⟩
  case registers =>
    have hlegal : w.am00 = true := by simp [BaseWord.am00, ham, himm]
    exact ⟨(State.runWick_onWick h hlegal fun k => Wick.putA_eq .. : execNotNeg n .not w s = _),
      (State.runWick_onWick h hlegal fun k => (Wick.setFlags_eq ..).trans (by simp) : execNotNeg n .neg w s = _)⟩

/-- Settles O5: each instruction through `State.baseOp_completes`, a division by its quotient or remainder and V, a
shift by its four forms, a count by the bits that it counts. -/
theorem wickLogicAndProductsComplete : Obligations.WickLogicAndProductsComplete := by
  unfold Obligations.WickLogicAndProductsComplete
  intro s u n w v h
  refine ⟨fun hval => ⟨?and, ?or, ?xor, fun hs => ?tst, fun f => ?shift⟩,
    fun hval => ⟨?mul, ?mulh, ?mulhu, fun f => ?divide, ⟨leadZeros v, ?clz⟩, ?popc⟩⟩
  case and => exact (State.baseOp_setsA h hval rfl : execAndOrXor n .and w s = _)
  case or => exact (State.baseOp_setsA h hval rfl : execAndOrXor n .or w s = _)
  case xor => exact (State.baseOp_setsA h hval rfl : execAndOrXor n .xor w s = _)
  case tst => exact (State.baseOp_completes h hval (by simp [hs]) fun _ => rfl : execTst n w s = _)
  case shift =>
    change execShlShrSraRol n f w s = _
    cases f <;> exact State.baseOp_completes h hval rfl fun k => Wick.setFlags_eq ..
  case mul => exact (State.baseOp_setsA h hval rfl : execMul n w s = _)
  case mulh => exact (State.baseOp_setsA h hval rfl : execMulhMulhu n .mulh w s = _)
  case mulhu => exact (State.baseOp_setsA h hval rfl : execMulhMulhu n .mulhu w s = _)
  case divide =>
    change execDivDivuRemRemu n f w s = _
    refine State.baseOp_completes h hval rfl fun k => (Wick.setFlags_eq ..).trans ?_
    rw [snd_divide]
    cases f
    case div => rw [fst_divide_div]
    case divu => rw [fst_divide_divu]
    case rem => rw [fst_divide_rem]
    case remu => rw [fst_divide_remu]
  case clz =>
    obtain ⟨hclear, hset⟩ := leadZeros_spec v
    exact ⟨hclear, hset, (State.baseOp_setsA h hval rfl : execClzPopc n .clz w s = _)⟩
  case popc =>
    rw [← popCount_eq_countP]
    exact (State.baseOp_setsA h hval rfl : execClzPopc n .popc w s = _)

end Sys2Proof.Machine

/-! ## Transfers, calls and returns (R238 to R240) -/

namespace Sys2Proof

theorem BaseWord.amT_true {w : BaseWord} (ham : 4 ≤ w.am.toNat) : w.amT = true := decide_eq_true ham

end Sys2Proof

namespace Sys2Proof.Machine

open Sys2Proof

theorem State.modLan_modLan (s : State) (n : Nat) (f g : Lantern → Lantern) :
    (s.modLan n f).modLan n g = s.modLan n (fun l => g (f l)) := by
  simp only [State.modLan, State.lan_setLan, State.setLan_setLan]

theorem State.modLan_transfer_issued (s : State) (n : Nat) (f : Lantern → Lantern) (x : Dword) :
    ((s.modLan n f).transfer n x).issued n = s.jumps n x f := by
  rw [State.transfer_issued]
  simp only [State.jumps, State.modLan, State.lan_setLan, State.setLan_setLan, id]

/-! ### Transfers (R238) -/

theorem State.transferTo_ok (s : State) (n : Nat) {x : Dword} (h : x.toNat % 4 = 0) :
    s.transferTo n x = .ok (s.transfer n x) := if_pos h

section Transfers

variable {s : State} {n : Nat} {w : BaseWord} (h : s.issues n w.len w.cond) (hs : w.s = false)
include h hs

theorem execBr_jumps (ham : w.am = 0) (halign : (relTarget (s.lan n).wick.pc w.imm).toNat % 4 = 0) :
    execBr n w s = .next (s.jumps n (relTarget (s.lan n).wick.pc w.imm) id) := by
  rw [← State.transfer_issued]
  refine State.runWick_ok h ?_
  rw [s.need_true n (by simp [hs, ham])]
  exact s.transferTo_ok n halign

theorem execJmp_jumps {x : Dword} (ham : 4 ≤ w.am.toNat) (htarget : s.target n w = .ok x) (halign : x.toNat % 4 = 0) :
    execJmp n w s = .next (s.jumps n x id) := by
  rw [← State.transfer_issued]
  refine State.runWick_ok h ?_
  rw [s.need_true n (by simp [hs, BaseWord.amT_true ham]), htarget]
  exact s.transferTo_ok n halign

end Transfers

/-! ### Calls (R239) -/

/-- The lantern after the push of a call: both stacks' entries, and SP and SSP each 8 lower. -/
def Lantern.callPushed (sp ssp : Dword) (es : List SbEntry) (l : Lantern) : Lantern :=
  { l with sb := l.sb ++ es, wick := { l.wick with sp := sp, ssp := ssp } }

theorem State.enterStores_ok (s : State) (n : Nat) {es : List SbEntry} (hfree : (s.lan n).storeWaits es = false)
    (hroom : (s.lan n).sb.length + es.length ≤ 8) :
    s.enterStores n es = .ok (s.modLan n (fun l => { l with sb := l.sb ++ es })) :=
  if_pos (by simp [hfree, hroom])

section Calls

variable {s : State} {n : Nat}

theorem State.pushCall_ok {ret : Dword} :
    let k := (s.lan n).wick
    let sp := k.sp - 8
    let ssp := k.ssp - 8
    let bs := leBytes 8 ret.toNat
    let es := sbEntries true sp bs ++ sbEntries true ssp bs
    s.checkParts n false false sp 8 = .ok () → (s.lan n).sslim.toNat ≤ ssp.toNat → ssp.toNat + 8 ≤ lsSize →
      (s.lan n).storeWaits es = false → (s.lan n).sb.length + es.length ≤ 8 →
      s.pushCall n ret = .ok (s.modLan n (Lantern.callPushed sp ssp es)) := by
  intro k sp ssp bs es hcheck hlim hend hfree hroom
  have hin : ¬(ssp.toNat < (s.lan n).sslim.toNat || ssp.toNat + 8 > lsSize) = true := by
    rw [Bool.or_eq_true, decide_eq_true_eq, decide_eq_true_eq]
    omega
  change (s.checkParts n false false sp 8 >>= _) = _
  rw [hcheck]
  refine (if_neg hin).trans ?_
  rw [s.enterStores_ok n hfree hroom]
  exact congrArg Except.ok (s.modLan_modLan ..)

variable {w : BaseWord} (h : s.issues n w.len w.cond) (hs : w.s = false) {f : Lantern → Lantern}
  (hpush : s.pushCall n (pcMask ((s.lan n).wick.pc + BitVec.ofNat 64 w.len)) = .ok (s.modLan n f))
include h hs hpush

theorem execCall_jumps (ham : w.am = 0) (halign : (relTarget (s.lan n).wick.pc w.imm).toNat % 4 = 0) :
    execCallCalli n .call w s = .next (s.jumps n (relTarget (s.lan n).wick.pc w.imm) f) := by
  rw [← State.modLan_transfer_issued]
  refine State.runWick_ok h ?_
  rw [s.need_true n (by simp [hs, ham])]
  refine (if_pos halign).trans ?_
  rw [hpush]
  rfl

theorem execCalli_jumps {x : Dword} (ham : 4 ≤ w.am.toNat) (htarget : s.target n w = .ok x) (halign : x.toNat % 4 = 0) :
    execCallCalli n .calli w s = .next (s.jumps n x f) := by
  rw [← State.modLan_transfer_issued]
  refine State.runWick_ok h ?_
  rw [s.need_true n (by simp [hs, BaseWord.amT_true ham])]
  dsimp only
  rw [htarget]
  refine (if_pos halign).trans ?_
  rw [hpush]
  rfl

end Calls

/-! ### Returns (R240) -/

section Returns

variable {s : State} {n : Nat} {w : BaseWord} (h : s.issues n w.len w.cond) (hs : w.s = false)
  (ham : w.am = 0) (himm : w.imm = 0)
include h hs ham himm

theorem execRet_atEnd (hend : lsSize ≤ (s.lan n).wick.ssp.toNat) :
    execRet n w s = .next ((s.issued n).takeEvent n 0x20 (s.lan n).wick.pc 0 0 0) := by
  refine State.runWick_error (a := .trap s 0x20 0 0) h ?_
  rw [s.need_true n (BaseWord.am00_legal hs ham himm)]
  exact if_pos hend

variable (hend : (s.lan n).wick.ssp.toNat + 8 ≤ lsSize) {b c : List Byte}
  (hload : s.load n false false (s.lan n).wick.sp 8 = .ok (b, s))
  (hread : s.readBuffered n false (s.lan n).wick.ssp 8 = .ok (c, s))
include hend hload hread

theorem execRet_disagree (hne : b ≠ c) : execRet n w s =
    .next ((s.issued n).takeEvent n 0x20 (s.lan n).wick.pc (BitVec.ofNat 64 (leNat b)) 0 0) := by
  refine State.runWick_error (a := .trap s 0x20 (BitVec.ofNat 64 (leNat b)) 0) h ?_
  rw [s.need_true n (BaseWord.am00_legal hs ham himm)]
  refine (if_neg (by omega)).trans ?_
  rw [hload]
  refine (if_neg (by omega)).trans ?_
  rw [hread]
  exact if_pos hne

theorem execRet_jumps (hagree : b = c) (halign : leNat b % 2 ^ 64 % 4 = 0) : execRet n w s =
    .next (s.jumps n (BitVec.ofNat 64 (leNat b)) (onWick (fun k => { k with sp := k.sp + 8, ssp := k.ssp + 8 }))) := by
  rw [← State.modLan_transfer_issued]
  refine State.runWick_ok h ?_
  rw [s.need_true n (BaseWord.am00_legal hs ham himm)]
  refine (if_neg (by omega)).trans ?_
  rw [hload]
  refine (if_neg (by omega)).trans ?_
  rw [hread]
  refine (if_neg (not_not_intro hagree)).trans (if_pos ?_)
  rw [BitVec.toNat_ofNat]
  exact halign

end Returns

/-! ### The statement -/

/-- Settles O7: each transfer through its own equation, a call after the push of both stacks, and RET by whether its
stacks end or disagree. -/
theorem wickTransfersComplete : Obligations.WickTransfersComplete := by
  unfold Obligations.WickTransfersComplete
  refine ⟨fun s n w x h hs => ?completes, fun s n w b c h hs ham himm => ?events⟩
  case completes =>
    intro l k
    refine ⟨execBr_jumps h hs, execJmp_jumps h hs, ?call, fun ham himm hend bs hload hread halign => ?ret⟩
    case call =>
      intro sp ssp ret es hcheck hlim hend hfree hroom push
      have hpush := State.pushCall_ok hcheck hlim hend hfree hroom
      exact ⟨execCall_jumps h hs hpush, execCalli_jumps h hs hpush⟩
    case ret => exact execRet_jumps h hs ham himm hend hload hread rfl halign
  case events =>
    exact ⟨execRet_atEnd h hs ham himm, fun hend hload hread => execRet_disagree h hs ham himm hend hload hread⟩

end Sys2Proof.Machine

/-! ## Block instructions, VBLK and the loader (R246 to R255) -/

namespace Sys2Proof

theorem natBit_toNat {w : Nat} (v : BitVec w) (i : Nat) : natBit v.toNat i = v.getLsbD i := by
  simp [natBit, BitVec.getLsbD, Nat.testBit_eq_decide_div_mod_eq]

end Sys2Proof

namespace Sys2Proof.Machine

open Sys2Proof

/-! ### Fields of a block instruction (R246) -/

theorem blkSz_eq (imm : Nat) : blkSz imm = 2 ^ (imm % 4) := by simp [blkSz, natField]

theorem blkStop_toNat (m : Half) : blkStop m.toNat = m.toNat / 4096 := by
  simp only [blkStop, natField]
  omega

theorem blkStep_toNat (m : Half) (a : Dword) : blkStep m.toNat a =
    if m.getLsbD 4 then a - BitVec.ofNat 64 (2 ^ (m.toNat % 4)) else a + BitVec.ofNat 64 (2 ^ (m.toNat % 4)) := by
  rw [blkStep, natBit_toNat, blkSz_eq]

theorem blkRpt_toNat (m : Half) : blkRpt m.toNat = m.getLsbD 11 := natBit_toNat m 11

/-! ### One instruction (R247, R248) -/

section Instruction

variable {s u : State} {n : Nat} {w : BaseWord} {op : BlkOp} (h : s.issues n w.len w.cond) (hs : w.s = false)
  (ham : w.am = 0) (hlegal : (if op = .vblk then vblkLegal w.imm.toNat else blkLegal op w.imm.toNat) = true)
include h hs ham hlegal

theorem State.blkStart_once (hrpt : w.imm.getLsbD 11 = false) (hiter : s.anyIter n op w.imm.toNat = .ok u) :
    s.blkStart n op w = .next (u.completes n 4 id) := by
  rw [← BaseWord.len_of_am ham]
  refine State.runWick_completes h ?_
  dsimp only
  rw [s.need_true n (by rw [decide_eq_true ham, hs, hlegal]; rfl)]
  refine (if_neg (ne_true_of_eq_false (hrpt ▸ blkRpt_toNat w.imm))).trans ?_
  rw [hiter]
  rfl

theorem State.blkStart_repeats (hrpt : w.imm.getLsbD 11 = true) (hcnt : (s.lan n).wick.cnt ≠ 0) :
    s.blkStart n op w = .next (s.modLan n (fun l =>
      { l with rep := some (op, w.imm), wait := .none, work := l.work + 1 })) := by
  refine (State.runWick_ok (t := s.modLan n (fun l => { l with rep := some (op, w.imm), wait := .none })) h ?_).trans
    (congrArg _ (s.modLan_modLan ..))
  dsimp only
  rw [s.need_true n (by rw [decide_eq_true ham, hs, hlegal]; rfl)]
  refine (if_pos (hrpt ▸ blkRpt_toNat w.imm)).trans (if_neg hcnt)

end Instruction

/-- A block instruction that makes one iteration. -/
theorem State.blkStart_changes {s u : State} {n : Nat} {w : BaseWord} {op : BlkOp} {g : Wick → Wick}
    (h : s.issues n w.len w.cond) (hs : w.s = false) (ham : w.am = 0) (hrpt : w.imm.getLsbD 11 = false)
    (hop : op ≠ .vblk) (hlegal : blkLegal op w.imm.toNat = true)
    (hiter : s.blkIter n op w.imm.toNat = .ok (u.modWick n g)) :
    s.blkStart n op w = .next (u.completes n 4 (onWick g)) := by
  rw [State.blkStart_once h hs ham ((if_neg hop).trans hlegal) hrpt ((if_neg hop).trans hiter)]
  exact congrArg Host.Outcome.next (u.completes_modLan n 4 (onWick g))

/-! ### One iteration (R247) -/

section Iteration

variable {s u v : State} {n : Nat} {m : Half} {b c : List Byte}

theorem State.blkIter_bcopy
    (hload : s.load n (m.getLsbD 2) false (s.lan n).wick.src (2 ^ (m.toNat % 4)) = .ok (b, u))
    (hstore : u.store n (m.getLsbD 3) false (s.lan n).wick.dst b = .ok v) :
    s.blkIter n .bcopy m.toNat = .ok (v.modWick n (fun k =>
      { k with src := blkStep m.toNat k.src, dst := blkStep m.toNat k.dst })) := by
  simp only [State.blkIter, natBit_toNat, blkSz_eq]
  rw [hload]
  change (u.store n (m.getLsbD 3) false (s.lan n).wick.dst b >>= _) = _
  rw [hstore]
  rfl

theorem State.blkIter_bfill
    (hstore : s.store n (m.getLsbD 3) false (s.lan n).wick.dst
      (leBytes (2 ^ (m.toNat % 4)) (s.lan n).wick.a.toNat) = .ok v) :
    s.blkIter n .bfill m.toNat = .ok (v.modWick n (fun k => { k with dst := blkStep m.toNat k.dst })) := by
  simp only [State.blkIter, natBit_toNat, blkSz_eq]
  rw [hstore]
  rfl

theorem State.blkIter_bread
    (hload : s.load n (m.getLsbD 2) false (s.lan n).wick.src (2 ^ (m.toNat % 4)) = .ok (b, u)) :
    s.blkIter n .bread m.toNat = .ok (u.modWick n (fun k =>
      { k with a := BitVec.ofNat 64 (leNat b), src := blkStep m.toNat k.src })) := by
  simp only [State.blkIter, natBit_toNat, blkSz_eq]
  rw [hload]
  rfl

theorem State.blkIter_bcomp
    (hsrc : s.load n (m.getLsbD 2) false (s.lan n).wick.src (2 ^ (m.toNat % 4)) = .ok (b, u))
    (hdst : u.load n (m.getLsbD 3) false (s.lan n).wick.dst (2 ^ (m.toNat % 4)) = .ok (c, v)) :
    s.blkIter n .bcomp m.toNat = .ok (v.modWick n (fun k => { k with
      flags := sizedFlags (2 ^ (m.toNat % 4)) (BitVec.ofNat 64 (leNat b)) (BitVec.ofNat 64 (leNat c))
      src := blkStep m.toNat k.src, dst := blkStep m.toNat k.dst })) := by
  simp only [State.blkIter, natBit_toNat, blkSz_eq]
  rw [hsrc]
  change (u.load n (m.getLsbD 3) false (s.lan n).wick.dst (2 ^ (m.toNat % 4)) >>= _) = _
  rw [hdst]
  rfl

theorem State.blkIter_bseek
    (hdst : s.load n (m.getLsbD 3) false (s.lan n).wick.dst (2 ^ (m.toNat % 4)) = .ok (c, v)) :
    s.blkIter n .bseek m.toNat = .ok (v.modWick n (fun k => { k with
      flags := sizedFlags (2 ^ (m.toNat % 4)) k.a (BitVec.ofNat 64 (leNat c)), dst := blkStep m.toNat k.dst })) := by
  simp only [State.blkIter, natBit_toNat, blkSz_eq]
  rw [hdst]
  rfl

end Iteration

/-! ### Repetition (R248, R250) -/

/-- The lantern after an iteration, which counts in CNT. -/
def Lantern.iterated (l : Lantern) : Lantern :=
  { l with wait := .none, entered := false, wick := { l.wick with cnt := l.wick.cnt - 1 } }

/-- An iteration is the last where CNT comes to 0 or STOP holds. -/
theorem State.iterEnd_eq (u : State) (n : Nat) (op : BlkOp) (m : Half) : u.iterEnd n op m.toNat =
    if (u.lan n).wick.cnt - 1 = 0 ∨ op ≠ .vblk ∧ m.toNat / 4096 ≠ 15 ∧
        condTrue (BitVec.ofNat 4 (m.toNat / 4096)) (u.lan n).wick.flags = true then
      ((u.modLan n Lantern.iterated).modLan n (fun l => { l with rep := none })).complete n 4
    else u.modLan n Lantern.iterated := by
  rw [State.iterEnd, blkStop_toNat]
  simp only [State.lan_modLan, Bool.or_eq_true, Bool.and_eq_true, decide_eq_true_eq, and_assoc]
  rfl

theorem execBlockIteration_eq {s u : State} {n : Nat} {op : BlkOp} {m : Half} (hrep : (s.lan n).rep = some (op, m))
    (hon : s.lanOn n = true) (hrun : (s.lan n).run = .running) (hhalt : (s.lan n).halt.halted = false)
    (hwait : (s.lan n).wait = .drain ∨ s.entryDue n = false) (hiter : s.anyIter n op m.toNat = .ok u) :
    exec (.blockIteration n) s = .next (u.iterEnd n op m.toNat) := by
  change execBlockIteration n s = _
  simp [execBlockIteration, hrep, hon, hrun, hhalt, hwait, hiter]

/-! ### The loader (R254, R255) -/

theorem execLoaderWrite_moves {s : State} {n : Nat} {i : LoaderItem} {r : List LoaderItem}
    (hlq : (s.lan n).lq = i :: r) (hon : s.lanOn n = true)
    (hwrites : ∀ x ∈ i.lsWrites, (s.lan n).mqBlocks true x.1 x.2 = false)
    (hreads : ∀ x ∈ i.lsReads, (s.lan n).mqBlocks false x.1 x.2 = false) :
    exec (.loaderWrite n) s = .next ((s.loaderMove n i).modLan n (fun l => { l with lq := r })).pumpPins := by
  have hfree (write : Bool) {rs : List Rng} (h : ∀ x ∈ rs, (s.lan n).mqBlocks write x.1 x.2 = false) :
      rs.any (fun x => (s.lan n).mqBlocks write x.1 x.2) = false := by
    rw [List.any_eq_false]
    exact fun x hx => ne_true_of_eq_false (h x hx)
  change execLoaderWrite n s = _
  simp only [execLoaderWrite, hlq, hon, hfree true hwrites, hfree false hreads]
  rfl

/-! ### The statement -/

/-- Settles O10: a single iteration through `State.blkStart_changes`, the start of a repeated operation through
`State.blkStart_repeats`, an iteration of it by whether it is the last, and the loader by its oldest iteration. -/
theorem blockInstructionsComplete : Obligations.BlockInstructionsComplete := by
  unfold Obligations.BlockInstructionsComplete
  intro s u v n w b c k imm sz step ss ds
  have hstep : blkStep w.imm.toNat = step := funext (blkStep_toNat w.imm)
  refine ⟨fun h hs ham hrpt => ?once, fun h hs ham hrpt hcnt op i hi hlegal => ?repeats,
    fun op m hrep hon hrun hhalt hwait hiter => ?iteration, fun i r => execLoaderWrite_moves⟩
  case once =>
    rw [← hstep]
    refine ⟨fun hlegal hload hstore => ?bcopy, fun hlegal hstore => ?bfill, fun hlegal hload => ?bread,
      fun hlegal hsrc hdst => ?bcomp, fun hlegal hdst => ?bseek, fun hlegal hiter => ?vblk⟩
    case bcopy =>
      change execBcopy n w s = _
      exact State.blkStart_changes h hs ham hrpt (by decide) hlegal (State.blkIter_bcopy hload hstore)
    case bfill =>
      change execBfill n w s = _
      exact State.blkStart_changes h hs ham hrpt (by decide) hlegal (State.blkIter_bfill hstore)
    case bread =>
      change execBread n w s = _
      exact State.blkStart_changes h hs ham hrpt (by decide) hlegal (State.blkIter_bread hload)
    case bcomp =>
      change execBcomp n w s = _
      exact State.blkStart_changes h hs ham hrpt (by decide) hlegal (State.blkIter_bcomp hsrc hdst)
    case bseek =>
      change execBseek n w s = _
      exact State.blkStart_changes h hs ham hrpt (by decide) hlegal (State.blkIter_bseek hdst)
    case vblk =>
      change execVblk n w s = _
      exact State.blkStart_once h hs ham hlegal hrpt hiter
  case repeats =>
    have hexec : exec i s = s.blkStart n op w := by
      simp only [List.mem_cons, List.not_mem_nil, or_false, Prod.mk.injEq] at hi
      obtain ⟨rfl, rfl⟩ | ⟨rfl, rfl⟩ | ⟨rfl, rfl⟩ | ⟨rfl, rfl⟩ | ⟨rfl, rfl⟩ | ⟨rfl, rfl⟩ := hi <;> rfl
    rw [hexec, State.blkStart_repeats h hs ham hlegal hrpt hcnt]
  case iteration =>
    intro x stop
    rw [execBlockIteration_eq hrep hon hrun hhalt hwait hiter, State.iterEnd_eq]
    exact ⟨fun hcnt hstop => congrArg _ (if_neg (not_or.2 ⟨hcnt, hstop⟩)), fun hlast => congrArg _ (if_pos hlast)⟩

end Sys2Proof.Machine

/-! ## Scalar floating point (R233 to R235) -/

namespace Sys2Proof.Machine

open Sys2Proof

/-! ### Completion with exceptions (R193, R235, R267) -/

/-- The lantern after a floating-point instruction that changes the wick by `f` and detects `x`: the exceptions
join MODE.FXS for good (R193, R267). -/
def Lantern.fpDone (x : Exc) (f : Wick → Wick) (l : Lantern) : Lantern :=
  (onWick (fun k => (f k).addFx x) l).keepFx x

/-- What a floating-point instruction leaves: it has completed, and an enabled exception has raised event 0x31 at the
next instruction (R235). -/
def State.fpLeaves (u : State) (n len : Nat) (x : Exc) (f : Wick → Wick) : Out :=
  let t := (u.modLan n (Lantern.fpDone x f)).complete n len
  if x &&& (u.lan n).wick.fxe = 0 then .next (u.completes n len (Lantern.fpDone x f))
  else .next ((t.takeEvent n 0x31 (t.lan n).wick.pc (u.lan n).wick.pc 0 0).issued n)

/-- An operation that leaves PC and MODE alone completes, with the event of an enabled exception. -/
theorem State.fpComplete_issued (u : State) (n len : Nat) (x : Exc) {f : Wick → Wick}
    (hpc : ∀ k, (f k).pc = k.pc) (hmode : ∀ k, (f k).mode = k.mode) :
    .next (((u.modWick n f).fpComplete n len x).issued n) = u.fpLeaves n len x f := by
  have hfxe : ((u.modWick n f).lan n).wick.fxe = (u.lan n).wick.fxe := by
    simp only [State.modWick, State.lan_modLan, Wick.fxe, hmode]
  have hat : ((u.modWick n f).lan n).wick.pc = (u.lan n).wick.pc := by
    simp only [State.modWick, State.lan_modLan, hpc]
  have hmod : ((u.modWick n f).modWick n (fun k => k.addFx x)).modLan n (fun l => l.keepFx x) =
      u.modLan n (Lantern.fpDone x f) := by
    simp only [State.modWick, State.modLan_modLan]
    rfl
  rw [State.fpComplete, State.fpLeaves, hfxe, hat, hmod]
  split
  · rw [State.complete_issued, State.completes_modLan]
  · rfl

/-! ### The instructions (R233, R234) -/

/-- A change of A and FLAGS alone. -/
def Wick.putFp (o : Option Nat × Option (BitVec 4) × Exc) (k : Wick) : Wick :=
  { k with
    a := match o.1 with
      | some v => BitVec.ofNat 64 v
      | none => k.a
    flags := o.2.1.getD k.flags }

section Operations

variable {s u : State} {n : Nat} {w : BaseWord} {v : Dword} (h : s.issues n w.len w.cond) (hs : w.s = false)
include h hs

theorem State.fpOp_leaves {dbl : Bool} {f : FCtx → Nat → Nat → Nat → Option Nat × Option (BitVec 4) × Exc}
    (hval : s.operandValue n w (immFloat dbl w.imm) (if dbl then 8 else 4) = .ok (v, u)) :
    let k := (u.lan n).wick
    let m : Nat := if dbl then 2 ^ 64 else 2 ^ 32
    let o := f k.fctx (if dbl then 0 else 1) (k.a.toNat % m) (v.toNat % m)
    s.fpOp n dbl w f = u.fpLeaves n w.len o.2.2 (Wick.putFp o) := by
  intro k m o
  refine (State.runWick_ok h ?_).trans
    (u.fpComplete_issued n w.len o.2.2 (f := Wick.putFp o) (fun _ => rfl) (fun _ => rfl))
  dsimp only
  rw [s.need_true n (by rw [hs]; rfl)]
  change (s.operandValue n w _ _ >>= _) = _
  rw [hval]
  rfl

/-- FCVT's two formats are legal (R234). -/
theorem execFcvt_leaves {src dst : Nat} (ham : w.am = 0) (himm : w.imm.toNat = 16 * src + dst) (hlt : dst < 16)
    (hne : src ≠ dst) (hsrc : src ≤ 5 ∨ src = 13) (hdst : dst ≤ 5 ∨ dst = 13) :
    let k := (s.lan n).wick
    let r := fcvtValue k.fctx src dst k.a.toNat
    execFcvt n w s = s.fpLeaves n w.len r.2 (fun k => { k with a := r.1 }) := by
  intro k r
  have hsrcField : natField w.imm.toNat 4 4 = src := by simp only [natField]; omega
  have hdstField : natField w.imm.toNat 0 4 = dst := by simp only [natField]; omega
  have hhigh : natField w.imm.toNat 8 8 = 0 := by simp only [natField]; omega
  refine (State.runWick_ok h ?_).trans
    (s.fpComplete_issued n w.len r.2 (f := fun k => { k with a := r.1 }) (fun _ => rfl) (fun _ => rfl))
  dsimp only
  rw [hsrcField, hdstField, hhigh, s.need_true n (by simp [ham, hs, fcvtCode, hsrc, hdst, hne])]
  rfl

end Operations

/-! ### The statement -/

/-- Settles O11: the operations on A through `State.fpOp_leaves`, FCVT through `execFcvt_leaves`. -/
theorem scalarFloatComplete : Obligations.ScalarFloatComplete := by
  unfold Obligations.ScalarFloatComplete
  intro s u n w v h hs ctx a done val
  refine ⟨fun hval hwick => ?double, fun hval hwick => ?single, fun src dst ham himm hlt hne hsrc hdst => ?convert⟩
  case double =>
    intro b
    have hop (f) : s.fpOp n true w f = done u (f ctx 0 a b).2.2 (Wick.putFp (f ctx 0 a b)) := by
      rw [State.fpOp_leaves h hs hval, hwick]
      simp only [if_true, BitVec.toNat_mod_cancel]
      rfl
    exact ⟨(hop _ : execFaddDFsubDFmulD n .add w s = _), (hop _ : execFaddDFsubDFmulD n .sub w s = _),
      (hop _ : execFaddDFsubDFmulD n .mul w s = _), (hop _ : execFdivD n w s = _), (hop _ : execFsqrtD n w s = _),
      (hop _ : execFminDFmaxD n .min w s = _), (hop _ : execFminDFmaxD n .max w s = _),
      (hop _ : execFcmpD n w s = _)⟩
  case single =>
    intro a b
    have hop (f) : s.fpOp n false w f = done u (f ctx 1 a b).2.2 (Wick.putFp (f ctx 1 a b)) := by
      rw [State.fpOp_leaves h hs hval, hwick]
      rfl
    exact ⟨(hop _ : execFaddSToFcmpS n .add w s = _), (hop _ : execFaddSToFcmpS n .sub w s = _),
      (hop _ : execFaddSToFcmpS n .mul w s = _), (hop _ : execFaddSToFcmpS n .div w s = _),
      (hop _ : execFaddSToFcmpS n .sqrt w s = _), (hop _ : execFaddSToFcmpS n .min w s = _),
      (hop _ : execFaddSToFcmpS n .max w s = _), (hop _ : execFaddSToFcmpS n .cmp w s = _)⟩
  case convert => exact execFcvt_leaves h hs ham himm hlt hne hsrc hdst

end Sys2Proof.Machine

/-! ## Entry into an event (R271, R272, R274, R278) -/

namespace Sys2Proof.Machine

open Sys2Proof

/-! ### Save sets and BUSY by level (R266, R273) -/

theorem causeLevel_mem (cause : Nat) : causeLevel cause ∈ [1, 2, 3] := by
  unfold causeLevel
  split
  · decide
  · split <;> decide

@[simp] theorem Lantern.sv_setSv (l : Lantern) (lv : Nat) (v : SaveSet) : (l.setSv lv v).sv lv = v := by
  unfold Lantern.setSv Lantern.sv
  split
  · rfl
  · split <;> rfl

@[simp] theorem Lantern.sv_setBusy (l : Lantern) (lv : Nat) (b : Bool) (j : Nat) : (l.setBusy lv b).sv j = l.sv j := by
  rw [Lantern.setBusy_eq]
  rfl

theorem Lantern.setSv_eq (l : Lantern) (lv : Nat) (v : SaveSet) : l.setSv lv v =
    { l with sv1 := (l.setSv lv v).sv1, sv2 := (l.setSv lv v).sv2, sv3 := (l.setSv lv v).sv3 } := by
  unfold Lantern.setSv
  split
  · rfl
  · split <;> rfl

@[simp] theorem Lantern.busy_setSv (l : Lantern) (lv : Nat) (v : SaveSet) (j : Nat) :
    (l.setSv lv v).busy j = l.busy j := by
  rw [Lantern.setSv_eq]
  rfl

section OtherLevels

variable (l : Lantern) {lv j : Nat} (hlv : lv ∈ [1, 2, 3]) (hj : j ∈ [1, 2, 3]) (hne : j ≠ lv)
include hlv hj hne

/-- The save set of one level is not that of another. -/
theorem Lantern.sv_setSv_of_ne (v : SaveSet) : (l.setSv lv v).sv j = l.sv j := by
  simp only [List.mem_cons, List.not_mem_nil, or_false] at hlv hj
  obtain rfl | rfl | rfl := hlv
  · simp [Lantern.setSv, Lantern.sv, hne]
  · simp [Lantern.setSv, Lantern.sv, hne]
  · obtain rfl | rfl : j = 1 ∨ j = 2 := by omega
    · rfl
    · rfl

theorem Lantern.busy_setBusy_of_ne (b : Bool) : (l.setBusy lv b).busy j = l.busy j := by
  simp only [List.mem_cons, List.not_mem_nil, or_false] at hlv hj
  obtain rfl | rfl | rfl := hlv
  · simp [Lantern.setBusy, Lantern.busy, hne]
  · simp [Lantern.setBusy, Lantern.busy, hne]
  · obtain rfl | rfl : j = 1 ∨ j = 2 := by omega
    · rfl
    · rfl

end OtherLevels

/-! ### MODE in a handler (R271) -/

/-- Event entry keeps FXS, bits 13 to 9, and sets SUP, bit 31. -/
theorem entryMode_getLsbD (m : Word) (i : Nat) :
    (entryMode m).getLsbD i = (m.getLsbD i && decide (9 ≤ i ∧ i < 14) || decide (i = 31)) := by
  have hmasks : ∀ i : Fin 32, (0x3E00#32).getLsbD i = decide (9 ≤ i.val ∧ i.val < 14) ∧
      (0x80000000#32).getLsbD i = decide (i.val = 31) := by decide
  rw [entryMode, BitVec.getLsbD_or, BitVec.getLsbD_and]
  obtain hi | hi := Nat.lt_or_ge i 32
  · obtain ⟨hfxs, hsup⟩ := hmasks ⟨i, hi⟩
    rw [hfxs, hsup]
  · simp [BitVec.getLsbD_of_ge _ _ hi, show i ≠ 31 by omega]

/-! ### The lantern that an event leaves (R271, R272, R274) -/

/-- The operands of an event's entry. -/
structure Event where
  cause : Nat
  spc : Dword
  saddr : Dword
  selem : Nat
  trapno : Nat

/-- The level of an event (R266). -/
def Event.level (e : Event) : Nat := causeLevel e.cause

/-- The save set of an event (R271, R273). -/
def Lantern.eventSet (l : Lantern) (e : Event) (pushed : Bool) : SaveSet :=
  { spc := e.spc.setWidth 48, smode := l.wick.mode, sflags := l.wick.flags, pushed := pushed, pl := l.cl
    trapno := BitVec.ofNat 8 e.trapno, cause := BitVec.ofNat 8 e.cause, saddr := e.saddr
    selem := BitVec.ofNat 16 e.selem }

/-- The address of an event's handler (R272). -/
def Lantern.eventHandler (l : Lantern) (e : Event) : Nat := l.handler e.level e.cause e.trapno

/-- The wick at the first instruction of an event's handler (R271, R272). -/
def Lantern.handlerWick (l : Lantern) (e : Event) : Wick :=
  { l.wick with mode := entryMode l.wick.mode, pc := pcMask (BitVec.ofNat 64 (l.eventHandler e)) }

/-- The level of an event is taken: its save set is written and it is busy (R271). -/
def Lantern.takeLevel (l : Lantern) (e : Event) (pushed : Bool) : Lantern :=
  (l.setSv e.level (l.eventSet e pushed)).setBusy e.level true

/-- The lantern after entry into an event, of whose level a busy save set has been pushed before (R271). -/
def Lantern.enterEvent (l : Lantern) (e : Event) (pushed : Bool) : Lantern :=
  let m := l.takeLevel e pushed
  { m.follow { m.wick with mode := entryMode l.wick.mode, pc := pcMask (BitVec.ofNat 64 (l.eventHandler e)) } with
    cl := BitVec.ofNat 2 e.level, resv := none, wait := .none, entered := true, pins := [], rep := none }

/-- The save set of a level goes to the save stack (R274). -/
def Lantern.pushSet (l : Lantern) (lv : Nat) : Lantern :=
  { l.lsWrite (l.wick.sstk - 32).toNat ((l.sv lv).frame lv) with wick := { l.wick with sstk := l.wick.sstk - 32 } }

section Entry

variable (l : Lantern) (e : Event) (pushed : Bool)

theorem Lantern.takeLevel_eq : l.takeLevel e pushed =
    { l with
      sv1 := (l.takeLevel e pushed).sv1, sv2 := (l.takeLevel e pushed).sv2, sv3 := (l.takeLevel e pushed).sv3
      busy1 := (l.takeLevel e pushed).busy1, busy2 := (l.takeLevel e pushed).busy2
      busy3 := (l.takeLevel e pushed).busy3 } := by
  unfold Lantern.takeLevel Lantern.setBusy Lantern.setSv
  split
  · rfl
  · split <;> rfl

/-- Event entry changes MODE, PC and what fetch holds, the level with its save set and BUSY, the reservation, and what
the wick waits for. -/
theorem Lantern.enterEvent_eq : l.enterEvent e pushed =
    { l with
      wick := l.handlerWick e, icache := (l.enterEvent e pushed).icache, lineBuf := (l.enterEvent e pushed).lineBuf
      cl := BitVec.ofNat 2 e.level, resv := none, wait := .none, entered := true, pins := [], rep := none
      sv1 := (l.takeLevel e pushed).sv1, sv2 := (l.takeLevel e pushed).sv2, sv3 := (l.takeLevel e pushed).sv3
      busy1 := (l.takeLevel e pushed).busy1, busy2 := (l.takeLevel e pushed).busy2
      busy3 := (l.takeLevel e pushed).busy3 } := by
  rw [Lantern.enterEvent, Lantern.follow_eq]
  generalize Lantern.icache _ = ic
  generalize Lantern.lineBuf _ = lb
  conv_lhs => rw [Lantern.takeLevel_eq]
  rfl

@[simp] theorem Lantern.sv_enterEvent (j : Nat) : (l.enterEvent e pushed).sv j = (l.takeLevel e pushed).sv j := by
  rw [Lantern.enterEvent_eq]
  rfl

@[simp] theorem Lantern.busy_enterEvent (j : Nat) :
    (l.enterEvent e pushed).busy j = (l.takeLevel e pushed).busy j := by
  rw [Lantern.enterEvent_eq]
  rfl

theorem Lantern.enterEvent_sv : (l.enterEvent e pushed).sv e.level = l.eventSet e pushed := by
  simp [Lantern.takeLevel]

theorem Lantern.enterEvent_busy : (l.enterEvent e pushed).busy e.level = true := by
  simp [Lantern.takeLevel]

/-- Entry leaves the other levels' save sets and BUSY alone. -/
theorem Lantern.enterEvent_other {j : Nat} (hj : j ∈ [1, 2, 3]) (hne : j ≠ e.level) :
    (l.enterEvent e pushed).sv j = l.sv j ∧ (l.enterEvent e pushed).busy j = l.busy j := by
  have hlv : e.level ∈ [1, 2, 3] := causeLevel_mem e.cause
  simp only [Lantern.sv_enterEvent, Lantern.busy_enterEvent, Lantern.takeLevel, Lantern.sv_setBusy]
  rw [Lantern.sv_setSv_of_ne l hlv hj hne, Lantern.busy_setBusy_of_ne _ hlv hj hne, Lantern.busy_setSv]
  exact ⟨rfl, rfl⟩

end Entry

/-! ### Entry (R271, R274, R278) -/

section Taken

variable {s : State} {n : Nat} (e : Event)

/-- Entry halts where a busy save set finds no room above the guard (R274, R278). -/
theorem State.takeEvent_noRoom (hbusy : (s.lan n).busy e.level = true)
    (hfull : (s.lan n).wick.sstk.toNat < (s.lan n).lsguard.toNat * 65536 + 32) :
    s.takeEvent n e.cause e.spc e.saddr e.selem e.trapno = s.haltLan n 0x40 e.spc :=
  if_pos (Bool.and_eq_true_iff.2 ⟨hbusy, decide_eq_true hfull⟩)

variable (hfetch : s.fetchBad ((s.lan n).eventHandler e) = false)
include hfetch

theorem State.takeEvent_free (hfree : (s.lan n).busy e.level = false) :
    s.takeEvent n e.cause e.spc e.saddr e.selem e.trapno = s.setLan n ((s.lan n).enterEvent e false) := by
  change (s.lan n).busy (causeLevel e.cause) = false at hfree
  unfold State.takeEvent
  dsimp only
  rw [hfree, if_neg (by rw [Bool.false_and]; exact Bool.false_ne_true)]
  exact if_neg (ne_true_of_eq_false hfetch)

theorem State.takeEvent_busy (hbusy : (s.lan n).busy e.level = true)
    (hroom : (s.lan n).lsguard.toNat * 65536 + 32 ≤ (s.lan n).wick.sstk.toNat) :
    s.takeEvent n e.cause e.spc e.saddr e.selem e.trapno =
      s.setLan n (((s.lan n).pushSet e.level).enterEvent e true) := by
  change (s.lan n).busy (causeLevel e.cause) = true at hbusy
  have hguard : ¬(true && decide ((s.lan n).wick.sstk.toNat < (s.lan n).lsguard.toNat * 65536 + 32)) = true := by
    simpa using hroom
  unfold State.takeEvent
  dsimp only
  rw [hbusy, if_neg hguard]
  exact if_neg (ne_true_of_eq_false hfetch)

end Taken

/-! ### The statement -/

/-- Settles O13: a free level through `Lantern.enterEvent`, and a busy one through `Lantern.pushSet` before it or the
halt of R278. -/
theorem eventEntrySavesState : Obligations.EventEntrySavesState := by
  unfold Obligations.EventEntrySavesState
  refine ⟨?free, ?busy⟩
  case free =>
    intro s n cause selem trapno spc saddr l lv h hfree hfetch
    let e : Event := { cause, spc, saddr, selem, trapno }
    have hwick : (l.enterEvent e false).wick = l.handlerWick e := by rw [Lantern.enterEvent_eq]
    refine ⟨l.enterEvent e false, State.takeEvent_free e hfetch hfree, l.enterEvent_sv e false,
      fun j => l.enterEvent_other e false, l.enterEvent_busy e false, rfl, rfl, ?_⟩
    rw [hwick]
    refine ⟨rfl, ?sup, fun i hi => ?masked, fun i hlow hhigh => ?sticky, rfl, ?frame⟩
    case sup => exact (entryMode_getLsbD ..).trans (by simp)
    case masked =>
      refine (entryMode_getLsbD ..).trans ?_
      rw [decide_eq_false (by omega), decide_eq_false (by omega), Bool.and_false, Bool.or_false]
    case sticky =>
      refine (entryMode_getLsbD ..).trans ?_
      rw [decide_eq_true ⟨hlow, hhigh⟩, decide_eq_false (by omega), Bool.and_true, Bool.or_false]
    case frame =>
      rw [Lantern.enterEvent_eq]
      exact ⟨rfl, rfl, rfl⟩
  case busy =>
    intro s n cause selem trapno spc saddr l lv hbusy
    let e : Event := { cause, spc, saddr, selem, trapno }
    refine ⟨State.takeEvent_noRoom e hbusy, fun hroom hfetch => ?_⟩
    have hsp : (l.wick.sstk - 32).toNat = l.wick.sstk.toNat - 32 := BitVec.toNat_sub_of_le (by bv_omega)
    have hset := (l.pushSet e.level).enterEvent_sv e true
    refine ⟨_, State.takeEvent_busy e hfetch hbusy hroom, ?_, congrArg SaveSet.pushed hset,
      congrArg SaveSet.spc hset, ?_⟩
    · rw [Lantern.enterEvent_eq]
      rfl
    · rw [← hsp, Lantern.enterEvent_eq]
      rfl

end Sys2Proof.Machine

/-! ## Customer instructions (R282 to R290) -/

namespace Sys2Proof.Machine

open Sys2Proof

/-! ### Completion without an exception (R193, R267) -/

@[simp] theorem Wick.addFx_zero (k : Wick) : k.addFx 0 = k := by simp [Wick.addFx]

@[simp] theorem Lantern.keepFx_zero (l : Lantern) : l.keepFx 0 = l := by
  have hmask (x : BitVec 5) : x &&& ~~~0 = x := BitVec.and_allOnes
  simp only [Lantern.keepFx, hmask, List.map_id']

theorem State.fpComplete_zero (s : State) (n len : Nat) : s.fpComplete n len 0 = s.complete n len := by
  have hnone : (0 : Exc) &&& (s.lan n).wick.fxe = 0 := BitVec.zero_and
  rw [State.fpComplete, if_pos hnone, State.modWick, State.modLan_modLan]
  simp only [Wick.addFx_zero, Lantern.keepFx_zero, State.complete, State.modLan_modLan]

/-! ### What END commits (R286) -/

/-- The store-buffer entries of a routine's staged stores, in program order. -/
def Uc.entries (u : Uc) : List SbEntry := u.sts.flatMap (fun e => sbEntries (!e.1) e.2.1 e.2.2)

/-- The lantern once END has committed the staged registers and stores: FLAGS under S only, and ABORTS 0. -/
def Lantern.ucCommitted (w : BaseWord) (u : Uc) (l : Lantern) : Lantern :=
  { l with
    sb := l.sb ++ u.entries, ucAborts := 0
    wick := { l.wick with
      a := u.k.a, x := u.k.x, y := u.k.y, cnt := u.k.cnt, src := u.k.src, dst := u.k.dst
      flags := if w.s then u.k.flags else l.wick.flags } }

/-- Where the staged stores enter the store buffer, END commits them with the registers, and then the exceptions. -/
theorem State.ucCommit_ok (s : State) (n : Nat) (w : BaseWord) {u : Uc} (hfree : (s.lan n).storeWaits u.entries = false)
    (hroom : (s.lan n).sb.length + u.entries.length ≤ 8) :
    s.ucCommit n w u = .ok ((s.modLan n (Lantern.ucCommitted w u)).fpComplete n w.len u.fxs) := by
  change (s.enterStores n u.entries >>= _) = _
  rw [s.enterStores_ok n hfree hroom]
  exact congrArg (fun t : State => Except.ok (t.fpComplete n w.len u.fxs)) (s.modLan_modLan ..)

/-! ### The checks and the run of a slot (R282, R284) -/

/-- The micro-operation words of a slot's routine, with their indices. -/
def Lantern.ucWords (l : Lantern) (slot : Nat) : List (Nat × Nat) :=
  let e := l.ucEntry slot
  (List.range (entLen e + 1)).map (fun i => (i, (l.ucstore.getD (entStart e + i) 0).toNat))

/-- The run of a slot's routine from the registers of the wick, OPV and EA (R282, R284); an event may cut one of more
than 64 words (R289). -/
def State.ucRun (s : State) (n slot : Nat) (z : UcUpset) (opv ea : Dword) : Run UcEnd :=
  let l := s.lan n
  ucGo n slot z (entLen (l.ucEntry slot) + 1 > 64 && l.ucAborts < 4) (l.ucWords slot) 0
    { s := s, k := l.wick, t := [], opv := opv, ea := ea, fxs := 0, sts := [] }

section Slot

variable {s : State} {n : Nat} {slot : BitVec 5} {w : BaseWord} {z : UcUpset} (h : s.issues n w.len w.cond)
include h

theorem execCustomerInstruction_supervisor (hsup : (s.lan n).wick.sup = true) :
    execCustomerInstruction n slot w z s =
      .next ((s.issued n).takeEvent n 0x22 (s.lan n).wick.pc (s.lan n).wick.pc 0 0) :=
  State.runWick_error (a := .trap s 0x22 (s.lan n).wick.pc 0) h (if_pos hsup)

variable (huser : (s.lan n).wick.sup = false) (hslot : z.badSlot = false) (hgood : slot.toNat ∉ (s.lan n).ucBad)
include huser hslot hgood

theorem execCustomerInstruction_notValid (hinvalid : entValid ((s.lan n).ucEntry slot.toNat) = false) :
    execCustomerInstruction n slot w z s =
      .next ((s.issued n).takeEvent n 0x21 (s.lan n).wick.pc (s.lan n).wick.pc 0 0) := by
  refine State.runWick_illegal h ?_
  dsimp only
  rw [if_neg (ne_true_of_eq_false huser), if_neg (by simp [hslot, hgood]), s.need_false n (by rw [hinvalid]; rfl)]
  rfl

theorem execCustomerInstruction_commits {t : State} {u : Uc} {opv ea : Dword}
    (hvalid : entValid ((s.lan n).ucEntry slot.toNat) = true)
    (ham : natBit (entAm ((s.lan n).ucEntry slot.toNat)) w.am.toNat = true)
    (hoperand : s.ucOperand n w = .ok (opv, ea)) (hend : s.ucRun n slot.toNat z opv ea = .ok (.commit u))
    (hcommit : u.s.ucCommit n w u = .ok t) : execCustomerInstruction n slot w z s = .next (t.issued n) := by
  rw [State.ucRun, Lantern.ucWords] at hend
  refine State.runWick_ok h ?_
  dsimp only
  rw [if_neg (ne_true_of_eq_false huser), if_neg (by simp [hslot, hgood]), s.need_true n (by rw [hvalid, ham]; rfl)]
  change (s.ucOperand n w >>= _) = _
  rw [hoperand]
  dsimp only [bind, Except.bind]
  rw [hend]
  exact hcommit

end Slot

/-! ### The statement -/

/-- Settles O26: the run of a slot through the checks of R284, and END through `Lantern.ucCommitted`. -/
theorem customerInstructionsComplete : Obligations.CustomerInstructionsComplete := by
  unfold Obligations.CustomerInstructionsComplete
  refine ⟨fun s t n slot w z u v a h => ?run, fun s n w u => ?commit⟩
  case run =>
    exact ⟨fun huser hslot hgood => execCustomerInstruction_commits h huser hslot hgood,
      execCustomerInstruction_supervisor h, execCustomerInstruction_notValid h⟩
  case commit =>
    intro es hfx hfree hroom
    refine ⟨(s.modLan n (Lantern.ucCommitted w u)).complete n w.len, ?ok, fun m hm => ?others, ?mem, ?lantern⟩
    case ok => rw [s.ucCommit_ok n w hfree hroom, hfx, State.fpComplete_zero]
    case others => rw [State.complete, State.lan_modLan_of_ne _ _ hm, s.lan_modLan_of_ne _ hm]
    case mem => rw [State.complete, State.modLan_mem, State.modLan_mem]
    case lantern => 
      rw [State.complete, State.lan_modLan, State.lan_modLan]
      rfl

end Sys2Proof.Machine

/-! ## Every step keeps device memory in canonical form (R296, R388)

Memory changes where bytes are written, moved or zeroed, where a channel is zeroed, and in the resets that clear
it; everything else leaves it. One lemma for each function of the state (`State.memOk.f`, by its name `f`) carries
that upwards to the instructions: `Out.Keeps` says it of an outcome, and `Run.Keeps` of a run that may stop. -/

namespace Sys2Proof.Machine

open Sys2Proof

/-- Where an outcome is a next state, its memory is in canonical form. -/
def Out.Keeps : Out → Prop
  | .next s => s.memOk
  | _ => True

theorem memOk_foldl {α : Type} {f : State → α → State} (hf : ∀ s a, s.memOk → (f s a).memOk) {s : State}
    (h : s.memOk) (xs : List α) : (xs.foldl f s).memOk :=
  xs.foldlRecOn f h fun s hs a _ => hf s a hs

/-! ### The operations of the state -/

section

variable {s : State} (h : s.memOk) {n : Nat}
include h

theorem State.memOk.setLan {l : Lantern} : (s.setLan n l).memOk := h

theorem State.memOk.modLan {f : Lantern → Lantern} : (s.modLan n f).memOk := h

theorem State.memOk.modTc {f : TCache → TCache} : (s.modTc n f).memOk := h

theorem State.memOk.modCh {f : Dch → Dch} : (s.modCh n f).memOk := h

theorem State.memOk.modEng {f : Engine → Engine} : (s.modEng n f).memOk := h

theorem State.memOk.setCon {k : Conduit} : (s.setCon n k).memOk := h

theorem State.memOk.modCon {f : Conduit → Conduit} : (s.modCon n f).memOk := h

theorem State.memOk.setQueue {q : Queue} : (s.setQueue n q).memOk := h

theorem State.memOk.draw : s.draw.2.memOk := h

theorem State.memOk.setCkpt {c : Option Ckpt} : { s with ckpt := c }.memOk := h

theorem State.memOk.poisonUnit : (s.poisonUnit n).memOk := h

theorem State.memOk.physWriteP {pa : Nat} {bs : List Byte} {bad : Nat → Bool} : (s.physWriteP pa bs bad).memOk :=
  State.physWriteP_memOk h _ _ _

theorem State.memOk.physWrite {pa : Nat} {bs : List Byte} : (s.physWrite pa bs).memOk := h.physWriteP

theorem State.memOk.physMove {src dst len : Nat} : (s.physMove src dst len).memOk :=
  State.physMove_memOk h _ _ _

theorem State.memOk.physZero {pa len : Nat} : (s.physZero pa len).memOk :=
  State.physZero_memOk h _ _

end

/-! ### Readiness, replies, notifications and records (R404 to R410, R430 to R432, R498) -/

section

variable {s : State} (h : s.memOk) {n : Nat}
include h

theorem State.memOk.setReady {b : Nat} {on : Bool} : (s.setReady b on).memOk := by
  grind [State.setReady, State.memOk]

theorem State.memOk.send {cid : Nat} {typ : Byte} {payload : List Byte} : (s.send cid typ payload).memOk := by
  grind [State.send, memOk.setCon]

theorem State.memOk.notify {kind : Nat} {body : List Byte} : (s.notify kind body).memOk := by
  grind [State.notify, State.memOk, memOk.send, memOk_foldl]

theorem State.memOk.inject {src : Nat} : (s.inject src).memOk := h

theorem State.memOk.beaconTrigger {src : Nat} : (s.beaconTrigger src).memOk := by
  grind [State.beaconTrigger, State.memOk, memOk.inject]

theorem State.memOk.record1 {x : RecIn} : (s.record1 x).memOk := by
  grind [State.record1, State.memOk, memOk.beaconTrigger, memOk.notify, memOk_foldl]

theorem State.memOk.records {xs : List RecIn} : (s.records xs).memOk := by
  grind [State.records, memOk.record1, memOk_foldl]

theorem State.memOk.record {x : RecIn} : (s.record x).memOk := h.records

end

/-! ### Lines of the tile caches (R319 to R326) -/

section

variable {s : State} (h : s.memOk) {n : Nat}
include h

theorem State.memOk.modLine {pa : Nat} {f : TcLine → TcLine} : (s.modLine pa f).memOk := by
  grind [State.modLine, memOk.modTc]

theorem State.memOk.dropCopies {pres : BitVec 16} {line : Nat} : (s.dropCopies pres line).memOk := by
  grind [State.dropCopies, State.memOk]

theorem State.memOk.installLine {pa age : Nat} {dirty : Bool} {pres : BitVec 16} :
    (s.installLine pa age dirty pres).memOk := by
  grind [State.installLine, memOk.dropCopies, memOk.modTc]

theorem State.memOk.askFills {f : TcFill} : (s.askFills f).memOk := by
  grind [State.askFills, memOk.modTc]

theorem State.memOk.lineWritten {w : Writer} {pa : Nat} : (s.lineWritten w pa).memOk := by
  grind [State.lineWritten, memOk.modTc]

theorem State.memOk.lineHit {w : Writer} {pa age : Nat} : (s.lineHit w pa age).memOk := h.modLine.lineWritten

theorem State.memOk.lineAccessed {pa : Nat} {kind : CacheKind} {w : Writer} {l1 : Option Nat} :
    (s.lineAccessed pa kind w l1).memOk := by
  unfold State.lineAccessed
  cases kind <;> grind [memOk.askFills, memOk.installLine, memOk.lineHit, memOk.modLine, memOk.modTc]

theorem State.memOk.linesAccessed {pa len : Nat} {w : Writer} {kind : Bool → CacheKind} :
    (s.linesAccessed pa len w kind).memOk := by
  grind [State.linesAccessed, memOk.lineAccessed, memOk_foldl]

theorem State.memOk.granWritten {pa : Nat} : (s.granWritten pa).memOk := h.linesAccessed

theorem State.memOk.granRead {pa : Nat} {stream : Bool} : (s.granRead pa stream).memOk := h.linesAccessed

theorem State.memOk.l1Load {pa : Nat} : (s.l1Load n pa).memOk := by
  grind [State.l1Load, memOk.lineAccessed, memOk.setLan]

end

/-! ### Pages, the home and the holder (R335 to R351, R397) -/

section

variable {s : State} (h : s.memOk) {n : Nat}
include h

theorem State.memOk.sendOp {cid : Nat} {op status : Byte} {rid : Word} {addr opnd : Dword} {pmap : BitVec 64}
    {data : List Byte} :
    (s.sendOp cid op status rid addr opnd pmap data).memOk := h.send

theorem State.memOk.sendReq {cid : Nat} {op : Byte} {addr opnd : Dword} {len : Nat} {purpose : ReqFor} :
    (s.sendReq cid op addr opnd len purpose).memOk := by
  grind [State.sendReq, memOk.send, memOk.setCon]

theorem State.memOk.cir {d msg vpn : Nat} : (s.cir d msg vpn).memOk := h.sendOp

theorem State.memOk.setPte {vpn : Nat} {e : Pte} : (s.setPte vpn e).memOk := h

theorem State.memOk.tbDrop {vpn : Nat} : (s.tbDrop vpn).memOk := h

theorem State.memOk.remap {vpn : Nat} {e : Pte} : (s.remap vpn e).memOk := h.tbDrop.setPte

theorem State.memOk.modPl {i : Nat} {f : PlRec → PlRec} : (s.modPl i f).memOk := h

theorem State.memOk.placeOne {e : Pte} {parity : Bool} {j k : Nat} : (s.placeOne e parity j k).memOk := by
  grind [State.placeOne, memOk.modPl]

theorem State.memOk.seat {e : Pte} {p : Nat} : (s.seat e p).1.memOk := by
  grind [State.seat, State.memOk, memOk.placeOne, memOk_foldl]

theorem State.memOk.unplace {e : Pte} : (s.unplace e).memOk := by
  grind [State.unplace, State.memOk]

theorem State.memOk.syncUnit {e : Pte} {j b : Nat} : (s.syncUnit e j b).memOk := by
  grind [State.syncUnit, memOk.physWriteP, memOk_foldl]

theorem State.memOk.syncParity {was : State} {e : Pte} {off len : Nat} : (was.syncParity s e off len).memOk := by
  grind [State.syncParity, memOk.syncUnit, memOk_foldl]

theorem State.memOk.syncPage {e : Pte} : (s.syncPage e).memOk := by
  grind [State.syncPage, memOk.syncUnit, memOk_foldl]

theorem State.memOk.pageWrite {e : Pte} {off : Nat} {bs : List Byte} {bad : Nat → Bool} :
    (s.pageWrite e off bs bad).memOk :=
  h.physWriteP.syncParity

theorem State.memOk.pageZero {e : Pte} : (s.pageZero e).memOk := by
  grind [State.pageZero, memOk.linesAccessed, memOk.physZero, memOk_foldl]

theorem State.memOk.sendPage {d vpn : Nat} {e : Pte} {critical : Nat} : (s.sendPage d vpn e critical).memOk := by
  grind [State.sendPage, memOk.granRead, memOk.sendOp, memOk_foldl]

theorem State.memOk.sendAsked {d vpn : Nat} {e : Pte} : (s.sendAsked d vpn e).memOk := by
  grind [State.sendAsked, memOk.draw, memOk.sendPage]

theorem State.memOk.copyPage {e dst : Pte} : (s.copyPage e dst).memOk :=
  memOk_foldl (fun _ _ h => h.granRead.physMove.granWritten) h _

theorem State.memOk.wake {vpn : Nat} {hit : Nat → Bool} : (s.wake vpn hit).memOk := by
  grind [State.wake, State.memOk]

theorem State.memOk.wakePage {vpn sub : Nat} : (s.wakePage vpn sub).memOk := h.wake

theorem State.memOk.wakeVpn {vpn : Nat} : (s.wakeVpn vpn).memOk := h.wake

theorem State.memOk.cowStart {vpn : Nat} : (s.cowStart vpn).memOk := by
  grind [State.cowStart, State.memOk, memOk.seat]

theorem State.memOk.breakResvPage {e : Pte} : (s.breakResvPage e).memOk := by
  grind [State.breakResvPage, State.memOk, memOk_foldl]

theorem State.memOk.setDir {vpn : Nat} {d : Dir} : (s.setDir vpn d).memOk := h

theorem State.memOk.homeAcc {vpn : Nat} {acc : Acc} : (s.homeAcc vpn acc).memOk := by
  grind [State.homeAcc, memOk.remap]

theorem State.memOk.backZero {vpn : Nat} {e : Pte} : (s.backZero vpn e).1.memOk := by
  grind [State.backZero, State.memOk, memOk.pageZero, memOk.remap, memOk.seat]

theorem State.memOk.homeServe {vpn : Nat} {r : HomeReq} : (s.homeServe vpn r).memOk := by
  unfold State.homeServe
  extract_lets d finish waitFor
  have hfinish (s : State) (d : Dir) (acc : Acc) (h : s.memOk) : (finish s d acc).memOk := h.setDir.homeAcc
  have hwait (s : State) (msg : Nat) (ds : List Nat) (h : s.memOk) : (waitFor s msg ds).memOk :=
    memOk_foldl (fun _ _ h => h.cir) h.setDir ds
  clear_value finish waitFor
  split
  next s' eo heq =>
    have hs' : s'.memOk := by grind [memOk.backZero]
    grind [memOk.sendAsked, memOk.setDir, memOk.cowStart, memOk.breakResvPage, memOk.cir, memOk.wakeVpn]

theorem State.memOk.homePump {k vpn : Nat} : (State.homePump k vpn s).memOk := by
  induction k generalizing s with
  | zero => exact h
  | succ k ih => grind [State.homePump, memOk.homeServe, memOk.setDir]

theorem State.memOk.homeAsk {vpn : Nat} {r : HomeReq} : (s.homeAsk vpn r).memOk := by
  grind [State.homeAsk, memOk.setDir, memOk.homePump]

theorem State.memOk.setFetch {vpn : Nat} {f : Fetch} : (s.setFetch vpn f).memOk := h

theorem State.memOk.hostReads {h addr vpn critical : Nat} : (s.hostReads h addr vpn critical).memOk := by
  grind [State.hostReads, memOk.sendReq, memOk_foldl]

theorem State.memOk.askHome {vpn : Nat} {e : Pte} {f : Fetch} : (s.askHome vpn e f).memOk := by
  grind [State.askHome, memOk.cir, memOk.hostReads]

theorem State.memOk.dropFetch {vpn : Nat} {e : Pte} : (s.dropFetch vpn e).memOk := by
  grind [State.dropFetch, State.memOk, memOk.unplace]

theorem State.memOk.failFetch {vpn : Nat} {e : Pte} : (s.failFetch vpn e).memOk := by
  grind [State.failFetch, State.memOk, memOk.dropFetch]

theorem State.memOk.seatFetch {vpn : Nat} {e : Pte} {f : Fetch} {p : Nat} : (s.seatFetch vpn e f p).memOk := by
  grind [State.seatFetch, State.memOk, memOk.askHome, memOk.seat, memOk.setFetch]

theorem State.memOk.startFetch {vpn sub : Nat} {write : Bool} {e : Pte} : (s.startFetch vpn sub write e).memOk := by
  grind [State.startFetch, memOk.askHome, memOk.failFetch, memOk.record, memOk.seatFetch, memOk.setFetch]

theorem State.memOk.feed : s.feed.memOk := by
  grind [State.feed, memOk.seatFetch, memOk_foldl]

theorem State.memOk.wakeStuck : s.wakeStuck.memOk := by
  grind [State.wakeStuck, memOk.feed, memOk.wakeVpn, memOk_foldl]

theorem State.memOk.frozenStall {vpn : Nat} : (s.frozenStall vpn).1.memOk := by
  grind [State.frozenStall, memOk.cowStart]

theorem State.memOk.touchPage {who : Writer} {va : Nat} {write : Bool} : (s.touchPage who va write).1.memOk := by
  unfold State.touchPage
  extract_lets vpn sub
  split
  · exact h
  next e0 _ =>
    have hs : (if firstTile e0 who = e0 then s else s.setPte vpn (firstTile e0 who)).memOk := by
      grind [memOk.setPte]
    extract_lets e s'
    change s'.memOk at hs
    clear_value s' e
    grind [memOk.backZero, memOk.frozenStall, memOk.homeAsk, memOk.startFetch]

theorem State.memOk.touch {who : Writer} {va : Nat} {write : Bool} : (s.touch who va write).1.memOk := by
  grind [State.touch, memOk.touchPage]

theorem State.memOk.breakResv {pa : Nat} : (s.breakResv pa).memOk := by
  grind [State.breakResv, State.memOk]

theorem State.memOk.touchRange {who : Writer} {write : Bool} {ps : List (Nat × Nat)} :
    (s.touchRange who write ps).1.memOk := by
  induction ps generalizing s with
  | nil => exact h
  | cons p ps ih => grind [State.touchRange, memOk.touch]

theorem State.memOk.dvWriteP {va : Nat} {bs : List Byte} {bad : Nat → Bool} : (s.dvWriteP va bs bad).memOk := by
  unfold State.dvWriteP
  refine List.foldlRecOn (motive := fun x : State × List Byte => x.1.memOk) _ _ h fun x hx p _ => ?_
  grind [memOk.breakResv, memOk.pageWrite, memOk_foldl]

theorem State.memOk.dvWrite {va : Nat} {bs : List Byte} : (s.dvWrite va bs).memOk := h.dvWriteP

theorem State.memOk.dvStoreK {w : Writer} {kind : Bool → CacheKind} {va : Nat} {bs : List Byte} {bad : Nat → Bool} :
    (s.dvStoreK w kind va bs bad).memOk := by
  grind [State.dvStoreK, memOk.dvWriteP, memOk.linesAccessed, memOk_foldl]

theorem State.memOk.dvStore {w : Writer} {va : Nat} {bs : List Byte} {bad : Nat → Bool} :
    (s.dvStore w va bs bad).memOk := by
  grind [State.dvStore, memOk.dvStoreK, memOk.modLan, memOk_foldl]

theorem State.memOk.dvLoadLines {va len : Nat} {stream : Bool} : (s.dvLoadLines va len stream).memOk :=
  memOk_foldl (fun _ _ h => h.linesAccessed) h _

theorem State.memOk.dropPageLines {e : Pte} : (s.dropPageLines e).memOk := by
  grind [State.dropPageLines, State.memOk]

theorem State.memOk.holderDrop {vpn : Nat} {acc : Acc} : (s.holderDrop vpn acc).memOk := by
  grind [State.holderDrop, State.memOk, memOk.breakResvPage, memOk.dropPageLines, memOk.remap, memOk.setFetch,
    memOk.unplace]

theorem State.memOk.goneNow {vpn : Nat} {e : Pte} : (s.goneNow vpn e).memOk := by
  grind [State.goneNow, memOk.dropFetch, memOk.holderDrop, memOk.remap, memOk.wakeStuck, memOk.wakeVpn]

theorem State.memOk.holderAnswer {d vpn : Nat} {k : Owed} : (s.holderAnswer d vpn k).memOk := by
  grind [State.holderAnswer, memOk.cir, memOk.goneNow, memOk.holderDrop, memOk.sendAsked]

theorem State.memOk.fetchDone {vpn : Nat} {e : Pte} {f : Fetch} : (s.fetchDone vpn e f).memOk := by
  grind [State.fetchDone, State.memOk, memOk.remap, memOk.setFetch, memOk.syncPage, memOk.wakeVpn]

theorem State.memOk.settlePins : s.settlePins.memOk := by
  grind [State.settlePins, memOk.fetchDone, memOk.homeAcc, memOk_foldl]

theorem State.memOk.pumpPins : (s.pumpPins).memOk := by
  grind [State.pumpPins, State.memOk, memOk.holderAnswer, memOk.settlePins, memOk.homePump, memOk_foldl]

end

/-! ### Completion, halts and entry into an event (R211, R266 to R278) -/

section

variable {s : State} (h : s.memOk) {n : Nat}
include h

theorem State.memOk.complete {len : Nat} : (s.complete n len).memOk := h.modLan

theorem State.memOk.transfer {target : Dword} : (s.transfer n target).memOk := h.modLan

theorem State.memOk.haltLan {cause : Nat} {pc : Dword} : (s.haltLan n cause pc).memOk := by
  grind [State.haltLan, memOk.pumpPins, memOk.record, memOk.setLan]

theorem State.memOk.takeEvent {cause : Nat} {spc saddr : Dword} {selem trapno : Nat} :
    (s.takeEvent n cause spc saddr selem trapno).memOk := by
  grind [State.takeEvent, memOk.haltLan, memOk.setLan]

theorem State.memOk.rte : (s.rte n).memOk := by
  grind [State.rte, memOk.haltLan, memOk.setLan]

end

/-! ### Queues, gangs and event counters (R259, R363 to R374) -/

section

variable {s : State} (h : s.memOk) {n : Nat}
include h

theorem State.memOk.setCounter {e : Nat} {v : Dword} : (s.setCounter e v).memOk := h

theorem State.memOk.headEntry {q : Queue} : (s.headEntry q).1.memOk := by
  grind [State.headEntry, memOk.touchRange]

theorem State.memOk.stopQueue {q sub : Nat} : (s.stopQueue q sub).memOk := by
  grind [State.stopQueue, memOk.setQueue]

theorem State.memOk.checkHead {q : Nat} : (s.checkHead q).memOk := by
  grind [State.checkHead, memOk.headEntry, memOk.record, memOk.setQueue, memOk.stopQueue]

theorem State.memOk.headStarts {q : Nat} : (s.headStarts q).memOk := by
  grind [State.headStarts, State.memOk, memOk.setQueue]

theorem State.memOk.addCevt {en : Bool} {c : Nat} {d : Dword} : (s.addCevt en c d).memOk := by
  grind [State.addCevt, memOk.setCounter]

theorem State.memOk.addDone {q : Nat} : (s.addDone q).memOk := by
  grind [State.addDone, memOk.setQueue]

end

/-- One round of `State.examineN`, with `next` for the rounds that follow. -/
def State.examineRound (next : State → State) (s : State) : State :=
  match s.nextHead with
  | none => s
  | some q =>
    let e := s.headBytes q
    if entKind e = 2 then
      let s := (s.headStarts q).addCevt (entCevtEn e) (entCevt e) (entCadd e)
      next (s.addDone q)
    else if s.placeable e then s
    else match s.queue? q with
      | some v => s.setQueue q { v with blocked := true }
      | none => s

theorem State.examineN_succ (k : Nat) (s : State) : State.examineN (k + 1) s =
    ((List.range 64).foldl State.checkHead s).examineRound (State.examineN k) := by
  delta State.examineN
  delta State.examineN._f
  generalize List.range 64 = heads
  rfl

section

variable {s : State} (h : s.memOk) {n : Nat}
include h

theorem State.memOk.examineN {k : Nat} : (State.examineN k s).memOk := by
  induction k generalizing s with
  | zero => exact h
  | succ k ih =>
    have hc : ((List.range 64).foldl State.checkHead s).memOk := memOk_foldl (fun _ _ h => h.checkHead) h _
    rw [State.examineN_succ]
    grind [State.examineRound, memOk.headStarts, memOk.addCevt, memOk.addDone, memOk.setQueue]

theorem State.memOk.examine : (s.examine).memOk := by
  grind [State.examine, memOk.examineN]

theorem State.memOk.changeEvent {e : Nat} {v : Dword} : (s.changeEvent e v).memOk := h.setCounter.examine

theorem State.memOk.addEvent {e : Nat} {d : Dword} : (s.addEvent e d).memOk := h.changeEvent

theorem State.memOk.ringBell {q : Nat} {tail : Half} : (s.ringBell q tail).memOk := by
  grind [State.ringBell, State.memOk, memOk.examine, memOk.record, memOk.setQueue, memOk.stopQueue]

theorem State.memOk.setGang {g : Gang} : (s.setGang g).memOk := h

theorem State.memOk.dropGang {g : Gang} : (s.dropGang g).memOk := by
  grind [State.dropGang, State.memOk, memOk.modLan, memOk_foldl]

theorem State.memOk.kernelDone : (s.kernelDone n).memOk := by
  grind [State.kernelDone, memOk.addCevt, memOk.addDone, memOk.dropGang, memOk.examine, memOk.setGang]

theorem State.memOk.abortKernel {g : Gang} : (s.abortKernel g).memOk := by
  grind [State.abortKernel, memOk.dropGang, memOk.examine, memOk.haltLan, memOk.record, memOk.stopQueue,
    memOk_foldl]

end

/-! ### Conduits that are lost, and tables (R291 to R294, R458) -/

section

variable {s : State} (h : s.memOk) {n : Nat}
include h

theorem State.memOk.ckStop : s.ckStop.memOk := by
  grind [State.ckStop, State.memOk, memOk.pumpPins, memOk.unplace, memOk.wakeStuck, memOk.wakeVpn, memOk_foldl]

theorem State.memOk.ckAbort : s.ckAbort.memOk := by
  grind [State.ckAbort, State.memOk, memOk.ckStop]

theorem State.memOk.restoreEnd : s.restoreEnd.memOk := by
  grind [State.restoreEnd, State.memOk, memOk.draw]

theorem State.memOk.replyLost {gone : Nat → Bool} : (s.replyLost gone).memOk := by
  grind [State.replyLost, State.memOk]

theorem State.memOk.loseConduit {cid : Nat} : (s.loseConduit cid).memOk := by
  grind [State.loseConduit, memOk.addEvent, memOk.ckAbort, memOk.notify, memOk.replyLost, memOk.restoreEnd,
    memOk.setCon, memOk.setLan, memOk_foldl]

theorem State.memOk.loadTable : (s.loadTable n).memOk := by
  grind [State.loadTable, memOk.modLan]

end

/-! ### Registers (R525 to R538) -/

section

variable {s : State} (h : s.memOk) {n : Nat}
include h

theorem State.memOk.setRstat {b : Blk} {w : Bool} {v : Nat} : (s.setRstat b w v).memOk := by
  cases b <;> exact h

theorem State.memOk.setWie {b : Blk} : (s.setWie b).memOk := h.setRstat

theorem State.memOk.regRead {rq : Requester} {addr : Nat} {b : Blk} {off : Nat} :
    (s.regRead rq addr b off).2.memOk := by
  grind [State.regRead, State.memOk]

theorem State.memOk.rateWrite {v : Word} : (s.rateWrite v).memOk := by
  grind [State.rateWrite, State.memOk]

theorem State.memOk.fetchAdd {w : Writer} {va : Nat} {d : Dword} : (s.fetchAdd w va d).1.memOk := by
  grind [State.fetchAdd, memOk.dvLoadLines, memOk.dvStoreK, memOk.touch]

theorem State.memOk.xrqEnd {st : Byte} {old : Option Dword} : (s.xrqEnd n st old).memOk := by
  grind [State.xrqEnd, memOk.addEvent, memOk.setLan]

theorem State.memOk.xrqGo : (s.xrqGo n).memOk := by
  grind [State.xrqGo, memOk.addEvent, memOk.fetchAdd, memOk.modLan, memOk.sendOp, memOk.sendReq, memOk.setCon,
    memOk.xrqEnd]

theorem State.memOk.xrqWrite {v : Word} : (s.xrqWrite n v).memOk := by
  grind [State.xrqWrite, memOk.modLan, memOk.xrqGo]

theorem State.memOk.pteqWrite {v : Word} : (s.pteqWrite v).memOk := by
  grind [State.pteqWrite, State.memOk]

theorem State.memOk.fetchRetry : s.fetchRetry.memOk := by
  grind [State.fetchRetry, State.memOk, memOk.startFetch, memOk_foldl]

theorem State.memOk.evcmd {v : Word} : (s.evcmd v).memOk := by
  grind [State.evcmd, State.memOk, memOk.addEvent, memOk.changeEvent]

theorem State.memOk.releaseWrite {v : Word} : (s.releaseWrite v).memOk := by
  grind [State.releaseWrite, State.memOk, memOk.abortKernel, memOk.examine, memOk.modLan]

theorem State.memOk.resumeQueue {q : Nat} : (s.resumeQueue q).memOk := by
  grind [State.resumeQueue, memOk.examine, memOk.setQueue]

theorem State.memOk.lanDisable : (s.lanDisable n).memOk := by
  grind [State.lanDisable, memOk.modLan, memOk.setReady]

theorem State.memOk.lanEnable : (s.lanEnable n).memOk := by
  grind [State.lanEnable, memOk.examine, memOk.loadTable, memOk.setLan, memOk.setReady]

theorem State.memOk.engDisable {e : Nat} : (s.engDisable e).memOk := by
  grind [State.engDisable, memOk.modEng, memOk.setReady]

theorem State.memOk.engEnable {e : Nat} : (s.engEnable e).memOk := by
  grind [State.engEnable, memOk.examine, memOk.modEng, memOk.setReady]

theorem State.memOk.ctlWrite {b : Blk} {v : Word} : (s.ctlWrite b v).memOk := by
  unfold State.ctlWrite
  split <;> grind [State.memOk, memOk.engDisable, memOk.engEnable, memOk.lanDisable, memOk.lanEnable, memOk.setWie]

theorem State.memOk.lanWrite {n : Nat} {off : Nat} {v : Word} : (s.lanWrite n off v).memOk := by
  unfold State.lanWrite
  extract_lets l rwe
  have hrwe (f : Lantern → Lantern) : (rwe f).memOk := by grind [memOk.setWie, memOk.setLan]
  clear_value rwe
  split <;> grind [memOk.setLan, memOk.xrqWrite]

theorem State.memOk.regWrite {addr : Nat} {b : Blk} {off : Nat} {v : Word} : (s.regWrite addr b off v).memOk := by
  unfold State.regWrite
  cases b <;> grind [State.memOk, memOk.ctlWrite, memOk.evcmd, memOk.fetchRetry, memOk.lanWrite, memOk.modTc,
    memOk.pteqWrite,
    memOk.rateWrite, memOk.releaseWrite, memOk.resumeQueue, memOk.setRstat]

theorem State.memOk.wickRead {addr : Nat} : (s.wickRead n addr).2.memOk := by
  grind [State.wickRead, memOk.regRead]

theorem State.memOk.wickWrite {addr : Nat} {v : Word} : (s.wickWrite n addr v).memOk := by
  grind [State.wickWrite, memOk.regWrite, memOk.setWie]

theorem State.memOk.pilotWrite {addr : Nat} {v : Word} : (s.pilotWrite addr v).memOk := by
  grind [State.pilotWrite, memOk.regWrite]

end

/-! ### Channels and parity (R296 to R311, R388) -/

section

variable {s : State} (h : s.memOk) {n : Nat}
include h

theorem State.memOk.syncPa {pa : Nat} : (s.syncPa pa).memOk := by
  grind [State.syncPa, memOk.syncUnit]

theorem State.memOk.poisonPa {pa : Nat} : (s.poisonPa pa).memOk := by
  grind [State.poisonPa, memOk.poisonUnit, memOk.syncPa]

theorem State.memOk.rowOpen {pa : Nat} : (s.rowOpen pa).memOk := by
  grind [State.rowOpen, memOk.modCh]

theorem State.memOk.unitUe {pa syn : Nat} : (s.unitUe pa syn).memOk := by
  grind [State.unitUe, State.memOk, memOk.poisonPa, memOk.record]

theorem State.memOk.wbTaken {pa : Nat} : (s.wbTaken pa).memOk := by
  grind [State.wbTaken, memOk.modTc]

theorem State.memOk.asDecoded {pa : Nat} {poisoned : Bool} {errs : List (BitVec 80)} :
    (s.asDecoded pa poisoned errs).memOk := by
  grind [State.asDecoded, memOk.physWrite]

theorem State.memOk.execDramRead {pa : Nat} {errs : List (BitVec 80)} : (execDramRead pa errs s).Keeps := by
  grind [Machine.execDramRead, Out.Keeps, State.memOk, memOk.asDecoded, memOk.modCh, memOk.records, memOk.rowOpen,
    memOk.unitUe]

theorem State.memOk.parityOnWrite {was : State} (_ : was.memOk) {pa : Nat} : (was.parityOnWrite s pa).memOk := by
  grind [State.parityOnWrite, State.memOk, memOk.syncPa]

theorem State.memOk.execDramWrite {pa : Nat} {mask : BitVec 64} {data : BitVec 512} {errs : List (BitVec 80)} :
    (execDramWrite pa mask data errs s).Keeps := by
  grind [Machine.execDramWrite, Out.Keeps, State.memOk, memOk.modCh, memOk.parityOnWrite, memOk.physWriteP,
    memOk.record, memOk.rowOpen, memOk.unitUe, memOk.wbTaken]

theorem State.memOk.execParityDelta {pa q : Nat} : (execParityDelta pa q s).Keeps := by
  grind [Machine.execParityDelta, Out.Keeps, State.memOk, memOk.syncPa]

theorem State.memOk.rebuildUnit {pa syn : Nat} {bad : List Nat} : (s.rebuildUnit pa syn bad).1.memOk := by
  grind [State.rebuildUnit, memOk.poisonPa]

theorem State.memOk.execUnitRebuild {pa : Nat} {bad : List Nat} : (execUnitRebuild pa bad s).Keeps := by
  grind [Machine.execUnitRebuild, Out.Keeps, State.memOk, memOk.rebuildUnit, memOk.record]

theorem State.memOk.refreshRate {ch : Nat} : (s.refreshRate ch).memOk := by
  grind [State.refreshRate, memOk.modCh]

theorem State.memOk.execRefresh {ch bank : Nat} : (execRefresh ch bank s).Keeps := by
  grind [Machine.execRefresh, Out.Keeps, State.memOk, memOk.refreshRate]

theorem State.memOk.zeroChannel {ch : Nat} : (s.zeroChannel ch).memOk :=
  State.zeroChannel_memOk h ch

theorem State.memOk.trainFailed {ch fs : Nat} : (s.trainFailed ch fs).memOk := by
  grind [State.trainFailed, memOk.modCh, memOk.record]

theorem State.memOk.execChannelTrainingPassEnd {ch failStep : Nat} {eye : Word} :
    (execChannelTrainingPassEnd ch failStep eye s).Keeps := by
  grind [Machine.execChannelTrainingPassEnd, Out.Keeps, State.memOk, memOk.modCh, memOk.setReady, memOk.trainFailed,
    memOk.zeroChannel]

theorem State.memOk.execDelayRecentre {ch : Nat} {moved : List (Nat × Nat)} :
    (execDelayRecentre ch moved s).Keeps := by
  grind [Machine.execDelayRecentre, Out.Keeps, State.memOk, memOk.records]

end

/-! ### Tile caches (R319 to R332) -/

section

variable {s : State} (h : s.memOk) {n : Nat}
include h

theorem State.memOk.zeroLine {line : Nat} : (s.zeroLine line).memOk := by
  grind [State.zeroLine, memOk.breakResv, memOk.physZero, memOk.syncPa, memOk_foldl]

theorem State.memOk.cacheAccess {pa : Nat} {kind : CacheKind} {agent : Option Nat} :
    (s.cacheAccess pa kind agent).memOk := by
  grind [State.cacheAccess, memOk.lineAccessed, memOk.zeroLine]

theorem State.memOk.poisonLine {line : Nat} : (s.poisonLine line).memOk := memOk_foldl (fun _ _ h => h.poisonPa) h _

theorem State.memOk.lineLost {pa key unit cleanCode aux : Nat} : (s.lineLost pa key unit cleanCode aux).memOk := by
  grind [State.lineLost, memOk.dropCopies, memOk.modTc, memOk.poisonLine, memOk.record]

theorem State.memOk.lineRead {pa : Nat} {err : LineErr} : (s.lineRead pa err).memOk := by
  grind [State.lineRead, memOk.asDecoded, memOk.lineLost, memOk.modTc, memOk.records]

theorem State.memOk.dropLines {t g lo hi : Nat} : (s.dropLines t g lo hi).memOk := by
  grind [State.dropLines, memOk.dropCopies, memOk.modTc, memOk_foldl]

theorem State.memOk.walkOn {t : Nat} : (s.walkOn t).memOk := by
  grind [State.walkOn, memOk.draw, memOk.dropLines, memOk.modTc, memOk_foldl]

theorem State.memOk.execTileCacheAccess {pa : Nat} {kind : CacheKind} {agent : Option Nat} {err : LineErr} :
    (execTileCacheAccess pa kind agent err s).Keeps := by
  grind [Machine.execTileCacheAccess, Out.Keeps, State.memOk, memOk.cacheAccess, memOk.lineRead, memOk.walkOn]

theorem State.memOk.execTileCacheFill {t : Nat} {err : FillErr} : (execTileCacheFill t err s).Keeps := by
  grind [Machine.execTileCacheFill, Out.Keeps, State.memOk, memOk.installLine, memOk.modLan, memOk.modLine,
    memOk.modTc, memOk.poisonLine, memOk.poisonPa, memOk.record, memOk_foldl]

theorem State.memOk.execL1Invalidation {pa : Nat} : (execL1Invalidation n pa s).Keeps := by
  grind [Machine.execL1Invalidation, Out.Keeps, State.memOk, memOk.modLan, memOk.modTc]

theorem State.memOk.execWayGroupPowerDown {t g : Nat} : (execWayGroupPowerDown t g s).Keeps := by
  grind [Machine.execWayGroupPowerDown, Out.Keeps, State.memOk, memOk.modTc]

theorem State.memOk.execWayGroupPowerUp {t g : Nat} : (execWayGroupPowerUp t g s).Keeps := by
  grind [Machine.execWayGroupPowerUp, Out.Keeps, State.memOk, memOk.modTc]

theorem State.memOk.execWayGroupCleanEnd {t g : Nat} : (execWayGroupCleanEnd t g s).Keeps := by
  grind [Machine.execWayGroupCleanEnd, Out.Keeps, State.memOk, memOk.dropLines, memOk.modTc]

theorem State.memOk.execWayGroupOn {t g : Nat} : (execWayGroupOn t g s).Keeps := by
  grind [Machine.execWayGroupOn, Out.Keeps, State.memOk, memOk.modTc]

end

/-! ### Runs of an instruction: operands, loads and stores (R200 to R261) -/

/-- The state that an instruction which does not complete leaves. -/
def Abort.state : Abort → State
  | .trap s _ _ _ => s
  | .wait s _ => s

/-- A run ends with a result of which `p` holds, or stops in a state with memory in canonical form. -/
def Run.Keeps {α : Type} (p : α → Prop) : Run α → Prop
  | .ok a => p a
  | .error x => x.state.memOk

theorem Run.Keeps.bind {α β : Type} {p : α → Prop} {q : β → Prop} {x : Run α} {f : α → Run β}
    (hx : x.Keeps p) (hf : ∀ a, p a → (f a).Keeps q) : Run.Keeps q (x >>= f) := by
  cases x with
  | ok a => exact hf a hx
  | error e => exact hx

theorem Run.Keeps.ite {α : Type} {p : α → Prop} {c : Prop} [Decidable c] {x y : Run α} (hx : c → x.Keeps p)
    (hy : ¬c → y.Keeps p) : Run.Keeps p (if c then x else y) := by
  split
  · exact hx ‹_›
  · exact hy ‹_›

section
variable {s : State} (h : s.memOk) {n : Nat}
include h

theorem State.memOk.illegal {α : Type} {p : α → Prop} {cause : Nat} : Run.Keeps p (s.illegal n cause) := h

theorem State.memOk.need {ok : Bool} : (s.need n ok).Keeps fun _ => True :=
  .ite (fun _ => trivial) fun _ => h

theorem State.memOk.await {ok : Bool} : (s.await ok).Keeps fun _ => True :=
  .ite (fun _ => trivial) fun _ => h

theorem State.memOk.awaitFence {ok : Bool} : (s.awaitFence ok).Keeps fun _ => True :=
  .ite (fun _ => trivial) fun _ => h

theorem State.memOk.readReg {code : Nat} : (s.readReg n code).Keeps fun _ => True := by
  unfold State.readReg
  grind [Run.Keeps, memOk.illegal]

theorem State.memOk.writeReg {code : Nat} {v : Dword} : (s.writeReg n code v).Keeps State.memOk := by
  rw [State.writeReg_eq]
  grind [Run.Keeps, memOk.illegal, memOk.setLan, memOk.modLan]

theorem State.memOk.checkParts {dv reg : Bool} {a : Dword} {len : Nat} :
    (s.checkParts n dv reg a len).Keeps fun _ => True := by
  unfold State.checkParts
  split
  · exact h
  · exact trivial

theorem State.memOk.touchEach {write hold : Bool} {ps : List (Dword × Nat)} :
    (s.touchEach n write hold ps).Keeps State.memOk := by
  induction ps generalizing s with
  | nil => exact h
  | cons p ps ih =>
    have ht : (s.touch (.wick n) p.1.toNat write).1.memOk := h.touch
    grind [State.touchEach, Run.Keeps, Abort.state]

theorem State.memOk.unhold {vpns : List Nat} : (s.unhold n vpns).memOk := h

theorem State.memOk.touchParts {write : Bool} {ps : List (Dword × Nat)} :
    (s.touchParts n write ps).Keeps State.memOk := by
  have ht : (s.touchEach n write (ps.length = 2) ps).Keeps State.memOk := h.touchEach
  grind [State.touchParts, Run.Keeps, memOk.unhold]

theorem State.memOk.poisonDv {va : Nat} : (s.poisonDv n va).memOk := h.record

theorem State.memOk.poisonLs {a : Nat} : (s.poisonLs n a).memOk := h.record

theorem State.memOk.poisoned {α : Type} {p : α → Prop} {dv : Bool} {a : Dword} {selem : Nat} :
    Run.Keeps p (s.poisoned n dv a selem) := by
  cases dv
  · exact h.poisonLs
  · exact h.poisonDv

theorem State.memOk.reach {dv reg write : Bool} {a : Dword} {len : Nat} :
    (s.reach n dv reg write a len).Keeps State.memOk := by
  have hc : (s.checkParts n dv reg a len).Keeps fun _ => True := h.checkParts
  grind [State.reach, Run.Keeps, memOk.touchParts]

theorem State.memOk.readPort {dv : Bool} {a : Dword} {len : Nat} :
    (s.readPort n dv a len).Keeps fun r => r.2.memOk := by
  unfold State.readPort
  have hl : ((halves a len).foldl (fun s p => s.l1Load n (s.vaPa p.1.toNat)) s).memOk :=
    memOk_foldl (fun _ _ h => h.l1Load) h _
  grind [Run.Keeps, memOk.poisoned]

theorem State.memOk.readBuffered {dv : Bool} {a : Dword} {len : Nat} :
    (s.readBuffered n dv a len).Keeps fun r => r.2.memOk := by
  unfold State.readBuffered
  grind [Run.Keeps, Abort.state, memOk.poisoned, memOk.readPort]

theorem State.memOk.load {dv reg : Bool} {a : Dword} {len : Nat} :
    (s.load n dv reg a len).Keeps fun r => r.2.memOk := by
  have hr : (s.reach n dv reg false a len).Keeps State.memOk := h.reach
  unfold State.load
  grind [Run.Keeps, Abort.state, memOk.wickRead, memOk.readBuffered]

theorem State.memOk.enterStores {es : List SbEntry} : (s.enterStores n es).Keeps State.memOk :=
  .ite (fun _ => h) fun _ => h

theorem State.memOk.store {dv reg : Bool} {a : Dword} {bs : List Byte} :
    (s.store n dv reg a bs).Keeps State.memOk := by
  have hr : (s.reach n dv reg true a bs.length).Keeps State.memOk := h.reach
  unfold State.store
  grind [Run.Keeps, Abort.state, memOk.wickWrite, memOk.enterStores]

theorem State.memOk.operandValue {w : BaseWord} {immv : Dword} {len : Nat} :
    (s.operandValue n w immv len).Keeps fun r => r.2.memOk := by
  unfold State.operandValue
  split
  · exact h
  · exact h
  next dv a _ =>
    have hl : (s.load n dv true a len).Keeps fun r => r.2.memOk := h.load
    grind [Run.Keeps]
  next c _ =>
    have hr : (s.readReg n c).Keeps fun _ => True := h.readReg
    grind [Run.Keeps]

theorem State.memOk.operandStore {w : BaseWord} {v : Dword} {len : Nat} :
    (s.operandStore n w v len).Keeps State.memOk := by
  unfold State.operandStore
  split
  exacts [h, h, h.store, h.writeReg]

theorem State.memOk.modWick {f : Wick → Wick} : (s.modWick n f).memOk := h

theorem State.memOk.transferTo {target : Dword} : (s.transferTo n target).Keeps State.memOk :=
  .ite (fun _ => h) fun _ => h

theorem State.memOk.target {w : BaseWord} : (s.target n w).Keeps fun _ => True := by
  unfold State.target
  split
  · exact .ite (fun _ => trivial) fun _ => h
  · exact h.readReg
  · exact h

theorem State.memOk.pushCall {ret : Dword} : (s.pushCall n ret).Keeps State.memOk :=
  .bind h.checkParts fun _ _ => .ite (fun _ => h) fun _ => .bind h.enterStores fun _ h => h

theorem State.memOk.counterOperand {w : BaseWord} : (s.counterOperand n w).Keeps fun _ => True :=
  .bind h.need fun _ _ => .bind h.operandValue fun _ _ => .ite (fun _ => h) fun _ => trivial

theorem State.memOk.resvAddr {w : BaseWord} : (s.resvAddr n w).Keeps fun r => r.2.memOk := by
  unfold State.resvAddr
  split
  next dv a _ =>
    have hr : (s.reach n dv false true a 8).Keeps State.memOk := h.reach
    grind [Run.Keeps, Abort.state]
  · exact h

theorem State.memOk.fpComplete {len : Nat} {x : Exc} : (s.fpComplete n len x).memOk := by
  unfold State.fpComplete
  grind [memOk.modWick, memOk.modLan, memOk.complete, memOk.takeEvent]

theorem State.memOk.blkIter {op : BlkOp} {imm : Nat} : (s.blkIter n op imm).Keeps State.memOk := by
  cases op with
  | bcopy => exact .bind h.load fun _ h => .bind h.store fun _ h => h
  | bfill => exact .bind h.store fun _ h => h
  | bread => exact .bind h.load fun _ h => h
  | bcomp => exact .bind h.load fun _ h => .bind h.load fun _ h => h
  | bseek => exact .bind h.load fun _ h => h
  | vblk => exact h

theorem State.memOk.touchDv {write : Bool} {ps : List (Nat × Nat)} : (s.touchDv n write ps).Keeps State.memOk := by
  have ht : (s.touchRange (.lantern n) write ps).1.memOk := h.touchRange
  grind [State.touchDv, Run.Keeps, Abort.state]

theorem State.memOk.vblkIter {imm : Nat} : (s.vblkIter n imm).Keeps State.memOk := by
  unfold State.vblkIter
  extract_lets l k t out i
  split
  · exact h
  · exact .bind h.touchDv fun _ h => .bind h.await fun _ _ => h

theorem State.memOk.anyIter {op : BlkOp} {imm : Nat} : (s.anyIter n op imm).Keeps State.memOk :=
  .ite (fun _ => h.vblkIter) fun _ => h.blkIter

theorem State.memOk.iterEnd {op : BlkOp} {imm : Nat} : (s.iterEnd n op imm).memOk := by
  grind [State.iterEnd, memOk.modLan, memOk.complete]

theorem State.memOk.loaderMove {i : LoaderItem} : (s.loaderMove n i).memOk := by
  unfold State.loaderMove
  grind [memOk.dvStore, memOk.dvLoadLines, memOk.modLan, memOk_foldl]

end

/-! ### Instructions of the wick -/

theorem Run.Keeps.land {x : Abort} (h : x.state.memOk) (n : Nat) : (x.land n).memOk := by
  cases x with
  | trap s cause saddr selem => exact State.memOk.takeEvent (s := s.issued n) h
  | wait s w => cases w <;> exact h

section
variable {s : State} (h : s.memOk) {n : Nat}
include h

theorem State.memOk.issued : (s.issued n).memOk := h

theorem State.memOk.runWick {len : Nat} {cond : BitVec 4} {body : State → Run State}
    (hbody : (body s).Keeps State.memOk) : (s.runWick n len cond body).Keeps := by
  grind [State.runWick, Out.Keeps, memOk.complete, memOk.issued, Run.Keeps, Run.Keeps.land]

theorem State.memOk.baseOp {w : BaseWord} {legal : Bool} {immv : Dword} {len : Nat} {f : Wick → Dword → Wick} :
    (s.baseOp n w legal immv len f).Keeps :=
  h.runWick (.bind h.need fun _ _ => .bind h.operandValue fun _ h => h)

theorem State.memOk.baseStore {w : BaseWord} {legal : Bool} {len : Nat} {v : Wick → Dword} :
    (s.baseStore n w legal len v).Keeps := by
  refine h.runWick (.bind h.need fun _ _ => .ite (fun _ => ?_) fun _ => ?_)
  · exact .bind h.writeReg fun _ _ => memOk.writeReg (s := s.complete n w.len) h
  · exact .bind h.operandStore fun _ h => h

theorem State.memOk.fpOp {dbl : Bool} {w : BaseWord}
    {f : FCtx → Nat → Nat → Nat → Option Nat × Option (BitVec 4) × Exc} :
    (s.fpOp n dbl w f).Keeps :=
  h.runWick (.bind h.need fun _ _ => .bind h.operandValue fun _ h => h.modWick.fpComplete)

theorem State.memOk.blkStart {op : BlkOp} {w : BaseWord} : (s.blkStart n op w).Keeps :=
  h.runWick (.bind h.need fun _ _ => .ite (fun _ => .ite (fun _ => h) fun _ => h) fun _ => .bind h.anyIter fun _ h => h)

theorem State.memOk.execCallCalli {f : CallOp} {w : BaseWord} : (execCallCalli n f w s).Keeps := by
  refine h.runWick (.bind h.need fun _ _ => ?_)
  cases f
  · exact .ite (fun _ => .bind h.pushCall fun _ h => h) fun _ => h
  · exact .bind h.target fun _ _ => .ite (fun _ => .bind h.pushCall fun _ h => h) fun _ => h

theorem State.memOk.execRet {w : BaseWord} : (execRet n w s).Keeps := by
  refine h.runWick (.bind h.need fun _ _ => .ite (fun _ => h) fun _ => .bind h.load fun _ h => .ite (fun _ =>
    h) fun _ =>
   .bind h.readBuffered fun _ h => .ite (fun _ => h) fun _ => .ite (fun _ => h) fun _ => h)

theorem State.memOk.execRte {w : BaseWord} : (execRte n w s).Keeps :=
  h.runWick (.bind h.need fun _ _ => .ite (fun _ => .ite (fun _ => h) fun _ => .bind h.await fun _ _ =>
    h.rte) fun _ => h)

theorem State.memOk.execHloop {w : BaseWord} : (execHloop n w s).Keeps :=
  h.runWick (.bind h.need fun _ _ => by grind [Run.Keeps, memOk.modWick, memOk.transfer, memOk.complete])

theorem State.memOk.execMsend {w : BaseWord} : (execMsend n w s).Keeps := by
  refine h.runWick (.bind h.need fun _ _ => ?_)
  dsimp only
  split
  · exact h
  · exact h

theorem State.memOk.execMrecv {w : BaseWord} : (execMrecv n w s).Keeps := by
  refine h.runWick (.bind h.need fun _ _ => memOk.complete ?_)
  split
  · exact h
  · exact h

theorem State.memOk.execScD {w : BaseWord} : (execScD n w s).Keeps := by
  refine h.runWick (.bind h.need fun _ _ => .bind h.await fun _ _ => .bind h.resvAddr fun r h =>
    .bind h.await fun _ _ => ?_)
  refine memOk.complete (memOk.modLan ?_)
  grind [memOk.dvStore, memOk.modLan]

theorem State.memOk.execBlockIteration : (execBlockIteration n s).Keeps := by
  have ha (op : BlkOp) (imm : Nat) : (s.anyIter n op imm).Keeps State.memOk := h.anyIter
  grind [Machine.execBlockIteration, Out.Keeps, Run.Keeps, Abort.state, memOk.iterEnd, memOk.takeEvent, memOk.modLan]

theorem State.memOk.execLoaderWrite : (execLoaderWrite n s).Keeps := by
  grind [Machine.execLoaderWrite, Out.Keeps, memOk.loaderMove, memOk.modLan, memOk.pumpPins]
end

/-! ### Reports, messages and event entry -/

section

variable {s : State} (h : s.memOk) {n : Nat}
include h

theorem State.memOk.execMessageArrival : (execMessageArrival n s).Keeps := by
  grind [Machine.execMessageArrival, Out.Keeps, State.memOk, memOk.modLan, memOk.setLan]

theorem State.memOk.execMessageAnswer : (execMessageAnswer n s).Keeps := by
  grind [Machine.execMessageAnswer, Out.Keeps, State.memOk, memOk.complete, memOk.modLan]

theorem State.memOk.drainHead {e : SbEntry} {t : List SbEntry} : (s.drainHead n e t).memOk := by
  grind [State.drainHead, memOk.dvStore, memOk.modLan, memOk.pumpPins, memOk.setLan, memOk.touch]

theorem State.memOk.execStoreBufferDrain {bad : Bool} : (execStoreBufferDrain n bad s).Keeps := by
  grind [Machine.execStoreBufferDrain, Out.Keeps, State.memOk, memOk.drainHead]

theorem State.memOk.execInstructionRefill {va : Nat} : (execInstructionRefill n va s).Keeps := by
  grind [Machine.execInstructionRefill, Out.Keeps, State.memOk, memOk.dvLoadLines, memOk.modLan, memOk_foldl]

theorem State.memOk.execBeatCompareMatch : (execBeatCompareMatch n s).Keeps := by
  grind [Machine.execBeatCompareMatch, Out.Keeps, State.memOk, memOk.modLan]

theorem State.memOk.execSvcRequest : (execSvcRequest n s).Keeps := by
  grind [Machine.execSvcRequest, Out.Keeps, State.memOk, memOk.modLan]

theorem State.memOk.nanAccept {p : NanRep} : (s.nanAccept n p).memOk := by
  grind [State.nanAccept, memOk.beaconTrigger, memOk.setLan]

theorem State.memOk.execNanReport {k : Nat} : (execNanReport n k s).Keeps := by
  grind [Machine.execNanReport, Out.Keeps, State.memOk, memOk.nanAccept, memOk.setLan]

theorem State.memOk.execNanRecordClear : (execNanRecordClear n s).Keeps := by
  grind [Machine.execNanRecordClear, Out.Keeps, State.memOk, memOk.modLan]

theorem State.memOk.execFpExceptionReport : (execFpExceptionReport n s).Keeps := by
  grind [Machine.execFpExceptionReport, Out.Keeps, State.memOk, memOk.setLan]

theorem State.memOk.writePhase {e : VqEntry} : (s.writePhase n e).memOk := by
  grind [State.writePhase, memOk.dvStore, memOk.modLan, memOk_foldl]

theorem State.memOk.execVectorInstructionComplete : (execVectorInstructionComplete n s).Keeps := by
  grind [Machine.execVectorInstructionComplete, Out.Keeps, State.memOk, memOk.pumpPins, memOk.setLan,
    memOk.writePhase]

theorem State.memOk.execRegisterFileError {lg : Nat} : (execRegisterFileError n lg s).Keeps := by
  grind [Machine.execRegisterFileError, Out.Keeps, State.memOk, memOk.draw, memOk.pumpPins, memOk.record,
    memOk.setLan, memOk_foldl]

theorem State.memOk.boundaryEvent : (s.boundaryEvent n).memOk := by
  grind [State.boundaryEvent, memOk.modLan, memOk.takeEvent]

theorem State.memOk.fetchEvent {n : Nat} {long : Bool} : (s.fetchEvent n long).memOk := by
  unfold State.fetchEvent
  grind [memOk.modLan, memOk.poisonDv, memOk.takeEvent, memOk.touchRange]

theorem State.memOk.unassigned {w0 w1 : Word} : (s.unassigned n w0 w1).Keeps := by
  unfold State.unassigned
  split
  exacts [h, h.runWick h.illegal]

theorem State.memOk.execEventEntry {src : EntrySrc} : (execEventEntry n src s).Keeps := by
  cases src <;> grind [Machine.execEventEntry, Out.Keeps, memOk.boundaryEvent, memOk.fetchEvent, memOk.unassigned]

theorem State.memOk.execMachineCheckReport : (execMachineCheckReport n s).Keeps := by
  grind [Machine.execMachineCheckReport, Out.Keeps, State.memOk, memOk.abortKernel]

theorem State.memOk.execKernelWatchdog : (execKernelWatchdog n s).Keeps := by
  grind [Machine.execKernelWatchdog, Out.Keeps, State.memOk, memOk.abortKernel, memOk.haltLan]

end

/-! ### The vector queue (R148 to R157) -/

section

variable {s : State} (h : s.memOk) {n : Nat}
include h

theorem State.memOk.vecEnter {insn : Word} {r : VRes} {pins : List Nat} {stores : List (Bool × Nat × List Byte)} :
    (s.vecEnter n insn r pins stores).memOk := by
  grind [State.vecEnter, memOk.setLan]

theorem State.memOk.vecOp {w : VOp} {opc : Nat} {u : PredUse} {legal : Wick → Bool} {f : Lantern → VRes} :
    (s.vecOp n w opc u legal f).Keeps :=
  h.runWick (.bind h.need fun _ _ => .bind h.await fun _ _ => h.vecEnter.complete)

end

/-! ### Vector instructions -/

section

variable {s : State} (h : s.memOk) {n : Nat}
include h

theorem State.memOk.vecInt {w : VOp} {f : Nat → Nat → Nat → Nat} : (s.vecInt n w f).Keeps := h.vecOp

theorem State.memOk.vecFp {w : VOp} {opc lo hi : Nat} {f : Lantern → FCtx → Nat → Nat → Nat → Nat → ERes} :
    (s.vecFp n w opc lo hi f).Keeps := h.vecOp

theorem State.memOk.execVmxpack {w : VOp} : (execVmxpack n w s).Keeps := by
  rw [execVmxpack_eq]
  refine memOk.vecOp ?_
  split <;> exact h

theorem State.memOk.execVdot4Vdot2 {f : VDot} {w : VOp} : (execVdot4Vdot2 n f w s).Keeps := by
  grind [Machine.execVdot4Vdot2, Out.Keeps, State.memOk, memOk.vecOp, memOk_foldl]

theorem State.memOk.execVcompress {w : VOp} : (execVcompress n w s).Keeps := by
  grind [Machine.execVcompress, Out.Keeps, State.memOk, memOk.vecOp, memOk_foldl]

theorem State.memOk.execVsel {w : VOp} : (execVsel n w s).Keeps := by
  grind [Machine.execVsel, Out.Keeps, State.memOk, memOk.vecOp, memOk_foldl]

end

/-! ### Vector loads and stores (R162 to R169) -/

section

variable {s : State} (h : s.memOk) {n : Nat}
include h

theorem State.memOk.vtranslate {n : Nat} {dv write : Bool} {wb : Nat} {xs : List VAcc} :
    (s.vtranslate n dv write wb xs).Keeps State.memOk := by
  induction xs generalizing s with
  | nil => exact h
  | cons x xs ih =>
    have ht : (s.touch (.lantern n) x.addr.toNat write).1.memOk := h.touch
    grind [State.vtranslate, Run.Keeps, Abort.state]

theorem State.memOk.unpin : (s.unpin n).memOk := by
  grind [State.unpin, memOk.modLan, memOk.pumpPins]

theorem State.memOk.pin {dv : Bool} {xs : List VAcc} : (s.pin n dv xs).memOk := by
  grind [State.pin, memOk.modLan, memOk.unhold]

theorem State.memOk.vload {w : VMem} {opc : Nat} {form : VForm} : (s.vload n w opc form).Keeps := by
  refine h.runWick (.bind h.need fun _ _ => .bind h.await fun _ _ => .bind h.unpin.vtranslate fun t ht =>
    .bind ht.pin.await fun _ _ => ?_)
  split
  · exact ht.pin.poisoned
  · refine memOk.complete (memOk.vecEnter ?_)
    split
    exacts [memOk_foldl (fun _ _ h => h.l1Load) ht.pin _, ht.pin]

theorem State.memOk.vstore {w : VMem} {opc : Nat} {form : VForm} : (s.vstore n w opc form).Keeps :=
  h.runWick (.bind h.need fun _ _ => .bind h.await fun _ _ => .bind h.unpin.vtranslate fun _ h =>
    .bind h.pin.await fun _ _ => h.pin.vecEnter.complete)

end

/-! ### Matrix arrays (R77 to R103) -/

section

variable {s : State} (h : s.memOk) {n : Nat}
include h

theorem State.memOk.guardRanges {n : Nat} {rs : List Rng} : (s.guardRanges n rs).Keeps fun _ => True := by
  unfold State.guardRanges
  split
  · exact h
  · trivial

theorem State.memOk.mqEnter {insn : Word} {op : MqOp} : (s.mqEnter n insn op).memOk := h.modLan

theorem State.memOk.accRecord {n : Nat} {chk : Bool} {acc : SramErr} : (s.accRecord n chk acc).memOk := by
  cases acc with
  | good => exact h
  | corrected bank row syn => exact h.record
  | uncorrectable bank row =>
    simp only [State.accRecord]
    split
    exacts [h, h.record]

theorem State.memOk.accShare {m slot : Nat} {acc : SramErr} : (s.accShare n m slot acc).memOk := by
  grind [State.accShare, memOk.accRecord, memOk.draw, memOk.modLan]

theorem State.memOk.execMmaShareComplete {m : Nat} {upsets : List CellUpset} {acc : SramErr} :
    (execMmaShareComplete n m upsets acc s).Keeps := by
  grind [Machine.execMmaShareComplete, Out.Keeps, State.memOk, memOk.accShare, memOk.setLan]

theorem State.memOk.execHandOff {m : Nat} : (execHandOff n m s).Keeps := by
  grind [Machine.execHandOff, Out.Keeps, State.memOk, memOk.draw, memOk.modLan, memOk.setLan]

theorem State.memOk.execTileDrain {m : Nat} {acc : SramErr} : (execTileDrain n m acc s).Keeps := by
  grind [Machine.execTileDrain, Out.Keeps, State.memOk, memOk.accRecord, memOk.draw, memOk.modLan]

theorem State.memOk.arrRecord {m cls code : Nat} {row col : Option Nat} {aux : Nat} :
    (s.arrRecord n m cls code row col aux).memOk := by
  grind [State.arrRecord, memOk.draw, memOk.record]

theorem State.memOk.spareRequest : (s.spareRequest n).memOk := by
  grind [State.spareRequest, State.memOk, memOk.record]

theorem State.memOk.quarantineArr {m : Nat} : (s.quarantineArr n m).memOk := by
  grind [State.quarantineArr, memOk.arrRecord, memOk.haltLan, memOk.modLan, memOk.spareRequest]

theorem State.memOk.recomputePassed {m : Nat} {t : Tile} {u : Nat} : (s.recomputePassed n m t u).memOk := by
  grind [State.recomputePassed, memOk.arrRecord, memOk.modLan]

theorem State.memOk.stablePair {j : Nat} : (s.stablePair n j).memOk := h.modLan.arrRecord

theorem State.memOk.recomputed {m : Nat} {h : ShadowTile} {r : MmaReq} {ups : List CellUpset} :
    (s.recomputed n m h r ups).memOk := by
  grind [State.recomputed, memOk.modLan, memOk.quarantineArr, memOk.recomputePassed]

theorem State.memOk.execRecomputeComplete {m : Nat} {upsets : List CellUpset} :
    (execRecomputeComplete n m upsets s).Keeps := by
  grind [Machine.execRecomputeComplete, Out.Keeps, State.memOk, memOk.recomputed]

theorem State.memOk.substituted {m j : Nat} {h : ShadowTile} {r : MmaReq} {ups : List CellUpset} :
    (s.substituted n m j h r ups).memOk := by
  grind [State.substituted, memOk.setLan]

theorem State.memOk.execSubstituteShareComplete {m : Nat} {upsets : List CellUpset} :
    (execSubstituteShareComplete n m upsets s).Keeps := by
  grind [Machine.execSubstituteShareComplete, Out.Keeps, State.memOk, memOk.substituted]

theorem State.memOk.execPatternSelftestComplete {m : Nat} {pass : Bool} :
    (execPatternSelftestComplete n m pass s).Keeps := by
  grind [Machine.execPatternSelftestComplete, Out.Keeps, State.memOk, memOk.modLan, memOk.quarantineArr,
    memOk.stablePair]

theorem State.memOk.execArrayQuarantineEffect {m : Nat} : (execArrayQuarantineEffect n m s).Keeps := by
  grind [Machine.execArrayQuarantineEffect, Out.Keeps, State.memOk, memOk.quarantineArr]

theorem State.memOk.convertColumn {m : Nat} {a : Arr} : (s.convertColumn n m a).memOk := by
  grind [State.convertColumn, State.memOk, memOk.arrRecord, memOk.modLan]

theorem State.memOk.execBypassConversion {m : Nat} : (execBypassConversion n m s).Keeps := by
  grind [Machine.execBypassConversion, Out.Keeps, State.memOk, memOk.convertColumn, memOk.examine, memOk.modLan,
    memOk.quarantineArr]

end

/-! ### Scrubbing, sparing and field repair (R392 to R396, R416 to R418) -/

section

variable {s : State} (h : s.memOk) {n : Nat}
include h

theorem State.memOk.noteSkips : s.noteSkips.memOk := by
  grind [State.noteSkips, State.memOk]

theorem State.memOk.scrubTo {u : Nat} : (s.scrubTo u).memOk := by
  grind [State.scrubTo, State.memOk]

theorem State.memOk.scrubDram {pa : Nat} {errs : List (BitVec 80)} {bad : List Nat} :
    (s.scrubDram pa errs bad).memOk := by
  grind [State.scrubDram, State.memOk, memOk.asDecoded, memOk.poisonPa, memOk.rebuildUnit, memOk.record,
    memOk.records]

theorem State.memOk.scrubCache {t set way unit : Nat} {errs : List (BitVec 80)} :
    (s.scrubCache t set way unit errs).memOk := by
  grind [State.scrubCache, State.memOk, memOk.asDecoded, memOk.dropCopies, memOk.modTc, memOk.poisonPa,
    memOk.record, memOk.records]

theorem State.memOk.execScrubRead {src : ScrubSrc} : (execScrubRead src s).Keeps := by
  grind [Machine.execScrubRead, Out.Keeps, State.memOk, memOk.noteSkips, memOk.scrubCache, memOk.scrubDram,
    memOk.scrubTo]

theorem State.memOk.flitPoisoned {d : FlitData} : (s.flitPoisoned d).memOk := by
  cases d with
  | none => exact h
  | unit pa => exact h.poisonPa
  | word n a => exact h

theorem State.memOk.execFlitRefusal {src chan : Nat} {headerBad : Bool} {payloadBad : Option FlitData} :
    (execFlitRefusal src chan headerBad payloadBad s).Keeps := by
  grind [Machine.execFlitRefusal, Out.Keeps, State.memOk, memOk.draw, memOk.flitPoisoned, memOk.record]

theorem State.memOk.noSpareFor : (s.noSpareFor n).memOk := by
  grind [State.noSpareFor, State.memOk, memOk.modLan]

theorem State.memOk.execSpareRemap : (execSpareRemap n s).Keeps := by
  grind [Machine.execSpareRemap, Out.Keeps, State.memOk, memOk.examine, memOk.noSpareFor, memOk.setLan]

theorem State.memOk.siteBist {site code bank row : Nat} : (s.siteBist n site code bank row).memOk := by
  grind [State.siteBist, memOk.draw, memOk.record]

theorem State.memOk.lanBist {code bank row : Nat} : (s.lanBist n code bank row).memOk := h.siteBist

theorem State.memOk.badArrays {ms : List Nat} : (s.badArrays n ms).memOk := by
  grind [State.badArrays, memOk.modLan, memOk.records, memOk_foldl]

theorem State.memOk.toSpare {badArrays : List Nat} : (s.toSpare n badArrays).memOk := by
  grind [State.toSpare, State.memOk, memOk.badArrays, memOk.examine, memOk.loadTable, memOk.record, memOk.setLan,
    memOk.setReady, memOk.spareRequest]

theorem State.memOk.execSpareSelftestEnd {code bank row : Nat} {badArrays : List Nat} :
    (execSpareSelftestEnd n code bank row badArrays s).Keeps := by
  grind [Machine.execSpareSelftestEnd, Out.Keeps, State.memOk, memOk.badArrays, memOk.examine, memOk.noSpareFor,
    memOk.siteBist, memOk.toSpare]

theorem State.memOk.tcRepaired {t bank row : Nat} : (s.tcRepaired t bank row).memOk := by
  grind [State.tcRepaired, State.memOk, memOk.dropCopies, memOk.modTc, memOk.record, memOk_foldl]

theorem State.memOk.lsRepaired {bank row : Nat} : (s.lsRepaired n bank row).memOk := by
  grind [State.lsRepaired, State.memOk, memOk.draw, memOk.examine, memOk.modLan, memOk.record]

theorem State.memOk.execFuseRepairEffect {kind unit : Nat} : (execFuseRepairEffect kind unit s).Keeps := by
  grind [Machine.execFuseRepairEffect, Out.Keeps, State.memOk, memOk.lsRepaired, memOk.tcRepaired]

end

/-! ### Rates, stalls and votes (R22, R24, R28 to R30, R533 to R535) -/

section

variable {s : State} (h : s.memOk) {n : Nat}
include h

theorem State.memOk.execLoHalfRead {rq : Requester} {addr : Nat} : (execLoHalfRead rq addr s).Keeps := by
  grind [Machine.execLoHalfRead, Out.Keeps, State.memOk, memOk.regRead]

theorem State.memOk.addBeats {d : Dword} : (s.addBeats d).memOk := by
  grind [State.addBeats, memOk.modLan, memOk.modTc]

theorem State.memOk.rateSample : s.rateSample.memOk := by
  grind [State.rateSample, State.memOk]

theorem State.memOk.execRateMeasureEnd {beats : Dword} : (execRateMeasureEnd beats s).Keeps := by
  grind [Machine.execRateMeasureEnd, Out.Keeps, State.memOk, memOk.addBeats]

theorem State.memOk.ringEdge : s.ringEdge.memOk := h

theorem State.memOk.execStallWatchdog {src : Nat} {chan : StallChan} : (execStallWatchdog src chan s).Keeps := by
  grind [Machine.execStallWatchdog, Out.Keeps, State.memOk, memOk.record]

theorem State.memOk.execStallRepeat {src chan : Nat} : (execStallRepeat src chan s).Keeps := by
  grind [Machine.execStallRepeat, Out.Keeps, State.memOk, memOk.record]

theorem State.memOk.blockEffect {r : RecIn} : (s.blockEffect r).memOk := by
  grind [State.blockEffect, memOk.draw, memOk.modLan]

theorem State.memOk.execReadyNotification : (execReadyNotification s).Keeps := by
  grind [Machine.execReadyNotification, Out.Keeps, State.memOk, memOk.notify]

theorem State.memOk.enWrite {addr : Nat} {en : Bool} : (s.enWrite addr en).memOk := by
  grind [State.enWrite, memOk.regWrite]

theorem State.memOk.execBlockIdle {addr : Nat} : (execBlockIdle addr s).Keeps := by
  grind [Machine.execBlockIdle, Out.Keeps, State.memOk, memOk.modEng, memOk.setLan]

theorem State.memOk.execRegisterWrite {rq : Requester} {addr : Nat} {value : Word} :
    (execRegisterWrite rq addr value s).Keeps := by
  cases rq
  exacts [h.pilotWrite, h.wickWrite]

theorem State.memOk.tmrPut {b : Blk} {off : Nat} {v : Nat} : (s.tmrPut b off v).memOk := by
  cases b <;> grind [State.tmrPut, State.memOk, memOk.modCh, memOk.modLan]

theorem State.memOk.blkDown {b : Blk} : (s.blkDown b).memOk := by
  cases b <;> grind [State.blkDown, State.memOk, memOk.modCh, memOk.modLan, memOk.setReady]

theorem State.memOk.markSlot {b : Blk} {off : Nat} : (s.markSlot b off).memOk := by
  cases b <;> exact h

theorem State.memOk.vote {addr : Nat} {u : TmrUpset} : (s.vote addr u).1.memOk := by
  grind [State.vote, State.memOk, memOk.blkDown, memOk.markSlot, memOk.setRstat, memOk.tmrPut]

theorem State.memOk.execTmrFieldRead {rq : Requester} {addr : Nat} {upsets : TmrUpset} :
    (execTmrFieldRead rq addr upsets s).Keeps := by
  grind [Machine.execTmrFieldRead, Out.Keeps, State.memOk, memOk.records, memOk.regRead, memOk.vote]

theorem State.memOk.votes {us : List (Nat × TmrUpset)} : (s.votes us).1.memOk :=
  us.foldlRecOn (motive := fun x : State × List RecIn => x.1.memOk) _ h fun _ hx _ _ => hx.vote

theorem State.memOk.execTmrVoteSweep {upsets : List (Nat × TmrUpset)} : (execTmrVoteSweep upsets s).Keeps := by
  grind [Machine.execTmrVoteSweep, Out.Keeps, State.memOk, memOk.records, memOk.votes]

end

/-! ### The command interface (R474 to R489) -/

section

variable {s : State} (h : s.memOk) {n : Nat}
include h

theorem State.memOk.authCheck {op : Nat} {p : CmdPkt} : (s.authCheck op p).1.memOk := by
  grind [State.authCheck, State.memOk]

theorem State.memOk.commonChecks {op : Nat} {p : CmdPkt} : (s.commonChecks op p).1.memOk := by
  grind [State.commonChecks, memOk.authCheck]

theorem State.memOk.unbox : s.unbox.memOk := h

theorem State.memOk.completed {op : Nat} {p : CmdPkt} {status : Nat} : (s.completed op p status).memOk := h

theorem State.memOk.reply {op : Nat} {p : CmdPkt} {status : Nat} {results : List Byte} :
    (s.reply op p status results).memOk := h.send.completed

theorem State.memOk.busyReply {op : Nat} {p : CmdPkt} {b : Busy} : (s.busyReply op p b).memOk := h.send

theorem State.memOk.judge {op : Nat} {p : CmdPkt} {own : State → State × CmdRes}
    (hown : ∀ s, s.memOk → (own s).1.memOk) : (s.judge op p own).1.memOk := by
  have hc : (s.commonChecks op p).1.memOk := h.commonChecks
  grind [State.judge]

theorem State.memOk.conclude {op : Nat} {p : CmdPkt} {r : CmdRes} : (s.conclude op p r).memOk := by
  cases r with
  | reply st rs => exact h.reply
  | run w => exact h

theorem State.memOk.commandThen {op : Nat} {p : CmdPkt} {own : State → State × CmdRes} {after : State → State}
    (hown : ∀ s, s.memOk → (own s).1.memOk) (hafter : ∀ s, s.memOk → (after s).memOk) :
      (s.commandThen op p own after).memOk := by
  have hj : (s.unbox.judge op p own).1.memOk := h.unbox.judge hown
  unfold State.commandThen
  split
  · exact h
  split
  · exact h.unbox.busyReply
  · dsimp only
    split
    exacts [hafter _ hj.conclude, hj.conclude]

theorem State.memOk.command {op : Nat} {p : CmdPkt} {own : State → State × CmdRes}
    (hown : ∀ s, s.memOk → (own s).1.memOk) : (s.command op p own).memOk :=
  h.commandThen hown fun _ h => h

theorem State.memOk.finish {status : Nat} {results : List Byte} : (s.finish status results).memOk := by
  grind [State.finish, State.memOk, memOk.completed, memOk.reply]

theorem State.memOk.execBadOpcode {p : CmdPkt} {opcode : Nat} : (execBadOpcode p opcode s).Keeps := by
  grind [Machine.execBadOpcode, Out.Keeps, State.memOk, memOk.command, memOk.reply]

end

/-! ### Domains off and device reset (R540, R567, R572) -/

section

variable {s : State} (h : s.memOk) {n : Nat}
include h

theorem State.memOk.conduitsOff : s.conduitsOff.memOk := by
  grind [State.conduitsOff, State.memOk, memOk.replyLost]

theorem State.memOk.eraseDom {d : Nat} : (s.eraseDom d).memOk := by
  unfold State.eraseDom
  grind [State.memOk, cellsWf_filter, memOk.conduitsOff]

theorem State.memOk.dropSets : s.dropSets.memOk := by
  grind [State.dropSets, State.memOk]

theorem State.memOk.rateOff {d : Nat} : (s.rateOff d).memOk := by
  grind [State.rateOff, State.memOk]

theorem State.memOk.offDomain {d : Nat} : (s.offDomain d).memOk := by
  grind [State.offDomain, State.memOk, memOk.dropSets, memOk.eraseDom, memOk.rateOff, memOk.setReady, memOk_foldl]

end

/-- What the protective shutdown does once the domains are off (R572). -/
def State.shutDown (s : State) (x : RecIn) : State :=
  let s := { s with
    pwr := { s.pwr with shut := true }
    start := { s.start with
      eligible := s.start.eligible.filter (fun d => 28 ≤ d)
      switched := s.start.switched.filter (fun d => 28 ≤ d) } }
  let s := match s.pilot.busy with
    | some b => if needsOff b then s.finish stInternal [] else s
    | none => s
  s.record x

theorem State.protectiveOff_eq (s : State) (x : RecIn) : s.protectiveOff x =
    if s.pwr.shut then s else ((List.range 28).foldl (fun s d => s.offDomain d) s).shutDown x := rfl

section

variable {s : State} (h : s.memOk) {n : Nat}
include h

theorem State.memOk.shutDown {x : RecIn} : (s.shutDown x).memOk := by
  refine memOk.record ?_
  split
  · split
    · refine memOk.finish ?_
      exact h
    · exact h
  · exact h

theorem State.memOk.protectiveOff {x : RecIn} : (s.protectiveOff x).memOk := by
  rw [State.protectiveOff_eq]
  split
  exacts [h, (memOk_foldl (fun _ _ h => h.offDomain) h _).shutDown]

theorem State.memOk.secondStage : s.secondStage.memOk := by
  grind [State.secondStage, memOk.offDomain, memOk.record]

omit h in
theorem State.memOk.deviceReset (_ : s.memOk) : s.deviceReset.memOk := rfl

theorem State.memOk.leaveReset : s.leaveReset.memOk := by
  grind [State.leaveReset, State.memOk]

theorem State.memOk.execPgInHigh : (execPgInHigh s).Keeps := by
  grind [Machine.execPgInHigh, Out.Keeps, State.memOk, memOk.leaveReset]

theorem State.memOk.execPgInLow : (execPgInLow s).Keeps := by
  grind [Machine.execPgInLow, Out.Keeps, State.memOk, memOk.deviceReset]

theorem State.memOk.execResetNLow : (execResetNLow s).Keeps := by
  grind [Machine.execResetNLow, Out.Keeps, State.memOk, memOk.deviceReset]

theorem State.memOk.execResetNHigh : (execResetNHigh s).Keeps := by
  grind [Machine.execResetNHigh, Out.Keeps, State.memOk, memOk.leaveReset]

theorem State.memOk.execRefclkLoss : (execRefclkLoss s).Keeps := by
  grind [Machine.execRefclkLoss, Out.Keeps, State.memOk, memOk.deviceReset, memOk.leaveReset]

theorem State.memOk.execRefclkPresent : (execRefclkPresent s).Keeps := by
  grind [Machine.execRefclkPresent, Out.Keeps, State.memOk]

theorem State.memOk.execPllLock : (execPllLock s).Keeps := by
  grind [Machine.execPllLock, Out.Keeps, State.memOk]

theorem State.memOk.commandReset : s.commandReset.memOk := by
  grind [State.commandReset, State.memOk, memOk.deviceReset]

theorem State.memOk.linkAges : s.linkAges.memOk := by
  grind [State.linkAges, State.memOk]

theorem State.memOk.tick : s.tick.memOk := by
  grind [State.tick, State.memOk, memOk.commandReset, memOk.linkAges, memOk.rateSample, memOk.ringEdge]

theorem State.memOk.tapLoad {i : TapInstr} : (s.tapLoad i).memOk := by
  grind [State.tapLoad, State.memOk]

theorem State.memOk.capture : s.capture.2.memOk := by
  grind [State.capture, memOk.draw]

theorem State.memOk.execSamplePreload {shift : BitVec 7} : (execSamplePreload shift s).Keeps := by
  grind [Machine.execSamplePreload, Out.Keeps, State.memOk, memOk.capture, memOk.tapLoad]

theorem State.memOk.execIdcode : (execIdcode s).Keeps := by
  grind [Machine.execIdcode, Out.Keeps, State.memOk, memOk.load]

end

/-! ### Supply, temperature and the 1 ms evaluation (R33 to R36, R564 to R571) -/

section

variable {s : State} (h : s.memOk) {n : Nat}
include h

theorem State.memOk.supplyEvent {k : Nat} : (s.supplyEvent k).memOk := by
  grind [State.supplyEvent, State.memOk, memOk.protectiveOff, memOk.record]

theorem State.memOk.execSupplySample {v0 v1 i0 i1 : Nat} : (execSupplySample v0 v1 i0 i1 s).Keeps := by
  grind [Machine.execSupplySample, Out.Keeps, State.memOk, memOk.supplyEvent, memOk_foldl]

theorem State.memOk.takeReadings {vals : List (Nat × Int)} : (s.takeReadings vals).memOk := by
  grind [State.takeReadings, State.memOk]

theorem State.memOk.excludeSensors {vals : List (Nat × Int)} : (s.excludeSensors vals).memOk := by
  grind [State.excludeSensors, State.memOk, memOk.records]

theorem State.memOk.alertStep {ticks : Nat} : (s.alertStep ticks).memOk := by
  grind [State.alertStep, State.memOk, memOk.record]

theorem State.memOk.coolStep : s.coolStep.memOk := by
  grind [State.coolStep, State.memOk, memOk.record]

theorem State.memOk.thermShutdown : s.thermShutdown.memOk := by
  grind [State.thermShutdown, memOk.protectiveOff]

theorem State.memOk.hotStep : s.hotStep.memOk := by
  grind [State.hotStep, State.memOk]

theorem State.memOk.chTemps : s.chTemps.memOk := memOk_foldl (fun _ _ h => h.refreshRate.modCh) h _

theorem State.memOk.execSensorReading {vals : List (Nat × Int)} : (execSensorReading vals s).Keeps := by
  grind [Machine.execSensorReading, Out.Keeps, State.memOk, memOk.alertStep, memOk.chTemps, memOk.coolStep,
    memOk.excludeSensors, memOk.hotStep, memOk.takeReadings, memOk.thermShutdown]

theorem State.memOk.capStep {avg : Nat} : (s.capStep avg).memOk := by
  grind [State.capStep, State.memOk, memOk.record]

theorem State.memOk.thermStep {q : Nat} : (s.thermStep q).memOk := by
  grind [State.thermStep, State.memOk]

theorem State.memOk.effStep {q : Nat} : (s.effStep q).memOk := by
  grind [State.effStep, State.memOk]

theorem State.memOk.execPowerEvaluation {avgW : Nat} : (execPowerEvaluation avgW s).Keeps := by
  grind [Machine.execPowerEvaluation, Out.Keeps, State.memOk, memOk.alertStep, memOk.capStep, memOk.effStep,
    memOk.thermStep, memOk_foldl]

end

/-! ### Bring-up (R541 to R550) -/

section

variable {s : State} (h : s.memOk) {n : Nat}
include h

theorem State.memOk.romStep2 : s.romStep2.memOk := by
  grind [State.romStep2, State.memOk]

theorem State.memOk.addEligible {ds : List Nat} : (s.addEligible ds).memOk := h

theorem State.memOk.enterRecovery : s.enterRecovery.memOk := by
  grind [State.enterRecovery, State.memOk, memOk.addEligible]

theorem State.memOk.runImage : s.runImage.memOk := by
  grind [State.runImage, State.memOk]

theorem State.memOk.execBootRom {imageReads itemsRead : Bool} : (execBootRom imageReads itemsRead s).Keeps := by
  grind [Machine.execBootRom, Out.Keeps, State.memOk, memOk.enterRecovery, memOk.romStep2, memOk.runImage]

theorem State.memOk.execPilotReady : (execPilotReady s).Keeps := by
  grind [Machine.execPilotReady, Out.Keeps, State.memOk, memOk.addEligible, memOk.setReady]

theorem State.memOk.xptUp : s.xptUp.memOk := by
  grind [State.xptUp, State.memOk, memOk.setReady]

theorem State.memOk.lanUp : (s.lanUp n).memOk := by
  grind [State.lanUp, memOk.examine, memOk.loadTable, memOk.modLan, memOk.setReady]

theorem State.memOk.secBundle : s.secBundle.memOk := by
  grind [State.secBundle, State.memOk]

theorem State.memOk.secList : s.secList.memOk := by
  grind [State.secList, State.memOk]

theorem State.memOk.execSecReady : (execSecReady s).Keeps := by
  grind [Machine.execSecReady, Out.Keeps, State.memOk, memOk.lanUp, memOk.secBundle, memOk.secList, memOk.setReady,
    memOk.xptUp, memOk_foldl]

theorem State.memOk.execDomainSwitchOn : (execDomainSwitchOn s).Keeps := by
  grind [Machine.execDomainSwitchOn, Out.Keeps, State.memOk]

theorem State.memOk.startBlocks {d : Nat} : (s.startBlocks d).memOk := by
  grind [State.startBlocks, State.memOk, memOk.modCh, memOk.modTc, memOk.setLan, memOk_foldl]

theorem State.memOk.execDomainPowered {d : Nat} : (execDomainPowered d s).Keeps := by
  grind [Machine.execDomainPowered, Out.Keeps, State.memOk, memOk.finish, memOk.startBlocks]

theorem State.memOk.lanFails {code bank row : Nat} : (s.lanFails n code bank row).memOk := h.modLan.lanBist

theorem State.memOk.execLanternSelftestEnd {code bank row : Nat} {badArrays : List Nat} :
    (execLanternSelftestEnd n code bank row badArrays s).Keeps := by
  grind [Machine.execLanternSelftestEnd, Out.Keeps, State.memOk, memOk.badArrays, memOk.lanFails, memOk.lanUp,
    memOk.modLan, memOk.spareRequest]

theorem State.memOk.tcFails {t code : Nat} : (s.tcFails t code).memOk := by
  grind [State.tcFails, State.memOk, memOk.modTc, memOk.record]

theorem State.memOk.execTileCacheSelftestEnd {t code : Nat} : (execTileCacheSelftestEnd t code s).Keeps := by
  grind [Machine.execTileCacheSelftestEnd, Out.Keeps, State.memOk, memOk.addEligible, memOk.modEng, memOk.modTc,
    memOk.setReady, memOk.tcFails, memOk_foldl]

theorem State.memOk.execCopyEngineSelftestEnd {e : Nat} {pass : Bool} :
    (execCopyEngineSelftestEnd e pass s).Keeps := by
  grind [Machine.execCopyEngineSelftestEnd, Out.Keeps, State.memOk, memOk.examine, memOk.modEng, memOk.record,
    memOk.setReady]

theorem State.memOk.execCirrusInitEnd : (execCirrusInitEnd s).Keeps := by
  grind [Machine.execCirrusInitEnd, Out.Keeps, State.memOk, memOk.setReady]

theorem State.memOk.domainFails {d : Nat} : (s.domainFails d).memOk := by
  grind [State.domainFails, State.memOk, memOk.draw, memOk.finish, memOk.record]

theorem State.memOk.execBringupLimitExpiry {ph : BringupPhase} : (execBringupLimitExpiry ph s).Keeps := by
  cases ph <;> grind [Machine.execBringupLimitExpiry, Out.Keeps, State.memOk, memOk.domainFails, memOk.draw,
    memOk.enterRecovery, memOk.lanFails, memOk.record, memOk.romStep2, memOk.tcFails, memOk.trainFailed]

end

/-! ### Chains (R119 to R147) -/

section

variable {s : State} (h : s.memOk) {n : Nat}
include h

theorem State.memOk.readDesc {n a : Nat} : (s.readDesc n a).Keeps fun _ => True :=
  .ite (fun _ => h) fun _ => .ite (fun _ => h.poisoned) fun _ => trivial

theorem State.memOk.chainQueued {st : Nat} {insn : Word} {op : MqOp} {rs : List Rng} {ok : Bool}
    {f : Wick → Wick} : Run.Keeps State.memOk (if st = 0 then do
      s.guardRanges n rs
      s.await ok
      .ok (((s.mqEnter n insn op).modWick n f).complete n 8)
    else .ok ((s.modWick n f).complete n 8)) :=
  .ite (fun _ => .bind h.guardRanges fun _ _ => .bind h.await fun _ _ => h.mqEnter.modWick.complete)
    fun _ => h.modWick.complete

theorem State.memOk.execHchain {w : LongWord} : (execHchain n w s).Keeps := by
  refine h.runWick (.bind h.need fun _ _ => .ite (fun _ => .bind h.guardRanges fun _ _ => ?_) fun _ => ?_)
  · exact .bind h.readDesc fun _ _ => h.chainQueued
  · exact .bind h.readDesc fun _ _ => h.chainQueued

theorem State.memOk.execChainStart : (execChainStart n s).Keeps := by
  grind [Machine.execChainStart, Out.Keeps, State.memOk, memOk.setLan]

theorem State.memOk.chainSub {n m : Nat} {o : ChainOps} {k : Nat} {runs : List (List CellUpset × Bool)} :
    (State.chainSub n m o k runs s).1.memOk := by
  induction k generalizing s runs with
  | zero => exact h
  | succ k ih => grind [State.chainSub, memOk.stablePair, memOk.quarantineArr]

theorem State.memOk.chainTile {n : Nat} {u : ChainUpset} {o : ChainOps} : (s.chainTile n u o).1.memOk := by
  grind [State.chainTile, memOk.chainSub, memOk.quarantineArr, memOk.recomputePassed, memOk.stablePair]

theorem State.memOk.chainRow {c : ChainD} {i : Nat} {poison : Bool} {els scales : List Nat} {stat : FV × FV} :
    (s.chainRow n c i poison els scales stat).memOk := by
  grind [State.chainRow, memOk.draw, memOk.modLan]

end

theorem State.memOk.runTiles {x : ChainSt} (h : x.s.memOk) {n : Nat} {q : ChainGeo} {ups :
    List ChainUpset} {prod2 : Bool}
    {block tile fa fb k : Nat} {as bs : List (List (List FV))} :
    (x.runTiles n q ups prod2 block tile fa fb k as bs).1.s.memOk := by
  unfold ChainSt.runTiles
  refine List.foldlRecOn (motive := fun acc : ChainSt × List ((Nat × Nat) × (Arr × List CellUpset)) =>
    acc.1.s.memOk) _ _ h
    fun acc hacc id _ => ?_
  grind [memOk.chainTile]

theorem State.memOk.endRow {x : ChainSt} (h : x.s.memOk) {c : ChainD} {l : Lantern} {q : ChainGeo} {n i :
    Nat} {r : RowRun} :
    (c.endRow l q n i r x).s.memOk := h.chainRow

theorem State.memOk.runTile {c : ChainD} {l : Lantern} {q : ChainGeo} {n b : Nat} {ups : List ChainUpset}
    {as b1 b2 : List (List (List FV))} {t : Nat} {acc : ChainSt × List RowRun} (h : acc.1.s.memOk) :
    (c.runTile l q n b ups as b1 b2 t acc).1.s.memOk := by
  unfold ChainD.runTile
  split
  · exact h.runTiles.runTiles
  · exact h.runTiles

theorem State.memOk.runChain {s : State} (h : s.memOk) {n : Nat} {c : ChainD} {ups : List ChainUpset} :
    (s.runChain n c ups).s.memOk := by
  unfold State.runChain
  refine List.foldlRecOn (motive := fun x : ChainSt => x.s.memOk) _ _ h fun x hx b _ => ?_
  dsimp only
  split
  · exact hx
  · generalize hy : List.foldl _ (x, _) (List.range _) = y
    have hyOk : y.1.s.memOk := by
      rw [← hy]
      refine List.foldlRecOn (motive := fun acc : ChainSt × List RowRun => acc.1.s.memOk) _ _ hx fun acc hacc t _ => ?_
      split
      exacts [hacc, hacc.runTile]
    split
    · exact hyOk
    · exact List.foldlRecOn (motive := fun x : ChainSt => x.s.memOk) _ _ hyOk fun x hx p _ => hx.endRow

section

variable {s : State} (h : s.memOk) {n : Nat}
include h

theorem State.memOk.execChainComplete {ups : List ChainUpset} : (execChainComplete n ups s).Keeps := by
  grind [Machine.execChainComplete, Out.Keeps, memOk.runChain, memOk.modLan]

end

/-! ### Messages of peers and fetches (R336 to R355) -/

section

variable {s : State} (h : s.memOk) {n : Nat}
include h

theorem State.memOk.takeCir {t : State} {d : Nat} {p : DpOp → Bool} (ht : s.takeCir d p = some t) : t.memOk := by
  grind [State.takeCir, memOk.setCon]

theorem State.memOk.onCir {d : Nat} {msg : Nat} {vpn : Nat} {f : State → State}
    (hf : ∀ s, s.memOk → (f s).memOk) : (s.onCir d msg vpn f).memOk := by
  grind [State.onCir, memOk.takeCir]

theorem State.memOk.fetchPart {e : Pte} {f : Fetch} {i : Nat} {data : List Byte} {pmap : BitVec 64} :
    (s.fetchPart e f i data pmap).memOk := by
  grind [State.fetchPart, memOk.granWritten, memOk.pageWrite]

theorem State.memOk.subArrives {vpn sub : Nat} {e : Pte} {f : Fetch} : (s.subArrives vpn sub e f).memOk := by
  grind [State.subArrives, memOk.failFetch, memOk.fetchDone, memOk.fetchPart, memOk.record, memOk.setFetch,
    memOk.wakePage, memOk_foldl]

theorem State.memOk.execSubPageArrival {vpn sub : Nat} : (execSubPageArrival vpn sub s).Keeps := by
  grind [Machine.execSubPageArrival, Out.Keeps, State.memOk, memOk.subArrives]

theorem State.memOk.execFetchSlow {vpn : Nat} : (execFetchSlow vpn s).Keeps := by
  grind [Machine.execFetchSlow, Out.Keeps, State.memOk, memOk.record, memOk.setFetch]

theorem State.memOk.execFetchFail {vpn : Nat} : (execFetchFail vpn s).Keeps := by
  grind [Machine.execFetchFail, Out.Keeps, State.memOk, memOk.failFetch, memOk.record]

theorem State.memOk.execFetchRetry : (execFetchRetry s).Keeps := by
  grind [Machine.execFetchRetry, Out.Keeps, State.memOk, memOk.fetchRetry]

theorem State.memOk.execPageHoldExpiry {vpn : Nat} : (execPageHoldExpiry vpn s).Keeps := by
  grind [Machine.execPageHoldExpiry, Out.Keeps, State.memOk, memOk.pumpPins]

theorem State.memOk.sealOut {vpn : Nat} {e : Pte} {hostAddr ver : Nat} : (s.sealOut vpn e hostAddr ver).memOk := by
  grind [State.sealOut, memOk.granRead, memOk.sendOp, memOk_foldl]

theorem State.memOk.evict {vpn : Nat} {e : Pte} : (s.evict vpn e).memOk := by
  unfold State.evict
  extract_lets count
  have hcount (s : State) (h : s.memOk) : (count s).memOk := h
  clear_value count
  grind [memOk.cir, memOk.holderDrop, memOk.record, memOk.sealOut, memOk.sendPage, memOk.setPte]

theorem State.memOk.execEviction : (execEviction s).Keeps := by
  grind [Machine.execEviction, Out.Keeps, State.memOk, memOk.evict, memOk.wakeStuck]

theorem State.memOk.execCowCopyComplete {vpn : Nat} : (execCowCopyComplete vpn s).Keeps := by
  grind [Machine.execCowCopyComplete, Out.Keeps, State.memOk, memOk.copyPage, memOk.pumpPins, memOk.setPte,
    memOk.wakeVpn]

theorem State.memOk.execPteQuery {value : Word} : (execPteQuery value s).Keeps := by
  grind [Machine.execPteQuery, Out.Keeps, State.memOk, memOk.pteqWrite]

theorem State.memOk.peerAsk {d vpn : Nat} {r : HomeReq} : (s.peerAsk d vpn r).memOk := by
  grind [State.peerAsk, memOk.cir, memOk.homeAsk]

theorem State.memOk.homeGo {vpn : Nat} : (s.homeGo vpn).memOk := h.homePump

theorem State.memOk.homeAnswered {d vpn : Nat} : (s.homeAnswered d vpn).memOk := by
  grind [State.homeAnswered, memOk.homeGo, memOk.setDir]

theorem State.memOk.execNocopy {d vpn : Nat} : (execNocopy d vpn s).Keeps := by
  grind [Machine.execNocopy, Out.Keeps, State.memOk, memOk.homeAnswered, memOk.onCir, memOk.setDir]

theorem State.memOk.readerDrops {d vpn : Nat} : (s.readerDrops d vpn).memOk := by
  grind [State.readerDrops, memOk.setDir, memOk.setPte, memOk.settlePins]

theorem State.memOk.execWb {d vpn : Nat} : (execWb d vpn s).Keeps := by
  grind [Machine.execWb, Out.Keeps, State.memOk, memOk.onCir, memOk.setDir]

theorem State.memOk.pageReturned {d vpn : Nat} : (s.pageReturned d vpn).memOk := by
  grind [State.pageReturned, memOk.homeAcc, memOk.homeGo, memOk.setDir]

theorem State.memOk.pagePart {d va : Nat} {last : Bool} {pmap : BitVec 64} {data : List Byte} :
    (s.pagePart d va last pmap data).memOk := by
  grind [State.pagePart, memOk.fetchDone, memOk.fetchPart, memOk.granWritten, memOk.pageReturned, memOk.pageWrite,
    memOk.setFetch, memOk.syncPage]

theorem State.memOk.execPage {d va : Nat} {last : Bool} {pmap : BitVec 64} {data : List Byte} :
    (execPage d va last pmap data s).Keeps := by
  grind [Machine.execPage, Out.Keeps, memOk.takeCir, memOk.pagePart]

theorem State.memOk.settle {vpn : Nat} : (s.settle vpn).memOk := by
  grind [State.settle, memOk.fetchDone]

theorem State.memOk.holderAsked {d vpn : Nat} {k : Owed} : (s.holderAsked d vpn k).memOk := by
  grind [State.holderAsked, State.memOk, memOk.cir, memOk.holderAnswer, memOk.settle]

theorem State.memOk.gone {d vpn : Nat} : (s.gone d vpn).memOk := by
  grind [State.gone, State.memOk, memOk.goneNow]

theorem State.memOk.execGrantWithoutData {d vpn : Nat} : (execGrantWithoutData d vpn s).Keeps := by
  grind [Machine.execGrantWithoutData, Out.Keeps, State.memOk, memOk.fetchDone, memOk.onCir]

theorem State.memOk.execMapq {d va size : Nat} : (execMapq d va size s).Keeps := by
  grind [Machine.execMapq, Out.Keeps, memOk.takeCir, memOk.sendOp]

theorem State.memOk.execTranslationFill {vpn : Nat} : (execTranslationFill n vpn s).Keeps := by
  grind [Machine.execTranslationFill, Out.Keeps, State.memOk, memOk.draw, memOk.setLan]

end

/-! ### Snapshots, the beacon and the stream (R425 to R444) -/

section

variable {s : State} (h : s.memOk) {n : Nat}
include h

theorem State.memOk.engPlace {e : Nat} : (s.engPlace e).2.memOk := by
  grind [State.engPlace, memOk.draw]

theorem State.memOk.snapWords {b : Blk} : (s.snapWords b).2.memOk := by
  cases b with
  | copy e => exact h.engPlace
  | _ => exact h

theorem State.memOk.ckLatch : s.ckLatch.memOk := by
  grind [State.ckLatch, State.memOk]

theorem State.memOk.latch {b : Blk} {src : Nat} : (s.latch b src).memOk := by
  grind [State.latch, State.memOk, memOk.ckLatch, memOk.snapWords, memOk.wakeStuck]

theorem State.memOk.execBeaconTreeArrival {b : Nat} : (execBeaconTreeArrival b s).Keeps := by
  grind [Machine.execBeaconTreeArrival, Out.Keeps, State.memOk, memOk.latch]

theorem State.memOk.inputMarked {k : Blk} {b chan : Nat} : (s.inputMarked k b chan).memOk := by
  grind [State.inputMarked, State.memOk, memOk.latch]

theorem State.memOk.inputCounted {k : Blk} {b chan crossed : Nat} : (s.inputCounted k b chan crossed).memOk := by
  grind [State.inputCounted, State.memOk]

theorem State.memOk.execBeaconChannelArrival {b chan crossed : Nat} :
    (execBeaconChannelArrival b chan crossed s).Keeps := by
  grind [Machine.execBeaconChannelArrival, Out.Keeps, State.memOk, memOk.inputCounted, memOk.inputMarked]

theorem State.memOk.ckInject : s.ckInject.memOk := by
  grind [State.ckInject, State.memOk, memOk.inject]

theorem State.memOk.afterCut : s.afterCut.memOk := by
  grind [State.afterCut, memOk.ckInject]

theorem State.memOk.tellCut {valid : Bool} : (s.tellCut valid).memOk := by
  grind [State.tellCut, memOk.finish, memOk.notify]

theorem State.memOk.sendBlob {ep addr : Nat} {bs : List Byte} : (s.sendBlob ep addr bs).memOk :=
  memOk_foldl (fun _ _ h => h.sendOp) h _

theorem State.memOk.ckFinish {c : Ckpt} : (s.ckFinish c).memOk := by
  grind [State.ckFinish, memOk.addEvent, memOk.ckStop, memOk.sendBlob, memOk_foldl]

theorem State.memOk.ckNext : s.ckNext.memOk := by
  grind [State.ckNext, memOk.ckAbort, memOk.ckFinish]

theorem State.memOk.execCutComplete : (execCutComplete s).Keeps := by
  grind [Machine.execCutComplete, Out.Keeps, State.memOk, memOk.addEvent, memOk.afterCut, memOk.ckNext,
    memOk.tellCut, memOk.wakeStuck]

theorem State.memOk.execCutWithdrawn : (execCutWithdrawn s).Keeps := by
  grind [Machine.execCutWithdrawn, Out.Keeps, State.memOk, memOk.afterCut, memOk.ckStop, memOk.record,
    memOk.tellCut, memOk.wakeStuck]

theorem State.memOk.execCheckpointCutCondition : (execCheckpointCutCondition s).Keeps := by
  grind [Machine.execCheckpointCutCondition, Out.Keeps, State.memOk, memOk.ckInject]

theorem State.memOk.ckPageDone {vpn : Nat} : (s.ckPageDone vpn).memOk := by
  grind [State.ckPageDone, State.memOk, memOk.pumpPins, memOk.setPte, memOk.unplace, memOk.wakeStuck, memOk.wakeVpn]

theorem State.memOk.streamPage {c : Ckpt} {vpn : Nat} {i : Nat} : (s.streamPage c vpn i).memOk := by
  unfold State.streamPage
  split
  next str pa d _ _ =>
    have hr : ((ckGrans pa).foldl (fun s g => s.granRead g true) s).memOk := memOk_foldl (fun _ _ h => h.granRead) h _
    generalize (ckGrans pa).foldl (fun s g => s.granRead g true) s = t at hr ⊢
    exact hr.sendBlob.setCkpt.ckPageDone.ckNext
  · exact h

theorem State.memOk.execPageStream : (execPageStream s).Keeps := by
  grind [Machine.execPageStream, Out.Keeps, State.memOk, memOk.ckAbort, memOk.homeAsk, memOk.streamPage]

theorem State.memOk.execTrigger : (execTrigger s).Keeps := by
  grind [Machine.execTrigger, Out.Keeps, State.memOk, memOk.beaconTrigger]

theorem State.memOk.execTriggerRearm : (execTriggerRearm s).Keeps := by
  grind [Machine.execTriggerRearm, Out.Keeps, State.memOk]

theorem State.memOk.execTriggerStuck : (execTriggerStuck s).Keeps := by
  grind [Machine.execTriggerStuck, Out.Keeps, State.memOk]

end

/-! ### Restore (R446) -/

section

variable {s : State} (h : s.memOk) {n : Nat}
include h

theorem State.memOk.setRestore {r : Restore} : (s.setRestore r).memOk := h

theorem State.memOk.askParts {ep addr : Nat} {manifest : Bool} : (s.askParts ep addr n manifest).memOk := by
  grind [State.askParts, memOk.restoreEnd, memOk.sendReq, memOk_foldl]

theorem State.memOk.unback {vpn : Nat} : (s.unback vpn).memOk := by
  grind [State.unback, memOk.breakResvPage, memOk.dropPageLines, memOk.remap, memOk.unplace]

theorem State.memOk.genNow {vpn : Nat} : (s.genNow vpn).memOk := by
  grind [State.genNow, memOk.setPte]

theorem State.memOk.restorePage {vpn : Nat} {data pm : List Byte} : (s.restorePage vpn data pm).memOk := by
  grind [State.restorePage, memOk.backZero, memOk.dvStoreK, memOk.syncPage]

theorem State.memOk.unmove {vpn : Nat} : (s.unmove vpn).memOk := by
  grind [State.unmove, State.memOk, memOk.wakeVpn]

theorem State.memOk.restoreRecord {r : Restore} {m : List Byte} : (s.restoreRecord r m).memOk := by
  grind [State.restoreRecord, memOk.restorePage, memOk.setRestore, memOk.unmove]

theorem State.memOk.restoreN {k : Nat} {p : CmdPkt} {m : List Byte} : (State.restoreN k p m s).memOk := by
  induction k generalizing s with
  | zero => exact h
  | succ k ih =>
    have hg (xs : List Nat) : (xs.foldl (fun s i => s.genNow (mfEntry m i).1) s).memOk :=
      memOk_foldl (fun _ _ h => h.genNow) h xs
    unfold State.restoreN
    grind [State.memOk, memOk.setRestore, memOk.homeAsk, memOk.unback, memOk.unmove, memOk.askParts,
      memOk.restoreRecord]

theorem State.memOk.restorePump : s.restorePump.memOk := by
  grind [State.restorePump, memOk.restoreN, memOk.setRestore]

theorem State.memOk.restorePart {manifest : Bool} {i : Nat} {bs : List Byte} :
    (s.restorePart manifest i bs).memOk := by
  grind [State.restorePart, memOk.restorePump, memOk.setRestore]

end

/-! ### Transport (R448 to R470) -/

section

variable {s : State} (h : s.memOk) {n : Nat}
include h

theorem State.memOk.execBlockLockGained {lane : Nat} : (execBlockLockGained lane s).Keeps := by
  grind [Machine.execBlockLockGained, Out.Keeps, State.memOk]

theorem State.memOk.execBlockLockLost {lane : Nat} : (execBlockLockLost lane s).Keeps := by
  grind [Machine.execBlockLockLost, Out.Keeps, State.memOk]

theorem State.memOk.execLinkUp : (execLinkUp s).Keeps := by
  grind [Machine.execLinkUp, Out.Keeps, State.memOk, memOk.setReady, memOk.xptUp]

theorem State.memOk.execLinkDown : (execLinkDown s).Keeps := by
  grind [Machine.execLinkDown, Out.Keeps, State.memOk]

theorem State.memOk.execLinkDownTimeout : (execLinkDownTimeout s).Keeps := by
  grind [Machine.execLinkDownTimeout, Out.Keeps, State.memOk, memOk.loseConduit, memOk_foldl]

theorem State.memOk.emitFrame {cid : Option Nat} {bs : List Byte} : (s.emitFrame cid bs).memOk := h

theorem State.memOk.emit {cid : Nat} {typ : Byte} {psn : Word} {ece retx : Bool} {payload : List Byte} :
    (s.emit cid typ psn ece retx payload).memOk := by
  grind [State.emit, memOk.emitFrame, memOk.setCon]

theorem State.memOk.emitAck {cid : Nat} : (s.emitAck cid).memOk := by
  grind [State.emitAck, memOk.draw, memOk.emit, memOk.setCon]

theorem State.memOk.emitPkt {cid : Nat} {t : TxPkt} : (s.emitPkt cid t).memOk := by
  grind [State.emitPkt, memOk.emit, memOk.setCon]

theorem State.memOk.execPacketTransmit : (execPacketTransmit s).Keeps := by
  grind [Machine.execPacketTransmit, Out.Keeps, State.memOk, memOk.emitAck, memOk.emitPkt]

theorem State.memOk.execAckTimer {cid : Nat} : (execAckTimer cid s).Keeps := by
  grind [Machine.execAckTimer, Out.Keeps, State.memOk, memOk.setCon]

theorem State.memOk.execRetransmitTimeout {cid : Nat} : (execRetransmitTimeout cid s).Keeps := by
  grind [Machine.execRetransmitTimeout, Out.Keeps, State.memOk, memOk.loseConduit, memOk.setCon]

theorem State.memOk.execRateIncrease {cid : Nat} : (execRateIncrease cid s).Keeps := by
  grind [Machine.execRateIncrease, Out.Keeps, State.memOk, memOk.setCon]

theorem State.memOk.dropHdr : s.dropHdr.memOk := h

theorem State.memOk.respond {cid : Nat} {op status : Byte} {rid : Word} {opnd : Option Dword} {pmap : BitVec 64}
    {data : List Byte} :
    (s.respond cid op status rid opnd pmap data).memOk := by
  grind [State.respond, memOk.draw, memOk.sendOp]

theorem State.memOk.deliverOp {cid : Nat} {b : List Byte} : (s.deliverOp cid b).memOk := by
  grind [State.deliverOp, memOk.dropHdr, memOk.modCon, memOk.respond]

theorem State.memOk.deliver {cid : Nat} {typ : Byte} {payload : List Byte} : (s.deliver cid typ payload).memOk := by
  grind [State.deliver, State.memOk, memOk.deliverOp, memOk.modCon]

theorem State.memOk.drainReorder {k cid : Nat} : (State.drainReorder k cid s).memOk := by
  induction k generalizing s with
  | zero => exact h
  | succ k ih => grind [State.drainReorder, memOk.setCon, memOk.deliver]

theorem State.memOk.sequence {cid : Nat} {psn : Word} {typ : Byte} {payload : List Byte} :
    (s.sequence cid psn typ payload).memOk := by
  grind [State.sequence, State.memOk, memOk.deliver, memOk.drainReorder, memOk.modCon, memOk.setCon]

theorem State.memOk.fecSeen {p : Packet} : (s.fecSeen p).memOk := h

theorem State.memOk.receive {p : Packet} : (s.receive p).memOk := by
  grind [State.receive, State.memOk, memOk.dropHdr, memOk.fecSeen, memOk.sequence, memOk.setCon]

theorem State.memOk.execDataPacket {p : Packet} : (execDataPacket p s).Keeps := by
  grind [Machine.execDataPacket, Out.Keeps, State.memOk, memOk.receive]

theorem State.memOk.execAck {p : Packet} : (execAck p s).Keeps := by
  grind [Machine.execAck, Out.Keeps, State.memOk, memOk.receive]

theorem State.memOk.icmp {mac : BitVec 48} {dst : BitVec 128} {hops typ code : Nat} {body : List Byte} :
    (s.icmp mac dst hops typ code body).memOk := by
  grind [State.icmp, memOk.emitFrame]

theorem State.memOk.execNeighborSolicitation {target src : BitVec 128} {mac : BitVec 48} :
    (execNeighborSolicitation target src mac s).Keeps := by
  grind [Machine.execNeighborSolicitation, Out.Keeps, State.memOk, memOk.dropHdr, memOk.icmp, memOk.target]

theorem State.memOk.execEchoRequest {dst src : BitVec 128} {mac : BitVec 48} {body : List Byte} :
    (execEchoRequest dst src mac body s).Keeps := by
  grind [Machine.execEchoRequest, Out.Keeps, State.memOk, memOk.dropHdr, memOk.icmp]

theorem State.memOk.opDone {cid k : Nat} : (s.opDone cid k).memOk := h.modCon

theorem State.memOk.unmapped {cid k : Nat} {o : DpOp} : (s.unmapped cid k o).memOk := by
  grind [State.unmapped, memOk.opDone, memOk.respond]

theorem State.memOk.doRead {cid k : Nat} {o : DpOp} : (s.doRead cid k o).memOk := by
  grind [State.doRead, memOk.dvLoadLines, memOk.opDone, memOk.respond, memOk.touchRange, memOk.unmapped]

theorem State.memOk.execRead {cid k : Nat} : (execRead cid k s).Keeps := by
  grind [Machine.execRead, Out.Keeps, State.memOk, memOk.doRead]

theorem State.memOk.recovWrite {a : Nat} {bs : List Byte} {bad : Nat → Bool} : (s.recovWrite a bs bad).memOk := h

theorem State.memOk.doWrite {cid k : Nat} {o : DpOp} : (s.doWrite cid k o).memOk := by
  grind [State.doWrite, memOk.dvStoreK, memOk.opDone, memOk.recovWrite, memOk.touchRange, memOk.unmapped]

theorem State.memOk.execWrite {cid k : Nat} : (execWrite cid k s).Keeps := by
  grind [Machine.execWrite, Out.Keeps, State.memOk, memOk.doWrite]

theorem State.memOk.execFlush {cid k : Nat} : (execFlush cid k s).Keeps := by
  grind [Machine.execFlush, Out.Keeps, State.memOk, memOk.opDone, memOk.respond, memOk.unmapped]

theorem State.memOk.execDoorbell {cid k : Nat} : (execDoorbell cid k s).Keeps := by
  grind [Machine.execDoorbell, Out.Keeps, State.memOk, memOk.opDone, memOk.ringBell, memOk.unmapped]

theorem State.memOk.execEventAdd {cid k : Nat} : (execEventAdd cid k s).Keeps := by
  grind [Machine.execEventAdd, Out.Keeps, State.memOk, memOk.addEvent, memOk.opDone, memOk.unmapped]

theorem State.memOk.answerFa {cid : Nat} {o : DpOp} {st : Byte} {old : Option Dword} :
    (s.answerFa cid o st old).memOk := by
  grind [State.answerFa, memOk.respond, memOk.xrqEnd]

theorem State.memOk.execFetchAdd {cid k : Nat} : (execFetchAdd cid k s).Keeps := by
  grind [Machine.execFetchAdd, Out.Keeps, State.memOk, memOk.answerFa, memOk.fetchAdd, memOk.opDone, memOk.unmapped]

theorem State.memOk.execHread {h : Nat} {addr : Dword} {len : Nat} : (execHread h addr len s).Keeps := by
  grind [Machine.execHread, Out.Keeps, State.memOk, memOk.sendReq]

theorem State.memOk.execHwrite {h : Nat} {addr : Dword} {data : List Byte} {pmap : BitVec 64} :
    (execHwrite h addr data pmap s).Keeps := by
  grind [Machine.execHwrite, Out.Keeps, State.memOk, memOk.sendOp]

theorem State.memOk.matchReq {cid k : Nat} {o : DpOp} {op : Byte} : (s.matchReq cid k o op).1.memOk := by
  grind [State.matchReq, State.memOk, memOk.modCon, memOk.opDone]

theorem State.memOk.execReadResponse {cid k : Nat} : (execReadResponse cid k s).Keeps := by
  grind [Machine.execReadResponse, Out.Keeps, State.memOk, memOk.matchReq]

theorem State.memOk.execFlushResponse {cid k : Nat} : (execFlushResponse cid k s).Keeps := by
  grind [Machine.execFlushResponse, Out.Keeps, State.memOk, memOk.matchReq]

theorem State.memOk.execFetchAddResponse {cid k : Nat} : (execFetchAddResponse cid k s).Keeps := by
  grind [Machine.execFetchAddResponse, Out.Keeps, State.memOk, memOk.matchReq, memOk.xrqEnd]

theorem State.memOk.sealedPart {vpn part : Nat} {bs : List Byte} {pmap : BitVec 64} :
    (s.sealedPart vpn part bs pmap).memOk := by
  grind [State.sealedPart, memOk.setFetch]

theorem State.memOk.execHreadResponse {cid k : Nat} : (execHreadResponse cid k s).Keeps := by
  grind [Machine.execHreadResponse, Out.Keeps, State.memOk, memOk.matchReq, memOk.restoreEnd, memOk.restorePart,
    memOk.sealedPart]

theorem State.memOk.execRemoteRequest {value : Word} : (execRemoteRequest n value s).Keeps := by
  grind [Machine.execRemoteRequest, Out.Keeps, State.memOk, memOk.xrqWrite]

end

/-! ### Handshakes (R509 to R513) -/

section

variable {s : State} (h : s.memOk) {n : Nat}
include h

theorem State.memOk.emitHs {cid : Nat} {m : List Byte} : (s.emitHs cid m).memOk := by
  grind [State.emitHs, memOk.emitFrame]

theorem State.memOk.openConduit {cid : Nat} {h : Hs} {other idkey : List Byte} {anon : Bool} {finish : List Byte} :
    (s.openConduit cid h other idkey anon finish).memOk := by
  grind [State.openConduit, memOk.finish, memOk.loseConduit, memOk.setCon]

theorem State.memOk.startAnswer {cid : Nat} {msg : List Byte} : (s.startAnswer cid msg).memOk := by
  grind [State.startAnswer, State.memOk, memOk.emitHs, memOk.setCon]

theorem State.memOk.execHello {cid : Nat} {msg : List Byte} : (execHello cid msg s).Keeps := by
  grind [Machine.execHello, Out.Keeps, State.memOk, memOk.dropHdr, memOk.emitHs, memOk.startAnswer]

theorem State.memOk.execFinish {cid : Nat} {msg : List Byte} : (execFinish cid msg s).Keeps := by
  grind [Machine.execFinish, Out.Keeps, State.memOk, memOk.dropHdr, memOk.finish, memOk.openConduit]

theorem State.memOk.execAnswerResend {cid : Nat} : (execAnswerResend cid s).Keeps := by
  grind [Machine.execAnswerResend, Out.Keeps, State.memOk, memOk.emitHs]

theorem State.memOk.dropHs {cid : Nat} : (s.dropHs cid).memOk := by
  grind [State.dropHs, memOk.modCon]

theorem State.memOk.execHandshakeAbandon {cid : Nat} : (execHandshakeAbandon cid s).Keeps := by
  grind [Machine.execHandshakeAbandon, Out.Keeps, State.memOk, memOk.dropHs]

theorem State.memOk.startHello {cid : Nat} : (s.startHello cid).memOk := by
  grind [State.startHello, State.memOk, memOk.emitHs, memOk.setCon]

theorem State.memOk.answerFails {cid : Nat} : (s.answerFails cid).memOk := by
  grind [State.answerFails, memOk.finish, memOk.modCon]

theorem State.memOk.execAnswer {cid : Nat} {msg : List Byte} : (execAnswer cid msg s).Keeps := by
  grind [Machine.execAnswer, Out.Keeps, State.memOk, memOk.answerFails, memOk.dropHdr, memOk.emitHs,
    memOk.openConduit]

theorem State.memOk.execHelloResend {cid : Nat} : (execHelloResend cid s).Keeps := by
  grind [Machine.execHelloResend, Out.Keeps, State.memOk, memOk.emitHs]

end

/-! ### Moves of pages (R316, R402, R412) -/

section

variable {s : State} (h : s.memOk) {n : Nat}
include h

theorem State.memOk.readObj {va len : Nat} : (s.readObj va len).1.memOk := by
  grind [State.readObj, memOk.touchRange]

theorem State.memOk.setSeat {vpn : Nat} {k : SeatKind} {e : Pte} : (s.setSeat vpn k e).memOk := by
  cases k <;> grind [State.setSeat, State.memOk, memOk.remap, memOk.setFetch]

theorem State.memOk.withRec {vpn : Nat} {k : SeatKind} {e : Pte} : (s.withRec vpn k e).1.memOk := by
  grind [State.withRec, State.memOk, memOk.setSeat]

theorem State.memOk.dropGran {g : Nat} : (s.dropGran g).memOk := by
  grind [State.dropGran, State.memOk]

theorem State.memOk.rehome {vpn : Nat} {k : SeatKind} {e : Pte} : (s.rehome vpn k e).memOk := by
  grind [State.rehome, State.memOk, memOk.breakResvPage, memOk.copyPage, memOk.dropPageLines, memOk.seat,
    memOk.setSeat, memOk.syncPage, memOk.unplace]

theorem State.memOk.moveUse {hit : Nat → Bool} {u : Use} : (s.moveUse hit u).memOk := by
  grind [State.moveUse, memOk.dropGran, memOk.granWritten, memOk.physMove, memOk.placeOne, memOk.rehome,
    memOk.withRec]

theorem State.memOk.moveAll {hit : Nat → Bool} : (s.moveAll hit).memOk := memOk_foldl (fun _ _ h => h.moveUse) h _

theorem State.memOk.foundUe {reads : Bool} {hit : Nat → Bool} {pas : List Nat} : (s.foundUe reads hit pas).1.memOk :=
  List.foldlRecOn (motive := fun acc : State × Nat => acc.1.memOk) _ _ h fun _ hacc _ _ => hacc.draw.rebuildUnit.record

theorem State.memOk.holdPages {vs : List Nat} : (s.holdPages vs).memOk := by
  grind [State.holdPages, State.memOk]

theorem State.memOk.unholdPages {vs : List Nat} : (s.unholdPages vs).memOk := by
  grind [State.unholdPages, State.memOk, memOk.pumpPins, memOk.wakeVpn, memOk_foldl]

theorem State.memOk.unholdAll : s.unholdAll.memOk := h.unholdPages

theorem State.memOk.restrength {vpn p : Nat} : (s.restrength vpn p).memOk := by
  grind [State.restrength, memOk.modPl, memOk.placeOne, memOk.setPte, memOk.syncPage, memOk.unplace, memOk.withRec,
    memOk_foldl]

theorem State.memOk.emptyPpn {ppn : Nat} : (s.emptyPpn ppn).memOk := by
  grind [State.emptyPpn, State.memOk, memOk.moveAll, memOk.rehome, memOk_foldl]

end

/-! ### Memory commands (R342 to R346, R402, R412 to R414) -/

section

variable {s : State} (h : s.memOk) {n : Nat}
include h

theorem State.memOk.allocate {base : Nat} {a : Alloc} : (s.allocate base a).memOk := by
  grind [State.allocate, State.memOk]

theorem State.memOk.allocLast {p : CmdPkt} {kind : HomeKind} {str : Nat} : (s.allocLast p kind str).1.memOk := by
  grind [State.allocLast, memOk.allocate]

theorem State.memOk.allocOwn {p : CmdPkt} : (s.allocOwn p).1.memOk := by
  grind [State.allocOwn, memOk.allocLast, memOk.sendOp]

theorem State.memOk.finishWith {r : State × CmdRes} (hr : r.1.memOk) : (s.finishWith r).memOk := by
  unfold State.finishWith
  split
  exacts [memOk.finish hr, h]

theorem State.memOk.execMapa {d va str status : Nat} : (execMapa d va str status s).Keeps := by
  grind [Machine.execMapa, Out.Keeps, State.memOk, memOk.allocLast, memOk.finish, memOk.finishWith, memOk.takeCir]

theorem State.memOk.freeCopy {vpn : Nat} {e : Pte} : (s.freeCopy vpn e).memOk := by
  grind [State.freeCopy, memOk.cir, memOk.dropFetch, memOk.holderDrop, memOk.sendPage]

theorem State.memOk.keepFrozen {vpn : Nat} {e : Pte} : (s.keepFrozen vpn e).memOk := by
  grind [State.keepFrozen, State.memOk, memOk.copyPage, memOk.modPl, memOk.unplace]

theorem State.memOk.goneAll {vpn : Nat} : (s.goneAll vpn).memOk := by
  grind [State.goneAll, State.memOk, memOk.cir, memOk_foldl]

theorem State.memOk.freePageOf {vpn : Nat} : (s.freePageOf vpn).memOk := by
  grind [State.freePageOf, State.memOk, memOk.breakResvPage, memOk.dropPageLines, memOk.freeCopy, memOk.goneAll,
    memOk.keepFrozen, memOk.tbDrop, memOk.unplace, memOk.wakeVpn]

theorem State.memOk.dropAlloc {base : Nat} {a : Alloc} : (s.dropAlloc base a).memOk := by
  grind [State.dropAlloc, State.memOk]

theorem State.memOk.freeAll {as : List (Nat × Alloc)} : (s.freeAll as).memOk := by
  grind [State.freeAll, memOk.dropAlloc, memOk.freePageOf, memOk.wakeStuck, memOk_foldl]

theorem State.memOk.freeOwn {p : CmdPkt} : (s.freeOwn p).1.memOk := by
  grind [State.freeOwn, memOk.freeAll, memOk.homeAsk, memOk_foldl]

theorem State.memOk.freeGoesOn {p : CmdPkt} : (s.freeGoesOn p).memOk := by
  grind [State.freeGoesOn, memOk.finish, memOk.freeAll, memOk.homeAsk, memOk_foldl]

theorem State.memOk.execFreeHolderTimeout {d vpn : Nat} : (execFreeHolderTimeout d vpn s).Keeps := by
  grind [Machine.execFreeHolderTimeout, Out.Keeps, State.memOk, memOk.await, memOk.freeGoesOn, memOk.homeAnswered,
    memOk.record]

theorem State.memOk.allocStrength {base p : Nat} {a : Alloc} : (s.allocStrength base p a).memOk := by
  grind [State.allocStrength, State.memOk]

theorem State.memOk.strengthOwn {p : CmdPkt} : (s.strengthOwn p).1.memOk := by
  grind [State.strengthOwn, memOk.allocStrength, memOk.holdPages, memOk_foldl]

theorem State.memOk.strengthEnds {p : CmdPkt} : (s.strengthEnds p).memOk := by
  grind [State.strengthEnds, memOk.allocStrength, memOk.finish, memOk.holdPages, memOk.restrength, memOk.unholdAll,
    memOk.unholdPages, memOk_foldl]

theorem State.memOk.retirePageOwn {p : CmdPkt} : (s.retirePageOwn p).1.memOk := by
  grind [State.retirePageOwn, memOk.holdPages]

theorem State.memOk.retirePageEnds {p : CmdPkt} {found : List Nat} : (s.retirePageEnds p found).memOk := by
  grind [State.retirePageEnds, State.memOk, memOk.emptyPpn, memOk.finish, memOk.foundUe, memOk.record,
    memOk.unholdAll]

theorem State.memOk.retireBankOwn {p : CmdPkt} : (s.retireBankOwn p).1.memOk := by
  grind [State.retireBankOwn, memOk.holdPages, memOk.modCh]

theorem State.memOk.retireBankEnds {p : CmdPkt} {found : List Nat} : (s.retireBankEnds p found).memOk := by
  grind [State.retireBankEnds, State.memOk, memOk.finish, memOk.foundUe, memOk.modCh, memOk.moveAll, memOk.record,
    memOk.unholdAll]

theorem State.memOk.mapOutOwn {p : CmdPkt} : (s.mapOutOwn p).1.memOk := by
  grind [State.mapOutOwn, State.memOk, memOk.holdPages, memOk.modCh, memOk.setReady]

theorem State.memOk.mapOutEnds {p : CmdPkt} {found : List Nat} : (s.mapOutEnds p found).memOk := by
  grind [State.mapOutEnds, State.memOk, memOk.finish, memOk.foundUe, memOk.modCh, memOk.moveAll, memOk.record,
    memOk.unholdAll]

theorem State.memOk.marginOwn {p : CmdPkt} : (s.marginOwn p).1.memOk := by
  grind [State.marginOwn, memOk.modCh]

theorem State.memOk.marginEnds {p : CmdPkt} {pins : List Word} : (s.marginEnds p pins).memOk := by
  grind [State.marginEnds, memOk.finish, memOk.modCh]

theorem State.memOk.scrubOwn {p : CmdPkt} : (s.scrubOwn p).1.memOk := by
  grind [State.scrubOwn, State.memOk]

theorem State.memOk.fuseOwn {p : CmdPkt} : (s.fuseOwn p).1.memOk := by
  grind [State.fuseOwn, State.memOk, memOk.modLan, memOk.modTc]

end

/-! ### Security commands (R503 to R508, R519 to R521) -/

section

variable {s : State} (h : s.memOk) {n : Nat}
include h

theorem State.memOk.identifyOwn : s.identifyOwn.1.memOk := by
  grind [State.identifyOwn]

theorem State.memOk.attestOwn {p : CmdPkt} : (s.attestOwn p).1.memOk := by
  grind [State.attestOwn]

theorem State.memOk.claimOwn {p : CmdPkt} : (s.claimOwn p).1.memOk := by
  grind [State.claimOwn, State.memOk]

theorem State.memOk.loseAnon : s.loseAnon.memOk := memOk_foldl (fun _ _ h => h.loseConduit) h _

theorem State.memOk.replyLeaves {h : Nat} : (s.replyLeaves h).memOk := by
  grind [State.replyLeaves, memOk.emitPkt, memOk_foldl]

theorem State.memOk.loseUnlisted : s.loseUnlisted.memOk := by
  grind [State.loseUnlisted, memOk.dropHs, memOk.loseConduit, memOk_foldl]

theorem State.memOk.installList {b cks : List Byte} {idx : Nat} : (s.installList b cks idx).memOk := by
  grind [State.installList, State.memOk, memOk.loseUnlisted]

theorem State.memOk.judgeList {b : List Byte} {poisoned : Bool} : (s.judgeList b poisoned).1.memOk := by
  grind [State.judgeList, memOk.installList]

theorem State.memOk.loadListOwn {p : CmdPkt} : (s.loadListOwn p).1.memOk := by
  grind [State.loadListOwn, memOk.judgeList, memOk.readObj]

theorem State.memOk.openOwn {p : CmdPkt} : (s.openOwn p).1.memOk := by
  grind [State.openOwn, memOk.startHello]

theorem State.memOk.setOwn {p : CmdPkt} : (s.setOwn p).memOk := by
  grind [State.setOwn, State.memOk]

theorem State.memOk.setEntry {p : CmdPkt} {i : Nat} : (s.setEntry p i).memOk := by
  grind [State.setEntry, State.memOk, memOk.loseConduit]

theorem State.memOk.setAddress {p : CmdPkt} : (s.setAddress p).memOk := by
  grind [State.setAddress, State.memOk, memOk.setEntry, memOk.setOwn, memOk_foldl]

theorem State.memOk.addressOwn {p : CmdPkt} : (s.addressOwn p).1.memOk := by
  grind [State.addressOwn]

theorem State.memOk.judgeImage {b : List Byte} {poisoned : Bool} : (s.judgeImage b poisoned).1.memOk := by
  grind [State.judgeImage, State.memOk]

theorem State.memOk.stageOwn {p : CmdPkt} : (s.stageOwn p).1.memOk := by
  grind [State.stageOwn]

theorem State.memOk.stageEnds {p : CmdPkt} : (s.stageEnds p).1.memOk := by
  grind [State.stageEnds, memOk.judgeImage, memOk.readObj]

theorem State.memOk.commitOwn {p : CmdPkt} : (s.commitOwn p).1.memOk := by
  grind [State.commitOwn]

theorem State.memOk.commitEnds : s.commitEnds.memOk := by
  grind [State.commitEnds, State.memOk, memOk.finish]

theorem State.memOk.judgeBundle {b : List Byte} {poisoned : Bool} : (s.judgeBundle b poisoned).1.memOk := by
  grind [State.judgeBundle, State.memOk]

theorem State.memOk.loadTableOwn {p : CmdPkt} : (s.loadTableOwn p).1.memOk := by
  grind [State.loadTableOwn, memOk.judgeBundle, memOk.readObj]

theorem State.memOk.installBundle {b : List Byte} : (s.installBundle b).memOk := by
  grind [State.installBundle, State.memOk, memOk.examine, memOk.loadTable, memOk_foldl]

end

/-! ### Control commands and the end of a command (R476, R483, R491) -/

section

variable {s : State} (h : s.memOk) {n : Nat}
include h

theorem State.memOk.statusOwn : s.statusOwn.1.memOk := by
  grind [State.statusOwn]

theorem State.memOk.readyOwn : s.readyOwn.1.memOk := by
  grind [State.readyOwn]

theorem State.memOk.createOwn {p : CmdPkt} : (s.createOwn p).1.memOk := by
  grind [State.createOwn, memOk.setQueue]

theorem State.memOk.destroyOwn {p : CmdPkt} : (s.destroyOwn p).1.memOk := by
  grind [State.destroyOwn, State.memOk, memOk.examine]

theorem State.memOk.snapshotOwn : s.snapshotOwn.1.memOk := by
  grind [State.snapshotOwn, memOk.beaconTrigger, memOk.inject]

theorem State.memOk.readSnapOwn {p : CmdPkt} : (s.readSnapOwn p).1.memOk := by
  grind [State.readSnapOwn]

theorem State.memOk.checkpointOwn {p : CmdPkt} : (s.checkpointOwn p).1.memOk := by
  grind [State.checkpointOwn, State.memOk]

theorem State.memOk.restoreOwn {p : CmdPkt} : (s.restoreOwn p).1.memOk := by
  grind [State.restoreOwn, State.memOk]

theorem State.memOk.restoreBegins {p : CmdPkt} : (s.restoreBegins p).memOk := h.askParts.restorePump

theorem State.memOk.quarantineOwn {p : CmdPkt} : (s.quarantineOwn p).1.memOk := by
  unfold State.quarantineOwn
  extract_lets kind m n l done
  clear_value done l
  split
  · exact h
  split
  · exact h
  split
  · exact h
  split
  · split
    · exact h
    · refine memOk.examine (memOk.setReady (memOk.setLan ?_))
      exact h
  split
  exacts [h, h]

theorem State.memOk.errReadOwn {p : CmdPkt} : (s.errReadOwn p).1.memOk := by
  grind [State.errReadOwn]

theorem State.memOk.clearLog {upTo : Nat} : (s.clearLog upTo).memOk := by
  grind [State.clearLog, State.memOk]

theorem State.memOk.errClearOwn {p : CmdPkt} : (s.errClearOwn p).1.memOk := by
  grind [State.errClearOwn, memOk.clearLog]

theorem State.memOk.readWords {as : List Nat} : (s.readWords as).1.memOk := by
  induction as generalizing s with
  | nil => exact h
  | cons a as ih => grind [State.readWords, memOk.regRead]

theorem State.memOk.regReadOwn {p : CmdPkt} : (s.regReadOwn p).1.memOk := by
  grind [State.regReadOwn, memOk.readWords]

theorem State.memOk.regWriteOwn {p : CmdPkt} : (s.regWriteOwn p).1.memOk := by
  grind [State.regWriteOwn, State.memOk, memOk.pilotWrite, memOk_foldl]

theorem State.memOk.powerOwn {p : CmdPkt} : (s.powerOwn p).1.memOk := by
  grind [State.powerOwn, State.memOk, memOk.addEligible, memOk.offDomain]

theorem State.memOk.pointOwn {p : CmdPkt} : (s.pointOwn p).1.memOk := by
  grind [State.pointOwn, State.memOk]

theorem State.memOk.capOwn {p : CmdPkt} : (s.capOwn p).1.memOk := by
  grind [State.capOwn, State.memOk]

theorem State.memOk.resetOwn {p : CmdPkt} : (s.resetOwn p).1.memOk := by
  grind [State.resetOwn]

theorem State.memOk.execDeadlineExpiry : (execDeadlineExpiry s).Keeps := by
  grind [Machine.execDeadlineExpiry, Out.Keeps, State.memOk, memOk.dropHs, memOk.finish]

omit h in
theorem State.memOk.endOrWait {r : State × CmdRes} (h : r.1.memOk) : (State.endOrWait r).memOk := by
  obtain ⟨s, st | w⟩ := r
  exacts [memOk.finish h, h]

theorem State.memOk.restoreEnds : s.restoreEnds.memOk := by
  grind [State.restoreEnds, State.memOk, memOk.examine, memOk.finish, memOk.restorePump, memOk.unholdAll]

theorem State.memOk.tableEnds {p : CmdPkt} : (s.tableEnds p).memOk := by
  grind [State.tableEnds, memOk.finish, memOk.installBundle, memOk.loadTableOwn, memOk.endOrWait]

theorem State.memOk.dropClaims {b : Busy} : (s.dropClaims b).memOk := by
  grind [State.dropClaims, State.memOk, memOk.examine, memOk.modCh, memOk.unholdAll]

theorem State.memOk.pilotFault {b : Busy} : (s.pilotFault b).memOk := h.dropClaims.record.finish

theorem State.memOk.workEnds {b : Busy} {x : CompleteIn} : (s.workEnds b x).memOk := by
  unfold State.workEnds
  split
  exacts [h.loadListOwn.endOrWait, h.stageEnds.endOrWait, h.commitEnds, h.freeGoesOn, h.strengthEnds, h.restoreEnds,
    h.retirePageEnds, h.retireBankEnds, h.mapOutEnds, h.tableEnds, h.marginEnds, h]

theorem State.memOk.execCommandCompleted {x : CompleteIn} : (execCommandCompleted x s).Keeps := by
  grind [Machine.execCommandCompleted, Out.Keeps, State.memOk, memOk.pilotFault, memOk.workEnds]

end

/-! ### Customer instructions (R282 to R290) -/

section

variable {s : State} (h : s.memOk) {n : Nat}
include h

theorem State.memOk.ucFault {α : Type} {p : α → Prop} {n slot code i : Nat} :
    Run.Keeps p (s.ucFault n slot code i) := h

theorem State.memOk.ucRecord {code : Nat} : (s.ucRecord n code).memOk := by
  grind [State.ucRecord, State.memOk, memOk.draw, memOk.record]

theorem State.memOk.ucCommit {n : Nat} {w : BaseWord} {u : Uc} :
    (s.ucCommit n w u).Keeps State.memOk :=
  .bind h.enterStores fun _ h => h.modLan.fpComplete

theorem State.memOk.ucOperand {n : Nat} {w : BaseWord} : (s.ucOperand n w).Keeps fun _ => True := by
  unfold State.ucOperand
  split
  · trivial
  next c _ =>
    have hr : (s.readReg n c).Keeps fun _ => True := h.readReg
    grind [Run.Keeps]
  · trivial
  · exact h

end

theorem ucAbort_state (i : Nat) (x : Abort) : (ucAbort i x).state = x.state := by
  match x with
  | .trap _ _ _ _ => rfl
  | .wait _ w => cases w <;> rfl

theorem Run.Keeps.ucAt {α : Type} {p : α → Prop} {x : Run α} (h : x.Keeps p) (i : Nat) : (ucAt i x).Keeps p := by
  cases x with
  | ok a => exact h
  | error x => exact (congrArg State.memOk (ucAbort_state i x)).mpr h

theorem Uc.put_s (u : Uc) (c : Nat) (v : Dword) : (u.put c v).s = u.s := by
  unfold Uc.put
  split <;> rfl

theorem Uc.res_s (u : Uc) (sf : Bool) (rd : Nat) (v : Dword) (f : BitVec 4) : (u.res sf rd v f).s = u.s := by
  cases sf <;> exact u.put_s rd v

theorem Uc.fp_s (u : Uc) (rd : Nat) (x : Nat × Exc) : (u.fp rd x).s = u.s :=
  u.put_s rd _

section
variable {u : Uc} (h : u.s.memOk) {n slot i : Nat}
include h

theorem State.memOk.uc_load {dv : Bool} {a : Dword} {len : Nat} :
    (u.load n slot i dv a len).Keeps fun r => r.2.s.memOk := by
  have hr : (Machine.ucAt i (u.s.reach n dv false false a len)).Keeps State.memOk := h.reach.ucAt i
  have hb (s : State) (h : s.memOk) : (Machine.ucAt i (s.readBuffered n dv a len)).Keeps fun r => r.2.memOk :=
    h.readBuffered.ucAt i
  grind [Uc.load, Run.Keeps, memOk.ucFault]

theorem State.memOk.uc_store {dv : Bool} {a : Dword} {bs : List Byte} :
    (u.store n i dv a bs).Keeps fun u => u.s.memOk := by
  have hr : (Machine.ucAt i (u.s.reach n dv false true a bs.length)).Keeps State.memOk := h.reach.ucAt i
  grind [Uc.store, Run.Keeps]

theorem State.memOk.uc_micro {w : Nat} : (u.micro n slot i w).Keeps fun u => u.s.memOk := by
  unfold Uc.micro
  extract_lets rd a b sf dv sz len imm old nz shift code m ctx
  split <;>
    grind [Run.Keeps, Uc.put_s, Uc.res_s, Uc.fp_s, memOk.uc_load, memOk.uc_store]

theorem State.memOk.ucGo {z : UcUpset} {cuts : Bool} {ws : List (Nat × Nat)} {k : Nat} :
    (Machine.ucGo n slot z cuts ws k u).Keeps fun
      | .commit u => u.s.memOk
      | .discard => True := by
  induction ws generalizing u k with
  | nil => exact h
  | cons w ws ih =>
    cases k with
    | succ k => exact ih h
    | zero =>
      have hm : (u.micro n slot w.1 w.2).Keeps fun u => u.s.memOk := h.uc_micro
      have hf : Run.Keeps (fun
        | .commit u => u.s.memOk
        | .discard => True) ((u.s.ucRecord n 1).ucFault n slot 1 w.1 : Run UcEnd) := h.ucRecord.ucFault
      unfold Machine.ucGo
      grind [Run.Keeps]

end

section

variable {s : State} (h : s.memOk) {n : Nat}
include h

theorem State.memOk.execCustomerInstruction {slot : BitVec 5} {w : BaseWord} {z : UcUpset} :
    (execCustomerInstruction n slot w z s).Keeps := by
  refine h.runWick (.ite (fun _ => h) fun _ => .ite (fun _ => h.ucRecord.modLan.ucFault) fun _ =>
    .bind h.need fun _ _ => .bind h.ucOperand fun x _ => ?_)
  have hgo (cuts : Bool) (ws : List (Nat × Nat)) (u : Uc) (hu : u.s.memOk) :=
    hu.ucGo (n := n) (slot := slot.toNat) (z := z) (cuts := cuts) (ws := ws) (k := 0)
  dsimp only
  split
  next x heq => exact (heq ▸ hgo _ _ _ h :)
  next u heq => exact memOk.ucCommit (heq ▸ hgo _ _ _ h :)
  next => exact h.modLan.boundaryEvent

end

/-! ### Kernel start and copies (R366 to R385) -/

section

variable {s : State} (h : s.memOk) {n : Nat}
include h

theorem State.memOk.startKernel {q : Nat} {idx : Half} {e : List Byte} {ms : List Nat} :
    (s.startKernel q idx e ms).memOk := by
  grind [State.startKernel, State.memOk, memOk.examine, memOk.headStarts, memOk.modLan, memOk_foldl]

theorem State.memOk.execKernelStart : (execKernelStart s).Keeps := by
  grind [Machine.execKernelStart, Out.Keeps, State.memOk, memOk.examine, memOk.startKernel]

theorem State.memOk.moveRuns {e : Nat} {stream : Bool} {rs : List CopyRun} : (s.moveRuns e stream rs).memOk := by
  grind [State.moveRuns, State.memOk, memOk.dvLoadLines, memOk.dvStoreK, memOk_foldl]

theorem State.memOk.zeroRuns {e : Nat} {rs : List CopyRun} : (s.zeroRuns e rs).memOk :=
  memOk_foldl (fun _ _ h => h.dvStoreK) h _

theorem State.memOk.writeRuns {e : Nat} {d : CopyDesc} {rs : List CopyRun} : (s.writeRuns e d rs).memOk := by
  grind [State.writeRuns, State.memOk, memOk.moveRuns, memOk.zeroRuns]

theorem State.memOk.touchRuns {e : Nat} {zero : Bool} {k : Nat} {rs : List CopyRun} :
    (s.touchRuns e zero k rs).1.memOk := by
  induction rs generalizing s k with
  | nil => exact h
  | cons r rs ih => grind [State.touchRuns, memOk.touchRange]

theorem State.memOk.prefetch {e : Nat} {d : CopyDesc} : (s.prefetch e d).1.memOk := by
  refine List.foldlRecOn (motive := fun acc : State × CopyRes => acc.1.memOk) _ _ h fun acc hacc p _ => ?_
  grind [memOk.touch]

theorem State.memOk.touchCopy {e : Nat} {d : CopyDesc} : (s.touchCopy e d).1.memOk := by
  grind [State.touchCopy, State.memOk, memOk.prefetch, memOk.touchRuns]

theorem State.memOk.execCopyEntryStart : (execCopyEntryStart s).Keeps := by
  grind [Machine.execCopyEntryStart, Out.Keeps, State.memOk, memOk.examine, memOk.headStarts, memOk.modEng]

theorem State.memOk.copyRunsBy {e : Nat} {d : CopyDesc} {rs : List CopyRun} : (s.copyRunsBy e d rs).memOk := by
  grind [State.copyRunsBy, State.memOk, memOk.modEng, memOk.writeRuns]

theorem State.memOk.copyEnds {e : Nat} : (s.copyEnds e).memOk := by
  grind [State.copyEnds, State.memOk, memOk.addCevt, memOk.addDone, memOk.examine, memOk.modEng]

theorem State.memOk.execCopyComplete {e : Nat} : (execCopyComplete e s).Keeps := by
  grind [Machine.execCopyComplete, Out.Keeps, State.memOk, memOk.copyEnds, memOk.copyRunsBy, memOk.touchCopy]

theorem State.memOk.execCopyFault {e : Nat} : (execCopyFault e s).Keeps := by
  grind [Machine.execCopyFault, Out.Keeps, State.memOk, memOk.copyRunsBy, memOk.examine, memOk.modEng, memOk.record,
    memOk.stopQueue, memOk.touchCopy, memOk.unmapped]

theorem State.memOk.execResume {q : Nat} : (execResume q s).Keeps := by
  grind [Machine.execResume, Out.Keeps, State.memOk, memOk.resumeQueue]

theorem State.memOk.execRelease {value : Word} : (execRelease value s).Keeps := by
  grind [Machine.execRelease, Out.Keeps, State.memOk, memOk.releaseWrite]

theorem State.memOk.execEvcmdRead {evt : Nat} : (execEvcmdRead evt s).Keeps := by
  grind [Machine.execEvcmdRead, Out.Keeps, State.memOk, memOk.evcmd]

theorem State.memOk.execEvcmdSet {evt : Nat} : (execEvcmdSet evt s).Keeps := by
  grind [Machine.execEvcmdSet, Out.Keeps, State.memOk, memOk.evcmd]

theorem State.memOk.execEvcmdAdd {evt : Nat} : (execEvcmdAdd evt s).Keeps := by
  grind [Machine.execEvcmdAdd, Out.Keeps, State.memOk, memOk.evcmd]

end

/-! ### The statement -/

/-- Every command keeps device memory in canonical form. -/
theorem State.memOk.exec {s : State} (h : s.memOk) (i : Instr) : Out.Keeps (exec i s) := by
  cases i with dsimp only [Machine.exec]
  | loHalfRead _ _ => exact h.execLoHalfRead
  | rateMeasureStart _ => exact h.rateWrite
  | rateMeasureEnd _ => exact h.execRateMeasureEnd
  | stallWatchdog _ _ => exact h.execStallWatchdog
  | stallRepeat _ _ => exact h.execStallRepeat
  | powerEvaluation _ => exact h.execPowerEvaluation
  | errorRecord _ => exact (memOk_foldl (fun _ _ h => h.blockEffect) h _).records
  | readyNotification => exact h.execReadyNotification
  | nanReport _ _ => exact h.execNanReport
  | nanRecordClear _ => exact h.execNanRecordClear
  | mma _ _ =>
    exact h.runWick (.bind h.need fun _ _ => .bind h.guardRanges fun _ _ => .bind h.await fun _ _ => h.mqEnter.complete)
  | mdrain _ _ =>
    exact h.runWick (.bind h.need fun _ _ => .bind h.guardRanges fun _ _ => .bind h.await fun _ _ => h.mqEnter.complete)
  | mfence _ _ => exact h.runWick (.bind h.need fun _ _ => .bind h.awaitFence fun _ _ => h.complete)
  | mcap _ _ => exact h.runWick (.bind h.need fun _ _ => h.modWick.complete)
  | mmaShareComplete _ _ _ _ => exact h.execMmaShareComplete
  | handOff _ _ => exact h.execHandOff
  | tileDrain _ _ _ => exact h.execTileDrain
  | recomputeComplete _ _ _ => exact h.execRecomputeComplete
  | substituteShareComplete _ _ _ => exact h.execSubstituteShareComplete
  | patternSelftestComplete _ _ _ => exact h.execPatternSelftestComplete
  | arrayQuarantineEffect _ _ => exact h.execArrayQuarantineEffect
  | bypassConversion _ _ => exact h.execBypassConversion
  | hchain _ _ => exact h.execHchain
  | chainStart _ => exact h.execChainStart
  | chainComplete _ _ => exact h.execChainComplete
  | vsetl _ _ => exact h.vecOp
  | pwhile _ _ => exact h.vecOp
  | pandPorPxorPandn _ _ _ => exact h.vecOp
  | pcnt _ _ => exact h.vecOp
  | pfirst _ _ => exact h.vecOp
  | vaddVsub _ _ _ => exact h.vecInt
  | vmulVmulh _ _ _ => exact h.vecInt
  | vminVmaxVminuVmaxu _ _ _ => exact h.vecInt
  | vandVorVxor _ _ _ => exact h.vecInt
  | vshlVshrVsra _ _ _ => exact h.vecInt
  | vfaddVfsubVfmul _ _ _ => exact h.vecFp
  | vfminVfmax _ _ _ => exact h.vecFp
  | vfabsVfnegVfsgnj _ _ _ => exact h.vecFp
  | vfmaVfmsVfnmaVfnms _ _ _ => exact h.vecFp
  | vfdivVfsqrt _ _ _ => exact h.vecFp
  | vexpVrecipVrsqrtVlogi _ _ _ => exact h.vecFp
  | vcmp _ _ _ => exact h.vecOp
  | vfcmp _ _ _ => exact h.vecOp
  | vcvt _ _ => exact h.vecOp
  | vmxpack _ _ => exact h.execVmxpack
  | vmxunpack _ _ => exact h.vecOp
  | vwmulVwmulu _ _ _ => exact h.vecOp
  | vfwmulVfwma _ _ _ => exact h.vecOp
  | vdot4Vdot2 _ _ _ => exact h.execVdot4Vdot2
  | reduction _ _ _ => exact h.vecOp
  | vslupVsldn _ _ _ => exact h.vecOp
  | vperm _ _ => exact h.vecOp
  | vcompress _ _ => exact h.execVcompress
  | vmvVbcastViota _ _ _ => exact h.vecOp
  | vsel _ _ => exact h.execVsel
  | vfence _ _ => exact h.runWick (.bind h.need fun _ _ => .bind h.awaitFence fun _ _ => h.complete)
  | vld _ _ => exact h.vload
  | vst _ _ => exact h.vstore
  | vlds _ _ => exact h.vload
  | vsts _ _ => exact h.vstore
  | vgath _ _ => exact h.vload
  | vscat _ _ => exact h.vstore
  | vldseg _ _ => exact h.vload
  | vstseg _ _ => exact h.vstore
  | fpExceptionReport _ => exact h.execFpExceptionReport
  | registerFileError _ _ => exact h.execRegisterFileError
  | getBGetHGetW _ _ _ => exact h.baseOp
  | getD _ _ => exact h.baseOp
  | getSbGetShGetSw _ _ _ => exact h.baseOp
  | getxGety _ _ _ => exact h.baseOp
  | seth _ _ _ => exact h.runWick (.bind h.need fun _ _ => h.modWick.complete)
  | putBPutHPutW _ _ _ => exact h.baseStore
  | putD _ _ => exact h.baseStore
  | putxPuty _ _ _ => exact h.baseStore
  | addAddc _ _ _ => exact h.baseOp
  | subSubb _ _ _ => exact h.baseOp
  | andOrXor _ _ _ => exact h.baseOp
  | cmp _ _ => exact h.baseOp
  | tst _ _ => exact h.baseOp
  | mul _ _ => exact h.baseOp
  | mulhMulhu _ _ _ => exact h.baseOp
  | divDivuRemRemu _ _ _ => exact h.baseOp
  | shlShrSraRol _ _ _ => exact h.baseOp
  | notNeg _ _ _ => exact h.runWick (.bind h.need fun _ _ => h.modWick.complete)
  | clzPopc _ _ _ => exact h.baseOp
  | addxAddy _ _ _ => exact h.baseOp
  | cmpxCmpy _ _ _ => exact h.baseOp
  | br _ _ => exact h.runWick (.bind h.need fun _ _ => h.transferTo)
  | jmp _ _ => exact h.runWick (.bind h.need fun _ _ => .bind h.target fun _ _ => h.transferTo)
  | callCalli _ _ _ => exact h.execCallCalli
  | ret _ _ => exact h.execRet
  | trap _ _ => exact h.runWick (.bind h.need fun _ _ => h.complete.takeEvent)
  | rte _ _ => exact h.execRte
  | kend _ _ => exact h.runWick (.bind h.need fun _ _ => .bind h.awaitFence fun _ _ => h.modLan.kernelDone)
  | hloop _ _ => exact h.execHloop
  | syncI _ _ => exact h.runWick (.bind h.need fun _ _ => .bind h.awaitFence fun _ _ => h.modLan.complete)
  | fence _ _ => exact h.runWick (.bind h.need fun _ _ => .bind h.awaitFence fun _ _ => h.complete)
  | ewait _ _ => exact h.runWick (.bind h.counterOperand fun _ _ => .ite (fun _ => h.complete) fun _ => h)
  | eadd _ _ => exact h.runWick (.bind h.counterOperand fun _ _ => .bind h.await fun _ _ => h.complete.addEvent)
  | msend _ _ => exact h.execMsend
  | mrecv _ _ => exact h.execMrecv
  | messageArrival _ => exact h.execMessageArrival
  | messageAnswer _ => exact h.execMessageAnswer
  | bcopy _ _ => exact h.blkStart
  | bfill _ _ => exact h.blkStart
  | bread _ _ => exact h.blkStart
  | bcomp _ _ => exact h.blkStart
  | bseek _ _ => exact h.blkStart
  | blockIteration _ => exact h.execBlockIteration
  | vblk _ _ => exact h.blkStart
  | loaderWrite _ => exact h.execLoaderWrite
  | lrD _ _ => exact h.runWick (.bind h.need fun _ _ => .bind h.await fun _ _ => .bind h.resvAddr fun _ h =>
      .bind h.readBuffered fun _ h => h.modLan.complete)
  | scD _ _ => exact h.execScD
  | faddDFsubDFmulD _ _ _ => exact h.fpOp
  | fdivD _ _ => exact h.fpOp
  | fsqrtD _ _ => exact h.fpOp
  | fminDFmaxD _ _ _ => exact h.fpOp
  | fcmpD _ _ => exact h.fpOp
  | faddSToFcmpS _ _ _ => exact h.fpOp
  | fcvt _ _ => exact h.runWick (.bind h.need fun _ _ => h.modWick.fpComplete)
  | customerInstruction _ _ _ _ => exact h.execCustomerInstruction
  | storeBufferDrain _ _ => exact h.execStoreBufferDrain
  | instructionRefill _ _ => exact h.execInstructionRefill
  | beatCompareMatch _ => exact h.execBeatCompareMatch
  | svcRequest _ => exact h.execSvcRequest
  | eventEntry _ _ => exact h.execEventEntry
  | machineCheckReport _ => exact h.execMachineCheckReport
  | kernelWatchdog _ => exact h.execKernelWatchdog
  | dramRead _ _ => exact h.execDramRead
  | dramWrite _ _ _ _ => exact h.execDramWrite
  | parityDelta _ _ => exact h.execParityDelta
  | unitRebuild _ _ => exact h.execUnitRebuild
  | rowClose _ _ => exact h.modCh
  | refresh _ _ => exact h.execRefresh
  | channelTrainingPassEnd _ _ _ => exact h.execChannelTrainingPassEnd
  | delayRecentre _ _ => exact h.execDelayRecentre
  | tileCacheAccess _ _ _ _ => exact h.execTileCacheAccess
  | tileCacheFill _ _ => exact h.execTileCacheFill
  | l1Invalidation _ _ => exact h.execL1Invalidation
  | l1InvalidationAck _ => exact h.modTc
  | wayGroupPowerDown _ _ => exact h.execWayGroupPowerDown
  | wayGroupCleanEnd _ _ => exact h.execWayGroupCleanEnd
  | wayGroupPowerUp _ _ => exact h.execWayGroupPowerUp
  | wayGroupOn _ _ => exact h.execWayGroupOn
  | translationFill _ _ => exact h.execTranslationFill
  | subPageArrival _ _ => exact h.execSubPageArrival
  | fetchSlow _ => exact h.execFetchSlow
  | fetchFail _ => exact h.execFetchFail
  | fetchRetry => exact h.execFetchRetry
  | pageHoldExpiry _ => exact h.execPageHoldExpiry
  | eviction => exact h.execEviction
  | cowCopyComplete _ => exact h.execCowCopyComplete
  | pteQuery _ => exact h.execPteQuery
  | rd _ _ => exact h.onCir fun _ h => h.peerAsk
  | wr _ _ => exact h.onCir fun _ h => h.peerAsk
  | inv _ _ => exact h.onCir fun _ h => h.holderAsked
  | invAcknowledgement _ _ => exact h.onCir fun _ h => h.homeAnswered
  | recallR _ _ => exact h.onCir fun _ h => h.holderAsked
  | recallW _ _ => exact h.onCir fun _ h => h.holderAsked
  | wb _ _ => exact h.execWb
  | drop _ _ => exact h.onCir fun _ h => h.readerDrops
  | nocopy _ _ => exact h.execNocopy
  | gone _ _ => exact h.onCir fun _ h => h.gone
  | grantWithoutData _ _ => exact h.execGrantWithoutData
  | mapq _ _ _ => exact h.execMapq
  | mapa _ _ _ _ => exact h.execMapa
  | page _ _ _ _ _ => exact h.execPage
  | kernelStart => exact h.execKernelStart
  | copyEntryStart => exact h.execCopyEntryStart
  | copyComplete _ => exact h.execCopyComplete
  | copyFault _ => exact h.execCopyFault
  | resume _ => exact h.execResume
  | release _ => exact h.execRelease
  | evcmdRead _ => exact h.execEvcmdRead
  | evcmdSet _ => exact h.execEvcmdSet
  | evcmdAdd _ => exact h.execEvcmdAdd
  | scrubRead _ => exact h.execScrubRead
  | flitRefusal _ _ _ _ => exact h.execFlitRefusal
  | spareRemap _ => exact h.execSpareRemap
  | spareSelftestEnd _ _ _ _ _ => exact h.execSpareSelftestEnd
  | fuseRepairEffect _ _ => exact h.execFuseRepairEffect
  | beaconTreeArrival _ => exact h.execBeaconTreeArrival
  | beaconChannelArrival _ _ _ => exact h.execBeaconChannelArrival
  | cutComplete => exact h.execCutComplete
  | cutWithdrawn => exact h.execCutWithdrawn
  | trigger => exact h.execTrigger
  | triggerRearm => exact h.execTriggerRearm
  | triggerStuck => exact h.execTriggerStuck
  | triggerCountClear => exact h
  | checkpointCutCondition => exact h.execCheckpointCutCondition
  | pageStream => exact h.execPageStream
  | linkUp => exact h.execLinkUp
  | linkDown => exact h.execLinkDown
  | holdDownEnd => exact h
  | linkDownTimeout => exact h.execLinkDownTimeout
  | neighborSolicitation _ _ _ => exact h.execNeighborSolicitation
  | echoRequest _ _ _ _ => exact h.execEchoRequest
  | dataPacket _ => exact h.execDataPacket
  | ack _ => exact h.execAck
  | ackTimer _ => exact h.execAckTimer
  | retransmitTimeout _ => exact h.execRetransmitTimeout
  | rateIncrease _ => exact h.execRateIncrease
  | packetTransmit => exact h.execPacketTransmit
  | read _ _ => exact h.execRead
  | write _ _ => exact h.execWrite
  | flush _ _ => exact h.execFlush
  | doorbell _ _ => exact h.execDoorbell
  | eventAdd _ _ => exact h.execEventAdd
  | fetchAdd _ _ => exact h.execFetchAdd
  | hread _ _ _ => exact h.execHread
  | hwrite _ _ _ _ => exact h.execHwrite
  | readResponse _ _ => exact h.execReadResponse
  | flushResponse _ _ => exact h.execFlushResponse
  | fetchAddResponse _ _ => exact h.execFetchAddResponse
  | hreadResponse _ _ => exact h.execHreadResponse
  | remoteRequest _ _ => exact h.execRemoteRequest
  | hello _ _ => exact h.execHello
  | answer _ _ => exact h.execAnswer
  | finish _ _ => exact h.execFinish
  | helloResend _ => exact h.execHelloResend
  | answerResend _ => exact h.execAnswerResend
  | handshakeAbandon _ => exact h.execHandshakeAbandon
  | deadlineExpiry => exact h.execDeadlineExpiry
  | freeHolderTimeout _ _ => exact h.execFreeHolderTimeout
  | identify _ => exact h.command fun _ h => h.identifyOwn
  | getStatus _ => exact h.command fun _ h => h.statusOwn
  | readyMap _ => exact h.command fun _ h => h.readyOwn
  | claim _ => exact h.commandThen (fun _ h => h.claimOwn) fun _ h => h.replyLeaves.loseAnon
  | openConduit _ => exact h.command fun _ h => h.openOwn
  | attest _ => exact h.command fun _ h => h.attestOwn
  | loadMembership _ => exact h.command fun _ h => h.loadListOwn
  | fwStage _ => exact h.command fun _ h => h.stageOwn
  | fwCommit _ => exact h.command fun _ h => h.commitOwn
  | alloc _ => exact h.command fun _ h => h.allocOwn
  | free _ => exact h.command fun _ h => h.freeOwn
  | setStrength _ => exact h.command fun _ h => h.strengthOwn
  | queueCreate _ => exact h.command fun _ h => h.createOwn
  | queueDestroy _ => exact h.command fun _ h => h.destroyOwn
  | setAddress _ => exact h.commandThen (fun _ h => h.addressOwn) fun _ h => h.replyLeaves.setAddress
  | snapshot _ => exact h.command fun _ h => h.snapshotOwn
  | readSnapshot _ => exact h.command fun _ h => h.readSnapOwn
  | checkpoint _ => exact h.command fun _ h => h.checkpointOwn
  | restore _ => exact h.commandThen (fun _ h => h.restoreOwn) fun _ h => h.restoreBegins
  | retirePage _ => exact h.command fun _ h => h.retirePageOwn
  | retireBank _ => exact h.command fun _ h => h.retireBankOwn
  | mapOutChannel _ => exact h.command fun _ h => h.mapOutOwn
  | scrubConfig _ => exact h.command fun _ h => h.scrubOwn
  | fuseRepair _ => exact h.command fun _ h => h.fuseOwn
  | quarantine _ => exact h.command fun _ h => h.quarantineOwn
  | errlogRead _ => exact h.command fun _ h => h.errReadOwn
  | errlogClear _ => exact h.command fun _ h => h.errClearOwn
  | regRead _ => exact h.command fun _ h => h.regReadOwn
  | regWrite _ => exact h.command fun _ h => h.regWriteOwn
  | loadDecodeTable _ => exact h.command fun _ h => h.loadTableOwn
  | powerDomain _ => exact h.command fun _ h => h.powerOwn
  | setOperatingPoint _ => exact h.command fun _ h => h.pointOwn
  | setPowerCap _ => exact h.command fun _ h => h.capOwn
  | margin _ => exact h.command fun _ h => h.marginOwn
  | reset _ => exact h.commandThen (fun _ h => h.resetOwn) fun _ h => h
  | blockDisable _ => exact h.enWrite
  | blockEnable _ => exact h.enWrite
  | blockIdle _ => exact h.execBlockIdle
  | registerWrite _ _ _ => exact h.execRegisterWrite
  | tmrFieldRead _ _ _ => exact h.execTmrFieldRead
  | tmrVoteSweep _ => exact h.execTmrVoteSweep
  | pgInHigh => exact h.execPgInHigh
  | pgInLow => exact h.execPgInLow
  | resetNLow => exact h.execResetNLow
  | resetNHigh => exact h.execResetNHigh
  | refclkLoss => exact h.execRefclkLoss
  | pllLock => exact h.execPllLock
  | pllLockRetry => exact h
  | bootRom _ _ => exact h.execBootRom
  | pilotReady => exact h.execPilotReady
  | secReady => exact h.execSecReady
  | domainSwitchOn => exact h.execDomainSwitchOn
  | domainPowered _ => exact h.execDomainPowered
  | lanternSelftestEnd _ _ _ _ _ => exact h.execLanternSelftestEnd
  | tileCacheSelftestEnd _ _ => exact h.execTileCacheSelftestEnd
  | copyEngineSelftestEnd _ _ => exact h.execCopyEngineSelftestEnd
  | cirrusInitEnd => exact h.execCirrusInitEnd
  | bringupLimitExpiry _ => exact h.execBringupLimitExpiry
  | supplySample _ _ _ _ => exact h.execSupplySample
  | sensorReading _ => exact h.execSensorReading
  | shutdownSecondStage => exact h.secondStage
  | extest => exact h.tapLoad
  | samplePreload _ => exact h.execSamplePreload
  | idcode => exact h.execIdcode
  | clamp => exact h.tapLoad
  | highz => exact h.tapLoad
  | bypass _ => exact h.tapLoad
  | vectorInstructionComplete _ => exact h.execVectorInstructionComplete
  | commandCompleted _ => exact h.execCommandCompleted
  | badOpcode _ _ => exact h.execBadOpcode
  | blockLockGained _ => exact h.execBlockLockGained
  | blockLockLost _ => exact h.execBlockLockLost
  | refclkPresent => exact h.execRefclkPresent
  | trstNLow => exact h
  | parityAcknowledgement _ _ => exact h

/-- Settles O59: a step takes one pending command or, with none pending, a tick, and both keep it. -/
theorem stepKeepsMemoryForm : Obligations.StepKeepsMemoryForm := by
  unfold Obligations.StepKeepsMemoryForm
  intro s t h e
  cases hp : s.pending with
  | nil =>
    have ht : t = s.tick := by simpa [eq_comm] using (step_of_idle hp).symm.trans e
    exact ht ▸ h.tick
  | cons c rest =>
    have hk : Out.Keeps (exec c { s with pending := rest }) := State.memOk.exec (s := { s with pending := rest }) h c
    rw [← step_of_cons hp, e] at hk
    exact hk

end Sys2Proof.Machine

/-! ## Reads, writes and upkeep of DRAM (R300 to R311, R388 to R400) -/

namespace Sys2Proof.Machine

open Sys2Proof

/-! ### DRAM_READ and UNIT_REBUILD (R300, R387 to R389, R400) -/

theorem paChannel_word {u i : Nat} (h : i < 8) : paChannel (u / 64 * 64 + 8 * i) = paChannel (u / 64 * 64) := by
  have hgran : (u / 64 * 64 + 8 * i) / 4096 = u / 64 * 64 / 4096 := by omega
  have hmib : (u / 64 * 64 + 8 * i) / 2 ^ 20 = u / 64 * 64 / 2 ^ 20 := by omega
  simp only [paChannel, hgran, hmib]

theorem lt_of_mem_unitCes {was : Bool} {errs : List (BitVec 80)} {c : Nat × BitVec 16} (h : c ∈ unitCes was errs) :
    c.1 < 8 := by
  obtain ⟨i, hi, hc⟩ := List.mem_filterMap.mp h
  split at hc
  next => cases hc; exact List.mem_range.mp hi
  next => cases hc

/-- What a decoder returns changes the unit and nothing else in memory. -/
theorem State.asDecoded_cellAt (s : State) {u : Nat} (was : Bool) (errs : List (BitVec 80)) {a : Nat}
    (ha : a < u ∨ u + 64 ≤ a) : cellAt (s.asDecoded u was errs).mem a = cellAt s.mem a := by
  unfold State.asDecoded
  extract_lets x
  have hlen : (xorBytes (s.physRead u 64) x).length ≤ 64 := by
    simp [xorBytes, State.physRead, cellsRead_eq_map]
  split
  · rfl
  · exact (State.physWriteP_cellAt ..).trans (if_neg (by omega))

/-- What a controller does with a unit that it reads, by what the decoder says of it. -/
def State.readAs (s : State) (u : Nat) (was : Bool) (errs : List (BitVec 80)) (syn : Nat) : UnitOut → State
  | .good => s.asDecoded u was errs
  | .poisoned => s
  | .ue => s.unitUe u syn
  | .ce => ((s.asDecoded u was errs).modCh (paChannel u) (fun d =>
      { d with cecnt := satAdd 32 d.cecnt (unitCes was errs).length })).records
      ((unitCes was errs).map (fun c => dramRec (u + 8 * c.1) clsCe 0x0101 c.2.toNat))

/-- A controller that serves the unit opens its row and acts on what the decoder says (R300, R301). -/
theorem execDramRead_served {s : State} {pa k syn : Nat} {errs : List (BitVec 80)} {o : UnitOut}
    (hserves : s.chServes (pa / 64 * 64) = true) (hheld : s.chHeld (pa / 64 * 64) = false)
    (hfree : s.excluded (pa / 64 * 64) = false) (hwaits : s.rebuilds.find? (pa / 64 * 64 / 64) = none)
    (hd : unitDecode (s.poison.contains (pa / 64 * 64 / 64)) errs = (o, k, syn)) :
    exec (.dramRead pa errs) s = .next ((s.rowOpen (pa / 64 * 64)).readAs (pa / 64 * 64)
      (s.poison.contains (pa / 64 * 64 / 64)) errs syn o) := by
  have hrow : unitDecode ((s.rowOpen (pa / 64 * 64)).poison.contains (pa / 64 * 64 / 64)) errs = (o, k, syn) := hd
  dsimp only [exec, execDramRead]
  rw [hserves, hheld, hfree, hwaits, hrow]
  cases o <;> rfl

/-- Settles O27: each outcome of the decoder is its own branch of DRAM_READ, and the rebuild asks the
unit's group. -/
theorem dramReadsAndRebuilds : Obligations.DramReadsAndRebuilds := by
  unfold Obligations.DramReadsAndRebuilds
  intro s pa errs bad u c was
  refine ⟨fun hserves hheld hfree hwaits => ?_, fun syn hwaits hdelta => ?_⟩
  · have hread {o : UnitOut} {k syn : Nat} (hd : unitDecode was errs = (o, k, syn)) :=
      execDramRead_served hserves hheld hfree hwaits hd
    refine ⟨?_, fun hwas hleft => ?_, fun a ha => ?_, fun k syn hd => hread hd, fun k syn hd => hread hd,
      fun k syn hd => ⟨(unitCes was errs).map fun e => dramRec (u + 8 * e.1) clsCe 0x0101 e.2.toNat, ?_,
        fun x hx => ?_⟩, fun k syn hd => ⟨fun hstr => ?_, fun hstr => ?_⟩⟩
    · simp [State.rowOpen, c, u]
    · simp only [State.asDecoded, hwas, Bool.not_false, Bool.true_and]
      exact if_pos (hwas ▸ hleft)
    · exact (State.asDecoded_cellAt _ _ _ ha).trans rfl
    · rw [hread hd, List.length_map]
      rfl
    · obtain ⟨e, he, rfl⟩ := List.mem_map.mp hx
      exact ⟨rfl, rfl, congrArg readyCh (paChannel_word (lt_of_mem_unitCes he))⟩
    · exact (hread hd).trans (congrArg _ (if_pos hstr))
    · exact (hread hd).trans (congrArg _ (if_neg hstr))
  · have hrebuild : exec (.unitRebuild pa bad) s = .next (
        let r := ({ s with rebuilds := s.rebuilds.erase (u / 64) } : State).rebuildUnit u syn bad
        r.1.record r.2) := by
      dsimp only [exec, execUnitRebuild]
      rw [hwaits, hdelta]
      rfl
    have huse {r : Option GranUse} (hr : s.granUse u = r) :
        ({ s with rebuilds := s.rebuilds.erase (u / 64) } : State).granUse u = r := hr
    refine ⟨fun g hg => ⟨fun h16 => ?_, fun h16 => ?_⟩, fun hg => ?_⟩
    · rw [hrebuild, State.rebuildUnit, huse hg]
      exact congrArg (fun r : State × RecIn => Host.Outcome.next (r.1.record r.2)) (if_pos h16)
    · rw [hrebuild, State.rebuildUnit, huse hg]
      exact congrArg (fun r : State × RecIn => Host.Outcome.next (r.1.record r.2)) (if_neg (Nat.not_le.mpr h16))
    · rw [hrebuild, State.rebuildUnit, huse hg]

/-! ### DRAM_WRITE and its parity (R304 to R306, R398, R401) -/

/-! #### Poison marks, merged units and queued write-backs -/

theorem setDel_of_not_mem {xs : List Nat} {k : Nat} (h : k ∉ xs) : setDel xs k = xs :=
  List.filter_eq_self.mpr fun _ hj => decide_eq_true fun e => h (e ▸ hj)

theorem unitsOf_unit (u : Nat) : unitsOf (u / 64 * 64) 64 = [u / 64] := by
  have hlo : u / 64 * 64 / 64 = u / 64 := by omega
  have hhi : (u / 64 * 64 + 64 - 1) / 64 + 1 = u / 64 + 1 := by omega
  rw [unitsOf, natRange, hlo, hhi, Nat.add_sub_cancel_left]
  simp

/-- A write of a unit that is not poisoned, with data that are not, marks nothing. -/
theorem poisonWrite_clean {p : List Nat} {u : Nat} (h : p.contains (u / 64) = false) :
    poisonWrite p (u / 64 * 64) 64 (fun _ => false) = p := by
  have hmem : u / 64 ∉ p := by simpa using h
  simp [poisonWrite, unitsOf_unit, setDel_of_not_mem hmem]

@[simp] theorem length_mergeUnit (old : List Byte) (mask : BitVec 64) (data : BitVec 512) :
    (mergeUnit old mask data).length = min old.length 64 := by
  simp [mergeUnit]

theorem getD_mergeUnit {old : List Byte} (hlen : old.length = 64) (mask : BitVec 64) (data : BitVec 512) {i : Nat}
    (hi : i < 64) : (mergeUnit old mask data).getD i 0 =
      if mask.getLsbD i then (data >>> (8 * i)).setWidth 8 else old.getD i 0 := by
  simp [mergeUnit, List.getD_eq_getElem?_getD, hlen, hi]

@[simp] theorem length_physRead (s : State) (pa len : Nat) : (s.physRead pa len).length = len := by
  simp [State.physRead, cellsRead_eq_map]

@[simp] theorem length_unitLeft (was : Bool) (errs : List (BitVec 80)) : (unitLeft was errs).length = 64 := by
  simp [unitLeft, leBytes]

/-- Taking a unit from the write-back queue changes its tile cache and nothing else. -/
theorem State.wbTaken_eq (s : State) (pa : Nat) : s.wbTaken pa = { s with tcs := (s.wbTaken pa).tcs } := by
  unfold State.wbTaken
  split <;> rfl

@[simp] theorem State.wbTaken_mem (s : State) (pa : Nat) : (s.wbTaken pa).mem = s.mem := by rw [s.wbTaken_eq pa]

@[simp] theorem State.wbTaken_poison (s : State) (pa : Nat) : (s.wbTaken pa).poison = s.poison := by
  rw [s.wbTaken_eq pa]

@[simp] theorem State.wbTaken_deltas (s : State) (pa : Nat) : (s.wbTaken pa).deltas = s.deltas := by
  rw [s.wbTaken_eq pa]

@[simp] theorem State.wbTaken_cirrus (s : State) (pa : Nat) : (s.wbTaken pa).cirrus = s.cirrus := by
  rw [s.wbTaken_eq pa]

@[simp] theorem State.wbTaken_ch (s : State) (pa c : Nat) : (s.wbTaken pa).ch c = s.ch c := by
  rw [s.wbTaken_eq pa]
  rfl

/-! #### DRAM_WRITE of a unit that its decoder takes (R304, R305) -/

/-- The write reads, merges and writes its unit (R305). -/
def rmwWrite (was : Bool) (mask : BitVec 64) : Bool := partWord mask || (was && !decide (mask = BitVec.allOnes 64))

/-- The bytes with which a write merges. -/
def State.rmwRead (s : State) (u : Nat) (was : Bool) (mask : BitVec 64) (errs : List (BitVec 80)) : List Byte :=
  if rmwWrite was mask then xorBytes (s.physRead u 64) (unitLeft was errs) else s.physRead u 64

/-- A controller's state when it takes a write: the row is open and the write has left its queue. -/
def State.writeTaken (s : State) (u : Nat) : State := (s.rowOpen u).wbTaken u

section Taken

variable (s : State) (u : Nat)

@[simp] theorem State.writeTaken_mem : (s.writeTaken u).mem = s.mem := State.wbTaken_mem _ u

@[simp] theorem State.writeTaken_poison : (s.writeTaken u).poison = s.poison := State.wbTaken_poison _ u

@[simp] theorem State.writeTaken_deltas : (s.writeTaken u).deltas = s.deltas := State.wbTaken_deltas _ u

@[simp] theorem State.writeTaken_cirrus : (s.writeTaken u).cirrus = s.cirrus := State.wbTaken_cirrus _ u

@[simp] theorem State.writeTaken_rmwcnt : ((s.writeTaken u).ch (paChannel u)).rmwcnt = (s.ch (paChannel u)).rmwcnt := by
  simp [State.writeTaken, State.rowOpen]

@[simp] theorem State.writeTaken_physRead (pa len : Nat) : (s.writeTaken u).physRead pa len = s.physRead pa len := by
  rw [State.physRead, State.writeTaken_mem, State.physRead]

@[simp] theorem State.writeTaken_rmwRead (was : Bool) (mask : BitVec 64) (errs : List (BitVec 80)) :
    (s.writeTaken u).rmwRead u was mask errs = s.rmwRead u was mask errs := by
  simp [State.rmwRead]

end Taken

/-- The unit written, before its parity. -/
def State.unitWritten (s : State) (u : Nat) (mask : BitVec 64) (data : BitVec 512) (errs : List (BitVec 80)) : State :=
  let was := s.poison.contains (u / 64)
  let t := s.physWriteP u (mergeUnit (s.rmwRead u was mask errs) mask data)
    fun _ => was && !decide (mask = BitVec.allOnes 64)
  if rmwWrite was mask then t.modCh (paChannel u) (fun d => { d with rmwcnt := satAdd 32 d.rmwcnt 1 }) else t

theorem execDramWrite_served {s : State} {pa : Nat} {mask : BitVec 64} {data : BitVec 512} {errs : List (BitVec 80)}
    (hserves : s.chServes (pa / 64 * 64) = true) (hheld : s.chHeld (pa / 64 * 64) = false)
    (hfree : s.excluded (pa / 64 * 64) = false) (hwaits : s.rebuilds.find? (pa / 64 * 64 / 64) = none)
    (hmask : mask ≠ 0) (hue : (unitDecode (s.poison.contains (pa / 64 * 64 / 64)) errs).1 ≠ .ue)
    (hdata : ∀ g, s.granUse (pa / 64 * 64) = some g → g.idx < 16) :
    let u := pa / 64 * 64
    let v := s.writeTaken u
    exec (.dramWrite pa mask data errs) s = .next (v.parityOnWrite (v.unitWritten u mask data errs) u) := by
  intro u v
  have hpois : ((s.rowOpen u).wbTaken u).poison = s.poison := State.writeTaken_poison s u
  rcases hd : unitDecode (s.poison.contains (u / 64)) errs with ⟨out, k, syn⟩
  have hout : out ≠ .ue := fun e => hue (by rw [hd, e])
  have hguard (b : Bool) (hb : b = false) : (!s.chServes u || s.chHeld u || s.excluded u ||
      (s.rebuilds.find? (u / 64)).isSome || decide (mask = 0) || b) ≠ true := by
    simp only [u, hserves, hheld, hfree, hwaits, hmask, hb]
    decide
  dsimp only [exec, execDramWrite]
  refine congrArg Host.Outcome.next ((if_neg (hguard _ ?_)).trans ?_)
  · cases hg : s.granUse u with
    | none => rfl
    | some g => exact decide_eq_false (Nat.not_le.mpr (hdata g hg))
  · rw [hpois, hd]
    simp only [decide_eq_false hout, State.unitWritten, v, State.writeTaken, hpois]
    rfl

section Written

variable (s : State) (u : Nat) (mask : BitVec 64) (data : BitVec 512) (errs : List (BitVec 80))

@[simp] theorem State.unitWritten_deltas : (s.unitWritten u mask data errs).deltas = s.deltas := by
  dsimp only [State.unitWritten]
  split <;> rfl

@[simp] theorem State.unitWritten_cirrus : (s.unitWritten u mask data errs).cirrus = s.cirrus := by
  dsimp only [State.unitWritten]
  split <;> rfl

theorem State.unitWritten_mem : (s.unitWritten u mask data errs).mem =
    cellsWrite s.mem u (mergeUnit (s.rmwRead u (s.poison.contains (u / 64)) mask errs) mask data) := by
  dsimp only [State.unitWritten]
  split <;> rfl

@[simp] theorem State.length_rmwRead (was : Bool) : (s.rmwRead u was mask errs).length = 64 := by
  unfold State.rmwRead
  split <;> simp [xorBytes]

theorem State.unitWritten_cellAt_unit {i : Nat} (hi : i < 64) :
    cellAt (s.unitWritten u mask data errs).mem (u + i) =
      if mask.getLsbD i then (data >>> (8 * i)).setWidth 8
      else (s.rmwRead u (s.poison.contains (u / 64)) mask errs).getD i 0 := by
  rw [State.unitWritten_mem, cellAt_cellsWrite, if_pos (by simp; omega), Nat.add_sub_cancel_left,
    getD_mergeUnit (by simp) mask data hi]

theorem State.unitWritten_cellAt_off {a : Nat} (ha : a < u ∨ u + 64 ≤ a) :
    cellAt (s.unitWritten u mask data errs).mem a = cellAt s.mem a := by
  rw [State.unitWritten_mem, cellAt_cellsWrite, if_neg (by simp; omega)]

theorem State.unitWritten_poison (hwas : s.poison.contains (u / 64) = false) (hu : u / 64 * 64 = u) :
    (s.unitWritten u mask data errs).poison = s.poison := by
  have hclean := poisonWrite_clean hwas
  rw [hu] at hclean
  dsimp only [State.unitWritten]
  rw [hwas]
  split <;> simp [State.physWriteP, hclean]

theorem State.unitWritten_rmwcnt : ((s.unitWritten u mask data errs).ch (paChannel u)).rmwcnt =
    if rmwWrite (s.poison.contains (u / 64)) mask then satAdd 32 (s.ch (paChannel u)).rmwcnt 1
    else (s.ch (paChannel u)).rmwcnt := by
  dsimp only [State.unitWritten]
  by_cases h : rmwWrite (s.poison.contains (u / 64)) mask = true
  · simp only [if_pos h, State.ch_modCh]
    rfl
  · simp only [if_neg h]
    rfl

end Written

/-! #### Parity of a write (R398, R401) -/

theorem State.parityOnWrite_unprotected {s : State} {u : Nat} (h : s.strOf u = 0) (t : State) :
    s.parityOnWrite t u = t := by
  unfold State.parityOnWrite
  cases hg : s.granUse u with
  | none => rfl
  | some g =>
    have hstr : g.pte.str = 0 := by simpa [State.strOf, hg] using h
    simp [hstr]

theorem State.parityOnWrite_deltas {s t : State} {u : Nat} {g : GranUse} (hg : s.granUse u = some g)
    (hstr : g.pte.str ≠ 0) (hdata : g.idx < 16) (hs : s.offPoison g.pte g.group (u % 4096) = false)
    (ht : t.offPoison g.pte g.group (u % 4096) = false) (hp : t.parityPoison g.pte g.group (u % 4096) = false) :
    s.parityOnWrite t u = { t with
      deltas := t.deltas ++ unitDeltas u g.idx g.pte.str (xorBytes (s.physRead u 64) (t.physRead u 64)) } := by
  have hidx : ¬(16 ≤ g.idx) := Nat.not_le.mpr hdata
  simp [State.parityOnWrite, hg, hstr, hidx, hs, ht, hp]

/-- The poison of a page group's units is that of the placements and of the poison list. -/
theorem State.offPoison_congr {s t : State} (hpoison : t.poison = s.poison) (hcirrus : t.cirrus = s.cirrus) (e : Pte)
    (j b : Nat) : t.offPoison e j b = s.offPoison e j b := by
  unfold State.offPoison State.groupUnits State.granPa
  rw [hpoison, hcirrus]

theorem State.parityPoison_congr {s t : State} (hpoison : t.poison = s.poison) (hcirrus : t.cirrus = s.cirrus)
    (e : Pte) (j b : Nat) : t.parityPoison e j b = s.parityPoison e j b := by
  unfold State.parityPoison
  rw [hpoison, hcirrus]

theorem State.granUse_congr {s t : State} (h : t.cirrus = s.cirrus) (pa : Nat) : t.granUse pa = s.granUse pa := by
  unfold State.granUse State.pageGran
  rw [h]

theorem State.strOf_congr {s t : State} (h : t.cirrus = s.cirrus) (pa : Nat) : t.strOf pa = s.strOf pa := by
  rw [State.strOf, State.strOf, State.granUse_congr h]

/-- Settles O28: a write without parity keeps the deltas, one with parity appends its own, and the two
messages of a delta find their entry. -/
theorem dramWritesAndParity : Obligations.DramWritesAndParity := by
  unfold Obligations.DramWritesAndParity
  intro s pa q mask data errs u was rmw
  have hrmw : rmw = rmwWrite was mask := by simp [rmw, rmwWrite]
  have hu : u / 64 * 64 = u := by omega
  refine ⟨fun hserves hheld hfree hwaits hmask hue hdata => ?_, fun hany => ?_, ?_⟩
  · have hwrite := execDramWrite_served (data := data) hserves hheld hfree hwaits hmask hue hdata
    intro read new
    have hread : read = s.rmwRead u was mask errs := by rw [State.rmwRead, ← hrmw]
    let t := (s.writeTaken u).unitWritten u mask data errs
    have hunit : ∀ i, i < 64 → cellAt t.mem (u + i) = new i := fun i hi => by
      rw [State.unitWritten_cellAt_unit _ u mask data errs hi, State.writeTaken_rmwRead, State.writeTaken_poison]
      dsimp only [new]
      rw [hread]
    have hoff : ∀ a, (a < u ∨ u + 64 ≤ a) → cellAt t.mem a = cellAt s.mem a := fun a ha => by
      rw [State.unitWritten_cellAt_off _ u mask data errs ha, State.writeTaken_mem]
    have hpoison (hwas : was = false) : t.poison = s.poison := by
      have hclean : (s.writeTaken u).poison.contains (u / 64) = false := by rwa [State.writeTaken_poison]
      rw [State.unitWritten_poison _ u mask data errs hclean hu, State.writeTaken_poison]
    have hcirrus : t.cirrus = s.cirrus := by simp [t]
    refine ⟨fun hstr => ⟨t, ?_, hunit, hoff, hpoison, by simp [t], ?_⟩, fun g hg hstr hwas hs hp => ⟨{ t with
      deltas := t.deltas ++ unitDeltas u g.idx g.pte.str (xorBytes ((s.writeTaken u).physRead u 64) (t.physRead u 64)) },
      ?_, hunit, hoff, ?_⟩⟩
    · refine hwrite.trans (congrArg _ (State.parityOnWrite_unprotected ?_ t))
      exact (State.strOf_congr (State.writeTaken_cirrus s u) u).trans hstr
    · rw [State.unitWritten_rmwcnt, State.writeTaken_rmwcnt, State.writeTaken_poison, hrmw]
      rfl
    · refine hwrite.trans (congrArg _ (State.parityOnWrite_deltas ?_ hstr (hdata g hg) ?_ ?_ ?_))
      · exact (State.granUse_congr (State.writeTaken_cirrus s u) u).trans hg
      · exact (State.offPoison_congr (State.writeTaken_poison s u) (State.writeTaken_cirrus s u) ..).trans hs
      · exact (State.offPoison_congr (hpoison hwas) hcirrus ..).trans hs
      · exact (State.parityPoison_congr (hpoison hwas) hcirrus ..).trans hp
    · rw [State.writeTaken_physRead]
      exact congrArg (· ++ _) (by simp [t])
  · have hhit : (s.deltas.any fun d => decide (d.1 = u) && decide (d.2.1 = q) && !d.2.2.isEmpty) = true := by
      simpa only [Bool.decide_and] using hany
    exact ⟨_, congrArg Host.Outcome.next (if_pos hhit), rfl, length_updFirst ..⟩
  · rfl

/-! ### Rows, refresh and training of a channel (R301, R308 to R311) -/

theorem getLsbD_bitSet_same {w b : Nat} (v : BitVec w) (hb : b < w) (on : Bool) : (bitSet v b on).getLsbD b = on := by
  cases on <;> simp [bitSet, hb]

theorem State.isReady_setReady (s : State) {b : Nat} (hb : b < 600) (on : Bool) : (s.setReady b on).isReady b = on := by
  unfold State.setReady
  split
  · assumption
  · exact getLsbD_bitSet_same s.pilot.ready hb on

theorem State.SamePRX.ch {s t : State} (h : s.SamePRX t) (c : Nat) : t.ch c = s.ch c := by rw [h]; rfl

@[simp] theorem State.setReady_ch (s : State) (b : Nat) (on : Bool) (c : Nat) : (s.setReady b on).ch c = s.ch c :=
  (s.setReady_same b on).ch c

@[simp] theorem State.setReady_mem (s : State) (b : Nat) (on : Bool) : (s.setReady b on).mem = s.mem :=
  (s.setReady_same b on).mem

theorem State.lt_of_chOn {s : State} {c : Nat} (h : s.chOn c = true) : c < 256 :=
  of_decide_eq_true (Bool.and_eq_true_iff.mp h).1

@[simp] theorem State.zeroChannel_ch (s : State) (ch c : Nat) : (s.zeroChannel ch).ch c = s.ch c := rfl

/-- The channel after a pass whose first failed step is `fs`: it has measured its eye from step 5 on (R310). -/
def Dch.measured (d : Dch) (fs : Nat) (eye : Word) : Dch := if 5 ≤ fs then { d with eye := eye } else d

@[simp] theorem Dch.measured_en (d : Dch) (fs : Nat) (eye : Word) : (d.measured fs eye).en = d.en := by
  unfold Dch.measured
  split <;> rfl

@[simp] theorem Dch.measured_maint (d : Dch) (fs : Nat) (eye : Word) : (d.measured fs eye).maint = d.maint := by
  unfold Dch.measured
  split <;> rfl

@[simp] theorem Dch.measured_failedOnce (d : Dch) (fs : Nat) (eye : Word) :
    (d.measured fs eye).failedOnce = d.failedOnce := by
  unfold Dch.measured
  split <;> rfl

theorem State.trainFailed_first {s : State} {c : Nat} (h : (s.ch c).failedOnce = false) (fs : Nat) :
    s.trainFailed c fs = s.modCh c fun d => { d with failedOnce := true } := by
  simp [State.trainFailed, h]

theorem State.trainFailed_again {s : State} {c : Nat} (h : (s.ch c).failedOnce = true) (fs : Nat) :
    s.trainFailed c fs = (s.modCh c fun d => { d with maint := 0, tfail := BitVec.ofNat 3 fs }).record
      { src := readyCh c, cls := clsInfo, code := 0x0404, aux := fs } := by
  simp [State.trainFailed, h]

section Training

variable {s : State} {c : Nat} (hon : s.chOn c = true) (hen : (s.ch c).en = false) (hlisted : (s.ch c).listed = false)
  (hmaint : (s.ch c).maint = 1)
include hon hen hlisted hmaint

theorem trainingGuard_ne_true : (!s.chOn c || (s.ch c).en || (s.ch c).listed || decide ((s.ch c).maint ≠ 1#3)) ≠ true := by
  simp [hon, hen, hlisted, hmaint]

/-- A pass without a failed step and with a good eye puts the channel in service (R309, R310). -/
theorem execChannelTrainingPassEnd_pass {eye : Word} (heye : eyeBad eye = false) :
    exec (.channelTrainingPassEnd c 0 eye) s = .next
      ((((s.modCh c fun _ => { s.ch c with eye := eye }).modCh c fun _ =>
        { s.ch c with eye := eye, en := true, maint := 0 }).zeroChannel c).setReady (readyCh c) true) := by
  dsimp only [exec, execChannelTrainingPassEnd]
  rw [if_neg (trainingGuard_ne_true hon hen hlisted hmaint), heye]
  rfl

/-- A pass that fails at a step keeps that step; it stores the eye from step 5 on (R309, R310). -/
theorem execChannelTrainingPassEnd_fail {fs : Nat} {eye : Word} (h1 : 1 ≤ fs) (heye : fs = 6 → eyeBad eye = false) :
    exec (.channelTrainingPassEnd c fs eye) s = .next
      ((s.modCh c fun d => d.measured fs eye).trainFailed c fs) := by
  have hmeasured : (decide (fs = 0) || decide (5 ≤ fs)) = decide (5 ≤ fs) := by grind
  have hstep : ((decide (fs = 0) || decide (fs = 6)) && eyeBad eye) = false := by grind
  dsimp only [exec, execChannelTrainingPassEnd]
  rw [if_neg (trainingGuard_ne_true hon hen hlisted hmaint), hmeasured, hstep]
  simp only [decide_eq_true_eq]
  exact congrArg Host.Outcome.next (if_neg (Nat.ne_of_gt h1))

end Training

/-- Settles O29: each upkeep instruction's own branch, and the two ends of a training pass. -/
theorem channelUpkeepCompletes : Obligations.ChannelUpkeepCompletes := by
  unfold Obligations.ChannelUpkeepCompletes
  intro s c bank fs eye moved d
  refine ⟨rfl, fun hon => ⟨⟨s.refreshRate c, ?_, rfl, rfl, ?_⟩, fun hen => ?_, fun hen hlisted hmaint => ⟨fun heye => ?_,
    fun h1 h7 heye => ⟨fun hfirst => ?_, fun hagain => ?_⟩⟩⟩⟩
  · exact congrArg _ (if_pos hon)
  · simp [State.refreshRate, d]
  · exact congrArg Host.Outcome.next (if_pos (Bool.and_eq_true_iff.mpr ⟨hon, hen⟩))
  · refine ⟨_, execChannelTrainingPassEnd_pass hon hen hlisted hmaint heye, by simp, by simp, by simp, ?_, fun a => ?_⟩
    · have hc := State.lt_of_chOn hon
      exact State.isReady_setReady _ (by unfold readyCh; omega) true
    · have hcell := cellAt_filter (m := s.mem) (a := a) fun a => decide (paChannel a ≠ c)
      grind [State.setReady_mem, State.zeroChannel, State.modCh]
  · refine ⟨_, (execChannelTrainingPassEnd_fail hon hen hlisted hmaint h1 heye).trans
      (congrArg _ (State.trainFailed_first ?_ fs)), ?_, ?_, ?_, rfl⟩
    · simpa using hfirst
    · simp
    · simpa using hen
    · simpa using hmaint
  · refine ⟨_, _, (execChannelTrainingPassEnd_fail hon hen hlisted hmaint h1 heye).trans
      (congrArg _ (State.trainFailed_again ?_ fs)), rfl, rfl, ?_, ?_, ?_, rfl⟩
    · simpa using hagain
    · simpa using hen
    · simp
    · simp

end Sys2Proof.Machine

/-! ## Retirement, map-out, MARGIN and the end of commands (R312 to R316, R412 to R414, R476, R483) -/

namespace Sys2Proof.Machine

open Sys2Proof

/-! ### Banks of a quad -/

theorem getLsbD_foldl_bitSet {w i : Nat} (hi : i < w) (bs : List Nat) (v : BitVec w) :
    (bs.foldl (fun v b => bitSet v b true) v).getLsbD i = (v.getLsbD i || decide (i ∈ bs)) := by
  induction bs generalizing v with
  | nil => simp
  | cons b t ih =>
    have hbit : (bitSet v b true).getLsbD i = (v.getLsbD i || decide (i = b)) := by
      simp only [bitSet, if_true, BitVec.getLsbD_or, BitVec.getLsbD_shiftLeft, hi, BitVec.getLsbD_one]
      grind
    rw [List.foldl_cons, ih, hbit, Bool.or_assoc]
    simp [Bool.decide_or]

theorem mem_bankQuad {b i : Nat} : i ∈ bankQuad b ↔ i / 16 = b / 16 ∧ i % 4 = b % 4 := by
  simp only [bankQuad, List.mem_map, List.mem_range]
  constructor
  · rintro ⟨g, hg, rfl⟩
    omega
  · rintro ⟨hquad, hbank⟩
    exact ⟨i % 16 / 4, by omega, by omega⟩

/-! ### What the commands check and take (R313, R314, R412, R413) -/

/-- A channel whose bank index is being retired: its quad is out of use (R412). -/
def State.bankTaken (u : State) (ch b : Nat) : State :=
  u.modCh ch fun d => { d with maint := 4, bankret := (bankQuad b).foldl (fun v x => bitSet v x true) d.bankret }

/-- A channel that is taken from the map-out list trains at the next device reset (R315). -/
def State.mapOutReleased (u : State) (ch : Nat) : State :=
  { u with
    flash := { u.flash with mapout := setDel u.flash.mapout ch }
    start := { u.start with released := setIns u.start.released ch } }.modCh ch fun d => { d with listed := false }

/-- A physical page has left the pool with its granules, and its records say so (R412). -/
def State.pageRetired (t : State) (ppn grans : Nat) : State :=
  { t with
    flash := { t.flash with retPages := setIns t.flash.retPages ppn }
    cirrus := { t.cirrus with capFree := t.cirrus.capFree - grans }
    pilot := { t.pilot with errq := t.pilot.errq.map (fun (r : ErrRec) =>
      if r.page = some ppn then { r with retired := true } else r) } }

section Retired

variable (t : State) (ppn grans : Nat)

theorem State.mem_pageRetired_retPages : ppn ∈ (t.pageRetired ppn grans).flash.retPages := mem_setIns.2 (.inl rfl)

theorem State.pageRetired_mem : (t.pageRetired ppn grans).mem = t.mem := rfl

theorem State.pageRetired_pls : (t.pageRetired ppn grans).cirrus.pls = t.cirrus.pls := rfl

theorem State.pageRetired_ptes : (t.pageRetired ppn grans).cirrus.ptes = t.cirrus.ptes := rfl

end Retired

section Own

variable {u : State} {p : CmdPkt}

theorem State.retirePageOwn_retired (hppn : p.f 0 4 < pageCount) (h : p.f 0 4 ∈ u.cirrus.retired) :
    u.retirePageOwn p = (u, .reply stState []) := by
  simp [State.retirePageOwn, Nat.not_le.2 hppn, h]

theorem State.retirePageOwn_runs (hppn : p.f 0 4 < pageCount) (h : p.f 0 4 ∉ u.cirrus.retired)
    (hroom : u.flash.retPages.length < 4096) (hcap : u.cirrus.capFree ≠ 0) (hfree : u.freePage ≠ none) :
    u.retirePageOwn p = (u.holdPages (u.ppnPages (p.f 0 4)), .run false) := by
  simp [State.retirePageOwn, Nat.not_le.2 hppn, h, Nat.not_le.2 hroom, hcap, hfree]

section RetireBank

variable (hzero : p.f 3 1 = 0) (hch : p.f 0 2 ≤ 255) (hbank : p.f 2 1 ≤ 47) (hen : (u.ch (p.f 0 2)).en = true)
  (hin : (u.ch (p.f 0 2)).bankret.getLsbD (p.f 2 1) = false)
include hzero hch hbank hen hin

theorem State.retireBankOwn_maint (hmaint : (u.ch (p.f 0 2)).maint ≠ 0) :
    u.retireBankOwn p = (u, .reply stMaint []) := by
  simpa [State.retireBankOwn, hzero, Nat.not_lt.2 hch, Nat.not_lt.2 hbank, hen, hin] using hmaint

theorem State.retireBankOwn_runs (hmaint : (u.ch (p.f 0 2)).maint = 0) :
    u.retireBankOwn p = ((u.bankTaken (p.f 0 2) (p.f 2 1)).holdPages
      (usePages (u.uses (inBank (p.f 0 2) (p.f 2 1)))), .run false) := by
  simp [State.retireBankOwn, State.bankTaken, hzero, Nat.not_lt.2 hch, Nat.not_lt.2 hbank, hen, hin, hmaint]

end RetireBank

theorem State.mapOutOwn_runs (hzero : p.f 3 1 = 0) (hch : p.f 0 2 ≤ 255) (hop : p.f 2 1 = 0)
    (hen : (u.ch (p.f 0 2)).en = true) (hmaint : (u.ch (p.f 0 2)).maint = 0)
    (hroom : (u.uses (inChan (p.f 0 2))).length ≤ u.freeElsewhere (p.f 0 2)) :
    u.mapOutOwn p = (((u.setReady (readyCh (p.f 0 2)) false).modCh (p.f 0 2) fun d => { d with maint := 3 }).holdPages
      (usePages (u.uses (inChan (p.f 0 2)))), .run false) := by
  simp [State.mapOutOwn, hzero, Nat.not_lt.2 hch, hop, hen, hmaint, Nat.not_lt.2 hroom]

theorem State.mapOutOwn_releases (hzero : p.f 3 1 = 0) (hch : p.f 0 2 ≤ 255) (hop : p.f 2 1 = 1)
    (hout : p.f 0 2 ∈ u.flash.mapout) :
    u.mapOutOwn p = (u.mapOutReleased (p.f 0 2), .reply stOk []) := by
  simp [State.mapOutOwn, State.mapOutReleased, hzero, Nat.not_lt.2 hch, hop, hout]

theorem State.marginOwn_runs (hzero : p.f 2 2 = 0) (hch : p.f 0 2 ≤ 255) (hen : (u.ch (p.f 0 2)).en = false)
    (hon : u.chOn (p.f 0 2) = true) (hmaint : (u.ch (p.f 0 2)).maint = 0) :
    u.marginOwn p = (u.modCh (p.f 0 2) fun d => { d with maint := 2 }, .run false) := by
  simp [State.marginOwn, hzero, Nat.not_lt.2 hch, hen, hon, hmaint]

theorem State.marginOwn_maint (hzero : p.f 2 2 = 0) (hch : p.f 0 2 ≤ 255) (hen : (u.ch (p.f 0 2)).en = false)
    (hon : u.chOn (p.f 0 2) = true) (hmaint : (u.ch (p.f 0 2)).maint ≠ 0) :
    u.marginOwn p = (u, .reply stMaint []) := by
  simpa [State.marginOwn, hzero, Nat.not_lt.2 hch, hen, hon] using hmaint

end Own

/-! ### The end of a command (R476, R483) -/

section Ends

variable {s : State} {b : Busy} {x : CompleteIn} (hbusy : s.pilot.busy = some b)
include hbusy

theorem execCommandCompleted_waiting (hwait : b.waiting = true) : exec (.commandCompleted x) s = .next s := by
  dsimp only [exec, execCommandCompleted]
  rw [hbusy]
  exact congrArg _ (if_pos hwait)

theorem execCommandCompleted_fault (hwait : b.waiting = false) (hx : x.pilotFault = true) :
    exec (.commandCompleted x) s = .next (s.pilotFault b) := by
  dsimp only [exec, execCommandCompleted]
  rw [hbusy]
  simp only [hwait, hx]
  rfl

theorem execCommandCompleted_ends (hwait : b.waiting = false) (hx : x.pilotFault = false) (hgo : s.movesGo b = true) :
    exec (.commandCompleted x) s = .next (s.workEnds b x) := by
  dsimp only [exec, execCommandCompleted]
  rw [hbusy]
  simp only [hwait, hx, hgo]
  rfl

theorem execDeadlineExpiry_past (hwait : b.waiting = true) (hop : b.opcode ≠ 0x11) (hpast : s.deadlinePast b = true) :
    exec .deadlineExpiry s = .next (s.finish stDeadline []) := by
  dsimp only [exec, execDeadlineExpiry]
  rw [hbusy]
  simp only [hwait, hop, hpast]
  rfl

theorem execDeadlineExpiry_early (hearly : s.deadlinePast b = false) : exec .deadlineExpiry s = .next s := by
  dsimp only [exec, execDeadlineExpiry]
  rw [hbusy]
  exact congrArg _ (if_pos (by simp [hearly]))

end Ends

theorem State.movesGo_of_opcode {s : State} {b : Busy} (h : b.opcode ∉ [0x70, 0x71, 0x72]) : s.movesGo b = true := by
  simp at h
  simp [State.movesGo, h]

theorem State.commitEnds_staged {s : State} {img : List Byte} (h : s.sec.staged = some img) : s.commitEnds =
    State.finish { s with
      flash := { s.flash with image := some img }
      sec := { s.sec with staged := none, commitPend := true } } stOk [] := by
  rw [State.commitEnds, h]

theorem State.marginEnds_eq (s : State) (p : CmdPkt) (pins : List Word) : s.marginEnds p pins =
    (s.modCh (p.f 0 2) fun d => { d with
      maint := 0, eye := leastEye ((List.range 80).map fun i => pins.getD i 0) }).finish stOk
      ((List.range 80).flatMap fun i => beBytes 4 (pins.getD i 0).toNat) := by
  rw [State.marginEnds, List.flatMap_map]

/-- RETIRE_PAGE ends once its page is empty (R412). -/
theorem State.retirePageEnds_emptied {s w : State} {p : CmdPkt} {found : List Nat}
    (hpins : s.noPin s.cirrus.moving = true)
    (hw : ((s.foundUe true (inPpn (p.f 0 4)) found).1).emptyPpn (p.f 0 4) = w)
    (hempty : w.emptied (inPpn (p.f 0 4)) = true) :
    ∃ t : State, s.retirePageEnds p found = (t.record (retiredRec (s.ppnUses (p.f 0 4)))).unholdAll.finish stOk [] ∧
      p.f 0 4 ∈ t.flash.retPages ∧ t.mem = w.mem ∧ t.cirrus.pls = w.cirrus.pls ∧ t.cirrus.ptes = w.cirrus.ptes := by
  refine ⟨w.pageRetired (p.f 0 4) (s.ppnGrans (p.f 0 4)), ?_, w.mem_pageRetired_retPages .., w.pageRetired_mem ..,
    w.pageRetired_pls .., w.pageRetired_ptes ..⟩
  have hpins' : ¬(!s.noPin s.cirrus.moving) = true := by simp [hpins]
  have hempty' : ¬(!w.emptied (inPpn (p.f 0 4))) = true := by simp [hempty]
  dsimp only [State.retirePageEnds]
  rw [if_neg hpins', hw, if_neg hempty']
  rfl

section Takes

variable {s u : State} {p : CmdPkt}

theorem State.takes.retireBank_runs (h : s.takes u 0x71 p) (hzero : p.f 3 1 = 0) (hch : p.f 0 2 ≤ 255)
    (hbank : p.f 2 1 ≤ 47) (hen : (u.ch (p.f 0 2)).en = true)
    (hin : (u.ch (p.f 0 2)).bankret.getLsbD (p.f 2 1) = false) (hmaint : (u.ch (p.f 0 2)).maint = 0) :
    ∃ t : State, exec (.retireBank p) s = .next ((t.holdPages
        (usePages (u.uses (inBank (p.f 0 2) (p.f 2 1))))).held 0x71 p false) ∧ (t.ch (p.f 0 2)).maint = 4 ∧
      t.mem = u.mem ∧ ∀ b, b < 48 → (t.ch (p.f 0 2)).bankret.getLsbD b = ((u.ch (p.f 0 2)).bankret.getLsbD b ||
        decide (b / 16 = p.f 2 1 / 16 ∧ b % 4 = p.f 2 1 % 4)) := by
  refine ⟨u.bankTaken (p.f 0 2) (p.f 2 1),
    congrArg _ (h.command_run (State.retireBankOwn_runs hzero hch hbank hen hin hmaint)), ?_, rfl, fun b hb => ?_⟩
  · simp [State.bankTaken]
  · simp only [State.bankTaken, State.ch_modCh, getLsbD_foldl_bitSet hb, mem_bankQuad]

theorem State.takes.mapOutChannel_runs (h : s.takes u 0x72 p) (hzero : p.f 3 1 = 0) (hch : p.f 0 2 ≤ 255)
    (hop : p.f 2 1 = 0) (hen : (u.ch (p.f 0 2)).en = true) (hmaint : (u.ch (p.f 0 2)).maint = 0)
    (hroom : (u.uses (inChan (p.f 0 2))).length ≤ u.freeElsewhere (p.f 0 2)) :
    ∃ t : State, exec (.mapOutChannel p) s = .next ((t.holdPages
        (usePages (u.uses (inChan (p.f 0 2))))).held 0x72 p false) ∧
      (t.ch (p.f 0 2)).maint = 3 ∧ t.isReady (readyCh (p.f 0 2)) = false ∧ t.mem = u.mem := by
  refine ⟨_, congrArg _ (h.command_run (State.mapOutOwn_runs hzero hch hop hen hmaint hroom)), ?_, ?_, ?_⟩
  · simp
  · exact u.isReady_setReady (by unfold readyCh; omega) false
  · simp

theorem State.takes.mapOutChannel_releases (h : s.takes u 0x72 p) (hzero : p.f 3 1 = 0) (hch : p.f 0 2 ≤ 255)
    (hop : p.f 2 1 = 1) (hout : p.f 0 2 ∈ u.flash.mapout) :
    ∃ t : State, exec (.mapOutChannel p) s = t.replied 0x72 p stOk [] ∧
      p.f 0 2 ∉ t.flash.mapout ∧ (t.ch (p.f 0 2)).listed = false ∧ t.mem = u.mem := by
  refine ⟨u.mapOutReleased (p.f 0 2), congrArg _ (h.command_reply (State.mapOutOwn_releases hzero hch hop hout)),
    ?_, ?_, rfl⟩
  · simp [State.mapOutReleased, State.modCh, setDel]
  · simp [State.mapOutReleased]

end Takes

/-- Settles O49: each command goes through its own checks, and the end of each work is its own branch. -/
theorem maintenanceCommandsComplete : Obligations.MaintenanceCommandsComplete := by
  unfold Obligations.MaintenanceCommandsComplete
  intro s u p x ch
  refine ⟨fun h hppn => ⟨fun hret => ?_, fun hret hroom hcap hfree => ?_⟩,
    fun h hzero hch hbank hen hin => ⟨fun hmaint => ?_, h.retireBank_runs hzero hch hbank hen hin⟩,
    fun h hzero hch => ⟨h.mapOutChannel_runs hzero hch, h.mapOutChannel_releases hzero hch⟩,
    fun h hzero hch hen hon => ⟨fun hmaint => ?_, fun hmaint => ?_⟩, fun b hbusy hwait => ?_, fun b hbusy hwait => ?_⟩
  · exact congrArg _ (h.command_reply (State.retirePageOwn_retired hppn hret))
  · exact congrArg _ (h.command_run (State.retirePageOwn_runs hppn hret hroom hcap hfree))
  · exact congrArg _ (h.command_reply (State.retireBankOwn_maint hzero hch hbank hen hin hmaint))
  · exact congrArg _ (h.command_run (State.marginOwn_runs hzero hch hen hon hmaint))
  · exact congrArg _ (h.command_reply (State.marginOwn_maint hzero hch hen hon hmaint))
  · have ends (hop : b.opcode ∉ [0x70, 0x71, 0x72]) (hx : x.pilotFault = false) :=
      execCommandCompleted_ends hbusy hwait hx (State.movesGo_of_opcode (s := s) hop)
    refine ⟨execCommandCompleted_fault hbusy hwait, fun hx hop hready => ?_, fun hx hop img himg => ?_,
      fun hx hop => ⟨s.modCh (b.pkt.f 0 2) fun d => { d with
        maint := 0, eye := leastEye ((List.range 80).map fun i => x.pins.getD i 0) }, ?_, ?_, rfl⟩, fun hx hop hgo hpins => ?_⟩
    · rw [ends (by simp [hop]) hx, State.workEnds, hop]
      exact congrArg _ (if_pos hready)
    · rw [ends (by simp [hop]) hx, State.workEnds, hop]
      exact congrArg _ (State.commitEnds_staged himg)
    · rw [ends (by simp [hop]) hx, State.workEnds, hop]
      exact congrArg _ (s.marginEnds_eq ..)
    · simp
    · intro ppn w hempty
      obtain ⟨t, hends, hfields⟩ := State.retirePageEnds_emptied (p := b.pkt) (found := x.ueUnits) (w := w) hpins rfl hempty
      refine ⟨t, ?_, hfields⟩
      rw [execCommandCompleted_ends hbusy hwait hx hgo, State.workEnds, hop]
      exact congrArg _ hends
  · have hpast : s.deadlinePast b = decide (b.pkt.deadline.toNat * 100000 ≤ (s.pilot.stamp - b.since).toNat) := rfl
    refine ⟨fun hop hdue => ?_, fun hearly => ?_, execCommandCompleted_waiting hbusy hwait⟩
    · exact execDeadlineExpiry_past hbusy hwait hop (hpast.trans (decide_eq_true hdue))
    · exact execDeadlineExpiry_early hbusy (hpast.trans (decide_eq_false (Nat.not_le.2 hearly)))

end Sys2Proof.Machine

/-! ## Every step keeps the owner (R504)

Only CLAIM writes the owner, and only where there is none; a device reset keeps the flash. One lemma for each function
of the state (`State.owned.f`, by its name `f`) carries that upwards to the instructions: `Out.Owned` says it of an
outcome, and `Run.Owned` of a run that may stop. -/

namespace Sys2Proof.Machine

open Sys2Proof

/-- A page that is streamed has its granules read, its record sent, and is done; another changes nothing. -/
theorem State.streamPage_of {P : State → Prop} {s : State} {c : Ckpt} {vpn i : Nat} (hs : P s)
    (hread : ∀ s gs, P s → P (List.foldl (fun s g => State.granRead s g true) s gs))
    (hsent : ∀ s ep addr bs, P s → P (State.sendBlob s ep addr bs))
    (hdone : ∀ s c, P s → P (State.ckPageDone { s with ckpt := some c } vpn).ckNext) : P (s.streamPage c vpn i) := by
  unfold State.streamPage
  split
  · exact hdone _ _ (hsent _ _ _ _ (hread _ _ hs))
  · exact hs

/-- The device is enrolled with the owner key `ko` (R504). -/
abbrev State.owned (ko : List Byte) (s : State) : Prop := s.flash.owner = some ko

/-- Where an outcome is a next state, the owner there is `ko`. -/
def Out.Owned (ko : List Byte) : Out → Prop
  | .next s => s.owned ko
  | _ => True

theorem owned_foldl {α : Type} {f : State → α → State} (hf : ∀ s a, s.owned ko → (f s a).owned ko) {s : State}
    (h : s.owned ko) (xs : List α) : (xs.foldl f s).owned ko :=
  xs.foldlRecOn f h fun s hs a _ => hf s a hs

/-! ### The operations of the state -/

section

variable {ko : List Byte} {s : State} (h : s.owned ko) {n : Nat}
include h

theorem State.owned.setLan {l : Lantern} : (s.setLan n l).owned ko := h

theorem State.owned.modLan {f : Lantern → Lantern} : (s.modLan n f).owned ko := h

theorem State.owned.modTc {f : TCache → TCache} : (s.modTc n f).owned ko := h

theorem State.owned.modCh {f : Dch → Dch} : (s.modCh n f).owned ko := h

theorem State.owned.modEng {f : Engine → Engine} : (s.modEng n f).owned ko := h

theorem State.owned.setCon {k : Conduit} : (s.setCon n k).owned ko := h

theorem State.owned.modCon {f : Conduit → Conduit} : (s.modCon n f).owned ko := h

theorem State.owned.setQueue {q : Queue} : (s.setQueue n q).owned ko := h

theorem State.owned.draw : s.draw.2.owned ko := h

theorem State.owned.setCkpt {c : Option Ckpt} : { s with ckpt := c }.owned ko := h

theorem State.owned.poisonUnit : (s.poisonUnit n).owned ko := h

theorem State.owned.physWriteP {pa : Nat} {bs : List Byte} {bad : Nat → Bool} : (s.physWriteP pa bs bad).owned ko :=
  h

theorem State.owned.physWrite {pa : Nat} {bs : List Byte} : (s.physWrite pa bs).owned ko := h.physWriteP

theorem State.owned.physMove {src dst len : Nat} : (s.physMove src dst len).owned ko :=
  h

theorem State.owned.physZero {pa len : Nat} : (s.physZero pa len).owned ko :=
  h

end

/-! ### Readiness, replies, notifications and records (R404 to R410, R430 to R432, R498) -/

section

variable {ko : List Byte} {s : State} (h : s.owned ko) {n : Nat}
include h

theorem State.owned.setReady {b : Nat} {on : Bool} : (s.setReady b on).owned ko := by
  grind [State.setReady]

theorem State.owned.send {cid : Nat} {typ : Byte} {payload : List Byte} : (s.send cid typ payload).owned ko := by
  grind [State.send, owned.setCon]

theorem State.owned.notify {kind : Nat} {body : List Byte} : (s.notify kind body).owned ko := by
  grind [State.notify, owned.send, owned_foldl]

theorem State.owned.inject {src : Nat} : (s.inject src).owned ko := h

theorem State.owned.beaconTrigger {src : Nat} : (s.beaconTrigger src).owned ko := by
  grind [State.beaconTrigger, owned.inject]

theorem State.owned.record1 {x : RecIn} : (s.record1 x).owned ko := by
  grind [State.record1, owned.beaconTrigger, owned.notify, owned_foldl]

theorem State.owned.records {xs : List RecIn} : (s.records xs).owned ko := by
  grind [State.records, owned.record1, owned_foldl]

theorem State.owned.record {x : RecIn} : (s.record x).owned ko := h.records

end

/-! ### Lines of the tile caches (R319 to R326) -/

section

variable {ko : List Byte} {s : State} (h : s.owned ko) {n : Nat}
include h

theorem State.owned.modLine {pa : Nat} {f : TcLine → TcLine} : (s.modLine pa f).owned ko := by
  grind [State.modLine, owned.modTc]

theorem State.owned.dropCopies {pres : BitVec 16} {line : Nat} : (s.dropCopies pres line).owned ko := by
  grind [State.dropCopies]

theorem State.owned.installLine {pa age : Nat} {dirty : Bool} {pres : BitVec 16} :
    (s.installLine pa age dirty pres).owned ko := by
  grind [State.installLine, owned.dropCopies, owned.modTc]

theorem State.owned.askFills {f : TcFill} : (s.askFills f).owned ko := by
  grind [State.askFills, owned.modTc]

theorem State.owned.lineWritten {w : Writer} {pa : Nat} : (s.lineWritten w pa).owned ko := by
  grind [State.lineWritten, owned.modTc]

theorem State.owned.lineHit {w : Writer} {pa age : Nat} : (s.lineHit w pa age).owned ko := h.modLine.lineWritten

theorem State.owned.lineAccessed {pa : Nat} {kind : CacheKind} {w : Writer} {l1 : Option Nat} :
    (s.lineAccessed pa kind w l1).owned ko := by
  unfold State.lineAccessed
  cases kind <;> grind [owned.askFills, owned.installLine, owned.lineHit, owned.modLine, owned.modTc]

theorem State.owned.linesAccessed {pa len : Nat} {w : Writer} {kind : Bool → CacheKind} :
    (s.linesAccessed pa len w kind).owned ko := by
  grind [State.linesAccessed, owned.lineAccessed, owned_foldl]

theorem State.owned.granWritten {pa : Nat} : (s.granWritten pa).owned ko := h.linesAccessed

theorem State.owned.granRead {pa : Nat} {stream : Bool} : (s.granRead pa stream).owned ko := h.linesAccessed

theorem State.owned.l1Load {pa : Nat} : (s.l1Load n pa).owned ko := by
  grind [State.l1Load, owned.lineAccessed, owned.setLan]

end

/-! ### Pages, the home and the holder (R335 to R351, R397) -/

section

variable {ko : List Byte} {s : State} (h : s.owned ko) {n : Nat}
include h

theorem State.owned.sendOp {cid : Nat} {op status : Byte} {rid : Word} {addr opnd : Dword} {pmap : BitVec 64}
    {data : List Byte} :
    (s.sendOp cid op status rid addr opnd pmap data).owned ko := h.send

theorem State.owned.sendReq {cid : Nat} {op : Byte} {addr opnd : Dword} {len : Nat} {purpose : ReqFor} :
    (s.sendReq cid op addr opnd len purpose).owned ko := by
  grind [State.sendReq, owned.send, owned.setCon]

theorem State.owned.cir {d msg vpn : Nat} : (s.cir d msg vpn).owned ko := h.sendOp

theorem State.owned.setPte {vpn : Nat} {e : Pte} : (s.setPte vpn e).owned ko := h

theorem State.owned.tbDrop {vpn : Nat} : (s.tbDrop vpn).owned ko := h

theorem State.owned.remap {vpn : Nat} {e : Pte} : (s.remap vpn e).owned ko := h.tbDrop.setPte

theorem State.owned.modPl {i : Nat} {f : PlRec → PlRec} : (s.modPl i f).owned ko := h

theorem State.owned.placeOne {e : Pte} {parity : Bool} {j k : Nat} : (s.placeOne e parity j k).owned ko := by
  grind [State.placeOne, owned.modPl]

theorem State.owned.seat {e : Pte} {p : Nat} : (s.seat e p).1.owned ko := by
  grind [State.seat, owned.placeOne, owned_foldl]

theorem State.owned.unplace {e : Pte} : (s.unplace e).owned ko := by
  grind [State.unplace]

theorem State.owned.syncUnit {e : Pte} {j b : Nat} : (s.syncUnit e j b).owned ko := by
  grind [State.syncUnit, owned.physWriteP, owned_foldl]

theorem State.owned.syncParity {was : State} {e : Pte} {off len : Nat} : (was.syncParity s e off len).owned ko := by
  grind [State.syncParity, owned.syncUnit, owned_foldl]

theorem State.owned.syncPage {e : Pte} : (s.syncPage e).owned ko := by
  grind [State.syncPage, owned.syncUnit, owned_foldl]

theorem State.owned.pageWrite {e : Pte} {off : Nat} {bs : List Byte} {bad : Nat → Bool} :
    (s.pageWrite e off bs bad).owned ko :=
  h.physWriteP.syncParity

theorem State.owned.pageZero {e : Pte} : (s.pageZero e).owned ko := by
  grind [State.pageZero, owned.linesAccessed, owned.physZero, owned_foldl]

theorem State.owned.sendPage {d vpn : Nat} {e : Pte} {critical : Nat} : (s.sendPage d vpn e critical).owned ko := by
  grind [State.sendPage, owned.granRead, owned.sendOp, owned_foldl]

theorem State.owned.sendAsked {d vpn : Nat} {e : Pte} : (s.sendAsked d vpn e).owned ko := by
  grind [State.sendAsked, owned.draw, owned.sendPage]

theorem State.owned.copyPage {e dst : Pte} : (s.copyPage e dst).owned ko := by
  rw [State.copyPage]
  generalize List.range 512 = grans
  exact owned_foldl (fun _ _ h => h.granRead.physMove.granWritten) h _

theorem State.owned.wake {vpn : Nat} {hit : Nat → Bool} : (s.wake vpn hit).owned ko := by
  grind [State.wake]

theorem State.owned.wakePage {vpn sub : Nat} : (s.wakePage vpn sub).owned ko := h.wake

theorem State.owned.wakeVpn {vpn : Nat} : (s.wakeVpn vpn).owned ko := h.wake

theorem State.owned.cowStart {vpn : Nat} : (s.cowStart vpn).owned ko := by
  grind [State.cowStart, owned.seat]

theorem State.owned.breakResvPage {e : Pte} : (s.breakResvPage e).owned ko := by
  grind [State.breakResvPage, owned_foldl]

theorem State.owned.setDir {vpn : Nat} {d : Dir} : (s.setDir vpn d).owned ko := h

theorem State.owned.homeAcc {vpn : Nat} {acc : Acc} : (s.homeAcc vpn acc).owned ko := by
  grind [State.homeAcc, owned.remap]

theorem State.owned.backZero {vpn : Nat} {e : Pte} : (s.backZero vpn e).1.owned ko := by
  grind [State.backZero, owned.pageZero, owned.remap, owned.seat]

theorem State.owned.homeServe {vpn : Nat} {r : HomeReq} : (s.homeServe vpn r).owned ko := by
  unfold State.homeServe
  extract_lets d finish waitFor
  have hfinish (s : State) (d : Dir) (acc : Acc) (h : s.owned ko) : (finish s d acc).owned ko := h.setDir.homeAcc
  have hwait (s : State) (msg : Nat) (ds : List Nat) (h : s.owned ko) : (waitFor s msg ds).owned ko :=
    owned_foldl (fun _ _ h => h.cir) h.setDir ds
  clear_value finish waitFor
  split
  next s' eo heq =>
    have hs' : s'.owned ko := by grind [owned.backZero]
    grind [owned.sendAsked, owned.setDir, owned.cowStart, owned.breakResvPage, owned.cir, owned.wakeVpn]

theorem State.owned.homePump {k vpn : Nat} : (State.homePump k vpn s).owned ko := by
  induction k generalizing s with
  | zero => exact h
  | succ k ih => grind [State.homePump, owned.homeServe, owned.setDir]

theorem State.owned.homeAsk {vpn : Nat} {r : HomeReq} : (s.homeAsk vpn r).owned ko := by
  grind [State.homeAsk, owned.setDir, owned.homePump]

theorem State.owned.setFetch {vpn : Nat} {f : Fetch} : (s.setFetch vpn f).owned ko := h

theorem State.owned.hostReads {h addr vpn critical : Nat} : (s.hostReads h addr vpn critical).owned ko := by
  grind [State.hostReads, owned.sendReq, owned_foldl]

theorem State.owned.askHome {vpn : Nat} {e : Pte} {f : Fetch} : (s.askHome vpn e f).owned ko := by
  grind [State.askHome, owned.cir, owned.hostReads]

theorem State.owned.dropFetch {vpn : Nat} {e : Pte} : (s.dropFetch vpn e).owned ko := by
  grind [State.dropFetch, owned.unplace]

theorem State.owned.failFetch {vpn : Nat} {e : Pte} : (s.failFetch vpn e).owned ko := by
  grind [State.failFetch, owned.dropFetch]

theorem State.owned.seatFetch {vpn : Nat} {e : Pte} {f : Fetch} {p : Nat} : (s.seatFetch vpn e f p).owned ko := by
  grind [State.seatFetch, owned.askHome, owned.seat, owned.setFetch]

theorem State.owned.startFetch {vpn sub : Nat} {write : Bool} {e : Pte} : (s.startFetch vpn sub write e).owned ko := by
  grind [State.startFetch, owned.askHome, owned.failFetch, owned.record, owned.seatFetch, owned.setFetch]

theorem State.owned.feed : s.feed.owned ko := by
  grind [State.feed, owned.seatFetch, owned_foldl]

theorem State.owned.wakeStuck : s.wakeStuck.owned ko := by
  grind [State.wakeStuck, owned.feed, owned.wakeVpn, owned_foldl]

theorem State.owned.frozenStall {vpn : Nat} : (s.frozenStall vpn).1.owned ko := by
  grind [State.frozenStall, owned.cowStart]

theorem State.owned.touchPage {who : Writer} {va : Nat} {write : Bool} : (s.touchPage who va write).1.owned ko := by
  unfold State.touchPage
  extract_lets vpn sub
  split
  · exact h
  next e0 _ =>
    have hs : (if firstTile e0 who = e0 then s else s.setPte vpn (firstTile e0 who)).owned ko := by
      grind [owned.setPte]
    extract_lets e s'
    change s'.owned ko at hs
    clear_value s' e
    grind [owned.backZero, owned.frozenStall, owned.homeAsk, owned.startFetch]

theorem State.owned.touch {who : Writer} {va : Nat} {write : Bool} : (s.touch who va write).1.owned ko := by
  grind [State.touch, owned.touchPage]

theorem State.owned.breakResv {pa : Nat} : (s.breakResv pa).owned ko := by
  grind [State.breakResv]

theorem State.owned.touchRange {who : Writer} {write : Bool} {ps : List (Nat × Nat)} :
    (s.touchRange who write ps).1.owned ko := by
  induction ps generalizing s with
  | nil => exact h
  | cons p ps ih => grind [State.touchRange, owned.touch]

theorem State.owned.dvWriteP {va : Nat} {bs : List Byte} {bad : Nat → Bool} : (s.dvWriteP va bs bad).owned ko := by
  unfold State.dvWriteP
  refine List.foldlRecOn (motive := fun x : State × List Byte => x.1.owned ko) _ _ h fun x hx p _ => ?_
  grind [owned.breakResv, owned.pageWrite, owned_foldl]

theorem State.owned.dvWrite {va : Nat} {bs : List Byte} : (s.dvWrite va bs).owned ko := h.dvWriteP

theorem State.owned.dvStoreK {w : Writer} {kind : Bool → CacheKind} {va : Nat} {bs : List Byte} {bad : Nat → Bool} :
    (s.dvStoreK w kind va bs bad).owned ko := by
  grind [State.dvStoreK, owned.dvWriteP, owned.linesAccessed, owned_foldl]

theorem State.owned.dvStore {w : Writer} {va : Nat} {bs : List Byte} {bad : Nat → Bool} :
    (s.dvStore w va bs bad).owned ko := by
  grind [State.dvStore, owned.dvStoreK, owned.modLan, owned_foldl]

theorem State.owned.dvLoadLines {va len : Nat} {stream : Bool} : (s.dvLoadLines va len stream).owned ko :=
  owned_foldl (fun _ _ h => h.linesAccessed) h _

theorem State.owned.dropPageLines {e : Pte} : (s.dropPageLines e).owned ko := by
  grind [State.dropPageLines]

theorem State.owned.holderDrop {vpn : Nat} {acc : Acc} : (s.holderDrop vpn acc).owned ko := by
  grind [State.holderDrop, owned.breakResvPage, owned.dropPageLines, owned.remap, owned.setFetch,
    owned.unplace]

theorem State.owned.goneNow {vpn : Nat} {e : Pte} : (s.goneNow vpn e).owned ko := by
  grind [State.goneNow, owned.dropFetch, owned.holderDrop, owned.remap, owned.wakeStuck, owned.wakeVpn]

theorem State.owned.holderAnswer {d vpn : Nat} {k : Owed} : (s.holderAnswer d vpn k).owned ko := by
  grind [State.holderAnswer, owned.cir, owned.goneNow, owned.holderDrop, owned.sendAsked]

theorem State.owned.fetchDone {vpn : Nat} {e : Pte} {f : Fetch} : (s.fetchDone vpn e f).owned ko := by
  grind [State.fetchDone, owned.remap, owned.setFetch, owned.syncPage, owned.wakeVpn]

theorem State.owned.settlePins : s.settlePins.owned ko := by
  grind [State.settlePins, owned.fetchDone, owned.homeAcc, owned_foldl]

theorem State.owned.pumpPins : (s.pumpPins).owned ko := by
  grind [State.pumpPins, owned.holderAnswer, owned.settlePins, owned.homePump, owned_foldl]

end

/-! ### Completion, halts and entry into an event (R211, R266 to R278) -/

section

variable {ko : List Byte} {s : State} (h : s.owned ko) {n : Nat}
include h

theorem State.owned.complete {len : Nat} : (s.complete n len).owned ko := h.modLan

theorem State.owned.transfer {target : Dword} : (s.transfer n target).owned ko := h.modLan

theorem State.owned.haltLan {cause : Nat} {pc : Dword} : (s.haltLan n cause pc).owned ko := by
  grind [State.haltLan, owned.pumpPins, owned.record, owned.setLan]

theorem State.owned.takeEvent {cause : Nat} {spc saddr : Dword} {selem trapno : Nat} :
    (s.takeEvent n cause spc saddr selem trapno).owned ko := by
  grind [State.takeEvent, owned.haltLan, owned.setLan]

theorem State.owned.rte : (s.rte n).owned ko := by
  grind [State.rte, owned.haltLan, owned.setLan]

end

/-! ### Queues, gangs and event counters (R259, R363 to R374) -/

section

variable {ko : List Byte} {s : State} (h : s.owned ko) {n : Nat}
include h

theorem State.owned.setCounter {e : Nat} {v : Dword} : (s.setCounter e v).owned ko := h

theorem State.owned.headEntry {q : Queue} : (s.headEntry q).1.owned ko := by
  grind [State.headEntry, owned.touchRange]

theorem State.owned.stopQueue {q sub : Nat} : (s.stopQueue q sub).owned ko := by
  grind [State.stopQueue, owned.setQueue]

theorem State.owned.checkHead {q : Nat} : (s.checkHead q).owned ko := by
  grind [State.checkHead, owned.headEntry, owned.record, owned.setQueue, owned.stopQueue]

theorem State.owned.headStarts {q : Nat} : (s.headStarts q).owned ko := by
  grind [State.headStarts, owned.setQueue]

theorem State.owned.addCevt {en : Bool} {c : Nat} {d : Dword} : (s.addCevt en c d).owned ko := by
  grind [State.addCevt, owned.setCounter]

theorem State.owned.addDone {q : Nat} : (s.addDone q).owned ko := by
  grind [State.addDone, owned.setQueue]

end

section

variable {ko : List Byte} {s : State} (h : s.owned ko) {n : Nat}
include h

theorem State.owned.checkHeads {heads : List Nat} : (heads.foldl State.checkHead s).owned ko :=
  owned_foldl (fun _ _ h => h.checkHead) h _

theorem State.owned.examineN {k : Nat} : (State.examineN k s).owned ko := by
  induction k generalizing s with
  | zero => exact h
  | succ k ih =>
    have hc : ((List.range 64).foldl State.checkHead s).owned ko := h.checkHeads
    rw [State.examineN_succ]
    grind [State.examineRound, owned.headStarts, owned.addCevt, owned.addDone, owned.setQueue]

theorem State.owned.examine : (s.examine).owned ko := by
  grind [State.examine, owned.examineN]

theorem State.owned.changeEvent {e : Nat} {v : Dword} : (s.changeEvent e v).owned ko := h.setCounter.examine

theorem State.owned.addEvent {e : Nat} {d : Dword} : (s.addEvent e d).owned ko := h.changeEvent

theorem State.owned.ringBell {q : Nat} {tail : Half} : (s.ringBell q tail).owned ko := by
  grind [State.ringBell, owned.examine, owned.record, owned.setQueue, owned.stopQueue]

theorem State.owned.setGang {g : Gang} : (s.setGang g).owned ko := h

theorem State.owned.dropGang {g : Gang} : (s.dropGang g).owned ko := by
  grind [State.dropGang, owned.modLan, owned_foldl]

theorem State.owned.kernelDone : (s.kernelDone n).owned ko := by
  grind [State.kernelDone, owned.addCevt, owned.addDone, owned.dropGang, owned.examine, owned.setGang]

theorem State.owned.abortKernel {g : Gang} : (s.abortKernel g).owned ko := by
  grind [State.abortKernel, owned.dropGang, owned.examine, owned.haltLan, owned.record, owned.stopQueue,
    owned_foldl]

end

/-! ### Conduits that are lost, and tables (R291 to R294, R458) -/

section

variable {ko : List Byte} {s : State} (h : s.owned ko) {n : Nat}
include h

theorem State.owned.ckStop : s.ckStop.owned ko := by
  grind [State.ckStop, owned.pumpPins, owned.unplace, owned.wakeStuck, owned.wakeVpn, owned_foldl]

theorem State.owned.ckAbort : s.ckAbort.owned ko := by
  grind [State.ckAbort, owned.ckStop]

theorem State.owned.restoreEnd : s.restoreEnd.owned ko := by
  grind [State.restoreEnd, owned.draw]

theorem State.owned.replyLost {gone : Nat → Bool} : (s.replyLost gone).owned ko := by
  grind [State.replyLost]

theorem State.owned.loseConduit {cid : Nat} : (s.loseConduit cid).owned ko := by
  grind [State.loseConduit, owned.addEvent, owned.ckAbort, owned.notify, owned.replyLost, owned.restoreEnd,
    owned.setCon, owned.setLan, owned_foldl]

theorem State.owned.loadTable : (s.loadTable n).owned ko := by
  grind [State.loadTable, owned.modLan]

end

/-! ### Registers (R525 to R538) -/

section

variable {ko : List Byte} {s : State} (h : s.owned ko) {n : Nat}
include h

theorem State.owned.setRstat {b : Blk} {w : Bool} {v : Nat} : (s.setRstat b w v).owned ko := by
  cases b <;> exact h

theorem State.owned.setWie {b : Blk} : (s.setWie b).owned ko := h.setRstat

theorem State.owned.regRead {rq : Requester} {addr : Nat} {b : Blk} {off : Nat} :
    (s.regRead rq addr b off).2.owned ko := by
  grind [State.regRead]

theorem State.owned.rateWrite {v : Word} : (s.rateWrite v).owned ko := by
  grind [State.rateWrite]

theorem State.owned.fetchAdd {w : Writer} {va : Nat} {d : Dword} : (s.fetchAdd w va d).1.owned ko := by
  grind [State.fetchAdd, owned.dvLoadLines, owned.dvStoreK, owned.touch]

theorem State.owned.xrqEnd {st : Byte} {old : Option Dword} : (s.xrqEnd n st old).owned ko := by
  grind [State.xrqEnd, owned.addEvent, owned.setLan]

theorem State.owned.xrqGo : (s.xrqGo n).owned ko := by
  grind [State.xrqGo, owned.addEvent, owned.fetchAdd, owned.modLan, owned.sendOp, owned.sendReq, owned.setCon,
    owned.xrqEnd]

theorem State.owned.xrqWrite {v : Word} : (s.xrqWrite n v).owned ko := by
  grind [State.xrqWrite, owned.modLan, owned.xrqGo]

theorem State.owned.pteqWrite {v : Word} : (s.pteqWrite v).owned ko := by
  grind [State.pteqWrite]

theorem State.owned.fetchRetry : s.fetchRetry.owned ko := by
  grind [State.fetchRetry, owned.startFetch, owned_foldl]

theorem State.owned.evcmd {v : Word} : (s.evcmd v).owned ko := by
  grind [State.evcmd, owned.addEvent, owned.changeEvent]

theorem State.owned.releaseWrite {v : Word} : (s.releaseWrite v).owned ko := by
  grind [State.releaseWrite, owned.abortKernel, owned.examine, owned.modLan]

theorem State.owned.resumeQueue {q : Nat} : (s.resumeQueue q).owned ko := by
  grind [State.resumeQueue, owned.examine, owned.setQueue]

theorem State.owned.lanDisable : (s.lanDisable n).owned ko := by
  grind [State.lanDisable, owned.modLan, owned.setReady]

theorem State.owned.lanEnable : (s.lanEnable n).owned ko := by
  grind [State.lanEnable, owned.examine, owned.loadTable, owned.setLan, owned.setReady]

theorem State.owned.engDisable {e : Nat} : (s.engDisable e).owned ko := by
  grind [State.engDisable, owned.modEng, owned.setReady]

theorem State.owned.engEnable {e : Nat} : (s.engEnable e).owned ko := by
  grind [State.engEnable, owned.examine, owned.modEng, owned.setReady]

theorem State.owned.ctlWrite {b : Blk} {v : Word} : (s.ctlWrite b v).owned ko := by
  unfold State.ctlWrite
  split <;> grind [owned.engDisable, owned.engEnable, owned.lanDisable, owned.lanEnable, owned.setWie]

theorem State.owned.lanWrite {n : Nat} {off : Nat} {v : Word} : (s.lanWrite n off v).owned ko := by
  unfold State.lanWrite
  extract_lets l rwe
  have hrwe (f : Lantern → Lantern) : (rwe f).owned ko := by grind [owned.setWie, owned.setLan]
  clear_value rwe
  split <;> grind [owned.setLan, owned.xrqWrite]

theorem State.owned.regWrite {addr : Nat} {b : Blk} {off : Nat} {v : Word} : (s.regWrite addr b off v).owned ko := by
  unfold State.regWrite
  cases b <;> grind [owned.ctlWrite, owned.evcmd, owned.fetchRetry, owned.lanWrite, owned.modTc,
    owned.pteqWrite,
    owned.rateWrite, owned.releaseWrite, owned.resumeQueue, owned.setRstat]

theorem State.owned.wickRead {addr : Nat} : (s.wickRead n addr).2.owned ko := by
  grind [State.wickRead, owned.regRead]

theorem State.owned.wickWrite {addr : Nat} {v : Word} : (s.wickWrite n addr v).owned ko := by
  grind [State.wickWrite, owned.regWrite, owned.setWie]

theorem State.owned.pilotWrite {addr : Nat} {v : Word} : (s.pilotWrite addr v).owned ko := by
  grind [State.pilotWrite, owned.regWrite]

end

/-! ### Channels and parity (R296 to R311, R388) -/

section

variable {ko : List Byte} {s : State} (h : s.owned ko) {n : Nat}
include h

theorem State.owned.syncPa {pa : Nat} : (s.syncPa pa).owned ko := by
  grind [State.syncPa, owned.syncUnit]

theorem State.owned.poisonPa {pa : Nat} : (s.poisonPa pa).owned ko := by
  grind [State.poisonPa, owned.poisonUnit, owned.syncPa]

theorem State.owned.rowOpen {pa : Nat} : (s.rowOpen pa).owned ko := by
  grind [State.rowOpen, owned.modCh]

theorem State.owned.unitUe {pa syn : Nat} : (s.unitUe pa syn).owned ko := by
  grind [State.unitUe, owned.poisonPa, owned.record]

theorem State.owned.wbTaken {pa : Nat} : (s.wbTaken pa).owned ko := by
  grind [State.wbTaken, owned.modTc]

theorem State.owned.asDecoded {pa : Nat} {poisoned : Bool} {errs : List (BitVec 80)} :
    (s.asDecoded pa poisoned errs).owned ko := by
  grind [State.asDecoded, owned.physWrite]

theorem State.owned.execDramRead {pa : Nat} {errs : List (BitVec 80)} : (execDramRead pa errs s).Owned ko := by
  grind [Machine.execDramRead, Out.Owned, owned.asDecoded, owned.modCh, owned.records, owned.rowOpen,
    owned.unitUe]

theorem State.owned.parityOnWrite {was : State} (_ : was.owned ko) {pa : Nat} : (was.parityOnWrite s pa).owned ko := by
  grind [State.parityOnWrite, owned.syncPa]

theorem State.owned.execDramWrite {pa : Nat} {mask : BitVec 64} {data : BitVec 512} {errs : List (BitVec 80)} :
    (execDramWrite pa mask data errs s).Owned ko := by
  grind [Machine.execDramWrite, Out.Owned, owned.modCh, owned.parityOnWrite, owned.physWriteP,
    owned.record, owned.rowOpen, owned.unitUe, owned.wbTaken]

theorem State.owned.execParityDelta {pa q : Nat} : (execParityDelta pa q s).Owned ko := by
  grind [Machine.execParityDelta, Out.Owned, owned.syncPa]

theorem State.owned.rebuildUnit {pa syn : Nat} {bad : List Nat} : (s.rebuildUnit pa syn bad).1.owned ko := by
  grind [State.rebuildUnit, owned.poisonPa]

theorem State.owned.execUnitRebuild {pa : Nat} {bad : List Nat} : (execUnitRebuild pa bad s).Owned ko := by
  grind [Machine.execUnitRebuild, Out.Owned, owned.rebuildUnit, owned.record]

theorem State.owned.refreshRate {ch : Nat} : (s.refreshRate ch).owned ko := by
  grind [State.refreshRate, owned.modCh]

theorem State.owned.execRefresh {ch bank : Nat} : (execRefresh ch bank s).Owned ko := by
  grind [Machine.execRefresh, Out.Owned, owned.refreshRate]

theorem State.owned.zeroChannel {ch : Nat} : (s.zeroChannel ch).owned ko :=
  h

theorem State.owned.trainFailed {ch fs : Nat} : (s.trainFailed ch fs).owned ko := by
  grind [State.trainFailed, owned.modCh, owned.record]

theorem State.owned.execChannelTrainingPassEnd {ch failStep : Nat} {eye : Word} :
    (execChannelTrainingPassEnd ch failStep eye s).Owned ko := by
  grind [Machine.execChannelTrainingPassEnd, Out.Owned, owned.modCh, owned.setReady, owned.trainFailed,
    owned.zeroChannel]

theorem State.owned.execDelayRecentre {ch : Nat} {moved : List (Nat × Nat)} :
    (execDelayRecentre ch moved s).Owned ko := by
  grind [Machine.execDelayRecentre, Out.Owned, owned.records]

end

/-! ### Tile caches (R319 to R332) -/

section

variable {ko : List Byte} {s : State} (h : s.owned ko) {n : Nat}
include h

theorem State.owned.zeroLine {line : Nat} : (s.zeroLine line).owned ko := by
  grind [State.zeroLine, owned.breakResv, owned.physZero, owned.syncPa, owned_foldl]

theorem State.owned.cacheAccess {pa : Nat} {kind : CacheKind} {agent : Option Nat} :
    (s.cacheAccess pa kind agent).owned ko := by
  grind [State.cacheAccess, owned.lineAccessed, owned.zeroLine]

theorem State.owned.poisonLine {line : Nat} : (s.poisonLine line).owned ko := owned_foldl (fun _ _ h => h.poisonPa) h _

theorem State.owned.lineLost {pa key unit cleanCode aux : Nat} : (s.lineLost pa key unit cleanCode aux).owned ko := by
  grind [State.lineLost, owned.dropCopies, owned.modTc, owned.poisonLine, owned.record]

theorem State.owned.lineRead {pa : Nat} {err : LineErr} : (s.lineRead pa err).owned ko := by
  grind [State.lineRead, owned.asDecoded, owned.lineLost, owned.modTc, owned.records]

theorem State.owned.dropLines {t g lo hi : Nat} : (s.dropLines t g lo hi).owned ko := by
  grind [State.dropLines, owned.dropCopies, owned.modTc, owned_foldl]

theorem State.owned.walkOn {t : Nat} : (s.walkOn t).owned ko := by
  grind [State.walkOn, owned.draw, owned.dropLines, owned.modTc, owned_foldl]

theorem State.owned.execTileCacheAccess {pa : Nat} {kind : CacheKind} {agent : Option Nat} {err : LineErr} :
    (execTileCacheAccess pa kind agent err s).Owned ko := by
  grind [Machine.execTileCacheAccess, Out.Owned, owned.cacheAccess, owned.lineRead, owned.walkOn]

theorem State.owned.execTileCacheFill {t : Nat} {err : FillErr} : (execTileCacheFill t err s).Owned ko := by
  grind [Machine.execTileCacheFill, Out.Owned, owned.installLine, owned.modLan, owned.modLine,
    owned.modTc, owned.poisonLine, owned.poisonPa, owned.record, owned_foldl]

theorem State.owned.execL1Invalidation {pa : Nat} : (execL1Invalidation n pa s).Owned ko := by
  grind [Machine.execL1Invalidation, Out.Owned, owned.modLan, owned.modTc]

theorem State.owned.execWayGroupPowerDown {t g : Nat} : (execWayGroupPowerDown t g s).Owned ko := by
  grind [Machine.execWayGroupPowerDown, Out.Owned, owned.modTc]

theorem State.owned.execWayGroupPowerUp {t g : Nat} : (execWayGroupPowerUp t g s).Owned ko := by
  grind [Machine.execWayGroupPowerUp, Out.Owned, owned.modTc]

theorem State.owned.execWayGroupCleanEnd {t g : Nat} : (execWayGroupCleanEnd t g s).Owned ko := by
  grind [Machine.execWayGroupCleanEnd, Out.Owned, owned.dropLines, owned.modTc]

theorem State.owned.execWayGroupOn {t g : Nat} : (execWayGroupOn t g s).Owned ko := by
  grind [Machine.execWayGroupOn, Out.Owned, owned.modTc]

end

/-! ### Runs of an instruction: operands, loads and stores (R200 to R261) -/

/-- A run ends with a result of which `p` holds, or stops in a state that `ko` owns. -/
def Run.Owned (ko : List Byte) {α : Type} (p : α → Prop) : Run α → Prop
  | .ok a => p a
  | .error x => x.state.owned ko

theorem Run.Owned.bind {α β : Type} {p : α → Prop} {q : β → Prop} {x : Run α} {f : α → Run β}
    (hx : x.Owned ko p) (hf : ∀ a, p a → (f a).Owned ko q) : Run.Owned ko q (x >>= f) := by
  cases x with
  | ok a => exact hf a hx
  | error e => exact hx

theorem Run.Owned.ite {α : Type} {p : α → Prop} {c : Prop} [Decidable c] {x y : Run α} (hx : c → x.Owned ko p)
    (hy : ¬c → y.Owned ko p) : Run.Owned ko p (if c then x else y) := by
  split
  · exact hx ‹_›
  · exact hy ‹_›

section
variable {ko : List Byte} {s : State} (h : s.owned ko) {n : Nat}
include h

theorem State.owned.illegal {α : Type} {p : α → Prop} {cause : Nat} : Run.Owned ko p (s.illegal n cause) := h

theorem State.owned.need {ok : Bool} : (s.need n ok).Owned ko fun _ => True :=
  .ite (fun _ => trivial) fun _ => h

theorem State.owned.await {ok : Bool} : (s.await ok).Owned ko fun _ => True :=
  .ite (fun _ => trivial) fun _ => h

theorem State.owned.awaitFence {ok : Bool} : (s.awaitFence ok).Owned ko fun _ => True :=
  .ite (fun _ => trivial) fun _ => h

theorem State.owned.readReg {code : Nat} : (s.readReg n code).Owned ko fun _ => True := by
  unfold State.readReg
  grind [Run.Owned, owned.illegal]

theorem State.owned.writeReg {code : Nat} {v : Dword} : (s.writeReg n code v).Owned ko (State.owned ko) := by
  rw [State.writeReg_eq]
  grind [Run.Owned, owned.illegal, owned.setLan, owned.modLan]

theorem State.owned.checkParts {dv reg : Bool} {a : Dword} {len : Nat} :
    (s.checkParts n dv reg a len).Owned ko fun _ => True := by
  unfold State.checkParts
  split
  · exact h
  · exact trivial

theorem State.owned.touchEach {write hold : Bool} {ps : List (Dword × Nat)} :
    (s.touchEach n write hold ps).Owned ko (State.owned ko) := by
  induction ps generalizing s with
  | nil => exact h
  | cons p ps ih =>
    have ht : (s.touch (.wick n) p.1.toNat write).1.owned ko := h.touch
    grind [State.touchEach, Run.Owned, Abort.state]

theorem State.owned.unhold {vpns : List Nat} : (s.unhold n vpns).owned ko := h

theorem State.owned.touchParts {write : Bool} {ps : List (Dword × Nat)} :
    (s.touchParts n write ps).Owned ko (State.owned ko) := by
  have ht : (s.touchEach n write (ps.length = 2) ps).Owned ko (State.owned ko) := h.touchEach
  grind [State.touchParts, Run.Owned, owned.unhold]

theorem State.owned.poisonDv {va : Nat} : (s.poisonDv n va).owned ko := h.record

theorem State.owned.poisonLs {a : Nat} : (s.poisonLs n a).owned ko := h.record

theorem State.owned.poisoned {α : Type} {p : α → Prop} {dv : Bool} {a : Dword} {selem : Nat} :
    Run.Owned ko p (s.poisoned n dv a selem) := by
  cases dv
  · exact h.poisonLs
  · exact h.poisonDv

theorem State.owned.reach {dv reg write : Bool} {a : Dword} {len : Nat} :
    (s.reach n dv reg write a len).Owned ko (State.owned ko) := by
  have hc : (s.checkParts n dv reg a len).Owned ko fun _ => True := h.checkParts
  grind [State.reach, Run.Owned, owned.touchParts]

theorem State.owned.readPort {dv : Bool} {a : Dword} {len : Nat} :
    (s.readPort n dv a len).Owned ko fun r => r.2.owned ko := by
  unfold State.readPort
  have hl : ((halves a len).foldl (fun s p => s.l1Load n (s.vaPa p.1.toNat)) s).owned ko :=
    owned_foldl (fun _ _ h => h.l1Load) h _
  grind [Run.Owned, owned.poisoned]

theorem State.owned.readBuffered {dv : Bool} {a : Dword} {len : Nat} :
    (s.readBuffered n dv a len).Owned ko fun r => r.2.owned ko := by
  unfold State.readBuffered
  grind [Run.Owned, Abort.state, owned.poisoned, owned.readPort]

theorem State.owned.load {dv reg : Bool} {a : Dword} {len : Nat} :
    (s.load n dv reg a len).Owned ko fun r => r.2.owned ko := by
  have hr : (s.reach n dv reg false a len).Owned ko (State.owned ko) := h.reach
  unfold State.load
  grind [Run.Owned, Abort.state, owned.wickRead, owned.readBuffered]

theorem State.owned.enterStores {es : List SbEntry} : (s.enterStores n es).Owned ko (State.owned ko) :=
  .ite (fun _ => h) fun _ => h

theorem State.owned.store {dv reg : Bool} {a : Dword} {bs : List Byte} :
    (s.store n dv reg a bs).Owned ko (State.owned ko) := by
  have hr : (s.reach n dv reg true a bs.length).Owned ko (State.owned ko) := h.reach
  unfold State.store
  grind [Run.Owned, Abort.state, owned.wickWrite, owned.enterStores]

theorem State.owned.operandValue {w : BaseWord} {immv : Dword} {len : Nat} :
    (s.operandValue n w immv len).Owned ko fun r => r.2.owned ko := by
  unfold State.operandValue
  split
  · exact h
  · exact h
  next dv a _ =>
    have hl : (s.load n dv true a len).Owned ko fun r => r.2.owned ko := h.load
    grind [Run.Owned]
  next c _ =>
    have hr : (s.readReg n c).Owned ko fun _ => True := h.readReg
    grind [Run.Owned]

theorem State.owned.operandStore {w : BaseWord} {v : Dword} {len : Nat} :
    (s.operandStore n w v len).Owned ko (State.owned ko) := by
  unfold State.operandStore
  split
  exacts [h, h, h.store, h.writeReg]

theorem State.owned.modWick {f : Wick → Wick} : (s.modWick n f).owned ko := h

theorem State.owned.transferTo {target : Dword} : (s.transferTo n target).Owned ko (State.owned ko) :=
  .ite (fun _ => h) fun _ => h

theorem State.owned.target {w : BaseWord} : (s.target n w).Owned ko fun _ => True := by
  unfold State.target
  split
  · exact .ite (fun _ => trivial) fun _ => h
  · exact h.readReg
  · exact h

theorem State.owned.pushCall {ret : Dword} : (s.pushCall n ret).Owned ko (State.owned ko) :=
  .bind h.checkParts fun _ _ => .ite (fun _ => h) fun _ => .bind h.enterStores fun _ h => h

theorem State.owned.counterOperand {w : BaseWord} : (s.counterOperand n w).Owned ko fun _ => True :=
  .bind h.need fun _ _ => .bind h.operandValue fun _ _ => .ite (fun _ => h) fun _ => trivial

theorem State.owned.resvAddr {w : BaseWord} : (s.resvAddr n w).Owned ko fun r => r.2.owned ko := by
  unfold State.resvAddr
  split
  next dv a _ =>
    have hr : (s.reach n dv false true a 8).Owned ko (State.owned ko) := h.reach
    grind [Run.Owned, Abort.state]
  · exact h

theorem State.owned.fpComplete {len : Nat} {x : Exc} : (s.fpComplete n len x).owned ko := by
  unfold State.fpComplete
  grind [owned.modWick, owned.modLan, owned.complete, owned.takeEvent]

theorem State.owned.blkIter {op : BlkOp} {imm : Nat} : (s.blkIter n op imm).Owned ko (State.owned ko) := by
  cases op with
  | bcopy => exact .bind h.load fun _ h => .bind h.store fun _ h => h
  | bfill => exact .bind h.store fun _ h => h
  | bread => exact .bind h.load fun _ h => h
  | bcomp => exact .bind h.load fun _ h => .bind h.load fun _ h => h
  | bseek => exact .bind h.load fun _ h => h
  | vblk => exact h

theorem State.owned.touchDv {write : Bool} {ps : List (Nat × Nat)} : (s.touchDv n write ps).Owned ko (State.owned ko) := by
  have ht : (s.touchRange (.lantern n) write ps).1.owned ko := h.touchRange
  grind [State.touchDv, Run.Owned, Abort.state]

theorem State.owned.vblkIter {imm : Nat} : (s.vblkIter n imm).Owned ko (State.owned ko) := by
  unfold State.vblkIter
  extract_lets l k t out i
  split
  · exact h
  · exact .bind h.touchDv fun _ h => .bind h.await fun _ _ => h

theorem State.owned.anyIter {op : BlkOp} {imm : Nat} : (s.anyIter n op imm).Owned ko (State.owned ko) :=
  .ite (fun _ => h.vblkIter) fun _ => h.blkIter

theorem State.owned.iterEnd {op : BlkOp} {imm : Nat} : (s.iterEnd n op imm).owned ko := by
  grind [State.iterEnd, owned.modLan, owned.complete]

theorem State.owned.loaderMove {i : LoaderItem} : (s.loaderMove n i).owned ko := by
  unfold State.loaderMove
  grind [owned.dvStore, owned.dvLoadLines, owned.modLan, owned_foldl]

end

/-! ### Instructions of the wick -/

theorem Run.Owned.land {x : Abort} (h : x.state.owned ko) (n : Nat) : (x.land n).owned ko := by
  cases x with
  | trap s cause saddr selem => exact State.owned.takeEvent (s := s.issued n) h
  | wait s w => cases w <;> exact h

section
variable {ko : List Byte} {s : State} (h : s.owned ko) {n : Nat}
include h

theorem State.owned.issued : (s.issued n).owned ko := h

theorem State.owned.runWick {len : Nat} {cond : BitVec 4} {body : State → Run State}
    (hbody : (body s).Owned ko (State.owned ko)) : (s.runWick n len cond body).Owned ko := by
  grind [State.runWick, Out.Owned, owned.complete, owned.issued, Run.Owned, Run.Owned.land]

theorem State.owned.baseOp {w : BaseWord} {legal : Bool} {immv : Dword} {len : Nat} {f : Wick → Dword → Wick} :
    (s.baseOp n w legal immv len f).Owned ko :=
  h.runWick (.bind h.need fun _ _ => .bind h.operandValue fun _ h => h)

theorem State.owned.baseStore {w : BaseWord} {legal : Bool} {len : Nat} {v : Wick → Dword} :
    (s.baseStore n w legal len v).Owned ko := by
  refine h.runWick (.bind h.need fun _ _ => .ite (fun _ => ?_) fun _ => ?_)
  · exact .bind h.writeReg fun _ _ => owned.writeReg (s := s.complete n w.len) h
  · exact .bind h.operandStore fun _ h => h

theorem State.owned.fpOp {dbl : Bool} {w : BaseWord}
    {f : FCtx → Nat → Nat → Nat → Option Nat × Option (BitVec 4) × Exc} :
    (s.fpOp n dbl w f).Owned ko :=
  h.runWick (.bind h.need fun _ _ => .bind h.operandValue fun _ h => h.modWick.fpComplete)

theorem State.owned.blkStart {op : BlkOp} {w : BaseWord} : (s.blkStart n op w).Owned ko :=
  h.runWick (.bind h.need fun _ _ => .ite (fun _ => .ite (fun _ => h) fun _ => h) fun _ => .bind h.anyIter fun _ h => h)

theorem State.owned.execCallCalli {f : CallOp} {w : BaseWord} : (execCallCalli n f w s).Owned ko := by
  refine h.runWick (.bind h.need fun _ _ => ?_)
  cases f
  · exact .ite (fun _ => .bind h.pushCall fun _ h => h) fun _ => h
  · exact .bind h.target fun _ _ => .ite (fun _ => .bind h.pushCall fun _ h => h) fun _ => h

theorem State.owned.execRet {w : BaseWord} : (execRet n w s).Owned ko := by
  refine h.runWick (.bind h.need fun _ _ => .ite (fun _ => h) fun _ => .bind h.load fun _ h => .ite (fun _ =>
    h) fun _ =>
   .bind h.readBuffered fun _ h => .ite (fun _ => h) fun _ => .ite (fun _ => h) fun _ => h)

theorem State.owned.execRte {w : BaseWord} : (execRte n w s).Owned ko :=
  h.runWick (.bind h.need fun _ _ => .ite (fun _ => .ite (fun _ => h) fun _ => .bind h.await fun _ _ =>
    h.rte) fun _ => h)

theorem State.owned.execHloop {w : BaseWord} : (execHloop n w s).Owned ko :=
  h.runWick (.bind h.need fun _ _ => by grind [Run.Owned, owned.modWick, owned.transfer, owned.complete])

theorem State.owned.execMsend {w : BaseWord} : (execMsend n w s).Owned ko := by
  refine h.runWick (.bind h.need fun _ _ => ?_)
  dsimp only
  split
  · exact h
  · exact h

theorem State.owned.execMrecv {w : BaseWord} : (execMrecv n w s).Owned ko := by
  refine h.runWick (.bind h.need fun _ _ => owned.complete ?_)
  split
  · exact h
  · exact h

theorem State.owned.execScD {w : BaseWord} : (execScD n w s).Owned ko := by
  refine h.runWick (.bind h.need fun _ _ => .bind h.await fun _ _ => .bind h.resvAddr fun r h =>
    .bind h.await fun _ _ => ?_)
  refine owned.complete (owned.modLan ?_)
  grind [owned.dvStore, owned.modLan]

theorem State.owned.execBlockIteration : (execBlockIteration n s).Owned ko := by
  have ha (op : BlkOp) (imm : Nat) : (s.anyIter n op imm).Owned ko (State.owned ko) := h.anyIter
  grind [Machine.execBlockIteration, Out.Owned, Run.Owned, Abort.state, owned.iterEnd, owned.takeEvent, owned.modLan]

theorem State.owned.execLoaderWrite : (execLoaderWrite n s).Owned ko := by
  grind [Machine.execLoaderWrite, Out.Owned, owned.loaderMove, owned.modLan, owned.pumpPins]
end

/-! ### Reports, messages and event entry -/

section

variable {ko : List Byte} {s : State} (h : s.owned ko) {n : Nat}
include h

theorem State.owned.execMessageArrival : (execMessageArrival n s).Owned ko := by
  grind [Machine.execMessageArrival, Out.Owned, owned.modLan, owned.setLan]

theorem State.owned.execMessageAnswer : (execMessageAnswer n s).Owned ko := by
  grind [Machine.execMessageAnswer, Out.Owned, owned.complete, owned.modLan]

theorem State.owned.drainHead {e : SbEntry} {t : List SbEntry} : (s.drainHead n e t).owned ko := by
  grind [State.drainHead, owned.dvStore, owned.modLan, owned.pumpPins, owned.setLan, owned.touch]

theorem State.owned.execStoreBufferDrain {bad : Bool} : (execStoreBufferDrain n bad s).Owned ko := by
  grind [Machine.execStoreBufferDrain, Out.Owned, owned.drainHead]

theorem State.owned.execInstructionRefill {va : Nat} : (execInstructionRefill n va s).Owned ko := by
  grind [Machine.execInstructionRefill, Out.Owned, owned.dvLoadLines, owned.modLan, owned_foldl]

theorem State.owned.execBeatCompareMatch : (execBeatCompareMatch n s).Owned ko := by
  grind [Machine.execBeatCompareMatch, Out.Owned, owned.modLan]

theorem State.owned.execSvcRequest : (execSvcRequest n s).Owned ko := by
  grind [Machine.execSvcRequest, Out.Owned, owned.modLan]

theorem State.owned.nanAccept {p : NanRep} : (s.nanAccept n p).owned ko := by
  grind [State.nanAccept, owned.beaconTrigger, owned.setLan]

theorem State.owned.execNanReport {k : Nat} : (execNanReport n k s).Owned ko := by
  grind [Machine.execNanReport, Out.Owned, owned.nanAccept, owned.setLan]

theorem State.owned.execNanRecordClear : (execNanRecordClear n s).Owned ko := by
  grind [Machine.execNanRecordClear, Out.Owned, owned.modLan]

theorem State.owned.execFpExceptionReport : (execFpExceptionReport n s).Owned ko := by
  grind [Machine.execFpExceptionReport, Out.Owned, owned.setLan]

theorem State.owned.writePhase {e : VqEntry} : (s.writePhase n e).owned ko := by
  grind [State.writePhase, owned.dvStore, owned.modLan, owned_foldl]

theorem State.owned.execVectorInstructionComplete : (execVectorInstructionComplete n s).Owned ko := by
  grind [Machine.execVectorInstructionComplete, Out.Owned, owned.pumpPins, owned.setLan,
    owned.writePhase]

theorem State.owned.execRegisterFileError {lg : Nat} : (execRegisterFileError n lg s).Owned ko := by
  grind [Machine.execRegisterFileError, Out.Owned, owned.draw, owned.pumpPins, owned.record,
    owned.setLan, owned_foldl]

theorem State.owned.boundaryEvent : (s.boundaryEvent n).owned ko := by
  grind [State.boundaryEvent, owned.modLan, owned.takeEvent]

theorem State.owned.fetchEvent {n : Nat} {long : Bool} : (s.fetchEvent n long).owned ko := by
  unfold State.fetchEvent
  grind [owned.modLan, owned.poisonDv, owned.takeEvent, owned.touchRange]

theorem State.owned.unassigned {w0 w1 : Word} : (s.unassigned n w0 w1).Owned ko := by
  unfold State.unassigned
  split
  exacts [h, h.runWick h.illegal]

theorem State.owned.execEventEntry {src : EntrySrc} : (execEventEntry n src s).Owned ko := by
  cases src <;> grind [Machine.execEventEntry, Out.Owned, owned.boundaryEvent, owned.fetchEvent, owned.unassigned]

theorem State.owned.execMachineCheckReport : (execMachineCheckReport n s).Owned ko := by
  grind [Machine.execMachineCheckReport, Out.Owned, owned.abortKernel]

theorem State.owned.execKernelWatchdog : (execKernelWatchdog n s).Owned ko := by
  grind [Machine.execKernelWatchdog, Out.Owned, owned.abortKernel, owned.haltLan]

end

/-! ### The vector queue (R148 to R157) -/

section

variable {ko : List Byte} {s : State} (h : s.owned ko) {n : Nat}
include h

theorem State.owned.vecEnter {insn : Word} {r : VRes} {pins : List Nat} {stores : List (Bool × Nat × List Byte)} :
    (s.vecEnter n insn r pins stores).owned ko := by
  grind [State.vecEnter, owned.setLan]

theorem State.owned.vecOp {w : VOp} {opc : Nat} {u : PredUse} {legal : Wick → Bool} {f : Lantern → VRes} :
    (s.vecOp n w opc u legal f).Owned ko :=
  h.runWick (.bind h.need fun _ _ => .bind h.await fun _ _ => h.vecEnter.complete)

end

/-! ### Vector instructions -/

section

variable {ko : List Byte} {s : State} (h : s.owned ko) {n : Nat}
include h

theorem State.owned.vecInt {w : VOp} {f : Nat → Nat → Nat → Nat} : (s.vecInt n w f).Owned ko := h.vecOp

theorem State.owned.vecFp {w : VOp} {opc lo hi : Nat} {f : Lantern → FCtx → Nat → Nat → Nat → Nat → ERes} :
    (s.vecFp n w opc lo hi f).Owned ko := h.vecOp

theorem State.owned.execVmxpack {w : VOp} : (execVmxpack n w s).Owned ko := by
  rw [execVmxpack_eq]
  refine owned.vecOp ?_
  split <;> exact h

theorem State.owned.execVdot4Vdot2 {f : VDot} {w : VOp} : (execVdot4Vdot2 n f w s).Owned ko := by
  grind [Machine.execVdot4Vdot2, Out.Owned, owned.vecOp, owned_foldl]

theorem State.owned.execVcompress {w : VOp} : (execVcompress n w s).Owned ko := by
  grind [Machine.execVcompress, Out.Owned, owned.vecOp, owned_foldl]

theorem State.owned.execVsel {w : VOp} : (execVsel n w s).Owned ko := by
  grind [Machine.execVsel, Out.Owned, owned.vecOp, owned_foldl]

end

/-! ### Vector loads and stores (R162 to R169) -/

section

variable {ko : List Byte} {s : State} (h : s.owned ko) {n : Nat}
include h

theorem State.owned.vtranslate {n : Nat} {dv write : Bool} {wb : Nat} {xs : List VAcc} :
    (s.vtranslate n dv write wb xs).Owned ko (State.owned ko) := by
  induction xs generalizing s with
  | nil => exact h
  | cons x xs ih =>
    have ht : (s.touch (.lantern n) x.addr.toNat write).1.owned ko := h.touch
    grind [State.vtranslate, Run.Owned, Abort.state]

theorem State.owned.unpin : (s.unpin n).owned ko := by
  grind [State.unpin, owned.modLan, owned.pumpPins]

theorem State.owned.pin {dv : Bool} {xs : List VAcc} : (s.pin n dv xs).owned ko := by
  grind [State.pin, owned.modLan, owned.unhold]

theorem State.owned.vload {w : VMem} {opc : Nat} {form : VForm} : (s.vload n w opc form).Owned ko := by
  refine h.runWick (.bind h.need fun _ _ => .bind h.await fun _ _ => .bind h.unpin.vtranslate fun t ht =>
    .bind ht.pin.await fun _ _ => ?_)
  split
  · exact ht.pin.poisoned
  · refine owned.complete (owned.vecEnter ?_)
    split
    exacts [owned_foldl (fun _ _ h => h.l1Load) ht.pin _, ht.pin]

theorem State.owned.vstore {w : VMem} {opc : Nat} {form : VForm} : (s.vstore n w opc form).Owned ko :=
  h.runWick (.bind h.need fun _ _ => .bind h.await fun _ _ => .bind h.unpin.vtranslate fun _ h =>
    .bind h.pin.await fun _ _ => h.pin.vecEnter.complete)

end

/-! ### Matrix arrays (R77 to R103) -/

section

variable {ko : List Byte} {s : State} (h : s.owned ko) {n : Nat}
include h

theorem State.owned.guardRanges {n : Nat} {rs : List Rng} : (s.guardRanges n rs).Owned ko fun _ => True := by
  unfold State.guardRanges
  split
  · exact h
  · trivial

theorem State.owned.mqEnter {insn : Word} {op : MqOp} : (s.mqEnter n insn op).owned ko := h.modLan

theorem State.owned.accRecord {n : Nat} {chk : Bool} {acc : SramErr} : (s.accRecord n chk acc).owned ko := by
  cases acc with
  | good => exact h
  | corrected bank row syn => exact h.record
  | uncorrectable bank row =>
    simp only [State.accRecord]
    split
    exacts [h, h.record]

theorem State.owned.accShare {m slot : Nat} {acc : SramErr} : (s.accShare n m slot acc).owned ko := by
  grind [State.accShare, owned.accRecord, owned.draw, owned.modLan]

theorem State.owned.execMmaShareComplete {m : Nat} {upsets : List CellUpset} {acc : SramErr} :
    (execMmaShareComplete n m upsets acc s).Owned ko := by
  grind [Machine.execMmaShareComplete, Out.Owned, owned.accShare, owned.setLan]

theorem State.owned.execHandOff {m : Nat} : (execHandOff n m s).Owned ko := by
  grind [Machine.execHandOff, Out.Owned, owned.draw, owned.modLan, owned.setLan]

theorem State.owned.execTileDrain {m : Nat} {acc : SramErr} : (execTileDrain n m acc s).Owned ko := by
  grind [Machine.execTileDrain, Out.Owned, owned.accRecord, owned.draw, owned.modLan]

theorem State.owned.arrRecord {m cls code : Nat} {row col : Option Nat} {aux : Nat} :
    (s.arrRecord n m cls code row col aux).owned ko := by
  grind [State.arrRecord, owned.draw, owned.record]

theorem State.owned.spareRequest : (s.spareRequest n).owned ko := by
  grind [State.spareRequest, owned.record]

theorem State.owned.quarantineArr {m : Nat} : (s.quarantineArr n m).owned ko := by
  grind [State.quarantineArr, owned.arrRecord, owned.haltLan, owned.modLan, owned.spareRequest]

theorem State.owned.recomputePassed {m : Nat} {t : Tile} {u : Nat} : (s.recomputePassed n m t u).owned ko := by
  grind [State.recomputePassed, owned.arrRecord, owned.modLan]

theorem State.owned.stablePair {j : Nat} : (s.stablePair n j).owned ko := h.modLan.arrRecord

theorem State.owned.recomputed {m : Nat} {h : ShadowTile} {r : MmaReq} {ups : List CellUpset} :
    (s.recomputed n m h r ups).owned ko := by
  grind [State.recomputed, owned.modLan, owned.quarantineArr, owned.recomputePassed]

theorem State.owned.execRecomputeComplete {m : Nat} {upsets : List CellUpset} :
    (execRecomputeComplete n m upsets s).Owned ko := by
  grind [Machine.execRecomputeComplete, Out.Owned, owned.recomputed]

theorem State.owned.substituted {m j : Nat} {h : ShadowTile} {r : MmaReq} {ups : List CellUpset} :
    (s.substituted n m j h r ups).owned ko := by
  grind [State.substituted, owned.setLan]

theorem State.owned.execSubstituteShareComplete {m : Nat} {upsets : List CellUpset} :
    (execSubstituteShareComplete n m upsets s).Owned ko := by
  grind [Machine.execSubstituteShareComplete, Out.Owned, owned.substituted]

theorem State.owned.execPatternSelftestComplete {m : Nat} {pass : Bool} :
    (execPatternSelftestComplete n m pass s).Owned ko := by
  grind [Machine.execPatternSelftestComplete, Out.Owned, owned.modLan, owned.quarantineArr,
    owned.stablePair]

theorem State.owned.execArrayQuarantineEffect {m : Nat} : (execArrayQuarantineEffect n m s).Owned ko := by
  grind [Machine.execArrayQuarantineEffect, Out.Owned, owned.quarantineArr]

theorem State.owned.convertColumn {m : Nat} {a : Arr} : (s.convertColumn n m a).owned ko := by
  grind [State.convertColumn, owned.arrRecord, owned.modLan]

theorem State.owned.execBypassConversion {m : Nat} : (execBypassConversion n m s).Owned ko := by
  grind [Machine.execBypassConversion, Out.Owned, owned.convertColumn, owned.examine, owned.modLan,
    owned.quarantineArr]

end

/-! ### Scrubbing, sparing and field repair (R392 to R396, R416 to R418) -/

section

variable {ko : List Byte} {s : State} (h : s.owned ko) {n : Nat}
include h

theorem State.owned.noteSkips : s.noteSkips.owned ko := by
  grind [State.noteSkips]

theorem State.owned.scrubTo {u : Nat} : (s.scrubTo u).owned ko := by
  grind [State.scrubTo]

theorem State.owned.scrubDram {pa : Nat} {errs : List (BitVec 80)} {bad : List Nat} :
    (s.scrubDram pa errs bad).owned ko := by
  grind [State.scrubDram, owned.asDecoded, owned.poisonPa, owned.rebuildUnit, owned.record,
    owned.records]

theorem State.owned.scrubCache {t set way unit : Nat} {errs : List (BitVec 80)} :
    (s.scrubCache t set way unit errs).owned ko := by
  grind [State.scrubCache, owned.asDecoded, owned.dropCopies, owned.modTc, owned.poisonPa,
    owned.record, owned.records]

theorem State.owned.execScrubRead {src : ScrubSrc} : (execScrubRead src s).Owned ko := by
  grind [Machine.execScrubRead, Out.Owned, owned.noteSkips, owned.scrubCache, owned.scrubDram,
    owned.scrubTo]

theorem State.owned.flitPoisoned {d : FlitData} : (s.flitPoisoned d).owned ko := by
  cases d with
  | none => exact h
  | unit pa => exact h.poisonPa
  | word n a => exact h

theorem State.owned.execFlitRefusal {src chan : Nat} {headerBad : Bool} {payloadBad : Option FlitData} :
    (execFlitRefusal src chan headerBad payloadBad s).Owned ko := by
  grind [Machine.execFlitRefusal, Out.Owned, owned.draw, owned.flitPoisoned, owned.record]

theorem State.owned.noSpareFor : (s.noSpareFor n).owned ko := by
  grind [State.noSpareFor, owned.modLan]

theorem State.owned.execSpareRemap : (execSpareRemap n s).Owned ko := by
  grind [Machine.execSpareRemap, Out.Owned, owned.examine, owned.noSpareFor, owned.setLan]

theorem State.owned.siteBist {site code bank row : Nat} : (s.siteBist n site code bank row).owned ko := by
  grind [State.siteBist, owned.draw, owned.record]

theorem State.owned.lanBist {code bank row : Nat} : (s.lanBist n code bank row).owned ko := h.siteBist

theorem State.owned.badArrays {ms : List Nat} : (s.badArrays n ms).owned ko := by
  grind [State.badArrays, owned.modLan, owned.records, owned_foldl]

theorem State.owned.toSpare {badArrays : List Nat} : (s.toSpare n badArrays).owned ko := by
  grind [State.toSpare, owned.badArrays, owned.examine, owned.loadTable, owned.record, owned.setLan,
    owned.setReady, owned.spareRequest]

theorem State.owned.execSpareSelftestEnd {code bank row : Nat} {badArrays : List Nat} :
    (execSpareSelftestEnd n code bank row badArrays s).Owned ko := by
  grind [Machine.execSpareSelftestEnd, Out.Owned, owned.badArrays, owned.examine, owned.noSpareFor,
    owned.siteBist, owned.toSpare]

theorem State.owned.tcRepaired {t bank row : Nat} : (s.tcRepaired t bank row).owned ko := by
  grind [State.tcRepaired, Flash.repairDone, owned.dropCopies, owned.modTc, owned.record, owned_foldl]

theorem State.owned.lsRepaired {bank row : Nat} : (s.lsRepaired n bank row).owned ko := by
  grind [State.lsRepaired, Flash.repairDone, owned.draw, owned.examine, owned.modLan, owned.record]

theorem State.owned.execFuseRepairEffect {kind unit : Nat} : (execFuseRepairEffect kind unit s).Owned ko := by
  grind [Machine.execFuseRepairEffect, Out.Owned, owned.lsRepaired, owned.tcRepaired]

end

/-! ### Rates, stalls and votes (R22, R24, R28 to R30, R533 to R535) -/

section

variable {ko : List Byte} {s : State} (h : s.owned ko) {n : Nat}
include h

theorem State.owned.execLoHalfRead {rq : Requester} {addr : Nat} : (execLoHalfRead rq addr s).Owned ko := by
  grind [Machine.execLoHalfRead, Out.Owned, owned.regRead]

theorem State.owned.addBeats {d : Dword} : (s.addBeats d).owned ko := by
  grind [State.addBeats, owned.modLan, owned.modTc]

theorem State.owned.rateSample : s.rateSample.owned ko := by
  grind [State.rateSample]

theorem State.owned.execRateMeasureEnd {beats : Dword} : (execRateMeasureEnd beats s).Owned ko := by
  grind [Machine.execRateMeasureEnd, Out.Owned, owned.addBeats]

theorem State.owned.ringEdge : s.ringEdge.owned ko := h

theorem State.owned.execStallWatchdog {src : Nat} {chan : StallChan} : (execStallWatchdog src chan s).Owned ko := by
  grind [Machine.execStallWatchdog, Out.Owned, owned.record]

theorem State.owned.execStallRepeat {src chan : Nat} : (execStallRepeat src chan s).Owned ko := by
  grind [Machine.execStallRepeat, Out.Owned, owned.record]

theorem State.owned.blockEffect {r : RecIn} : (s.blockEffect r).owned ko := by
  grind [State.blockEffect, owned.draw, owned.modLan]

theorem State.owned.execReadyNotification : (execReadyNotification s).Owned ko := by
  grind [Machine.execReadyNotification, Out.Owned, owned.notify]

theorem State.owned.enWrite {addr : Nat} {en : Bool} : (s.enWrite addr en).owned ko := by
  grind [State.enWrite, owned.regWrite]

theorem State.owned.execBlockIdle {addr : Nat} : (execBlockIdle addr s).Owned ko := by
  grind [Machine.execBlockIdle, Out.Owned, owned.modEng, owned.setLan]

theorem State.owned.execRegisterWrite {rq : Requester} {addr : Nat} {value : Word} :
    (execRegisterWrite rq addr value s).Owned ko := by
  cases rq
  exacts [h.pilotWrite, h.wickWrite]

theorem State.owned.tmrPut {b : Blk} {off : Nat} {v : Nat} : (s.tmrPut b off v).owned ko := by
  cases b <;> grind [State.tmrPut, owned.modCh, owned.modLan]

theorem State.owned.blkDown {b : Blk} : (s.blkDown b).owned ko := by
  cases b <;> grind [State.blkDown, owned.modCh, owned.modLan, owned.setReady]

theorem State.owned.markSlot {b : Blk} {off : Nat} : (s.markSlot b off).owned ko := by
  cases b <;> exact h

theorem State.owned.vote {addr : Nat} {u : TmrUpset} : (s.vote addr u).1.owned ko := by
  grind [State.vote, owned.blkDown, owned.markSlot, owned.setRstat, owned.tmrPut]

theorem State.owned.execTmrFieldRead {rq : Requester} {addr : Nat} {upsets : TmrUpset} :
    (execTmrFieldRead rq addr upsets s).Owned ko := by
  grind [Machine.execTmrFieldRead, Out.Owned, owned.records, owned.regRead, owned.vote]

theorem State.owned.votes {us : List (Nat × TmrUpset)} : (s.votes us).1.owned ko :=
  us.foldlRecOn (motive := fun x : State × List RecIn => x.1.owned ko) _ h fun _ hx _ _ => hx.vote

theorem State.owned.execTmrVoteSweep {upsets : List (Nat × TmrUpset)} : (execTmrVoteSweep upsets s).Owned ko := by
  grind [Machine.execTmrVoteSweep, Out.Owned, owned.records, owned.votes]

end

/-! ### The command interface (R474 to R489) -/

section

variable {ko : List Byte} {s : State} (h : s.owned ko) {n : Nat}
include h

theorem State.owned.authCheck {op : Nat} {p : CmdPkt} : (s.authCheck op p).1.owned ko := by
  grind [State.authCheck]

theorem State.owned.commonChecks {op : Nat} {p : CmdPkt} : (s.commonChecks op p).1.owned ko := by
  grind [State.commonChecks, owned.authCheck]

theorem State.owned.unbox : s.unbox.owned ko := h

theorem State.owned.completed {op : Nat} {p : CmdPkt} {status : Nat} : (s.completed op p status).owned ko := h

theorem State.owned.reply {op : Nat} {p : CmdPkt} {status : Nat} {results : List Byte} :
    (s.reply op p status results).owned ko := h.send.completed

theorem State.owned.busyReply {op : Nat} {p : CmdPkt} {b : Busy} : (s.busyReply op p b).owned ko := h.send

theorem State.owned.judge {op : Nat} {p : CmdPkt} {own : State → State × CmdRes}
    (hown : ∀ s, s.owned ko → (own s).1.owned ko) : (s.judge op p own).1.owned ko := by
  have hc : (s.commonChecks op p).1.owned ko := h.commonChecks
  grind [State.judge]

theorem State.owned.conclude {op : Nat} {p : CmdPkt} {r : CmdRes} : (s.conclude op p r).owned ko := by
  cases r with
  | reply st rs => exact h.reply
  | run w => exact h

theorem State.owned.commandThen {op : Nat} {p : CmdPkt} {own : State → State × CmdRes} {after : State → State}
    (hown : ∀ s, s.owned ko → (own s).1.owned ko) (hafter : ∀ s, s.owned ko → (after s).owned ko) :
      (s.commandThen op p own after).owned ko := by
  have hj : (s.unbox.judge op p own).1.owned ko := h.unbox.judge hown
  unfold State.commandThen
  split
  · exact h
  split
  · exact h.unbox.busyReply
  · dsimp only
    split
    exacts [hafter _ hj.conclude, hj.conclude]

theorem State.owned.command {op : Nat} {p : CmdPkt} {own : State → State × CmdRes}
    (hown : ∀ s, s.owned ko → (own s).1.owned ko) : (s.command op p own).owned ko :=
  h.commandThen hown fun _ h => h

theorem State.owned.finish {status : Nat} {results : List Byte} : (s.finish status results).owned ko := by
  grind [State.finish, owned.completed, owned.reply]

theorem State.owned.execBadOpcode {p : CmdPkt} {opcode : Nat} : (execBadOpcode p opcode s).Owned ko := by
  grind [Machine.execBadOpcode, Out.Owned, owned.command, owned.reply]

end

/-! ### Domains off and device reset (R540, R567, R572) -/

section

variable {ko : List Byte} {s : State} (h : s.owned ko) {n : Nat}
include h

theorem State.owned.conduitsOff : s.conduitsOff.owned ko := by
  grind [State.conduitsOff, owned.replyLost]

theorem State.owned.eraseDom {d : Nat} : (s.eraseDom d).owned ko := by
  unfold State.eraseDom
  grind [owned.conduitsOff]

theorem State.owned.dropSets : s.dropSets.owned ko := by
  grind [State.dropSets]

theorem State.owned.rateOff {d : Nat} : (s.rateOff d).owned ko := by
  grind [State.rateOff]

theorem State.owned.offDomain {d : Nat} : (s.offDomain d).owned ko := by
  grind [State.offDomain, owned.dropSets, owned.eraseDom, owned.rateOff, owned.setReady, owned_foldl]

end

section

variable {ko : List Byte} {s : State} (h : s.owned ko) {n : Nat}
include h

theorem State.owned.shutDown {x : RecIn} : (s.shutDown x).owned ko := by
  refine owned.record ?_
  split
  · split
    · refine owned.finish ?_
      exact h
    · exact h
  · exact h

theorem State.owned.protectiveOff {x : RecIn} : (s.protectiveOff x).owned ko := by
  rw [State.protectiveOff_eq]
  split
  exacts [h, (owned_foldl (fun _ _ h => h.offDomain) h _).shutDown]

theorem State.owned.secondStage : s.secondStage.owned ko := by
  grind [State.secondStage, owned.offDomain, owned.record]

theorem State.owned.deviceReset : s.deviceReset.owned ko := h

theorem State.owned.leaveReset : s.leaveReset.owned ko := by
  grind [State.leaveReset]

theorem State.owned.execPgInHigh : (execPgInHigh s).Owned ko := by
  grind [Machine.execPgInHigh, Out.Owned, owned.leaveReset]

theorem State.owned.execPgInLow : (execPgInLow s).Owned ko := by
  grind [Machine.execPgInLow, Out.Owned, owned.deviceReset]

theorem State.owned.execResetNLow : (execResetNLow s).Owned ko := by
  grind [Machine.execResetNLow, Out.Owned, owned.deviceReset]

theorem State.owned.execResetNHigh : (execResetNHigh s).Owned ko := by
  grind [Machine.execResetNHigh, Out.Owned, owned.leaveReset]

theorem State.owned.execRefclkLoss : (execRefclkLoss s).Owned ko := by
  grind [Machine.execRefclkLoss, Out.Owned, owned.deviceReset, owned.leaveReset]

theorem State.owned.execRefclkPresent : (execRefclkPresent s).Owned ko := by
  grind [Machine.execRefclkPresent, Out.Owned]

theorem State.owned.execPllLock : (execPllLock s).Owned ko := by
  grind [Machine.execPllLock, Out.Owned]

theorem State.owned.commandReset : s.commandReset.owned ko := by
  grind [State.commandReset, owned.deviceReset]

theorem State.owned.linkAges : s.linkAges.owned ko := by
  grind [State.linkAges]

theorem State.owned.tick : s.tick.owned ko := by
  grind [State.tick, owned.commandReset, owned.linkAges, owned.rateSample, owned.ringEdge]

theorem State.owned.tapLoad {i : TapInstr} : (s.tapLoad i).owned ko := by
  grind [State.tapLoad]

theorem State.owned.capture : s.capture.2.owned ko := by
  grind [State.capture, owned.draw]

theorem State.owned.execSamplePreload {shift : BitVec 7} : (execSamplePreload shift s).Owned ko := by
  grind [Machine.execSamplePreload, Out.Owned, owned.capture, owned.tapLoad]

theorem State.owned.execIdcode : (execIdcode s).Owned ko := by
  grind [Machine.execIdcode, Out.Owned, owned.load]

end

/-! ### Supply, temperature and the 1 ms evaluation (R33 to R36, R564 to R571) -/

section

variable {ko : List Byte} {s : State} (h : s.owned ko) {n : Nat}
include h

theorem State.owned.supplyEvent {k : Nat} : (s.supplyEvent k).owned ko := by
  grind [State.supplyEvent, owned.protectiveOff, owned.record]

theorem State.owned.execSupplySample {v0 v1 i0 i1 : Nat} : (execSupplySample v0 v1 i0 i1 s).Owned ko := by
  grind [Machine.execSupplySample, Out.Owned, owned.supplyEvent, owned_foldl]

theorem State.owned.takeReadings {vals : List (Nat × Int)} : (s.takeReadings vals).owned ko := by
  grind [State.takeReadings]

theorem State.owned.excludeSensors {vals : List (Nat × Int)} : (s.excludeSensors vals).owned ko := by
  grind [State.excludeSensors, owned.records]

theorem State.owned.alertStep {ticks : Nat} : (s.alertStep ticks).owned ko := by
  grind [State.alertStep, owned.record]

theorem State.owned.coolStep : s.coolStep.owned ko := by
  grind [State.coolStep, owned.record]

theorem State.owned.thermShutdown : s.thermShutdown.owned ko := by
  grind [State.thermShutdown, owned.protectiveOff]

theorem State.owned.hotStep : s.hotStep.owned ko := by
  grind [State.hotStep]

theorem State.owned.chTemps : s.chTemps.owned ko := owned_foldl (fun _ _ h => h.refreshRate.modCh) h _

theorem State.owned.execSensorReading {vals : List (Nat × Int)} : (execSensorReading vals s).Owned ko := by
  grind [Machine.execSensorReading, Out.Owned, owned.alertStep, owned.chTemps, owned.coolStep,
    owned.excludeSensors, owned.hotStep, owned.takeReadings, owned.thermShutdown]

theorem State.owned.capStep {avg : Nat} : (s.capStep avg).owned ko := by
  grind [State.capStep, owned.record]

theorem State.owned.thermStep {q : Nat} : (s.thermStep q).owned ko := by
  grind [State.thermStep]

theorem State.owned.effStep {q : Nat} : (s.effStep q).owned ko := by
  grind [State.effStep]

theorem State.owned.execPowerEvaluation {avgW : Nat} : (execPowerEvaluation avgW s).Owned ko := by
  grind [Machine.execPowerEvaluation, Out.Owned, owned.alertStep, owned.capStep, owned.effStep,
    owned.thermStep, owned_foldl]

end

/-! ### Bring-up (R541 to R550) -/

section

variable {ko : List Byte} {s : State} (h : s.owned ko) {n : Nat}
include h

theorem State.owned.romStep2 : s.romStep2.owned ko := by
  grind [State.romStep2]

theorem State.owned.addEligible {ds : List Nat} : (s.addEligible ds).owned ko := h

theorem State.owned.enterRecovery : s.enterRecovery.owned ko := by
  grind [State.enterRecovery, owned.addEligible]

theorem State.owned.runImage : s.runImage.owned ko := by
  grind [State.runImage]

theorem State.owned.execBootRom {imageReads itemsRead : Bool} : (execBootRom imageReads itemsRead s).Owned ko := by
  grind [Machine.execBootRom, Out.Owned, owned.enterRecovery, owned.romStep2, owned.runImage]

theorem State.owned.execPilotReady : (execPilotReady s).Owned ko := by
  grind [Machine.execPilotReady, Out.Owned, owned.addEligible, owned.setReady]

theorem State.owned.xptUp : s.xptUp.owned ko := by
  grind [State.xptUp, owned.setReady]

theorem State.owned.lanUp : (s.lanUp n).owned ko := by
  grind [State.lanUp, owned.examine, owned.loadTable, owned.modLan, owned.setReady]

theorem State.owned.secBundle : s.secBundle.owned ko := by
  grind [State.secBundle]

theorem State.owned.secList : s.secList.owned ko := by
  grind [State.secList]

theorem State.owned.execSecReady : (execSecReady s).Owned ko := by
  grind [Machine.execSecReady, Out.Owned, owned.lanUp, owned.secBundle, owned.secList, owned.setReady,
    owned.xptUp, owned_foldl]

theorem State.owned.execDomainSwitchOn : (execDomainSwitchOn s).Owned ko := by
  grind [Machine.execDomainSwitchOn, Out.Owned]

theorem State.owned.startBlocks {d : Nat} : (s.startBlocks d).owned ko := by
  grind [State.startBlocks, owned.modCh, owned.modTc, owned.setLan, owned_foldl]

theorem State.owned.execDomainPowered {d : Nat} : (execDomainPowered d s).Owned ko := by
  grind [Machine.execDomainPowered, Out.Owned, owned.finish, owned.startBlocks]

theorem State.owned.lanFails {code bank row : Nat} : (s.lanFails n code bank row).owned ko := h.modLan.lanBist

theorem State.owned.execLanternSelftestEnd {code bank row : Nat} {badArrays : List Nat} :
    (execLanternSelftestEnd n code bank row badArrays s).Owned ko := by
  grind [Machine.execLanternSelftestEnd, Out.Owned, owned.badArrays, owned.lanFails, owned.lanUp,
    owned.modLan, owned.spareRequest]

theorem State.owned.tcFails {t code : Nat} : (s.tcFails t code).owned ko := by
  grind [State.tcFails, owned.modTc, owned.record]

theorem State.owned.execTileCacheSelftestEnd {t code : Nat} : (execTileCacheSelftestEnd t code s).Owned ko := by
  grind [Machine.execTileCacheSelftestEnd, Out.Owned, owned.addEligible, owned.modEng, owned.modTc,
    owned.setReady, owned.tcFails, owned_foldl]

theorem State.owned.execCopyEngineSelftestEnd {e : Nat} {pass : Bool} :
    (execCopyEngineSelftestEnd e pass s).Owned ko := by
  grind [Machine.execCopyEngineSelftestEnd, Out.Owned, owned.examine, owned.modEng, owned.record,
    owned.setReady]

theorem State.owned.execCirrusInitEnd : (execCirrusInitEnd s).Owned ko := by
  grind [Machine.execCirrusInitEnd, Out.Owned, owned.setReady]

theorem State.owned.domainFails {d : Nat} : (s.domainFails d).owned ko := by
  grind [State.domainFails, owned.draw, owned.finish, owned.record]

theorem State.owned.execBringupLimitExpiry {ph : BringupPhase} : (execBringupLimitExpiry ph s).Owned ko := by
  cases ph <;> grind [Machine.execBringupLimitExpiry, Out.Owned, owned.domainFails, owned.draw,
    owned.enterRecovery, owned.lanFails, owned.record, owned.romStep2, owned.tcFails, owned.trainFailed]

end

/-! ### Chains (R119 to R147) -/

section

variable {ko : List Byte} {s : State} (h : s.owned ko) {n : Nat}
include h

theorem State.owned.readDesc {n a : Nat} : (s.readDesc n a).Owned ko fun _ => True :=
  .ite (fun _ => h) fun _ => .ite (fun _ => h.poisoned) fun _ => trivial

theorem State.owned.chainQueued {st : Nat} {insn : Word} {op : MqOp} {rs : List Rng} {ok : Bool}
    {f : Wick → Wick} : Run.Owned ko (State.owned ko) (if st = 0 then do
      s.guardRanges n rs
      s.await ok
      .ok (((s.mqEnter n insn op).modWick n f).complete n 8)
    else .ok ((s.modWick n f).complete n 8)) :=
  .ite (fun _ => .bind h.guardRanges fun _ _ => .bind h.await fun _ _ => h.mqEnter.modWick.complete)
    fun _ => h.modWick.complete

theorem State.owned.execHchain {w : LongWord} : (execHchain n w s).Owned ko := by
  refine h.runWick (.bind h.need fun _ _ => .ite (fun _ => .bind h.guardRanges fun _ _ => ?_) fun _ => ?_)
  · exact .bind h.readDesc fun _ _ => h.chainQueued
  · exact .bind h.readDesc fun _ _ => h.chainQueued

theorem State.owned.execChainStart : (execChainStart n s).Owned ko := by
  grind [Machine.execChainStart, Out.Owned, owned.setLan]

theorem State.owned.chainSub {n m : Nat} {o : ChainOps} {k : Nat} {runs : List (List CellUpset × Bool)} :
    (State.chainSub n m o k runs s).1.owned ko := by
  induction k generalizing s runs with
  | zero => exact h
  | succ k ih => grind [State.chainSub, owned.stablePair, owned.quarantineArr]

theorem State.owned.chainTile {n : Nat} {u : ChainUpset} {o : ChainOps} : (s.chainTile n u o).1.owned ko := by
  grind [State.chainTile, owned.chainSub, owned.quarantineArr, owned.recomputePassed, owned.stablePair]

theorem State.owned.chainRow {c : ChainD} {i : Nat} {poison : Bool} {els scales : List Nat} {stat : FV × FV} :
    (s.chainRow n c i poison els scales stat).owned ko := by
  grind [State.chainRow, owned.draw, owned.modLan]

end

theorem State.owned.runTiles {x : ChainSt} (h : x.s.owned ko) {n : Nat} {q : ChainGeo} {ups :
    List ChainUpset} {prod2 : Bool}
    {block tile fa fb k : Nat} {as bs : List (List (List FV))} :
    (x.runTiles n q ups prod2 block tile fa fb k as bs).1.s.owned ko := by
  unfold ChainSt.runTiles
  refine List.foldlRecOn (motive := fun acc : ChainSt × List ((Nat × Nat) × (Arr × List CellUpset)) =>
    acc.1.s.owned ko) _ _ h
    fun acc hacc id _ => ?_
  grind [owned.chainTile]

theorem State.owned.endRow {x : ChainSt} (h : x.s.owned ko) {c : ChainD} {l : Lantern} {q : ChainGeo} {n i :
    Nat} {r : RowRun} :
    (c.endRow l q n i r x).s.owned ko := h.chainRow

theorem State.owned.runTile {c : ChainD} {l : Lantern} {q : ChainGeo} {n b : Nat} {ups : List ChainUpset}
    {as b1 b2 : List (List (List FV))} {t : Nat} {acc : ChainSt × List RowRun} (h : acc.1.s.owned ko) :
    (c.runTile l q n b ups as b1 b2 t acc).1.s.owned ko := by
  unfold ChainD.runTile
  split
  · exact h.runTiles.runTiles
  · exact h.runTiles

theorem State.owned.runChain {s : State} (h : s.owned ko) {n : Nat} {c : ChainD} {ups : List ChainUpset} :
    (s.runChain n c ups).s.owned ko := by
  unfold State.runChain
  refine List.foldlRecOn (motive := fun x : ChainSt => x.s.owned ko) _ _ h fun x hx b _ => ?_
  dsimp only
  split
  · exact hx
  · generalize hy : List.foldl _ (x, _) (List.range _) = y
    have hyOk : y.1.s.owned ko := by
      rw [← hy]
      refine List.foldlRecOn (motive := fun acc : ChainSt × List RowRun => acc.1.s.owned ko) _ _ hx fun acc hacc t _ => ?_
      split
      exacts [hacc, hacc.runTile]
    split
    · exact hyOk
    · exact List.foldlRecOn (motive := fun x : ChainSt => x.s.owned ko) _ _ hyOk fun x hx p _ => hx.endRow

section

variable {ko : List Byte} {s : State} (h : s.owned ko) {n : Nat}
include h

theorem State.owned.execChainComplete {ups : List ChainUpset} : (execChainComplete n ups s).Owned ko := by
  grind [Machine.execChainComplete, Out.Owned, owned.runChain, owned.modLan]

end

/-! ### Messages of peers and fetches (R336 to R355) -/

section

variable {ko : List Byte} {s : State} (h : s.owned ko) {n : Nat}
include h

theorem State.owned.takeCir {t : State} {d : Nat} {p : DpOp → Bool} (ht : s.takeCir d p = some t) : t.owned ko := by
  grind [State.takeCir, owned.setCon]

theorem State.owned.onCir {d : Nat} {msg : Nat} {vpn : Nat} {f : State → State}
    (hf : ∀ s, s.owned ko → (f s).owned ko) : (s.onCir d msg vpn f).owned ko := by
  grind [State.onCir, owned.takeCir]

theorem State.owned.fetchPart {e : Pte} {f : Fetch} {i : Nat} {data : List Byte} {pmap : BitVec 64} :
    (s.fetchPart e f i data pmap).owned ko := by
  grind [State.fetchPart, owned.granWritten, owned.pageWrite]

theorem State.owned.subArrives {vpn sub : Nat} {e : Pte} {f : Fetch} : (s.subArrives vpn sub e f).owned ko := by
  grind [State.subArrives, owned.failFetch, owned.fetchDone, owned.fetchPart, owned.record, owned.setFetch,
    owned.wakePage, owned_foldl]

theorem State.owned.execSubPageArrival {vpn sub : Nat} : (execSubPageArrival vpn sub s).Owned ko := by
  grind [Machine.execSubPageArrival, Out.Owned, owned.subArrives]

theorem State.owned.execFetchSlow {vpn : Nat} : (execFetchSlow vpn s).Owned ko := by
  grind [Machine.execFetchSlow, Out.Owned, owned.record, owned.setFetch]

theorem State.owned.execFetchFail {vpn : Nat} : (execFetchFail vpn s).Owned ko := by
  grind [Machine.execFetchFail, Out.Owned, owned.failFetch, owned.record]

theorem State.owned.execFetchRetry : (execFetchRetry s).Owned ko := by
  grind [Machine.execFetchRetry, Out.Owned, owned.fetchRetry]

theorem State.owned.execPageHoldExpiry {vpn : Nat} : (execPageHoldExpiry vpn s).Owned ko := by
  grind [Machine.execPageHoldExpiry, Out.Owned, owned.pumpPins]

theorem State.owned.sealOut {vpn : Nat} {e : Pte} {hostAddr ver : Nat} : (s.sealOut vpn e hostAddr ver).owned ko := by
  grind [State.sealOut, owned.granRead, owned.sendOp, owned_foldl]

theorem State.owned.evict {vpn : Nat} {e : Pte} : (s.evict vpn e).owned ko := by
  unfold State.evict
  extract_lets count
  have hcount (s : State) (h : s.owned ko) : (count s).owned ko := h
  clear_value count
  grind [owned.cir, owned.holderDrop, owned.record, owned.sealOut, owned.sendPage, owned.setPte]

theorem State.owned.execEviction : (execEviction s).Owned ko := by
  grind [Machine.execEviction, Out.Owned, owned.evict, owned.wakeStuck]

theorem State.owned.execCowCopyComplete {vpn : Nat} : (execCowCopyComplete vpn s).Owned ko := by
  grind [Machine.execCowCopyComplete, Out.Owned, owned.copyPage, owned.pumpPins, owned.setPte,
    owned.wakeVpn]

theorem State.owned.execPteQuery {value : Word} : (execPteQuery value s).Owned ko := by
  grind [Machine.execPteQuery, Out.Owned, owned.pteqWrite]

theorem State.owned.peerAsk {d vpn : Nat} {r : HomeReq} : (s.peerAsk d vpn r).owned ko := by
  grind [State.peerAsk, owned.cir, owned.homeAsk]

theorem State.owned.homeGo {vpn : Nat} : (s.homeGo vpn).owned ko := h.homePump

theorem State.owned.homeAnswered {d vpn : Nat} : (s.homeAnswered d vpn).owned ko := by
  grind [State.homeAnswered, owned.homeGo, owned.setDir]

theorem State.owned.execNocopy {d vpn : Nat} : (execNocopy d vpn s).Owned ko := by
  grind [Machine.execNocopy, Out.Owned, owned.homeAnswered, owned.onCir, owned.setDir]

theorem State.owned.readerDrops {d vpn : Nat} : (s.readerDrops d vpn).owned ko := by
  grind [State.readerDrops, owned.setDir, owned.setPte, owned.settlePins]

theorem State.owned.execWb {d vpn : Nat} : (execWb d vpn s).Owned ko := by
  grind [Machine.execWb, Out.Owned, owned.onCir, owned.setDir]

theorem State.owned.pageReturned {d vpn : Nat} : (s.pageReturned d vpn).owned ko := by
  grind [State.pageReturned, owned.homeAcc, owned.homeGo, owned.setDir]

theorem State.owned.pagePart {d va : Nat} {last : Bool} {pmap : BitVec 64} {data : List Byte} :
    (s.pagePart d va last pmap data).owned ko := by
  grind [State.pagePart, owned.fetchDone, owned.fetchPart, owned.granWritten, owned.pageReturned, owned.pageWrite,
    owned.setFetch, owned.syncPage]

theorem State.owned.execPage {d va : Nat} {last : Bool} {pmap : BitVec 64} {data : List Byte} :
    (execPage d va last pmap data s).Owned ko := by
  grind [Machine.execPage, Out.Owned, owned.takeCir, owned.pagePart]

theorem State.owned.settle {vpn : Nat} : (s.settle vpn).owned ko := by
  grind [State.settle, owned.fetchDone]

theorem State.owned.holderAsked {d vpn : Nat} {k : Owed} : (s.holderAsked d vpn k).owned ko := by
  grind [State.holderAsked, owned.cir, owned.holderAnswer, owned.settle]

theorem State.owned.gone {d vpn : Nat} : (s.gone d vpn).owned ko := by
  grind [State.gone, owned.goneNow]

theorem State.owned.execGrantWithoutData {d vpn : Nat} : (execGrantWithoutData d vpn s).Owned ko := by
  grind [Machine.execGrantWithoutData, Out.Owned, owned.fetchDone, owned.onCir]

theorem State.owned.execMapq {d va size : Nat} : (execMapq d va size s).Owned ko := by
  grind [Machine.execMapq, Out.Owned, owned.takeCir, owned.sendOp]

theorem State.owned.execTranslationFill {vpn : Nat} : (execTranslationFill n vpn s).Owned ko := by
  grind [Machine.execTranslationFill, Out.Owned, owned.draw, owned.setLan]

end

/-! ### Snapshots, the beacon and the stream (R425 to R444) -/

section

variable {ko : List Byte} {s : State} (h : s.owned ko) {n : Nat}
include h

theorem State.owned.engPlace {e : Nat} : (s.engPlace e).2.owned ko := by
  grind [State.engPlace, owned.draw]

theorem State.owned.snapWords {b : Blk} : (s.snapWords b).2.owned ko := by
  cases b with
  | copy e => exact h.engPlace
  | _ => exact h

theorem State.owned.ckLatch : s.ckLatch.owned ko := by
  grind [State.ckLatch]

theorem State.owned.latch {b : Blk} {src : Nat} : (s.latch b src).owned ko := by
  grind [State.latch, owned.ckLatch, owned.snapWords, owned.wakeStuck]

theorem State.owned.execBeaconTreeArrival {b : Nat} : (execBeaconTreeArrival b s).Owned ko := by
  grind [Machine.execBeaconTreeArrival, Out.Owned, owned.latch]

theorem State.owned.inputMarked {k : Blk} {b chan : Nat} : (s.inputMarked k b chan).owned ko := by
  grind [State.inputMarked, owned.latch]

theorem State.owned.inputCounted {k : Blk} {b chan crossed : Nat} : (s.inputCounted k b chan crossed).owned ko := by
  grind [State.inputCounted]

theorem State.owned.execBeaconChannelArrival {b chan crossed : Nat} :
    (execBeaconChannelArrival b chan crossed s).Owned ko := by
  grind [Machine.execBeaconChannelArrival, Out.Owned, owned.inputCounted, owned.inputMarked]

theorem State.owned.ckInject : s.ckInject.owned ko := by
  grind [State.ckInject, owned.inject]

theorem State.owned.afterCut : s.afterCut.owned ko := by
  grind [State.afterCut, owned.ckInject]

theorem State.owned.tellCut {valid : Bool} : (s.tellCut valid).owned ko := by
  grind [State.tellCut, owned.finish, owned.notify]

theorem State.owned.sendBlob {ep addr : Nat} {bs : List Byte} : (s.sendBlob ep addr bs).owned ko := by
  rw [State.sendBlob]
  exact owned_foldl (fun _ _ h => h.sendOp) h _

theorem State.owned.manifestSent {ds : List CkDest} {m : List Byte} :
    (ds.foldl (fun s d => s.sendBlob d.ep d.mbase m) s).owned ko :=
  owned_foldl (fun _ _ h => h.sendBlob) h _

theorem State.owned.ckFinish {c : Ckpt} : (s.ckFinish c).owned ko := by
  rw [State.ckFinish]
  generalize c.manifest = m
  have hm : (c.dests.foldl (fun s d => s.sendBlob d.ep d.mbase m) s).ckStop.owned ko := h.manifestSent.ckStop
  split
  · exact State.owned.addEvent hm
  · exact hm

theorem State.owned.ckNext : s.ckNext.owned ko := by
  grind [State.ckNext, owned.ckAbort, owned.ckFinish]

theorem State.owned.execCutComplete : (execCutComplete s).Owned ko := by
  grind [Machine.execCutComplete, Out.Owned, owned.addEvent, owned.afterCut, owned.ckNext,
    owned.tellCut, owned.wakeStuck]

theorem State.owned.execCutWithdrawn : (execCutWithdrawn s).Owned ko := by
  grind [Machine.execCutWithdrawn, Out.Owned, owned.afterCut, owned.ckStop, owned.record,
    owned.tellCut, owned.wakeStuck]

theorem State.owned.execCheckpointCutCondition : (execCheckpointCutCondition s).Owned ko := by
  grind [Machine.execCheckpointCutCondition, Out.Owned, owned.ckInject]

theorem State.owned.ckPageDone {vpn : Nat} : (s.ckPageDone vpn).owned ko := by
  grind [State.ckPageDone, owned.pumpPins, owned.setPte, owned.unplace, owned.wakeStuck, owned.wakeVpn]

theorem State.owned.gransRead {gs : List Nat} : (gs.foldl (fun s g => s.granRead g true) s).owned ko :=
  owned_foldl (fun _ _ h => h.granRead) h _

theorem State.owned.streamPage {c : Ckpt} {vpn : Nat} {i : Nat} : (s.streamPage c vpn i).owned ko :=
  State.streamPage_of (P := State.owned ko) h (fun _ _ h => State.owned.gransRead h)
    (fun _ _ _ _ h => State.owned.sendBlob h)
    fun _ _ h => State.owned.ckNext (State.owned.ckPageDone (State.owned.setCkpt h))

theorem State.owned.execPageStream : (execPageStream s).Owned ko := by
  grind [Machine.execPageStream, Out.Owned, owned.ckAbort, owned.homeAsk, owned.streamPage]

theorem State.owned.execTrigger : (execTrigger s).Owned ko := by
  grind [Machine.execTrigger, Out.Owned, owned.beaconTrigger]

theorem State.owned.execTriggerRearm : (execTriggerRearm s).Owned ko := by
  grind [Machine.execTriggerRearm, Out.Owned]

theorem State.owned.execTriggerStuck : (execTriggerStuck s).Owned ko := by
  grind [Machine.execTriggerStuck, Out.Owned]

end

/-! ### Restore (R446) -/

section

variable {ko : List Byte} {s : State} (h : s.owned ko) {n : Nat}
include h

theorem State.owned.setRestore {r : Restore} : (s.setRestore r).owned ko := h

theorem State.owned.askParts {ep addr : Nat} {manifest : Bool} : (s.askParts ep addr n manifest).owned ko := by
  grind [State.askParts, owned.restoreEnd, owned.sendReq, owned_foldl]

theorem State.owned.unback {vpn : Nat} : (s.unback vpn).owned ko := by
  grind [State.unback, owned.breakResvPage, owned.dropPageLines, owned.remap, owned.unplace]

theorem State.owned.genNow {vpn : Nat} : (s.genNow vpn).owned ko := by
  grind [State.genNow, owned.setPte]

theorem State.owned.restorePage {vpn : Nat} {data pm : List Byte} : (s.restorePage vpn data pm).owned ko := by
  grind [State.restorePage, owned.backZero, owned.dvStoreK, owned.syncPage]

theorem State.owned.unmove {vpn : Nat} : (s.unmove vpn).owned ko := by
  grind [State.unmove, owned.wakeVpn]

theorem State.owned.restoreRecord {r : Restore} {m : List Byte} : (s.restoreRecord r m).owned ko := by
  grind [State.restoreRecord, owned.restorePage, owned.setRestore, owned.unmove]

theorem State.owned.restoreN {k : Nat} {p : CmdPkt} {m : List Byte} : (State.restoreN k p m s).owned ko := by
  induction k generalizing s with
  | zero => exact h
  | succ k ih =>
    have hg (xs : List Nat) : (xs.foldl (fun s i => s.genNow (mfEntry m i).1) s).owned ko :=
      owned_foldl (fun _ _ h => h.genNow) h xs
    unfold State.restoreN
    grind [owned.setRestore, owned.homeAsk, owned.unback, owned.unmove, owned.askParts,
      owned.restoreRecord]

theorem State.owned.restorePump : s.restorePump.owned ko := by
  grind [State.restorePump, owned.restoreN, owned.setRestore]

theorem State.owned.restorePart {manifest : Bool} {i : Nat} {bs : List Byte} :
    (s.restorePart manifest i bs).owned ko := by
  grind [State.restorePart, owned.restorePump, owned.setRestore]

end

/-! ### Transport (R448 to R470) -/

section

variable {ko : List Byte} {s : State} (h : s.owned ko) {n : Nat}
include h

theorem State.owned.execBlockLockGained {lane : Nat} : (execBlockLockGained lane s).Owned ko := by
  grind [Machine.execBlockLockGained, Out.Owned]

theorem State.owned.execBlockLockLost {lane : Nat} : (execBlockLockLost lane s).Owned ko := by
  grind [Machine.execBlockLockLost, Out.Owned]

theorem State.owned.execLinkUp : (execLinkUp s).Owned ko := by
  grind [Machine.execLinkUp, Out.Owned, owned.setReady, owned.xptUp]

theorem State.owned.execLinkDown : (execLinkDown s).Owned ko := by
  grind [Machine.execLinkDown, Out.Owned]

theorem State.owned.execLinkDownTimeout : (execLinkDownTimeout s).Owned ko := by
  grind [Machine.execLinkDownTimeout, Out.Owned, owned.loseConduit, owned_foldl]

theorem State.owned.emitFrame {cid : Option Nat} {bs : List Byte} : (s.emitFrame cid bs).owned ko := h

theorem State.owned.emit {cid : Nat} {typ : Byte} {psn : Word} {ece retx : Bool} {payload : List Byte} :
    (s.emit cid typ psn ece retx payload).owned ko := by
  grind [State.emit, owned.emitFrame, owned.setCon]

theorem State.owned.emitAck {cid : Nat} : (s.emitAck cid).owned ko := by
  grind [State.emitAck, owned.draw, owned.emit, owned.setCon]

theorem State.owned.emitPkt {cid : Nat} {t : TxPkt} : (s.emitPkt cid t).owned ko := by
  grind [State.emitPkt, owned.emit, owned.setCon]

theorem State.owned.execPacketTransmit : (execPacketTransmit s).Owned ko := by
  grind [Machine.execPacketTransmit, Out.Owned, owned.emitAck, owned.emitPkt]

theorem State.owned.execAckTimer {cid : Nat} : (execAckTimer cid s).Owned ko := by
  grind [Machine.execAckTimer, Out.Owned, owned.setCon]

theorem State.owned.execRetransmitTimeout {cid : Nat} : (execRetransmitTimeout cid s).Owned ko := by
  grind [Machine.execRetransmitTimeout, Out.Owned, owned.loseConduit, owned.setCon]

theorem State.owned.execRateIncrease {cid : Nat} : (execRateIncrease cid s).Owned ko := by
  grind [Machine.execRateIncrease, Out.Owned, owned.setCon]

theorem State.owned.dropHdr : s.dropHdr.owned ko := h

theorem State.owned.respond {cid : Nat} {op status : Byte} {rid : Word} {opnd : Option Dword} {pmap : BitVec 64}
    {data : List Byte} :
    (s.respond cid op status rid opnd pmap data).owned ko := by
  grind [State.respond, owned.draw, owned.sendOp]

theorem State.owned.deliverOp {cid : Nat} {b : List Byte} : (s.deliverOp cid b).owned ko := by
  grind [State.deliverOp, owned.dropHdr, owned.modCon, owned.respond]

theorem State.owned.deliver {cid : Nat} {typ : Byte} {payload : List Byte} : (s.deliver cid typ payload).owned ko := by
  grind [State.deliver, owned.deliverOp, owned.modCon]

theorem State.owned.drainReorder {k cid : Nat} : (State.drainReorder k cid s).owned ko := by
  induction k generalizing s with
  | zero => exact h
  | succ k ih => grind [State.drainReorder, owned.setCon, owned.deliver]

theorem State.owned.sequence {cid : Nat} {psn : Word} {typ : Byte} {payload : List Byte} :
    (s.sequence cid psn typ payload).owned ko := by
  grind [State.sequence, owned.deliver, owned.drainReorder, owned.modCon, owned.setCon]

theorem State.owned.fecSeen {p : Packet} : (s.fecSeen p).owned ko := h

theorem State.owned.receive {p : Packet} : (s.receive p).owned ko := by
  grind [State.receive, owned.dropHdr, owned.fecSeen, owned.sequence, owned.setCon]

theorem State.owned.execDataPacket {p : Packet} : (execDataPacket p s).Owned ko := by
  grind [Machine.execDataPacket, Out.Owned, owned.receive]

theorem State.owned.execAck {p : Packet} : (execAck p s).Owned ko := by
  grind [Machine.execAck, Out.Owned, owned.receive]

theorem State.owned.icmp {mac : BitVec 48} {dst : BitVec 128} {hops typ code : Nat} {body : List Byte} :
    (s.icmp mac dst hops typ code body).owned ko := by
  grind [State.icmp, owned.emitFrame]

theorem State.owned.execNeighborSolicitation {target src : BitVec 128} {mac : BitVec 48} :
    (execNeighborSolicitation target src mac s).Owned ko := by
  grind [Machine.execNeighborSolicitation, Out.Owned, owned.dropHdr, owned.icmp, owned.target]

theorem State.owned.execEchoRequest {dst src : BitVec 128} {mac : BitVec 48} {body : List Byte} :
    (execEchoRequest dst src mac body s).Owned ko := by
  grind [Machine.execEchoRequest, Out.Owned, owned.dropHdr, owned.icmp]

theorem State.owned.opDone {cid k : Nat} : (s.opDone cid k).owned ko := h.modCon

theorem State.owned.unmapped {cid k : Nat} {o : DpOp} : (s.unmapped cid k o).owned ko := by
  grind [State.unmapped, owned.opDone, owned.respond]

theorem State.owned.doRead {cid k : Nat} {o : DpOp} : (s.doRead cid k o).owned ko := by
  grind [State.doRead, owned.dvLoadLines, owned.opDone, owned.respond, owned.touchRange, owned.unmapped]

theorem State.owned.execRead {cid k : Nat} : (execRead cid k s).Owned ko := by
  grind [Machine.execRead, Out.Owned, owned.doRead]

theorem State.owned.recovWrite {a : Nat} {bs : List Byte} {bad : Nat → Bool} : (s.recovWrite a bs bad).owned ko := h

theorem State.owned.doWrite {cid k : Nat} {o : DpOp} : (s.doWrite cid k o).owned ko := by
  grind [State.doWrite, owned.dvStoreK, owned.opDone, owned.recovWrite, owned.touchRange, owned.unmapped]

theorem State.owned.execWrite {cid k : Nat} : (execWrite cid k s).Owned ko := by
  grind [Machine.execWrite, Out.Owned, owned.doWrite]

theorem State.owned.execFlush {cid k : Nat} : (execFlush cid k s).Owned ko := by
  grind [Machine.execFlush, Out.Owned, owned.opDone, owned.respond, owned.unmapped]

theorem State.owned.execDoorbell {cid k : Nat} : (execDoorbell cid k s).Owned ko := by
  grind [Machine.execDoorbell, Out.Owned, owned.opDone, owned.ringBell, owned.unmapped]

theorem State.owned.execEventAdd {cid k : Nat} : (execEventAdd cid k s).Owned ko := by
  grind [Machine.execEventAdd, Out.Owned, owned.addEvent, owned.opDone, owned.unmapped]

theorem State.owned.answerFa {cid : Nat} {o : DpOp} {st : Byte} {old : Option Dword} :
    (s.answerFa cid o st old).owned ko := by
  grind [State.answerFa, owned.respond, owned.xrqEnd]

theorem State.owned.execFetchAdd {cid k : Nat} : (execFetchAdd cid k s).Owned ko := by
  grind [Machine.execFetchAdd, Out.Owned, owned.answerFa, owned.fetchAdd, owned.opDone, owned.unmapped]

theorem State.owned.execHread {h : Nat} {addr : Dword} {len : Nat} : (execHread h addr len s).Owned ko := by
  grind [Machine.execHread, Out.Owned, owned.sendReq]

theorem State.owned.execHwrite {h : Nat} {addr : Dword} {data : List Byte} {pmap : BitVec 64} :
    (execHwrite h addr data pmap s).Owned ko := by
  grind [Machine.execHwrite, Out.Owned, owned.sendOp]

theorem State.owned.matchReq {cid k : Nat} {o : DpOp} {op : Byte} : (s.matchReq cid k o op).1.owned ko := by
  grind [State.matchReq, owned.modCon, owned.opDone]

theorem State.owned.execReadResponse {cid k : Nat} : (execReadResponse cid k s).Owned ko := by
  grind [Machine.execReadResponse, Out.Owned, owned.matchReq]

theorem State.owned.execFlushResponse {cid k : Nat} : (execFlushResponse cid k s).Owned ko := by
  grind [Machine.execFlushResponse, Out.Owned, owned.matchReq]

theorem State.owned.execFetchAddResponse {cid k : Nat} : (execFetchAddResponse cid k s).Owned ko := by
  grind [Machine.execFetchAddResponse, Out.Owned, owned.matchReq, owned.xrqEnd]

theorem State.owned.sealedPart {vpn part : Nat} {bs : List Byte} {pmap : BitVec 64} :
    (s.sealedPart vpn part bs pmap).owned ko := by
  grind [State.sealedPart, owned.setFetch]

theorem State.owned.execHreadResponse {cid k : Nat} : (execHreadResponse cid k s).Owned ko := by
  grind [Machine.execHreadResponse, Out.Owned, owned.matchReq, owned.restoreEnd, owned.restorePart,
    owned.sealedPart]

theorem State.owned.execRemoteRequest {value : Word} : (execRemoteRequest n value s).Owned ko := by
  grind [Machine.execRemoteRequest, Out.Owned, owned.xrqWrite]

end

/-! ### Handshakes (R509 to R513) -/

section

variable {ko : List Byte} {s : State} (h : s.owned ko) {n : Nat}
include h

theorem State.owned.emitHs {cid : Nat} {m : List Byte} : (s.emitHs cid m).owned ko := by
  grind [State.emitHs, owned.emitFrame]

theorem State.owned.openConduit {cid : Nat} {h : Hs} {other idkey : List Byte} {anon : Bool} {finish : List Byte} :
    (s.openConduit cid h other idkey anon finish).owned ko := by
  grind [State.openConduit, owned.finish, owned.loseConduit, owned.setCon]

theorem State.owned.startAnswer {cid : Nat} {msg : List Byte} : (s.startAnswer cid msg).owned ko := by
  grind [State.startAnswer, owned.emitHs, owned.setCon]

theorem State.owned.execHello {cid : Nat} {msg : List Byte} : (execHello cid msg s).Owned ko := by
  grind [Machine.execHello, Out.Owned, owned.dropHdr, owned.emitHs, owned.startAnswer]

theorem State.owned.execFinish {cid : Nat} {msg : List Byte} : (execFinish cid msg s).Owned ko := by
  grind [Machine.execFinish, Out.Owned, owned.dropHdr, owned.finish, owned.openConduit]

theorem State.owned.execAnswerResend {cid : Nat} : (execAnswerResend cid s).Owned ko := by
  grind [Machine.execAnswerResend, Out.Owned, owned.emitHs]

theorem State.owned.dropHs {cid : Nat} : (s.dropHs cid).owned ko := by
  grind [State.dropHs, owned.modCon]

theorem State.owned.execHandshakeAbandon {cid : Nat} : (execHandshakeAbandon cid s).Owned ko := by
  grind [Machine.execHandshakeAbandon, Out.Owned, owned.dropHs]

theorem State.owned.startHello {cid : Nat} : (s.startHello cid).owned ko := by
  grind [State.startHello, owned.emitHs, owned.setCon]

theorem State.owned.answerFails {cid : Nat} : (s.answerFails cid).owned ko := by
  grind [State.answerFails, owned.finish, owned.modCon]

theorem State.owned.execAnswer {cid : Nat} {msg : List Byte} : (execAnswer cid msg s).Owned ko := by
  grind [Machine.execAnswer, Out.Owned, owned.answerFails, owned.dropHdr, owned.emitHs,
    owned.openConduit]

theorem State.owned.execHelloResend {cid : Nat} : (execHelloResend cid s).Owned ko := by
  grind [Machine.execHelloResend, Out.Owned, owned.emitHs]

end

/-! ### Moves of pages (R316, R402, R412) -/

section

variable {ko : List Byte} {s : State} (h : s.owned ko) {n : Nat}
include h

theorem State.owned.readObj {va len : Nat} : (s.readObj va len).1.owned ko := by
  grind [State.readObj, owned.touchRange]

theorem State.owned.setSeat {vpn : Nat} {k : SeatKind} {e : Pte} : (s.setSeat vpn k e).owned ko := by
  cases k <;> grind [State.setSeat, owned.remap, owned.setFetch]

theorem State.owned.withRec {vpn : Nat} {k : SeatKind} {e : Pte} : (s.withRec vpn k e).1.owned ko := by
  grind [State.withRec, owned.setSeat]

theorem State.owned.dropGran {g : Nat} : (s.dropGran g).owned ko := by
  grind [State.dropGran]

theorem State.owned.rehome {vpn : Nat} {k : SeatKind} {e : Pte} : (s.rehome vpn k e).owned ko := by
  grind [State.rehome, owned.breakResvPage, owned.copyPage, owned.dropPageLines, owned.seat,
    owned.setSeat, owned.syncPage, owned.unplace]

theorem State.owned.moveUse {hit : Nat → Bool} {u : Use} : (s.moveUse hit u).owned ko := by
  grind [State.moveUse, owned.dropGran, owned.granWritten, owned.physMove, owned.placeOne, owned.rehome,
    owned.withRec]

theorem State.owned.moveAll {hit : Nat → Bool} : (s.moveAll hit).owned ko := owned_foldl (fun _ _ h => h.moveUse) h _

theorem State.owned.foundUe {reads : Bool} {hit : Nat → Bool} {pas : List Nat} : (s.foundUe reads hit pas).1.owned ko :=
  List.foldlRecOn (motive := fun acc : State × Nat => acc.1.owned ko) _ _ h fun _ hacc _ _ => hacc.draw.rebuildUnit.record

theorem State.owned.holdPages {vs : List Nat} : (s.holdPages vs).owned ko := by
  grind [State.holdPages]

theorem State.owned.unholdPages {vs : List Nat} : (s.unholdPages vs).owned ko := by
  grind [State.unholdPages, owned.pumpPins, owned.wakeVpn, owned_foldl]

theorem State.owned.unholdAll : s.unholdAll.owned ko := h.unholdPages

theorem State.owned.restrength {vpn p : Nat} : (s.restrength vpn p).owned ko := by
  grind [State.restrength, owned.modPl, owned.placeOne, owned.setPte, owned.syncPage, owned.unplace, owned.withRec,
    owned_foldl]

theorem State.owned.emptyPpn {ppn : Nat} : (s.emptyPpn ppn).owned ko := by
  grind [State.emptyPpn, owned.moveAll, owned.rehome, owned_foldl]

end

/-! ### Memory commands (R342 to R346, R402, R412 to R414) -/

section

variable {ko : List Byte} {s : State} (h : s.owned ko) {n : Nat}
include h

theorem State.owned.allocate {base : Nat} {a : Alloc} : (s.allocate base a).owned ko := by
  grind [State.allocate]

theorem State.owned.allocLast {p : CmdPkt} {kind : HomeKind} {str : Nat} : (s.allocLast p kind str).1.owned ko := by
  grind [State.allocLast, owned.allocate]

theorem State.owned.allocOwn {p : CmdPkt} : (s.allocOwn p).1.owned ko := by
  grind [State.allocOwn, owned.allocLast, owned.sendOp]

theorem State.owned.finishWith {r : State × CmdRes} (hr : r.1.owned ko) : (s.finishWith r).owned ko := by
  unfold State.finishWith
  split
  exacts [owned.finish hr, h]

theorem State.owned.execMapa {d va str status : Nat} : (execMapa d va str status s).Owned ko := by
  grind [Machine.execMapa, Out.Owned, owned.allocLast, owned.finish, owned.finishWith, owned.takeCir]

theorem State.owned.freeCopy {vpn : Nat} {e : Pte} : (s.freeCopy vpn e).owned ko := by
  grind [State.freeCopy, owned.cir, owned.dropFetch, owned.holderDrop, owned.sendPage]

theorem State.owned.keepFrozen {vpn : Nat} {e : Pte} : (s.keepFrozen vpn e).owned ko := by
  grind [State.keepFrozen, owned.copyPage, owned.modPl, owned.unplace]

theorem State.owned.goneAll {vpn : Nat} : (s.goneAll vpn).owned ko := by
  grind [State.goneAll, owned.cir, owned_foldl]

theorem State.owned.freePageOf {vpn : Nat} : (s.freePageOf vpn).owned ko := by
  grind [State.freePageOf, owned.breakResvPage, owned.dropPageLines, owned.freeCopy, owned.goneAll,
    owned.keepFrozen, owned.tbDrop, owned.unplace, owned.wakeVpn]

theorem State.owned.dropAlloc {base : Nat} {a : Alloc} : (s.dropAlloc base a).owned ko := by
  grind [State.dropAlloc]

theorem State.owned.freeAll {as : List (Nat × Alloc)} : (s.freeAll as).owned ko := by
  grind [State.freeAll, owned.dropAlloc, owned.freePageOf, owned.wakeStuck, owned_foldl]

theorem State.owned.freeOwn {p : CmdPkt} : (s.freeOwn p).1.owned ko := by
  grind [State.freeOwn, owned.freeAll, owned.homeAsk, owned_foldl]

theorem State.owned.freeGoesOn {p : CmdPkt} : (s.freeGoesOn p).owned ko := by
  grind [State.freeGoesOn, owned.finish, owned.freeAll, owned.homeAsk, owned_foldl]

theorem State.owned.execFreeHolderTimeout {d vpn : Nat} : (execFreeHolderTimeout d vpn s).Owned ko := by
  grind [Machine.execFreeHolderTimeout, Out.Owned, owned.await, owned.freeGoesOn, owned.homeAnswered,
    owned.record]

theorem State.owned.allocStrength {base p : Nat} {a : Alloc} : (s.allocStrength base p a).owned ko := by
  grind [State.allocStrength]

theorem State.owned.strengthOwn {p : CmdPkt} : (s.strengthOwn p).1.owned ko := by
  grind [State.strengthOwn, owned.allocStrength, owned.holdPages, owned_foldl]

theorem State.owned.strengthEnds {p : CmdPkt} : (s.strengthEnds p).owned ko := by
  grind [State.strengthEnds, owned.allocStrength, owned.finish, owned.holdPages, owned.restrength, owned.unholdAll,
    owned.unholdPages, owned_foldl]

theorem State.owned.retirePageOwn {p : CmdPkt} : (s.retirePageOwn p).1.owned ko := by
  grind [State.retirePageOwn, owned.holdPages]

theorem State.owned.retirePageEnds {p : CmdPkt} {found : List Nat} : (s.retirePageEnds p found).owned ko := by
  grind [State.retirePageEnds, owned.emptyPpn, owned.finish, owned.foundUe, owned.record,
    owned.unholdAll]

theorem State.owned.retireBankOwn {p : CmdPkt} : (s.retireBankOwn p).1.owned ko := by
  grind [State.retireBankOwn, owned.holdPages, owned.modCh]

theorem State.owned.retireBankEnds {p : CmdPkt} {found : List Nat} : (s.retireBankEnds p found).owned ko := by
  grind [State.retireBankEnds, owned.finish, owned.foundUe, owned.modCh, owned.moveAll, owned.record,
    owned.unholdAll]

theorem State.owned.mapOutOwn {p : CmdPkt} : (s.mapOutOwn p).1.owned ko := by
  grind [State.mapOutOwn, owned.holdPages, owned.modCh, owned.setReady]

theorem State.owned.mapOutEnds {p : CmdPkt} {found : List Nat} : (s.mapOutEnds p found).owned ko := by
  grind [State.mapOutEnds, owned.finish, owned.foundUe, owned.modCh, owned.moveAll, owned.record,
    owned.unholdAll]

theorem State.owned.marginOwn {p : CmdPkt} : (s.marginOwn p).1.owned ko := by
  grind [State.marginOwn, owned.modCh]

theorem State.owned.marginEnds {p : CmdPkt} {pins : List Word} : (s.marginEnds p pins).owned ko := by
  grind [State.marginEnds, owned.finish, owned.modCh]

theorem State.owned.scrubOwn {p : CmdPkt} : (s.scrubOwn p).1.owned ko := by
  grind [State.scrubOwn]

theorem State.owned.fuseOwn {p : CmdPkt} : (s.fuseOwn p).1.owned ko := by
  grind [State.fuseOwn, owned.modLan, owned.modTc]

end

/-! ### Security commands (R503 to R508, R519 to R521) -/

section

variable {ko : List Byte} {s : State} (h : s.owned ko) {n : Nat}
include h

theorem State.owned.identifyOwn : s.identifyOwn.1.owned ko := by
  grind [State.identifyOwn]

theorem State.owned.attestOwn {p : CmdPkt} : (s.attestOwn p).1.owned ko := by
  grind [State.attestOwn]

theorem State.owned.claimOwn {p : CmdPkt} : (s.claimOwn p).1.owned ko := by
  grind [State.claimOwn]

theorem State.owned.loseAnon : s.loseAnon.owned ko := owned_foldl (fun _ _ h => h.loseConduit) h _

theorem State.owned.replyLeaves {h : Nat} : (s.replyLeaves h).owned ko := by
  grind [State.replyLeaves, owned.emitPkt, owned_foldl]

theorem State.owned.loseUnlisted : s.loseUnlisted.owned ko := by
  grind [State.loseUnlisted, owned.dropHs, owned.loseConduit, owned_foldl]

theorem State.owned.installList {b cks : List Byte} {idx : Nat} : (s.installList b cks idx).owned ko := by
  grind [State.installList, owned.loseUnlisted]

theorem State.owned.judgeList {b : List Byte} {poisoned : Bool} : (s.judgeList b poisoned).1.owned ko := by
  grind [State.judgeList, owned.installList]

theorem State.owned.loadListOwn {p : CmdPkt} : (s.loadListOwn p).1.owned ko := by
  grind [State.loadListOwn, owned.judgeList, owned.readObj]

theorem State.owned.openOwn {p : CmdPkt} : (s.openOwn p).1.owned ko := by
  grind [State.openOwn, owned.startHello]

theorem State.owned.setOwn {p : CmdPkt} : (s.setOwn p).owned ko := by
  grind [State.setOwn]

theorem State.owned.setEntry {p : CmdPkt} {i : Nat} : (s.setEntry p i).owned ko := by
  grind [State.setEntry, owned.loseConduit]

theorem State.owned.setAddress {p : CmdPkt} : (s.setAddress p).owned ko := by
  grind [State.setAddress, owned.setEntry, owned.setOwn, owned_foldl]

theorem State.owned.addressOwn {p : CmdPkt} : (s.addressOwn p).1.owned ko := by
  grind [State.addressOwn]

theorem State.owned.judgeImage {b : List Byte} {poisoned : Bool} : (s.judgeImage b poisoned).1.owned ko := by
  grind [State.judgeImage]

theorem State.owned.stageOwn {p : CmdPkt} : (s.stageOwn p).1.owned ko := by
  grind [State.stageOwn]

theorem State.owned.stageEnds {p : CmdPkt} : (s.stageEnds p).1.owned ko := by
  grind [State.stageEnds, owned.judgeImage, owned.readObj]

theorem State.owned.commitOwn {p : CmdPkt} : (s.commitOwn p).1.owned ko := by
  grind [State.commitOwn]

theorem State.owned.commitEnds : s.commitEnds.owned ko := by
  grind [State.commitEnds, owned.finish]

theorem State.owned.judgeBundle {b : List Byte} {poisoned : Bool} : (s.judgeBundle b poisoned).1.owned ko := by
  grind [State.judgeBundle]

theorem State.owned.loadTableOwn {p : CmdPkt} : (s.loadTableOwn p).1.owned ko := by
  grind [State.loadTableOwn, owned.judgeBundle, owned.readObj]

theorem State.owned.installBundle {b : List Byte} : (s.installBundle b).owned ko := by
  grind [State.installBundle, owned.examine, owned.loadTable, owned_foldl]

end

/-! ### Control commands and the end of a command (R476, R483, R491) -/

section

variable {ko : List Byte} {s : State} (h : s.owned ko) {n : Nat}
include h

theorem State.owned.statusOwn : s.statusOwn.1.owned ko := by
  grind [State.statusOwn]

theorem State.owned.readyOwn : s.readyOwn.1.owned ko := by
  grind [State.readyOwn]

theorem State.owned.createOwn {p : CmdPkt} : (s.createOwn p).1.owned ko := by
  grind [State.createOwn, owned.setQueue]

theorem State.owned.destroyOwn {p : CmdPkt} : (s.destroyOwn p).1.owned ko := by
  grind [State.destroyOwn, owned.examine]

theorem State.owned.snapshotOwn : s.snapshotOwn.1.owned ko := by
  grind [State.snapshotOwn, owned.beaconTrigger, owned.inject]

theorem State.owned.readSnapOwn {p : CmdPkt} : (s.readSnapOwn p).1.owned ko := by
  grind [State.readSnapOwn]

theorem State.owned.checkpointOwn {p : CmdPkt} : (s.checkpointOwn p).1.owned ko := by
  grind [State.checkpointOwn]

theorem State.owned.restoreOwn {p : CmdPkt} : (s.restoreOwn p).1.owned ko := by
  grind [State.restoreOwn]

theorem State.owned.restoreBegins {p : CmdPkt} : (s.restoreBegins p).owned ko := h.askParts.restorePump

theorem State.owned.quarantineOwn {p : CmdPkt} : (s.quarantineOwn p).1.owned ko := by
  unfold State.quarantineOwn
  extract_lets kind m n l done
  clear_value done l
  split
  · exact h
  split
  · exact h
  split
  · exact h
  split
  · split
    · exact h
    · refine owned.examine (owned.setReady (owned.setLan ?_))
      exact h
  split
  exacts [h, h]

theorem State.owned.errReadOwn {p : CmdPkt} : (s.errReadOwn p).1.owned ko := by
  grind [State.errReadOwn]

theorem State.owned.clearLog {upTo : Nat} : (s.clearLog upTo).owned ko := by
  grind [State.clearLog]

theorem State.owned.errClearOwn {p : CmdPkt} : (s.errClearOwn p).1.owned ko := by
  grind [State.errClearOwn, owned.clearLog]

theorem State.owned.readWords {as : List Nat} : (s.readWords as).1.owned ko := by
  induction as generalizing s with
  | nil => exact h
  | cons a as ih => grind [State.readWords, owned.regRead]

theorem State.owned.regReadOwn {p : CmdPkt} : (s.regReadOwn p).1.owned ko := by
  grind [State.regReadOwn, owned.readWords]

theorem State.owned.regWriteOwn {p : CmdPkt} : (s.regWriteOwn p).1.owned ko := by
  grind [State.regWriteOwn, owned.pilotWrite, owned_foldl]

theorem State.owned.powerOwn {p : CmdPkt} : (s.powerOwn p).1.owned ko := by
  grind [State.powerOwn, owned.addEligible, owned.offDomain]

theorem State.owned.pointOwn {p : CmdPkt} : (s.pointOwn p).1.owned ko := by
  grind [State.pointOwn]

theorem State.owned.capOwn {p : CmdPkt} : (s.capOwn p).1.owned ko := by
  grind [State.capOwn]

theorem State.owned.resetOwn {p : CmdPkt} : (s.resetOwn p).1.owned ko := by
  grind [State.resetOwn]

theorem State.owned.execDeadlineExpiry : (execDeadlineExpiry s).Owned ko := by
  grind [Machine.execDeadlineExpiry, Out.Owned, owned.dropHs, owned.finish]

omit h in
theorem State.owned.endOrWait {r : State × CmdRes} (h : r.1.owned ko) : (State.endOrWait r).owned ko := by
  obtain ⟨s, st | w⟩ := r
  exacts [owned.finish h, h]

theorem State.owned.restoreEnds : s.restoreEnds.owned ko := by
  grind [State.restoreEnds, owned.examine, owned.finish, owned.restorePump, owned.unholdAll]

theorem State.owned.tableEnds {p : CmdPkt} : (s.tableEnds p).owned ko := by
  grind [State.tableEnds, owned.finish, owned.installBundle, owned.loadTableOwn, owned.endOrWait]

theorem State.owned.dropClaims {b : Busy} : (s.dropClaims b).owned ko := by
  grind [State.dropClaims, owned.examine, owned.modCh, owned.unholdAll]

theorem State.owned.pilotFault {b : Busy} : (s.pilotFault b).owned ko := h.dropClaims.record.finish

theorem State.owned.workEnds {b : Busy} {x : CompleteIn} : (s.workEnds b x).owned ko := by
  unfold State.workEnds
  split
  exacts [h.loadListOwn.endOrWait, h.stageEnds.endOrWait, h.commitEnds, h.freeGoesOn, h.strengthEnds, h.restoreEnds,
    h.retirePageEnds, h.retireBankEnds, h.mapOutEnds, h.tableEnds, h.marginEnds, h]

theorem State.owned.execCommandCompleted {x : CompleteIn} : (execCommandCompleted x s).Owned ko := by
  grind [Machine.execCommandCompleted, Out.Owned, owned.pilotFault, owned.workEnds]

end

/-! ### Customer instructions (R282 to R290) -/

section

variable {ko : List Byte} {s : State} (h : s.owned ko) {n : Nat}
include h

theorem State.owned.ucFault {α : Type} {p : α → Prop} {n slot code i : Nat} :
    Run.Owned ko p (s.ucFault n slot code i) := h

theorem State.owned.ucRecord {code : Nat} : (s.ucRecord n code).owned ko := by
  grind [State.ucRecord, owned.draw, owned.record]

theorem State.owned.ucCommit {n : Nat} {w : BaseWord} {u : Uc} :
    (s.ucCommit n w u).Owned ko (State.owned ko) :=
  .bind h.enterStores fun _ h => h.modLan.fpComplete

theorem State.owned.ucOperand {n : Nat} {w : BaseWord} : (s.ucOperand n w).Owned ko fun _ => True := by
  unfold State.ucOperand
  split
  · trivial
  next c _ =>
    have hr : (s.readReg n c).Owned ko fun _ => True := h.readReg
    grind [Run.Owned]
  · trivial
  · exact h

end

theorem Run.Owned.ucAt {α : Type} {p : α → Prop} {x : Run α} (h : x.Owned ko p) (i : Nat) : (ucAt i x).Owned ko p := by
  cases x with
  | ok a => exact h
  | error x => exact (congrArg (State.owned ko) (ucAbort_state i x)).mpr h

section
variable {ko : List Byte} {u : Uc} (h : u.s.owned ko) {n slot i : Nat}
include h

theorem State.owned.uc_load {dv : Bool} {a : Dword} {len : Nat} :
    (u.load n slot i dv a len).Owned ko fun r => r.2.s.owned ko := by
  have hr : (Machine.ucAt i (u.s.reach n dv false false a len)).Owned ko (State.owned ko) := h.reach.ucAt i
  have hb (s : State) (h : s.owned ko) : (Machine.ucAt i (s.readBuffered n dv a len)).Owned ko fun r => r.2.owned ko :=
    h.readBuffered.ucAt i
  grind [Uc.load, Run.Owned, owned.ucFault]

theorem State.owned.uc_store {dv : Bool} {a : Dword} {bs : List Byte} :
    (u.store n i dv a bs).Owned ko fun u => u.s.owned ko := by
  have hr : (Machine.ucAt i (u.s.reach n dv false true a bs.length)).Owned ko (State.owned ko) := h.reach.ucAt i
  grind [Uc.store, Run.Owned]

theorem State.owned.uc_micro {w : Nat} : (u.micro n slot i w).Owned ko fun u => u.s.owned ko := by
  have hl (dv : Bool) (a : Dword) (len : Nat) :
      (u.load n slot i dv a len).Owned ko fun r => r.2.s.owned ko := h.uc_load
  have hs (dv : Bool) (a : Dword) (bs : List Byte) :
      (u.store n i dv a bs).Owned ko fun u => u.s.owned ko := h.uc_store
  unfold Uc.micro
  extract_lets rd a b sf dv sz len imm old nz shift code m ctx
  split <;>
    grind [Run.Owned, Uc.put_s, Uc.res_s, Uc.fp_s]

theorem State.owned.ucGo {z : UcUpset} {cuts : Bool} {ws : List (Nat × Nat)} {k : Nat} :
    (Machine.ucGo n slot z cuts ws k u).Owned ko fun
      | .commit u => u.s.owned ko
      | .discard => True := by
  induction ws generalizing u k with
  | nil => exact h
  | cons w ws ih =>
    cases k with
    | succ k => exact ih h
    | zero =>
      have hm : (u.micro n slot w.1 w.2).Owned ko fun u => u.s.owned ko := h.uc_micro
      have hf : Run.Owned ko (fun
        | .commit u => u.s.owned ko
        | .discard => True) ((u.s.ucRecord n 1).ucFault n slot 1 w.1 : Run UcEnd) := h.ucRecord.ucFault
      unfold Machine.ucGo
      grind [Run.Owned]

end

section

variable {ko : List Byte} {s : State} (h : s.owned ko) {n : Nat}
include h

theorem State.owned.execCustomerInstruction {slot : BitVec 5} {w : BaseWord} {z : UcUpset} :
    (execCustomerInstruction n slot w z s).Owned ko := by
  refine h.runWick (.ite (fun _ => h) fun _ => .ite (fun _ => h.ucRecord.modLan.ucFault) fun _ =>
    .bind h.need fun _ _ => .bind h.ucOperand fun x _ => ?_)
  have hgo (cuts : Bool) (ws : List (Nat × Nat)) (u : Uc) (hu : u.s.owned ko) :=
    hu.ucGo (n := n) (slot := slot.toNat) (z := z) (cuts := cuts) (ws := ws) (k := 0)
  dsimp only
  split
  next x heq => exact (heq ▸ hgo _ _ _ h :)
  next u heq => exact owned.ucCommit (heq ▸ hgo _ _ _ h :)
  next => exact h.modLan.boundaryEvent

end

/-! ### Kernel start and copies (R366 to R385) -/

section

variable {ko : List Byte} {s : State} (h : s.owned ko) {n : Nat}
include h

theorem State.owned.startKernel {q : Nat} {idx : Half} {e : List Byte} {ms : List Nat} :
    (s.startKernel q idx e ms).owned ko := by
  grind [State.startKernel, owned.examine, owned.headStarts, owned.modLan, owned_foldl]

theorem State.owned.execKernelStart : (execKernelStart s).Owned ko := by
  grind [Machine.execKernelStart, Out.Owned, owned.examine, owned.startKernel]

theorem State.owned.moveRuns {e : Nat} {stream : Bool} {rs : List CopyRun} : (s.moveRuns e stream rs).owned ko := by
  grind [State.moveRuns, owned.dvLoadLines, owned.dvStoreK, owned_foldl]

theorem State.owned.zeroRuns {e : Nat} {rs : List CopyRun} : (s.zeroRuns e rs).owned ko :=
  owned_foldl (fun _ _ h => h.dvStoreK) h _

theorem State.owned.writeRuns {e : Nat} {d : CopyDesc} {rs : List CopyRun} : (s.writeRuns e d rs).owned ko := by
  grind [State.writeRuns, owned.moveRuns, owned.zeroRuns]

theorem State.owned.touchRuns {e : Nat} {zero : Bool} {k : Nat} {rs : List CopyRun} :
    (s.touchRuns e zero k rs).1.owned ko := by
  induction rs generalizing s k with
  | nil => exact h
  | cons r rs ih => grind [State.touchRuns, owned.touchRange]

theorem State.owned.prefetch {e : Nat} {d : CopyDesc} : (s.prefetch e d).1.owned ko := by
  refine List.foldlRecOn (motive := fun acc : State × CopyRes => acc.1.owned ko) _ _ h fun acc hacc p _ => ?_
  grind [owned.touch]

theorem State.owned.touchCopy {e : Nat} {d : CopyDesc} : (s.touchCopy e d).1.owned ko := by
  grind [State.touchCopy, owned.prefetch, owned.touchRuns]

theorem State.owned.execCopyEntryStart : (execCopyEntryStart s).Owned ko := by
  grind [Machine.execCopyEntryStart, Out.Owned, owned.examine, owned.headStarts, owned.modEng]

theorem State.owned.copyRunsBy {e : Nat} {d : CopyDesc} {rs : List CopyRun} : (s.copyRunsBy e d rs).owned ko := by
  grind [State.copyRunsBy, owned.modEng, owned.writeRuns]

theorem State.owned.copyEnds {e : Nat} : (s.copyEnds e).owned ko := by
  grind [State.copyEnds, owned.addCevt, owned.addDone, owned.examine, owned.modEng]

theorem State.owned.execCopyComplete {e : Nat} : (execCopyComplete e s).Owned ko := by
  grind [Machine.execCopyComplete, Out.Owned, owned.copyEnds, owned.copyRunsBy, owned.touchCopy]

theorem State.owned.execCopyFault {e : Nat} : (execCopyFault e s).Owned ko := by
  grind [Machine.execCopyFault, Out.Owned, owned.copyRunsBy, owned.examine, owned.modEng, owned.record,
    owned.stopQueue, owned.touchCopy, owned.unmapped]

theorem State.owned.execResume {q : Nat} : (execResume q s).Owned ko := by
  grind [Machine.execResume, Out.Owned, owned.resumeQueue]

theorem State.owned.execRelease {value : Word} : (execRelease value s).Owned ko := by
  grind [Machine.execRelease, Out.Owned, owned.releaseWrite]

theorem State.owned.execEvcmdRead {evt : Nat} : (execEvcmdRead evt s).Owned ko := by
  grind [Machine.execEvcmdRead, Out.Owned, owned.evcmd]

theorem State.owned.execEvcmdSet {evt : Nat} : (execEvcmdSet evt s).Owned ko := by
  grind [Machine.execEvcmdSet, Out.Owned, owned.evcmd]

theorem State.owned.execEvcmdAdd {evt : Nat} : (execEvcmdAdd evt s).Owned ko := by
  grind [Machine.execEvcmdAdd, Out.Owned, owned.evcmd]

end

/-! ### The statement -/

/-- Every command keeps device memory in canonical form. -/
theorem State.owned.exec {s : State} (h : s.owned ko) (i : Instr) : Out.Owned ko (exec i s) := by
  cases i with dsimp only [Machine.exec]
  | loHalfRead _ _ => exact h.execLoHalfRead
  | rateMeasureStart _ => exact h.rateWrite
  | rateMeasureEnd _ => exact h.execRateMeasureEnd
  | stallWatchdog _ _ => exact h.execStallWatchdog
  | stallRepeat _ _ => exact h.execStallRepeat
  | powerEvaluation _ => exact h.execPowerEvaluation
  | errorRecord _ => exact (owned_foldl (fun _ _ h => h.blockEffect) h _).records
  | readyNotification => exact h.execReadyNotification
  | nanReport _ _ => exact h.execNanReport
  | nanRecordClear _ => exact h.execNanRecordClear
  | mma _ _ =>
    exact h.runWick (.bind h.need fun _ _ => .bind h.guardRanges fun _ _ => .bind h.await fun _ _ => h.mqEnter.complete)
  | mdrain _ _ =>
    exact h.runWick (.bind h.need fun _ _ => .bind h.guardRanges fun _ _ => .bind h.await fun _ _ => h.mqEnter.complete)
  | mfence _ _ => exact h.runWick (.bind h.need fun _ _ => .bind h.awaitFence fun _ _ => h.complete)
  | mcap _ _ => exact h.runWick (.bind h.need fun _ _ => h.modWick.complete)
  | mmaShareComplete _ _ _ _ => exact h.execMmaShareComplete
  | handOff _ _ => exact h.execHandOff
  | tileDrain _ _ _ => exact h.execTileDrain
  | recomputeComplete _ _ _ => exact h.execRecomputeComplete
  | substituteShareComplete _ _ _ => exact h.execSubstituteShareComplete
  | patternSelftestComplete _ _ _ => exact h.execPatternSelftestComplete
  | arrayQuarantineEffect _ _ => exact h.execArrayQuarantineEffect
  | bypassConversion _ _ => exact h.execBypassConversion
  | hchain _ _ => exact h.execHchain
  | chainStart _ => exact h.execChainStart
  | chainComplete _ _ => exact h.execChainComplete
  | vsetl _ _ => exact h.vecOp
  | pwhile _ _ => exact h.vecOp
  | pandPorPxorPandn _ _ _ => exact h.vecOp
  | pcnt _ _ => exact h.vecOp
  | pfirst _ _ => exact h.vecOp
  | vaddVsub _ _ _ => exact h.vecInt
  | vmulVmulh _ _ _ => exact h.vecInt
  | vminVmaxVminuVmaxu _ _ _ => exact h.vecInt
  | vandVorVxor _ _ _ => exact h.vecInt
  | vshlVshrVsra _ _ _ => exact h.vecInt
  | vfaddVfsubVfmul _ _ _ => exact h.vecFp
  | vfminVfmax _ _ _ => exact h.vecFp
  | vfabsVfnegVfsgnj _ _ _ => exact h.vecFp
  | vfmaVfmsVfnmaVfnms _ _ _ => exact h.vecFp
  | vfdivVfsqrt _ _ _ => exact h.vecFp
  | vexpVrecipVrsqrtVlogi _ _ _ => exact h.vecFp
  | vcmp _ _ _ => exact h.vecOp
  | vfcmp _ _ _ => exact h.vecOp
  | vcvt _ _ => exact h.vecOp
  | vmxpack _ _ => exact h.execVmxpack
  | vmxunpack _ _ => exact h.vecOp
  | vwmulVwmulu _ _ _ => exact h.vecOp
  | vfwmulVfwma _ _ _ => exact h.vecOp
  | vdot4Vdot2 _ _ _ => exact h.execVdot4Vdot2
  | reduction _ _ _ => exact h.vecOp
  | vslupVsldn _ _ _ => exact h.vecOp
  | vperm _ _ => exact h.vecOp
  | vcompress _ _ => exact h.execVcompress
  | vmvVbcastViota _ _ _ => exact h.vecOp
  | vsel _ _ => exact h.execVsel
  | vfence _ _ => exact h.runWick (.bind h.need fun _ _ => .bind h.awaitFence fun _ _ => h.complete)
  | vld _ _ => exact h.vload
  | vst _ _ => exact h.vstore
  | vlds _ _ => exact h.vload
  | vsts _ _ => exact h.vstore
  | vgath _ _ => exact h.vload
  | vscat _ _ => exact h.vstore
  | vldseg _ _ => exact h.vload
  | vstseg _ _ => exact h.vstore
  | fpExceptionReport _ => exact h.execFpExceptionReport
  | registerFileError _ _ => exact h.execRegisterFileError
  | getBGetHGetW _ _ _ => exact h.baseOp
  | getD _ _ => exact h.baseOp
  | getSbGetShGetSw _ _ _ => exact h.baseOp
  | getxGety _ _ _ => exact h.baseOp
  | seth _ _ _ => exact h.runWick (.bind h.need fun _ _ => h.modWick.complete)
  | putBPutHPutW _ _ _ => exact h.baseStore
  | putD _ _ => exact h.baseStore
  | putxPuty _ _ _ => exact h.baseStore
  | addAddc _ _ _ => exact h.baseOp
  | subSubb _ _ _ => exact h.baseOp
  | andOrXor _ _ _ => exact h.baseOp
  | cmp _ _ => exact h.baseOp
  | tst _ _ => exact h.baseOp
  | mul _ _ => exact h.baseOp
  | mulhMulhu _ _ _ => exact h.baseOp
  | divDivuRemRemu _ _ _ => exact h.baseOp
  | shlShrSraRol _ _ _ => exact h.baseOp
  | notNeg _ _ _ => exact h.runWick (.bind h.need fun _ _ => h.modWick.complete)
  | clzPopc _ _ _ => exact h.baseOp
  | addxAddy _ _ _ => exact h.baseOp
  | cmpxCmpy _ _ _ => exact h.baseOp
  | br _ _ => exact h.runWick (.bind h.need fun _ _ => h.transferTo)
  | jmp _ _ => exact h.runWick (.bind h.need fun _ _ => .bind h.target fun _ _ => h.transferTo)
  | callCalli _ _ _ => exact h.execCallCalli
  | ret _ _ => exact h.execRet
  | trap _ _ => exact h.runWick (.bind h.need fun _ _ => h.complete.takeEvent)
  | rte _ _ => exact h.execRte
  | kend _ _ => exact h.runWick (.bind h.need fun _ _ => .bind h.awaitFence fun _ _ => h.modLan.kernelDone)
  | hloop _ _ => exact h.execHloop
  | syncI _ _ => exact h.runWick (.bind h.need fun _ _ => .bind h.awaitFence fun _ _ => h.modLan.complete)
  | fence _ _ => exact h.runWick (.bind h.need fun _ _ => .bind h.awaitFence fun _ _ => h.complete)
  | ewait _ _ => exact h.runWick (.bind h.counterOperand fun _ _ => .ite (fun _ => h.complete) fun _ => h)
  | eadd _ _ => exact h.runWick (.bind h.counterOperand fun _ _ => .bind h.await fun _ _ => h.complete.addEvent)
  | msend _ _ => exact h.execMsend
  | mrecv _ _ => exact h.execMrecv
  | messageArrival _ => exact h.execMessageArrival
  | messageAnswer _ => exact h.execMessageAnswer
  | bcopy _ _ => exact h.blkStart
  | bfill _ _ => exact h.blkStart
  | bread _ _ => exact h.blkStart
  | bcomp _ _ => exact h.blkStart
  | bseek _ _ => exact h.blkStart
  | blockIteration _ => exact h.execBlockIteration
  | vblk _ _ => exact h.blkStart
  | loaderWrite _ => exact h.execLoaderWrite
  | lrD _ _ => exact h.runWick (.bind h.need fun _ _ => .bind h.await fun _ _ => .bind h.resvAddr fun _ h =>
      .bind h.readBuffered fun _ h => h.modLan.complete)
  | scD _ _ => exact h.execScD
  | faddDFsubDFmulD _ _ _ => exact h.fpOp
  | fdivD _ _ => exact h.fpOp
  | fsqrtD _ _ => exact h.fpOp
  | fminDFmaxD _ _ _ => exact h.fpOp
  | fcmpD _ _ => exact h.fpOp
  | faddSToFcmpS _ _ _ => exact h.fpOp
  | fcvt _ _ => exact h.runWick (.bind h.need fun _ _ => h.modWick.fpComplete)
  | customerInstruction _ _ _ _ => exact h.execCustomerInstruction
  | storeBufferDrain _ _ => exact h.execStoreBufferDrain
  | instructionRefill _ _ => exact h.execInstructionRefill
  | beatCompareMatch _ => exact h.execBeatCompareMatch
  | svcRequest _ => exact h.execSvcRequest
  | eventEntry _ _ => exact h.execEventEntry
  | machineCheckReport _ => exact h.execMachineCheckReport
  | kernelWatchdog _ => exact h.execKernelWatchdog
  | dramRead _ _ => exact h.execDramRead
  | dramWrite _ _ _ _ => exact h.execDramWrite
  | parityDelta _ _ => exact h.execParityDelta
  | unitRebuild _ _ => exact h.execUnitRebuild
  | rowClose _ _ => exact h.modCh
  | refresh _ _ => exact h.execRefresh
  | channelTrainingPassEnd _ _ _ => exact h.execChannelTrainingPassEnd
  | delayRecentre _ _ => exact h.execDelayRecentre
  | tileCacheAccess _ _ _ _ => exact h.execTileCacheAccess
  | tileCacheFill _ _ => exact h.execTileCacheFill
  | l1Invalidation _ _ => exact h.execL1Invalidation
  | l1InvalidationAck _ => exact h.modTc
  | wayGroupPowerDown _ _ => exact h.execWayGroupPowerDown
  | wayGroupCleanEnd _ _ => exact h.execWayGroupCleanEnd
  | wayGroupPowerUp _ _ => exact h.execWayGroupPowerUp
  | wayGroupOn _ _ => exact h.execWayGroupOn
  | translationFill _ _ => exact h.execTranslationFill
  | subPageArrival _ _ => exact h.execSubPageArrival
  | fetchSlow _ => exact h.execFetchSlow
  | fetchFail _ => exact h.execFetchFail
  | fetchRetry => exact h.execFetchRetry
  | pageHoldExpiry _ => exact h.execPageHoldExpiry
  | eviction => exact h.execEviction
  | cowCopyComplete _ => exact h.execCowCopyComplete
  | pteQuery _ => exact h.execPteQuery
  | rd _ _ => exact h.onCir fun _ h => h.peerAsk
  | wr _ _ => exact h.onCir fun _ h => h.peerAsk
  | inv _ _ => exact h.onCir fun _ h => h.holderAsked
  | invAcknowledgement _ _ => exact h.onCir fun _ h => h.homeAnswered
  | recallR _ _ => exact h.onCir fun _ h => h.holderAsked
  | recallW _ _ => exact h.onCir fun _ h => h.holderAsked
  | wb _ _ => exact h.execWb
  | drop _ _ => exact h.onCir fun _ h => h.readerDrops
  | nocopy _ _ => exact h.execNocopy
  | gone _ _ => exact h.onCir fun _ h => h.gone
  | grantWithoutData _ _ => exact h.execGrantWithoutData
  | mapq _ _ _ => exact h.execMapq
  | mapa _ _ _ _ => exact h.execMapa
  | page _ _ _ _ _ => exact h.execPage
  | kernelStart => exact h.execKernelStart
  | copyEntryStart => exact h.execCopyEntryStart
  | copyComplete _ => exact h.execCopyComplete
  | copyFault _ => exact h.execCopyFault
  | resume _ => exact h.execResume
  | release _ => exact h.execRelease
  | evcmdRead _ => exact h.execEvcmdRead
  | evcmdSet _ => exact h.execEvcmdSet
  | evcmdAdd _ => exact h.execEvcmdAdd
  | scrubRead _ => exact h.execScrubRead
  | flitRefusal _ _ _ _ => exact h.execFlitRefusal
  | spareRemap _ => exact h.execSpareRemap
  | spareSelftestEnd _ _ _ _ _ => exact h.execSpareSelftestEnd
  | fuseRepairEffect _ _ => exact h.execFuseRepairEffect
  | beaconTreeArrival _ => exact h.execBeaconTreeArrival
  | beaconChannelArrival _ _ _ => exact h.execBeaconChannelArrival
  | cutComplete => exact h.execCutComplete
  | cutWithdrawn => exact h.execCutWithdrawn
  | trigger => exact h.execTrigger
  | triggerRearm => exact h.execTriggerRearm
  | triggerStuck => exact h.execTriggerStuck
  | triggerCountClear => exact h
  | checkpointCutCondition => exact h.execCheckpointCutCondition
  | pageStream => exact h.execPageStream
  | linkUp => exact h.execLinkUp
  | linkDown => exact h.execLinkDown
  | holdDownEnd => exact h
  | linkDownTimeout => exact h.execLinkDownTimeout
  | neighborSolicitation _ _ _ => exact h.execNeighborSolicitation
  | echoRequest _ _ _ _ => exact h.execEchoRequest
  | dataPacket _ => exact h.execDataPacket
  | ack _ => exact h.execAck
  | ackTimer _ => exact h.execAckTimer
  | retransmitTimeout _ => exact h.execRetransmitTimeout
  | rateIncrease _ => exact h.execRateIncrease
  | packetTransmit => exact h.execPacketTransmit
  | read _ _ => exact h.execRead
  | write _ _ => exact h.execWrite
  | flush _ _ => exact h.execFlush
  | doorbell _ _ => exact h.execDoorbell
  | eventAdd _ _ => exact h.execEventAdd
  | fetchAdd _ _ => exact h.execFetchAdd
  | hread _ _ _ => exact h.execHread
  | hwrite _ _ _ _ => exact h.execHwrite
  | readResponse _ _ => exact h.execReadResponse
  | flushResponse _ _ => exact h.execFlushResponse
  | fetchAddResponse _ _ => exact h.execFetchAddResponse
  | hreadResponse _ _ => exact h.execHreadResponse
  | remoteRequest _ _ => exact h.execRemoteRequest
  | hello _ _ => exact h.execHello
  | answer _ _ => exact h.execAnswer
  | finish _ _ => exact h.execFinish
  | helloResend _ => exact h.execHelloResend
  | answerResend _ => exact h.execAnswerResend
  | handshakeAbandon _ => exact h.execHandshakeAbandon
  | deadlineExpiry => exact h.execDeadlineExpiry
  | freeHolderTimeout _ _ => exact h.execFreeHolderTimeout
  | identify _ => exact h.command fun _ h => h.identifyOwn
  | getStatus _ => exact h.command fun _ h => h.statusOwn
  | readyMap _ => exact h.command fun _ h => h.readyOwn
  | claim _ => exact h.commandThen (fun _ h => h.claimOwn) fun _ h => h.replyLeaves.loseAnon
  | openConduit _ => exact h.command fun _ h => h.openOwn
  | attest _ => exact h.command fun _ h => h.attestOwn
  | loadMembership _ => exact h.command fun _ h => h.loadListOwn
  | fwStage _ => exact h.command fun _ h => h.stageOwn
  | fwCommit _ => exact h.command fun _ h => h.commitOwn
  | alloc _ => exact h.command fun _ h => h.allocOwn
  | free _ => exact h.command fun _ h => h.freeOwn
  | setStrength _ => exact h.command fun _ h => h.strengthOwn
  | queueCreate _ => exact h.command fun _ h => h.createOwn
  | queueDestroy _ => exact h.command fun _ h => h.destroyOwn
  | setAddress _ => exact h.commandThen (fun _ h => h.addressOwn) fun _ h => h.replyLeaves.setAddress
  | snapshot _ => exact h.command fun _ h => h.snapshotOwn
  | readSnapshot _ => exact h.command fun _ h => h.readSnapOwn
  | checkpoint _ => exact h.command fun _ h => h.checkpointOwn
  | restore _ => exact h.commandThen (fun _ h => h.restoreOwn) fun _ h => h.restoreBegins
  | retirePage _ => exact h.command fun _ h => h.retirePageOwn
  | retireBank _ => exact h.command fun _ h => h.retireBankOwn
  | mapOutChannel _ => exact h.command fun _ h => h.mapOutOwn
  | scrubConfig _ => exact h.command fun _ h => h.scrubOwn
  | fuseRepair _ => exact h.command fun _ h => h.fuseOwn
  | quarantine _ => exact h.command fun _ h => h.quarantineOwn
  | errlogRead _ => exact h.command fun _ h => h.errReadOwn
  | errlogClear _ => exact h.command fun _ h => h.errClearOwn
  | regRead _ => exact h.command fun _ h => h.regReadOwn
  | regWrite _ => exact h.command fun _ h => h.regWriteOwn
  | loadDecodeTable _ => exact h.command fun _ h => h.loadTableOwn
  | powerDomain _ => exact h.command fun _ h => h.powerOwn
  | setOperatingPoint _ => exact h.command fun _ h => h.pointOwn
  | setPowerCap _ => exact h.command fun _ h => h.capOwn
  | margin _ => exact h.command fun _ h => h.marginOwn
  | reset _ => exact h.commandThen (fun _ h => h.resetOwn) fun _ h => h
  | blockDisable _ => exact h.enWrite
  | blockEnable _ => exact h.enWrite
  | blockIdle _ => exact h.execBlockIdle
  | registerWrite _ _ _ => exact h.execRegisterWrite
  | tmrFieldRead _ _ _ => exact h.execTmrFieldRead
  | tmrVoteSweep _ => exact h.execTmrVoteSweep
  | pgInHigh => exact h.execPgInHigh
  | pgInLow => exact h.execPgInLow
  | resetNLow => exact h.execResetNLow
  | resetNHigh => exact h.execResetNHigh
  | refclkLoss => exact h.execRefclkLoss
  | pllLock => exact h.execPllLock
  | pllLockRetry => exact h
  | bootRom _ _ => exact h.execBootRom
  | pilotReady => exact h.execPilotReady
  | secReady => exact h.execSecReady
  | domainSwitchOn => exact h.execDomainSwitchOn
  | domainPowered _ => exact h.execDomainPowered
  | lanternSelftestEnd _ _ _ _ _ => exact h.execLanternSelftestEnd
  | tileCacheSelftestEnd _ _ => exact h.execTileCacheSelftestEnd
  | copyEngineSelftestEnd _ _ => exact h.execCopyEngineSelftestEnd
  | cirrusInitEnd => exact h.execCirrusInitEnd
  | bringupLimitExpiry _ => exact h.execBringupLimitExpiry
  | supplySample _ _ _ _ => exact h.execSupplySample
  | sensorReading _ => exact h.execSensorReading
  | shutdownSecondStage => exact h.secondStage
  | extest => exact h.tapLoad
  | samplePreload _ => exact h.execSamplePreload
  | idcode => exact h.execIdcode
  | clamp => exact h.tapLoad
  | highz => exact h.tapLoad
  | bypass _ => exact h.tapLoad
  | vectorInstructionComplete _ => exact h.execVectorInstructionComplete
  | commandCompleted _ => exact h.execCommandCompleted
  | badOpcode _ _ => exact h.execBadOpcode
  | blockLockGained _ => exact h.execBlockLockGained
  | blockLockLost _ => exact h.execBlockLockLost
  | refclkPresent => exact h.execRefclkPresent
  | trstNLow => exact h
  | parityAcknowledgement _ _ => exact h

/-- Settles O60: a step takes one pending command or, with none pending, a tick, and both keep the owner. -/
theorem stepKeepsOwner : Obligations.StepKeepsOwner := by
  unfold Obligations.StepKeepsOwner
  intro s t e howner
  obtain ⟨ko, h⟩ := Option.ne_none_iff_exists'.mp howner
  rw [h]
  cases hp : s.pending with
  | nil =>
    have ht : t = s.tick := by simpa [eq_comm] using (step_of_idle hp).symm.trans e
    exact ht ▸ State.owned.tick h
  | cons c rest =>
    have hk : Out.Owned ko (exec c { s with pending := rest }) := State.owned.exec (s := { s with pending := rest }) h c
    rw [← step_of_cons hp, e] at hk
    exact hk

end Sys2Proof.Machine

/-! ## The common checks of every command (R469, R474 to R477, R480, R486) -/

namespace Sys2Proof

open Machine

/-- LENGTH, the parameters and the payload agree with the table. -/
def CmdPkt.shapeOk (p : CmdPkt) (op : Nat) : Prop :=
  lengthOk op p = true ∧ p.params.length = p.length.toNat ∧ p.plen = 16 + p.length.toNat + (if p.signed then 72 else 0)

/-- DEADLINE and FLAGS are in range. -/
def CmdPkt.fieldsOk (p : CmdPkt) : Prop :=
  1 ≤ p.deadline.toNat ∧ p.deadline.toNat ≤ 600000 ∧ p.flags.toNat ≤ 1

end Sys2Proof

namespace Sys2Proof.Machine

open Sys2Proof

/-- Every command of the table goes through `State.commandThen`. -/
theorem isCommand.exec_eq {op : Nat} {p : CmdPkt} {i : Instr} (h : isCommand op p i) :
    opcodes.contains op = true ∧ ∃ own after, ∀ s, exec i s = .next (s.commandThen op p own after) := by
  rcases h with h | h <;> fin_cases h <;> exact ⟨rfl, _, _, fun _ => rfl⟩

section Checks

variable {s : State} {op : Nat} {p : CmdPkt}

theorem State.hears_iff : s.hears op p = true ↔ (s.isReady 0 = true ∨ s.start.phase = .recovery) ∧
    (match s.pilot.inbox with
      | m :: _ => parseCommand m.1 m.2 = (op, p)
      | [] => (s.con (hostCid p.ep)).st = .opened) := by
  simp only [State.hears, State.recovering, State.arrives, Bool.and_eq_true, Bool.or_eq_true, decide_eq_true_eq]
  cases s.pilot.inbox <;> simp

/-- A command that fails a common check is answered with the status of that check (R480). -/
theorem State.commandThen_fails {u : State} {st : Nat} {own after} (hears : s.hears op p = true)
    (hbusy : s.pilot.busy = none) (hst : st ≠ stOk) (hc : s.unbox.commonChecks op p = (u, some st)) :
    s.commandThen op p own after = u.reply op p st [] := by
  simp [State.commandThen, State.judge, hears, hbusy, hc, CmdRes.isOk, hst, State.conclude]

variable (hop : opcodes.contains op = true)
include hop

theorem State.commonChecks_badLength (h : ¬p.shapeOk op) : s.commonChecks op p = (s, some stBadLength) := by
  have hbad : (!lengthOk op p || decide (p.params.length ≠ p.length.toNat) ||
      decide (p.plen ≠ 16 + p.length.toNat + (if p.signed then 72 else 0))) = true := by
    by_contra hc
    refine h ?_
    simpa [CmdPkt.shapeOk, and_assoc] using hc
  simp only [State.commonChecks, hop, Bool.not_true, Bool.false_eq_true, if_false, hbad, if_true]

theorem State.commonChecks_range (hshape : p.shapeOk op) (h : ¬p.fieldsOk) :
    s.commonChecks op p = (s, some stRange) := by
  obtain ⟨hlen, hpar, hplen⟩ := hshape
  have hbad : (decide (p.deadline.toNat = 0) || decide (600000 < p.deadline.toNat) ||
      decide (1 < p.flags.toNat)) = true := by
    simp only [Bool.or_eq_true, decide_eq_true_eq]
    unfold CmdPkt.fieldsOk at h
    omega
  have hmem : op ∈ opcodes := by simpa using hop
  simp [State.commonChecks, hmem, hlen, hpar, hplen, hbad]

/-- Past the checks of the fields, the authority of a command and the ready bits that it needs decide. -/
theorem State.commonChecks_of_fields (hshape : p.shapeOk op) (hfields : p.fieldsOk) : s.commonChecks op p =
    if (s.authCheck op p).2 = false then ((s.authCheck op p).1, some stAuth)
    else if (s.authCheck op p).1.needsMet op = false then ((s.authCheck op p).1, some stNotReady)
    else ((s.authCheck op p).1, none) := by
  obtain ⟨hlen, hpar, hplen⟩ := hshape
  obtain ⟨hlo, hhi, hflags⟩ := hfields
  have hmem : op ∈ opcodes := by simpa using hop
  simp [State.commonChecks, hmem, hlen, hpar, hplen, Nat.ne_of_gt hlo, Nat.not_lt.2 hhi, Nat.not_lt.2 hflags]

end Checks

/-- The signature of a command verifies under the owner's key, and its OSEQ is new (R481). -/
def State.signatureOk (s : State) (op : Nat) (p : CmdPkt) : Bool :=
  match s.flash.owner with
  | some k => decide (s.flash.oseq.toNat < p.oseq.toNat) && Config.edVerify k (signedBytes op p) p.sig
  | none => false

theorem State.authCheck_eq (s : State) (op : Nat) (p : CmdPkt) : s.authCheck op p =
    if p.signed then
      (if s.signatureOk op p then { s with flash := { s.flash with oseq := p.oseq } } else s, s.signatureOk op p)
    else (s, !mustSign op p && (s.flash.owner.isSome || opUnclaimed op)) := by
  unfold State.authCheck State.signatureOk
  split
  · cases s.flash.owner with
    | none => rfl
    | some k => dsimp only; split <;> simp_all
  · rfl

theorem State.authCheck_needsMet (s : State) (op op' : Nat) (p : CmdPkt) :
    (s.authCheck op p).1.needsMet op' = s.needsMet op' := by
  rw [State.authCheck_eq]
  split
  · dsimp only
    split <;> rfl
  · rfl

/-- A reply goes out on the endpoint's open conduit under the next PSN (R474). -/
theorem State.reply_con {s : State} {op : Nat} {p : CmdPkt} {st : Nat} {rs : List Byte}
    (hopen : (s.con (hostCid p.ep)).st = .opened) : (s.reply op p st rs).con (hostCid p.ep) =
      { s.con (hostCid p.ep) with
        psnTx := (s.con (hostCid p.ep)).psnTx + 1
        unacked := (s.con (hostCid p.ep)).unacked ++ [{ psn := (s.con (hostCid p.ep)).psnTx, typ := typReply
                                                        payload := replyBytes op st p.tag s.pilot.stamp rs }] } := by
  simp only [State.reply, State.completed, State.send, hopen, if_true]
  exact State.con_setCon _ _ _

/-- Settles O45: the checks decide one after another, through `State.commonChecks_of_fields`. -/
theorem commandChecksInOrder : Obligations.CommandChecksInOrder := by
  unfold Obligations.CommandChecksInOrder
  intro s p op i hi len shape fields key auth v u comes
  obtain ⟨hop, own, after, hexec⟩ := hi.exec_eq
  have hchecked : s.unbox.authCheck op p = (if auth then u else v, auth) := by
    rw [State.authCheck_eq]
    by_cases hsigned : p.signed = true
    · simp only [hsigned, if_true, auth, u]
      rfl
    · simp only [hsigned, auth, u]
      exact Prod.ext (ite_self _).symm rfl
  refine ⟨State.hears_iff, fun hdeaf => ?deaf, fun b hears hbusy => ?busy,
    fun hears hbusy => ⟨fun hshape => ?badLength, fun hshape hfields => ?range, fun hshape hfields hauth => ?auth,
      fun hshape hfields hauth hneeds => ?notReady, fun hshape hfields hauth hneeds => ⟨hears, hbusy, ?passed⟩⟩,
    fun st rs hopen => ?reply⟩
  case deaf => rw [hexec]; simp [State.commandThen, hdeaf]
  case busy => rw [hexec]; simp [State.commandThen, hears, hbusy]; rfl
  case badLength =>
    rw [hexec]
    exact congrArg _ (State.commandThen_fails hears hbusy (by decide) (State.commonChecks_badLength hop hshape))
  case range =>
    rw [hexec]
    exact congrArg _ (State.commandThen_fails hears hbusy (by decide) (State.commonChecks_range hop hshape hfields))
  case auth =>
    have hc : s.unbox.commonChecks op p = (v, some stAuth) := by
      rw [State.commonChecks_of_fields hop hshape hfields, hchecked, hauth]; rfl
    rw [hexec]
    exact congrArg _ (State.commandThen_fails hears hbusy (by decide) hc)
  case notReady =>
    have hc : s.unbox.commonChecks op p = (u, some stNotReady) := by
      rw [State.commonChecks_of_fields hop hshape hfields, State.authCheck_needsMet, hchecked, hauth]
      exact if_pos hneeds
    rw [hexec]
    exact congrArg _ (State.commandThen_fails hears hbusy (by decide) hc)
  case passed =>
    have hmet : s.unbox.needsMet op = true := hneeds
    rw [State.commonChecks_of_fields hop hshape hfields, State.authCheck_needsMet, hchecked, hauth, hmet]
    rfl
  case reply =>
    have hsame : s.SamePRX (s.reply op p st rs) := (s.send_same ..).trans (State.pilot_same _ _)
    refine ⟨State.reply_con hopen, ?_, hsame.mem, hsame.lans, hsame.cirrus, ?_⟩
    · simp [State.reply, State.completed]
    · rw [hsame]

end Sys2Proof.Machine

/-! ## The commands that read (R406, R434, R480, R484 to R486, R518, R526) -/

namespace Sys2Proof.Machine

open Sys2Proof

@[simp] theorem length_beBytes (n v : Nat) : (beBytes n v).length = n := by simp [beBytes]

section Takes

variable {s u t : State} {op : Nat} {p : CmdPkt} {own : State → State × CmdRes}

/-- A command that the pilot takes has the lengths that the table gives it (R480). -/
theorem State.takes.shapeOk (h : s.takes u op p) : p.shapeOk op := by
  obtain ⟨-, -, hchecks⟩ := h
  by_contra hshape
  by_cases hop : opcodes.contains op = true
  · rw [State.commonChecks_badLength hop hshape] at hchecks
    cases hchecks
  · rw [State.commonChecks, if_pos (by simpa using hop)] at hchecks
    cases hchecks

/-- An opcode that the table lacks is answered at once. -/
theorem State.command_unknown (hop : opcodes.contains op = false) (hears : s.hears op p = true)
    (hbusy : s.pilot.busy = none) : s.command op p own = s.unbox.reply op p stBadOpcode [] := by
  refine State.commandThen_fails hears hbusy (by decide) ?_
  rw [State.commonChecks, hop]
  rfl

end Takes

section Own

variable {u : State} {p : CmdPkt}

theorem length_lastBytes (l : Option LastCmd) : (lastBytes l).length = 12 := by
  cases l <;> simp [lastBytes]

theorem State.length_statusBytes (u : State) : u.statusBytes.length = 48 := by
  simp [State.statusBytes, length_lastBytes]

/-- The attestation report begins with its magic, its version, its length and the nonce (R518). -/
theorem State.report_eq (u : State) {nonce : List Byte} (hlen : nonce.length = 32) : ∃ b : List Byte,
    u.report nonce = b ++ Config.edSign idSeed b ∧
      b.take 40 = [0x4E, 0x51, 0x41, 0x54, 0, 1, 0x04, 0x10] ++ nonce := by
  refine ⟨_, rfl, ?_⟩
  have hhead : beBytes 4 0x4E514154 ++ beBytes 2 1 ++ beBytes 2 1040 = [0x4E, 0x51, 0x41, 0x54, 0, 1, 0x04, 0x10] := by
    decide
  simp only [List.append_assoc]
  rw [← List.append_assoc (beBytes 2 1), ← List.append_assoc (beBytes 4 _), ← List.append_assoc (beBytes 4 _), hhead,
    ← List.append_assoc]
  exact List.take_left' (by simp [hlen])

theorem State.errReadOwn_ok (hpos : 1 ≤ p.f 4 1) (hmax : p.f 4 1 ≤ 63) (hzero : p.f 5 3 = 0) :
    u.errReadOwn p = (u, .reply stOk (
      let rs := (u.pilot.errq.filter (fun r => p.f 0 4 ≤ r.seq)).take (p.f 4 1)
      beBytes 1 rs.length ++ [0, 0, 0] ++ beBytes 4 u.errqWord.toNat ++ rs.flatMap ErrRec.bytes)) := by
  simp [State.errReadOwn, Nat.ne_of_gt hpos, Nat.not_lt.2 hmax, hzero]

theorem State.readSnapOwn_ok {b : Blk} {n : Nat} (hblk : blkOfSrc (p.f 0 2) = some b) (hset : setLength b = some n)
    (hzero : p.f 6 2 = 0) (hpos : 1 ≤ p.f 4 2) (hmax : p.f 4 2 ≤ 1000) (hend : p.f 2 2 + p.f 4 2 ≤ n + 1) :
    u.readSnapOwn p = (u, .reply stOk (beBytes 8 u.pilot.injStamp.toNat ++ beBytes 8 u.pilot.compStamp.toNat ++
      (((u.snapSet (p.f 0 2) n).drop (p.f 2 2)).take (p.f 4 2)).flatMap (fun w => beBytes 4 w.toNat))) := by
  simp [State.readSnapOwn, hblk, hset, hzero, Nat.ne_of_gt hpos, Nat.not_lt.2 hmax, Nat.not_lt.2 hend]

/-- A register that does not exist comes before a block without power (R527). -/
theorem State.regCheck_range (hreg : ∃ a ∈ regAddrs p, hasReg a = false) : u.regCheck p = stRange := by
  have hexist : (regAddrs p).all hasReg = false := List.all_eq_false.2 (by simpa using hreg)
  simp [State.regCheck, hexist]

theorem State.regCheck_state (hpos : 1 ≤ p.f 8 2) (hmax : p.f 8 2 ≤ 256) (hzero : p.f 10 6 = 0)
    (hregs : ∀ a ∈ regAddrs p, hasReg a = true) (hoff : ∃ a ∈ regAddrs p, u.regOn a = false) :
    u.regCheck p = stState := by
  have hexist : (regAddrs p).all hasReg = true := List.all_eq_true.2 hregs
  have hpower : (regAddrs p).all u.regOn = false := List.all_eq_false.2 (by simpa using hoff)
  simp [State.regCheck, hexist, hpower, hzero, Nat.ne_of_gt hpos, Nat.not_lt.2 hmax]

theorem State.regReadOwn_ok (hok : u.regCheck p = stOk) : u.regReadOwn p = ((u.readWords (regAddrs p)).1,
    .reply stOk ((u.readWords (regAddrs p)).2.flatMap (fun w => beBytes 4 w.toNat))) := by
  simp [State.regReadOwn, hok]

theorem State.regReadOwn_fails {st : Nat} (hst : st ≠ stOk) (h : u.regCheck p = st) :
    u.regReadOwn p = (u, .reply st []) := by
  simp [State.regReadOwn, h, hst]

end Own

/-- Settles O46: what the own meaning of each command answers, through `State.takes.command_reply`. -/
theorem readingCommandsComplete : Obligations.ReadingCommandsComplete := by
  unfold Obligations.ReadingCommandsComplete
  intro s u p
  refine ⟨fun h => ?identify, fun h => ⟨u.length_statusBytes, ?getStatus⟩, fun h => ?readyMap, fun h => ?attest,
    fun h hpos hmax hzero => ?errlogRead, fun h b n hblk hset hzero hpos hmax hend => ?readSnapshot,
    fun h hpos hmax hzero => ⟨fun hregs => ?regRead, fun hreg => ?noRegister, fun hregs hoff => ?noPower⟩,
    fun op hop hears hbusy => ?badOpcode⟩
  case identify =>
    have hpart : 16 - (ascii "BX-NQ288-A").length = 6 := by decide
    refine congrArg Host.Outcome.next (h.command_reply ?_)
    simp only [State.identifyOwn, State.identity, hpart]
  case getStatus => exact congrArg Host.Outcome.next (h.command_reply rfl)
  case readyMap => exact congrArg Host.Outcome.next (h.command_reply rfl)
  case attest =>
    obtain ⟨hlen, hparams, -⟩ := h.shapeOk
    have h32 : p.params.length = 32 := by simpa [lengthOk, hparams] using hlen
    have hnonce : p.bytes 0 32 = p.params := by simp [CmdPkt.bytes, ← h32]
    obtain ⟨b, hb, hhead⟩ := u.report_eq h32
    refine ⟨b, congrArg Host.Outcome.next (h.command_reply ?_), hhead⟩
    rw [State.attestOwn, hnonce, hb]
  case errlogRead => exact congrArg Host.Outcome.next (h.command_reply (State.errReadOwn_ok hpos hmax hzero))
  case readSnapshot =>
    exact congrArg Host.Outcome.next (h.command_reply (State.readSnapOwn_ok hblk hset hzero hpos hmax hend))
  case regRead =>
    exact congrArg Host.Outcome.next (h.command_reply (State.regReadOwn_ok (State.regCheck_ok hpos hmax hzero hregs)))
  case noRegister =>
    exact congrArg Host.Outcome.next (h.command_reply (State.regReadOwn_fails (by decide) (State.regCheck_range hreg)))
  case noPower =>
    exact congrArg Host.Outcome.next (h.command_reply
      (State.regReadOwn_fails (by decide) (State.regCheck_state hpos hmax hzero hregs hoff)))
  case badOpcode =>
    refine congrArg Host.Outcome.next ?_
    rw [if_neg (ne_true_of_eq_false hop)]
    exact State.command_unknown hop hears hbusy

end Sys2Proof.Machine

/-! ## Snapshots, checkpoints, restores, quarantines and domains (R376, R431, R437, R446, R492, R494, R495, R566) -/

namespace Sys2Proof

theorem Tab.mem_of_find? {α : Type} {t : Tab α} {k : Nat} {v : α} (h : t.find? k = some v) : (k, v) ∈ t := by
  induction t with
  | nil => cases h
  | cons p t ih =>
    obtain ⟨j, w⟩ := p
    by_cases hj : j = k
    · simp_all [Tab.find?]
    · simp_all [Tab.find?]

end Sys2Proof

namespace Sys2Proof.Machine

open Sys2Proof

section Own

variable {u : State} {p : CmdPkt}

/-! ### CHECKPOINT and RESTORE (R437, R446) -/

theorem State.checkpointOwn_active (hrange : ckRangeOk p = true) (h : u.cirrus.active = true) :
    u.checkpointOwn p = (u, .st stState) := by
  simp [State.checkpointOwn, hrange, h]

theorem State.checkpointOwn_closed (hrange : ckRangeOk p = true)
    (h : ¬∀ x ∈ ckDests p, (u.con (hostCid x.ep)).st = .opened) : u.checkpointOwn p = (u, .st stState) := by
  have hany : (ckDests p).any (fun x => (u.con (hostCid x.ep)).st ≠ .opened) = true := by simpa using h
  simp only [State.checkpointOwn, hrange, hany, Bool.or_true]
  rfl

/-- Past its checks of STATE, CHECKPOINT compares each destination's DLEN with what the pages need. -/
theorem State.checkpointOwn_eq (hrange : ckRangeOk p = true) (hidle : u.cirrus.active = false)
    (hopen : ∀ x ∈ ckDests p, (u.con (hostCid x.ep)).st = .opened) : u.checkpointOwn p =
      if (ckDests p).any (fun x => x.dlen < (u.ckPages.length + p.f 6 1 - 1) / p.f 6 1 * 0x202000) then
        (u, .st stNoResource)
      else ({ u with cirrus := { u.cirrus with ckerr := false } }, .run true) := by
  have hany : (ckDests p).any (fun x => (u.con (hostCid x.ep)).st ≠ .opened) = false := by simpa using hopen
  simp only [State.checkpointOwn, hrange, hany, hidle]
  rfl

theorem State.restoreOwn_eq (hrange : restoreRangeOk p = true) : u.restoreOwn p =
    if u.lans.any (fun x => x.2.gang.isSome) || u.cirrus.active then (u, .st stState)
    else ({ u with disp := { u.disp with hold := true }, pilot := { u.pilot with restore := some {} } },
      .run false) := by
  simp [State.restoreOwn, hrange]

/-! ### QUARANTINE (R94, R376, R492) -/

/-- An array of a lantern without a claim has no QUARANTINE that waits. -/
theorem Lantern.quarReq_of_unclaimed {l : Lantern} (h : l.claimed = false) (m : Nat) : (l.arr m).quarReq = false := by
  simp only [Lantern.claimed, Bool.or_eq_false_iff, List.any_eq_false, Bool.not_eq_true] at h
  obtain ⟨-, harrs⟩ := h
  unfold Lantern.arr Tab.getD
  cases hfind : l.arrs.find? m with
  | none => rfl
  | some a => exact harrs _ (Tab.mem_of_find? hfind)

section Quarantine

variable (hm : p.f 1 1 ≤ 7) (hn : p.f 2 2 ≤ 255) (hon : u.lanOn (p.f 2 2) = true)
include hm hn hon

theorem State.quarantineOwn_array (hkind : p.f 0 1 = 1)
    (hfree : (u.lan (p.f 2 2)).claimed = false) (hquar : ((u.lan (p.f 2 2)).arr (p.f 1 1)).quar = false) :
    u.quarantineOwn p = (u.setLan (p.f 2 2) ((u.lan (p.f 2 2)).modArr (p.f 1 1) fun a => { a with quarReq := true }),
      .st stOk) := by
  simp [State.quarantineOwn, hkind, Nat.not_lt.2 hm, Nat.not_lt.2 hn, hon, hfree, hquar,
    Lantern.quarReq_of_unclaimed hfree]

theorem State.quarantineOwn_lantern (hkind : p.f 0 1 = 0) (hfree : (u.lan (p.f 2 2)).claimed = false)
    (hspare : (u.lan (p.f 2 2)).svc.noSpare = false) (hquars : p.f 2 2 ∉ u.pilot.quars) :
    u.quarantineOwn p =
      ((({ u with pilot := { u.pilot with quars := setIns u.pilot.quars (p.f 2 2) } }.setLan (p.f 2 2)
        { u.lan (p.f 2 2) with svc := { (u.lan (p.f 2 2)).svc with quarPend := true } }).setReady
          (readyLan (p.f 2 2)) false).examine, .st stOk) := by
  have hon' : { u with pilot := { u.pilot with quars := setIns u.pilot.quars (p.f 2 2) } }.lanOn (p.f 2 2) = true := hon
  simp [State.quarantineOwn, hkind, Nat.not_lt.2 hm, Nat.not_lt.2 hn, hon', hfree, hspare, hquars]

omit hon in
theorem State.quarantineOwn_done (hdone : (p.f 0 1 = 0 ∧ p.f 2 2 ∈ u.pilot.quars) ∨
    (p.f 0 1 = 1 ∧ ((u.lan (p.f 2 2)).arr (p.f 1 1)).quar = true)) : u.quarantineOwn p = (u, .st stState) := by
  obtain ⟨hk, h⟩ | ⟨hk, h⟩ := hdone <;>
    simp [State.quarantineOwn, hk, Nat.not_lt.2 hm, Nat.not_lt.2 hn, h]

omit hon in
theorem State.quarantineOwn_maint (hkind : p.f 0 1 = 1) (hquar : ((u.lan (p.f 2 2)).arr (p.f 1 1)).quar = false)
    (hreq : ((u.lan (p.f 2 2)).arr (p.f 1 1)).quarReq = false) (hclaim : (u.lan (p.f 2 2)).claimed = true) :
    u.quarantineOwn p = (u, .st stMaint) := by
  simp [State.quarantineOwn, hkind, Nat.not_lt.2 hm, Nat.not_lt.2 hn, hquar, hreq, hclaim]

end Quarantine

/-! ### POWER_DOMAIN (R494, R566) -/

/-- A domain of a quadrant's lanterns or of a stack: no other domain depends on it. -/
def isLeafDom (d : Nat) : Bool := d < 16 || (20 ≤ d && d < 28)

theorem isLeafDom_iff {d : Nat} : isLeafDom d = true ↔ d < 16 ∨ 20 ≤ d ∧ d < 28 := by
  simp [isLeafDom]

/-- Past its ranges, POWER_DOMAIN decides on the domain's power and on what it is. -/
theorem State.powerOwn_eq (hzero : p.f 2 2 = 0) (hd : p.f 0 1 ≤ 29) (hon : p.f 1 1 ≤ 1) (hshut : u.pwr.shut = false) :
    u.powerOwn p =
      if (decide (p.f 1 1 = 0) && !isLeafDom (p.f 0 1)) = true then (u, .st stRange)
      else if (if p.f 1 1 = 1 then u.powered (p.f 0 1) else !u.powered (p.f 0 1) && !u.comesUp (p.f 0 1)) = true then
        (u, .st stOk)
      else if p.f 1 1 = 1 then
        if (isLeafDom (p.f 0 1) && !u.isReady (readyTc (domTile (p.f 0 1)))) = true then (u, .st stState)
        else ({ u with start := { u.start with deadDoms := setDel u.start.deadDoms (p.f 0 1) } }.addEligible [p.f 0 1],
          .run false)
      else if u.mayOff (p.f 0 1) = true then (u.offDomain (p.f 0 1), .st stOk)
      else (u, .st stState) := by
  have hrange : ¬(decide (p.f 2 2 ≠ 0) || decide (29 < p.f 0 1) || decide (1 < p.f 1 1)) = true := by
    simp [hzero, hd, hon]
  rw [State.powerOwn, if_neg hrange, if_neg (ne_true_of_eq_false hshut)]
  rfl

end Own

/-- Settles O51: what the own meaning of each command answers, through `State.takes.command_reply` and
`State.takes.command_run`. -/
theorem controlCommandsComplete : Obligations.ControlCommandsComplete := by
  unfold Obligations.ControlCommandsComplete
  intro s u p
  refine ⟨fun h => ?snapshot, fun h hrange => ?checkpoint, fun h hrange => ?restore,
    fun h _ hm hn hon => ?quarantine, fun h hzero hd hon hshut => ?powerDomain⟩
  case snapshot =>
    refine ⟨fun hidle => congrArg Host.Outcome.next (h.command_run ?_),
      fun hcut => congrArg Host.Outcome.next (h.command_reply ?_)⟩
    · simp [State.snapshotOwn, hidle]
    · simp [State.snapshotOwn, hcut]
  case checkpoint =>
    refine ⟨fun hactive => ?_, fun hclosed => ?_, fun hidle hopen hshort => ?_, fun hidle hopen hroom => ?_⟩
    · exact congrArg Host.Outcome.next (h.command_reply (State.checkpointOwn_active hrange hactive))
    · exact congrArg Host.Outcome.next (h.command_reply (State.checkpointOwn_closed hrange hclosed))
    · refine congrArg Host.Outcome.next (h.command_reply ?_)
      rw [State.checkpointOwn_eq hrange hidle hopen, if_pos (by simpa using hshort)]
    · refine congrArg Host.Outcome.next (h.command_run ?_)
      rw [State.checkpointOwn_eq hrange hidle hopen, if_neg (by simpa using hroom)]
  case restore =>
    have hown := State.restoreOwn_eq (u := u) hrange
    refine ⟨fun hbusy => congrArg Host.Outcome.next ?_, fun hfree => congrArg Host.Outcome.next ?_⟩
    · rw [if_pos hbusy] at hown
      rw [h.commandThen, hown]
      rfl
    · rw [if_neg (ne_true_of_eq_false hfree)] at hown
      rw [h.commandThen, hown]
      rfl
  case quarantine =>
    refine ⟨fun hfree hk hquar => ?_, fun hfree hk hspare hquars => ?_, fun hk hquars => ?_, fun hk hquar => ?_,
      fun hk hquar hreq hclaim => ?_⟩
    · exact congrArg Host.Outcome.next (h.command_reply (State.quarantineOwn_array hm hn hon hk hfree hquar))
    · exact congrArg Host.Outcome.next (h.command_reply (State.quarantineOwn_lantern hm hn hon hk hfree hspare hquars))
    · exact congrArg Host.Outcome.next (h.command_reply (State.quarantineOwn_done hm hn (.inl ⟨hk, hquars⟩)))
    · exact congrArg Host.Outcome.next (h.command_reply (State.quarantineOwn_done hm hn (.inr ⟨hk, hquar⟩)))
    · exact congrArg Host.Outcome.next (h.command_reply (State.quarantineOwn_maint hm hn hk hquar hreq hclaim))
  case powerDomain =>
    have hown := State.powerOwn_eq (u := u) hzero hd hon hshut
    intro d leaf
    have hleaf : leaf ↔ isLeafDom d = true := isLeafDom_iff.symm
    rw [hleaf]
    refine ⟨fun hup hpow => ?_, fun hup hpow hl htile => ?_, fun hup hpow hl htile => ?_, fun hdown hl => ?_,
      fun hdown hl hpow => ⟨fun hoff => ?_, fun hoff => ?_⟩⟩
    · exact congrArg Host.Outcome.next (h.command_reply (by simp [hown, hup, hpow, d]))
    · exact congrArg Host.Outcome.next (h.command_reply (by simp [hown, hup, hpow, hl, htile, d]))
    · exact congrArg Host.Outcome.next (h.command_run (by simp [hown, hup, hpow, hl, htile, d]))
    · exact congrArg Host.Outcome.next (h.command_reply (by simp [hown, hdown, hl, d]))
    · exact congrArg Host.Outcome.next (h.command_reply (by simp [hown, hdown, hl, hpow, hoff, d]))
    · exact congrArg Host.Outcome.next (h.command_reply (by simp [hown, hdown, hl, hpow, hoff, d]))

end Sys2Proof.Machine

/-! ## Claiming, lists, bundles, conduits, addresses and firmware (R293, R487, R488, R503, R504, R507, R520, R521) -/

namespace Sys2Proof.Machine

open Sys2Proof

section Own

variable {u v w : State} {p : CmdPkt} {h b : List Byte} {hp bad : Bool}

/-! ### CLAIM (R503) -/

/-- Without an owner, CLAIM checks its key, then the proof that the key signs. -/
theorem State.claimOwn_eq (hfree : u.flash.owner = none) : u.claimOwn p =
    if Config.edPoint (p.bytes 0 32) = false then (u, .st stRange)
    else if Config.edVerify (p.bytes 0 32) (ascii "NQ288 claim" ++ devKey) (p.bytes 32 64) = false then (u, .st stAuth)
    else ({ u with flash := { u.flash with owner := some (p.bytes 0 32), oseq := 0 } }, .st stOk) := by
  simp [State.claimOwn, hfree]

theorem State.claimOwn_owned (h : u.flash.owner ≠ none) : u.claimOwn p = (u, .st stState) := by
  simp [State.claimOwn, Option.isSome_iff_ne_none, h]

/-! ### LOAD_MEMBERSHIP (R507) -/

/-- A list that is there and whose length fits its header is judged. -/
theorem State.loadListOwn_read (hzero : p.f 12 4 = 0) (hmin : 0x80 ≤ p.f 8 4)
    (hin : u.inAlloc (p.f 0 8) (p.f 8 4) = true) (hhead : u.readObj (p.f 0 8) 16 = (v, .ok h hp))
    (hlen : p.f 8 4 = 0x80 + 120 * bfield h 6 2 + 40 * bfield h 8 1)
    (hbody : v.readObj (p.f 0 8) (p.f 8 4) = (w, .ok b bad)) : u.loadListOwn p = w.judgeList b bad := by
  have hfits : (decide (p.f 8 4 < 0x80) || !u.inAlloc (p.f 0 8) (p.f 8 4)) = false := by
    simp [hin, hmin]
  simp only [State.loadListOwn, hzero, hfits, hhead, hbody, ne_eq, not_true_eq_false, Bool.false_eq_true, if_false]
  exact if_neg (not_not_intro hlen)

theorem State.judgeList_range (hok : listOk b = false) : w.judgeList b bad = (w, .st stRange) := by
  simp [State.judgeList, hok]

theorem State.judgeList_installs {o cks e : List Byte} (hok : listOk b = true) (howner : w.flash.owner = some o)
    (hsig : Config.edVerify o (b.take (b.length - 64)) (b.drop (b.length - 64)) = true)
    (hseq : w.flash.lseq.toNat < bfield b 0x10 8)
    (hme : (listPeers b).find? (fun e => bslice e 8 32 = devKey) = some e) (hcks : unwrapCks b e = some cks) :
    w.judgeList b false = (w.installList b cks (bfield e 0 2), .st stOk) := by
  simp [State.judgeList, hok, howner, hsig, Nat.not_le.2 hseq, hme, hcks]

/-! ### LOAD_DECODE_TABLE (R293) -/

/-- A bundle that is there and whose length fits its header is judged. -/
theorem State.loadTableOwn_read (hzero : p.f 12 4 = 0) (hhead : u.readObj (p.f 0 8) 16 = (v, .ok h hp))
    (hlen : p.f 8 4 = 0xD0 + 8 * bunWords h) (hbody : v.readObj (p.f 0 8) (p.f 8 4) = (w, .ok b bad)) :
    u.loadTableOwn p = w.judgeBundle b bad := by
  simp only [State.loadTableOwn, hzero, hhead, hbody, ne_eq, not_true_eq_false, if_false]
  exact if_neg (not_not_intro hlen)

theorem State.judgeBundle_range (hok : bunOk b = false) : w.judgeBundle b bad = (w, .st stRange) := by
  simp [State.judgeBundle, hok]

/-- A bundle that the owner signed and that is newer is taken unless a kernel stands on a lantern. -/
theorem State.judgeBundle_signed {o : List Byte} (hok : bunOk b = true) (howner : w.flash.owner = some o)
    (hsig : Config.edVerify o (b.take (0x90 + 8 * bunWords b)) (b.drop (0x90 + 8 * bunWords b)) = true)
    (hseq : w.flash.dtseq.toNat < bfield b 8 4) : w.judgeBundle b false =
      if w.anyKernel then (w, .st stState)
      else ({ w with disp := { w.disp with hold := true }, pilot := { w.pilot with object := b } }, .run false) := by
  simp [State.judgeBundle, hok, howner, hsig, Nat.not_le.2 hseq]

/-! ### OPEN_CONDUIT (R488) -/

/-- A conduit is listed: a peer by its entry in the list, a host by its entry in the host table. -/
def State.cidListed (u : State) (cid : Nat) : Bool :=
  if cid < 1024 then (u.peerEntry cid).isSome else (u.addrEntry cid).valid

theorem State.openOwn_eq (hzero : p.f 2 2 = 0) (hcid : p.f 0 2 ≤ 1087) : u.openOwn p =
    if u.cidListed (p.f 0 2) = false then (u, .st stState)
    else if (u.con (p.f 0 2)).st = .opened then (u, .st stOk)
    else if u.remoteFirst (p.f 0 2) then (u, .run true)
    else (u.startHello (p.f 0 2), .run true) := by
  have hlisted : (if p.f 0 2 < 1024 then (u.peerEntry (p.f 0 2)).isNone else !(u.addrEntry (p.f 0 2)).valid) =
      !u.cidListed (p.f 0 2) := by
    unfold State.cidListed
    split
    · exact (Option.not_isSome _).symm
    · rfl
  have hrange : (decide (p.f 2 2 ≠ 0) || decide (1087 < p.f 0 2)) = false := by simp [hzero, hcid]
  simp only [State.openOwn, hrange, hlisted, Bool.not_eq_true']
  rfl

/-! ### FW_STAGE and FW_COMMIT (R520, R521) -/

theorem State.stageOwn_runs (hzero : p.f 12 4 = 0) (hmax : p.f 8 4 ≤ 0x4000000) (hrec : u.recovering = false) :
    u.stageOwn p = (u, .run false) := by
  simp [State.stageOwn, hzero, hrec, imgMax, Nat.not_lt.2 hmax]

theorem State.commitOwn_eq {img : List Byte} (hstaged : u.sec.staged = some img) : u.commitOwn p =
    if p.bytes 0 64 = Config.sha512 img then (u, .run false) else (u, .st stAuth) := by
  simp [State.commitOwn, hstaged]

end Own

/-- Settles O50: what the own meaning of each command answers, through `State.takes.command_reply` and
`State.takes.command_run`; CLAIM and SET_ADDRESS go on after their reply. -/
theorem securityCommandsComplete : Obligations.SecurityCommandsComplete := by
  unfold Obligations.SecurityCommandsComplete
  intro s u v w p h b hp bad a n
  refine ⟨fun ht => ?claim, fun ht hzero hmin hin hhead hlen hbody => ?loadMembership,
    fun ht hzero hhead hlen hbody => ?loadDecodeTable, fun ht hzero hcid => ?openConduit, fun ht => ?setAddress,
    fun ht hzero hmax hrec => ?fwStage, fun ht => ?fwCommit⟩
  case claim =>
    refine ⟨fun howned => ?_, fun hfree hpoint => ?_, fun hfree hpoint => ⟨fun hproof => ?_, fun hproof => ?_⟩⟩
    · exact congrArg Host.Outcome.next (ht.commandThen _ |>.trans (by rw [State.claimOwn_owned howned]; rfl))
    · exact congrArg Host.Outcome.next (ht.commandThen _ |>.trans (by rw [State.claimOwn_eq hfree, if_pos hpoint]; rfl))
    · exact congrArg Host.Outcome.next (ht.commandThen _ |>.trans (by
        rw [State.claimOwn_eq hfree, if_neg (ne_false_of_eq_true hpoint), if_pos hproof]; rfl))
    · exact congrArg Host.Outcome.next (ht.commandThen _ |>.trans (by
        rw [State.claimOwn_eq hfree, if_neg (ne_false_of_eq_true hpoint), if_neg (ne_false_of_eq_true hproof)]; rfl))
  case loadMembership =>
    have hown := State.loadListOwn_read hzero hmin hin hhead hlen hbody
    refine ⟨fun hok => ?_, fun o e cks hok howner hgood hsig hseq hme hcks => ?_⟩
    · exact congrArg Host.Outcome.next (ht.command_reply (hown.trans (State.judgeList_range hok)))
    · subst hgood
      exact ⟨_, congrArg Host.Outcome.next (ht.command_reply
        (hown.trans (State.judgeList_installs hok howner hsig hseq hme hcks))), rfl, rfl, rfl, rfl,
        Tab.find?_put_self _ _ _, rfl⟩
  case loadDecodeTable =>
    have hown := State.loadTableOwn_read hzero hhead hlen hbody
    refine ⟨fun hok => ?_, fun o hok howner hgood hsig hseq => ?_⟩
    · exact congrArg Host.Outcome.next (ht.command_reply (hown.trans (State.judgeBundle_range hok)))
    · subst hgood
      have hjudge := State.judgeBundle_signed hok howner hsig hseq
      refine ⟨fun hkernel => ?_, fun hidle => ?_⟩
      · exact congrArg Host.Outcome.next (ht.command_reply (hown.trans (hjudge.trans (if_pos hkernel))))
      · exact congrArg Host.Outcome.next (ht.command_run
          (hown.trans (hjudge.trans (if_neg (ne_true_of_eq_false hidle)))))
  case openConduit =>
    intro cid listed
    have hown := State.openOwn_eq (u := u) hzero hcid
    change (u.cidListed cid = false → _) ∧ (u.cidListed cid = true → _) ∧ (u.cidListed cid = true → _)
    refine ⟨fun hl => ?_, fun hl hopen => ?_, fun hl hopen hfirst => ?_⟩
    · exact congrArg Host.Outcome.next (ht.command_reply (by rw [hown, if_pos hl]))
    · exact congrArg Host.Outcome.next (ht.command_reply (by
        rw [hown, if_neg (ne_false_of_eq_true hl), if_pos hopen]))
    · exact congrArg Host.Outcome.next (ht.command_run (by
        rw [hown, if_neg (ne_false_of_eq_true hl), if_neg hopen, if_neg (ne_true_of_eq_false hfirst)]))
  case setAddress =>
    refine ⟨fun hok => ?_, fun hok => ?_⟩ <;>
      exact congrArg Host.Outcome.next (ht.commandThen _ |>.trans (by simp only [State.addressOwn, hok]; rfl))
  case fwStage => exact congrArg Host.Outcome.next (ht.command_run (State.stageOwn_runs hzero hmax hrec))
  case fwCommit =>
    refine ⟨fun hnone => ?_, fun img hstaged => ⟨fun hsha => ?_, fun hsha => ?_⟩⟩
    · exact congrArg Host.Outcome.next (ht.command_reply (by simp [State.commitOwn, hnone]))
    · exact congrArg Host.Outcome.next (ht.command_run (by rw [State.commitOwn_eq hstaged, if_pos hsha]))
    · exact congrArg Host.Outcome.next (ht.command_reply (by rw [State.commitOwn_eq hstaged, if_neg hsha]))

end Sys2Proof.Machine

/-! ## Dispatch: what zenith starts, what its copies move, and its registers (R360, R365 to R372, R375, R377 to R385) -/

namespace Sys2Proof.Machine

open Sys2Proof

/-! ### Zenith's registers (R360, R367, R375, R385) -/

section Registers

variable {s : State}

theorem State.resumeQueue_eq {q : Nat} {v : Queue} (hq : s.queue? q = some v) : s.resumeQueue q =
    (s.setQueue q { v with stop := false, sub := 0, held := none, blocked := false }).examine := by
  rw [State.resumeQueue, hq]

/-- EVCMD with OP and counter: OP stands in bits [31:30] and the counter in [11:0]. -/
theorem natField_evcmdWord {op e : Nat} (hop : op < 4) (he : e < 4096) :
    natField (evcmdWord op e).toNat 30 2 = op ∧ natField (evcmdWord op e).toNat 0 12 = e := by
  simp only [evcmdWord, natField, BitVec.toNat_ofNat]
  omega

theorem State.evcmd_read {e : Nat} (he : e < 4096) : s.evcmd (evcmdWord 0 e) =
    { s with disp := { s.disp with evd := s.counter e } } := by
  obtain ⟨hop, hcounter⟩ := natField_evcmdWord (op := 0) (by decide) he
  simp only [State.evcmd, hop, hcounter]

theorem State.evcmd_set {e : Nat} (he : e < 4096) : s.evcmd (evcmdWord 1 e) = (s.setCounter e s.disp.evd).examine := by
  obtain ⟨hop, hcounter⟩ := natField_evcmdWord (op := 1) (by decide) he
  simp only [State.evcmd, hop, hcounter, State.changeEvent]

theorem State.evcmd_add {e : Nat} (he : e < 4096) :
    s.evcmd (evcmdWord 2 e) = (s.setCounter e (s.counter e + s.disp.evd)).examine := by
  obtain ⟨hop, hcounter⟩ := natField_evcmdWord (op := 2) (by decide) he
  simp only [State.evcmd, hop, hcounter, State.addEvent, State.changeEvent]

end Registers

/-- Settles O42: each register's write is what its rule gives, while tile cache 0 has power. -/
theorem zenithRegistersComplete : Obligations.ZenithRegistersComplete := by
  unfold Obligations.ZenithRegistersComplete
  intro s hon
  refine ⟨fun q v hq => ?resume, ?released, fun e he => ⟨?read, ?set, ?add⟩⟩
  case resume => exact congrArg Host.Outcome.next ((if_pos hon).trans (State.resumeQueue_eq hq))
  case released =>
    intro value n t w
    have hlan : natField value.toNat 0 8 = n := by simp [natField, n]
    have hrelease : s.releaseWrite value = if (value.getLsbD 31 && (t.lan n).halt.halted) = true then
        (w.modLan n (fun l => { l with halt := { l.halt with halted := false }, run := .idle })).examine else t := by
      unfold State.releaseWrite
      rw [hlan] <;> rfl
    refine ⟨fun hgo hhalted => ?_, fun hno => ?_⟩
    · have hboth : (value.getLsbD 31 && (t.lan n).halt.halted) = true := by
        rw [hgo, Bool.true_and]
        exact hhalted
      exact congrArg Host.Outcome.next ((if_pos hon).trans (hrelease.trans (if_pos hboth)))
    · exact congrArg Host.Outcome.next ((if_pos hon).trans (hrelease.trans (if_neg (ne_true_of_eq_false hno))))
  case read => exact congrArg Host.Outcome.next ((if_pos hon).trans (State.evcmd_read he))
  case set =>
    refine ⟨_, congrArg Host.Outcome.next ((if_pos hon).trans (State.evcmd_set he)), ?_, rfl, fun f hf => ?_⟩
    · rw [State.counter_setCounter, if_pos rfl]
    · rw [State.counter_setCounter, if_neg hf]
  case add =>
    refine ⟨_, congrArg Host.Outcome.next ((if_pos hon).trans (State.evcmd_add he)), ?_, rfl, fun f hf => ?_⟩
    · rw [State.counter_setCounter, if_pos rfl]
    · rw [State.counter_setCounter, if_neg hf]

/-! ### What a copy moves (R379, R381) -/

/-- A byte that the copy does not write is its own source nowhere. -/
theorem runSrc_eq_none {rs : List CopyRun} {a : Nat} (h : ∀ x ∈ rs, ∀ b, b < x.len → x.dst + b ≠ a) :
    runSrc rs a = none := by
  rw [runSrc, Option.map_eq_none_iff, List.find?_eq_none]
  intro x hx hin
  simp only [inRun, Bool.and_eq_true, decide_eq_true_eq] at hin
  exact h x (List.mem_reverse.1 hx) (a - x.dst) (by omega) (by omega)

/-- A destination byte that one run alone writes has its source in that run. -/
theorem runSrc_of_sole {rs : List CopyRun} {r : CopyRun} {i : Nat} (hi : i < r.len) (hr : r ∈ rs)
    (hsole : ∀ x ∈ rs, x ≠ r → ∀ b, b < x.len → x.dst + b = r.dst + i → False) :
    runSrc rs (r.dst + i) = some (r.src + i) := by
  have hin : ∃ x ∈ rs.reverse, inRun x.dst x.len (r.dst + i) = true :=
    ⟨r, List.mem_reverse.2 hr, by simp [inRun, hi]⟩
  obtain ⟨x, hfind⟩ := Option.isSome_iff_exists.1 (List.find?_isSome.2 hin)
  have hx := List.mem_reverse.1 (List.mem_of_find?_eq_some hfind)
  have hxin := List.find?_some hfind
  simp only [inRun, Bool.and_eq_true, decide_eq_true_eq] at hxin
  have hxr : x = r := by
    by_contra hne
    exact hsole x hx hne (r.dst + i - x.dst) (by omega) (by omega)
  rw [runSrc, hfind, hxr, Option.map_some, Nat.add_sub_cancel_left]

/-- Where no byte is both written and read, a destination byte takes the value that its source held. -/
theorem runByte_of_apart {rs : List CopyRun} {old : Nat → Byte} {new : Nat → Bool} {fuel a x : Nat} (hfuel : 1 ≤ fuel)
    (hsrc : runSrc rs a = some x) (hread : runSrc rs x = none) : runByte rs old new fuel a = old x := by
  obtain ⟨k, rfl⟩ : ∃ k, fuel = k + 1 := ⟨fuel - 1, by omega⟩
  simp [runByte, hsrc, hread]

section Copies

variable {s u : State} {e : Nat}

theorem State.execCopyComplete_written (hbusy : (s.eng e).busy = true) (hw : (s.eng e).written = true) :
    execCopyComplete e s = .next (s.copyEnds e) := by
  simp [execCopyComplete, hbusy, hw]

/-- An entry whose pages are there writes its runs and ends where its writes are seen. -/
theorem State.execCopyComplete_eq (hbusy : (s.eng e).busy = true) (hw : (s.eng e).written = false) {r : CopyRes}
    (ht : s.touchCopy e (copyDesc (s.eng e).payload) = (u, r)) : execCopyComplete e s = .next (
      if r = .ok then
        (u.copyRunsBy e (copyDesc (s.eng e).payload) (copyDesc (s.eng e).payload).runs).copyEnds e
      else u) := by
  simp only [execCopyComplete, hbusy, hw, ht]
  cases r <;> rfl

theorem State.execCopyFault_eq (hbusy : (s.eng e).busy = true) (hw : (s.eng e).written = false) {k done va : Nat}
    (ht : s.touchCopy e (copyDesc (s.eng e).payload) = (u, .unmapped k done va)) : execCopyFault e s = .next
      (((((u.copyRunsBy e (copyDesc (s.eng e).payload) (runsBefore (copyDesc (s.eng e).payload).runs k done)).modEng e
        Engine.release).stopQueue (s.eng e).q 0x06).record
          (queueRec 0x040C (s.eng e).q (s.eng e).idx.toNat va)).examine) := by
  simp only [execCopyFault, hbusy, hw, ht]
  rfl

end Copies

/-- Settles O41: an entry's end by cases of what it meets, and a byte through its one source. -/
theorem copiesComplete : Obligations.CopiesComplete := by
  unfold Obligations.CopiesComplete
  refine ⟨?entry, fun rs old new fuel r i hfuel hi hr hapart hsole => ?byte⟩
  case entry =>
    intro s e v d wrote ends hbusy
    refine ⟨fun hw => State.execCopyComplete_written hbusy hw, fun u hw => ⟨fun ht => ?_, fun ht => ?_,
      fun k done va ht => ?_⟩⟩
    · exact State.execCopyComplete_eq hbusy hw ht
    · exact State.execCopyComplete_eq hbusy hw ht
    · exact State.execCopyFault_eq hbusy hw ht
  case byte =>
    refine runByte_of_apart hfuel (runSrc_of_sole hi hr hsole) (runSrc_eq_none fun x hx b hb => ?_)
    exact hapart x hx r hr b i hb hi

/-! ### Kernels and copies start (R365, R368 to R372, R377) -/

/-- Lanterns in rank order, each released at its rank, from rank `k` on. -/
def State.startRanks (s : State) (e : List Byte) (id g : Nat) (ms : List Nat) (k : Nat) : State :=
  (ms.zip (List.range' k ms.length)).foldl (fun s p => s.modLan p.1 (fun l => l.start e id g p.2)) s

section Ranks

variable (s : State) (e : List Byte) (id g : Nat)

theorem State.startRanks_cons (m : Nat) (ms : List Nat) (k : Nat) : s.startRanks e id g (m :: ms) k =
    (s.modLan m fun l => l.start e id g k).startRanks e id g ms (k + 1) := rfl

theorem State.startRanks_lans (ms : List Nat) (k : Nat) :
    s.startRanks e id g ms k = { s with lans := (s.startRanks e id g ms k).lans } := by
  induction ms generalizing s k with
  | nil => rfl
  | cons m ms ih =>
    rw [State.startRanks_cons, ih]
    rfl

theorem State.startRanks_of_not_mem {ms : List Nat} {n : Nat} (h : n ∉ ms) (k : Nat) :
    (s.startRanks e id g ms k).lan n = s.lan n := by
  induction ms generalizing s k with
  | nil => rfl
  | cons m ms ih =>
    obtain ⟨hm, hms⟩ : n ≠ m ∧ n ∉ ms := by simpa using h
    rw [State.startRanks_cons, ih _ hms, State.lan_modLan_of_ne _ _ hm]

theorem State.startRanks_lan {ms : List Nat} (hms : ms.Nodup) {r n : Nat} (hr : ms[r]? = some n) (k : Nat) :
    (s.startRanks e id g ms k).lan n = (s.lan n).start e id g (k + r) := by
  induction ms generalizing s k r with
  | nil => simp at hr
  | cons m ms ih =>
    obtain ⟨hm, hrest⟩ := List.nodup_cons.1 hms
    rw [State.startRanks_cons]
    cases r with
    | zero =>
      obtain rfl : m = n := by simpa using hr
      rw [State.startRanks_of_not_mem _ _ _ _ hm, State.lan_modLan]
      rfl
    | succ r =>
      have hr' : ms[r]? = some n := by simpa using hr
      have hne : n ≠ m := fun h => hm (h ▸ List.mem_of_getElem? hr')
      rw [ih _ hrest hr', State.lan_modLan_of_ne _ _ hne, Nat.add_right_comm, Nat.add_assoc]

end Ranks

/-- The head of a queue has left it (R365). -/
theorem State.headStarts_queue {s : State} {q : Nat} {v : Queue} (hq : s.queue? q = some v) :
    (s.headStarts q).queue? q = some { v with head := v.head + 1, held := none, blocked := false } := by
  rw [State.headStarts, hq]
  exact State.queue?_setQueue _ _ _

theorem State.headStarts_disp (s : State) (q : Nat) : s.headStarts q = { s with disp := { s.disp with
    queues := (s.headStarts q).disp.queues, lastQ := (s.headStarts q).disp.lastQ } } := by
  unfold State.headStarts
  split <;> rfl

/-- The gang that a kernel at the head of queue `q` becomes (R371). -/
def State.gangStarted (s : State) (q : Nat) (idx : Half) (e : List Byte) (ms : List Nat) : Gang := {
  id := s.disp.nextGang, q := q, idx := idx, members := ms, finished := []
  cevtEn := entCevtEn e, cevt := entCevt e, cadd := entCadd e
  wdlimit := BitVec.ofNat 64 (entF e 0x50 8), tag := BitVec.ofNat 64 (entF e 0x58 8) }

/-- A kernel has left its queue and stands in zenith's list, and its lanterns are released (R365, R372). -/
def State.kernelStarted (s : State) (q : Nat) (idx : Half) (e : List Byte) (ms : List Nat) : State :=
  State.startRanks { s.headStarts q with disp := { (s.headStarts q).disp with
    gangs := s.disp.gangs ++ [s.gangStarted q idx e ms], nextGang := s.disp.nextGang + 1 } }
    e s.disp.nextGang ms.length ms 0

theorem State.startKernel_eq (s : State) (q : Nat) (idx : Half) (e : List Byte) (ms : List Nat) :
    s.startKernel q idx e ms = (s.kernelStarted q idx e ms).examine := by
  unfold State.startKernel State.kernelStarted State.startRanks State.gangStarted
  rw [s.headStarts_disp q, List.range_eq_range']

section Starts

variable {s : State} {q : Nat} {v : Queue} (hon : s.tc0On = true) (hnext : s.examine.nextHead = some q)
  (hq : s.examine.queue? q = some v)
include hon hnext hq

theorem State.execKernelStart_eq {ms : List Nat} (hkind : entKind v.entry = 0)
    (hplace : s.examine.placeGang (entAff v.entry) (entGang v.entry) = some ms) :
    execKernelStart s = .next (s.examine.kernelStarted q v.head v.entry ms).examine := by
  simp only [execKernelStart, hon, hnext, hq, hkind, hplace, State.startKernel_eq]
  rfl

theorem State.execCopyEntryStart_eq {k : Nat} (hkind : entKind v.entry = 1)
    (hplace : s.examine.placeCopy (entAff v.entry) = some k) :
    execCopyEntryStart s = .next ((s.examine.headStarts q).modEng k (fun x => { x with
      busy := true, q := q, idx := v.head, payload := v.entry.drop 0x40
      cevtEn := entCevtEn v.entry, cevt := entCevt v.entry, cadd := entCadd v.entry })).examine := by
  simp only [execCopyEntryStart, hon, hnext, hq, hkind, hplace]
  rfl

end Starts

/-- PC holds 48 bits (R197). -/
theorem pcMask_ofNat (x : Nat) : pcMask (BitVec.ofNat 64 x) = BitVec.ofNat 64 (x % 2 ^ 48) := by
  refine BitVec.eq_of_toNat_eq ?_
  have hmask : (0xFFFFFFFFFFFF#64).toNat = 2 ^ 48 - 1 := by decide
  rw [pcMask, BitVec.toNat_and, hmask, Nat.and_two_pow_sub_one_eq_mod, BitVec.toNat_ofNat, BitVec.toNat_ofNat]
  omega

/-- Settles O40: the lanterns of a gang are released one after another, each at its rank. -/
theorem dispatchStartsWork : Obligations.DispatchStartsWork := by
  unfold Obligations.DispatchStartsWork
  refine ⟨?starts, ?finds⟩
  case starts =>
    intro s q v hon u e hnext hq
    have hqueue := State.headStarts_queue hq
    refine ⟨fun ms hkind hplace hms => ?kernel, fun k hkind hplace => ?copy⟩
    case kernel =>
      have hkernel : (u.kernelStarted q v.head e ms).queue? q =
          some { v with head := v.head + 1, held := none, blocked := false } := by
        rw [State.kernelStarted, State.startRanks_lans]
        exact hqueue
      refine ⟨u.kernelStarted q v.head e ms, State.execKernelStart_eq hon hnext hq hkind hplace, fun r n hr => ?_,
        fun n hn => ?_, ?_, ?_, ⟨_, hkernel, rfl⟩, u.gangStarted q v.head e ms, ?_, rfl, rfl, rfl, rfl, rfl⟩
      · rw [State.kernelStarted, State.startRanks_lan _ _ _ _ hms hr, Nat.zero_add, u.headStarts_disp q]
        rfl
      · rw [State.kernelStarted, State.startRanks_of_not_mem _ _ _ _ hn, u.headStarts_disp q]
        rfl
      · rw [State.kernelStarted, State.startRanks_lans, u.headStarts_disp q]
      · rw [State.kernelStarted, State.startRanks_lans]
      · rw [State.kernelStarted, State.startRanks_lans]
    case copy =>
      refine ⟨_, State.execCopyEntryStart_eq hon hnext hq hkind hplace, ?_, ?_, ?_, ?_, ?_, ?_, _, hqueue, rfl⟩
      · rw [State.eng_modEng]
      · rw [State.eng_modEng]
      · rw [State.eng_modEng]
      · rw [State.eng_modEng]
      · rw [u.headStarts_disp q]; rfl
      · rw [u.headStarts_disp q]; rfl
  case finds =>
    intro l e id g r t
    have hsup : t.wick.sup = false := show (0 : Word).getLsbD 31 = false by decide
    have hpred (i : Nat) (hi : i < 8192) : (t.pred 0).getLsbD i = true := by
      rw [Lantern.pred, if_pos rfl, BitVec.getLsbD_allOnes]
      exact decide_eq_true hi
    exact ⟨rfl, rfl, rfl, pcMask_ofNat _, rfl, rfl, (BitVec.ofNat_toNat 64 l.sslim).symm, hsup, rfl, rfl, rfl, rfl, rfl, rfl,
      rfl, rfl, rfl, rfl, hpred, rfl, rfl, rfl, rfl, rfl, rfl, rfl, rfl, rfl, rfl, rfl, rfl, rfl⟩

end Sys2Proof.Machine

/-! ## The Ethernet link, packets, operations and handshakes (R450 to R472, R501, R509 to R513) -/

namespace Sys2Proof.Machine

open Sys2Proof

/-! ### The link (R450, R451, R501) -/

theorem getLsbD_bitSet_of_ne {w b j : Nat} (v : BitVec w) (h : j ≠ b) (on : Bool) :
    (bitSet v b on).getLsbD j = v.getLsbD j := by
  by_cases hj : j < w
  · cases on <;> simp [bitSet, hj] <;> grind
  · rw [BitVec.getLsbD_of_ge _ _ (Nat.le_of_not_lt hj), BitVec.getLsbD_of_ge _ _ (Nat.le_of_not_lt hj)]

/-- Number of lanes in use. -/
def State.lanes (s : State) : Nat := if s.xpt.mode800 then 4 else 8

theorem State.laneMask_getLsbD (s : State) {j : Nat} (hj : j < 8) : s.laneMask.getLsbD j = decide (j < s.lanes) := by
  unfold State.laneMask State.lanes
  cases s.xpt.mode800
  · interval_cases j <;> rfl
  · interval_cases j <;> rfl

theorem State.allLocked_iff (s : State) :
    s.allLocked = true ↔ ∀ j, j < s.lanes → s.xpt.lock.getLsbD j = true := by
  have hlanes : s.lanes ≤ 8 := by
    unfold State.lanes
    split <;> decide
  unfold State.allLocked
  rw [decide_eq_true_iff]
  constructor
  · intro h j hj
    have hbit := congrArg (fun v => BitVec.getLsbD v j) h
    simpa [s.laneMask_getLsbD (Nat.lt_of_lt_of_le hj hlanes), hj] using hbit
  · intro h
    refine BitVec.eq_of_getLsbD_eq (fun j hj => ?_)
    rw [BitVec.getLsbD_and, s.laneMask_getLsbD hj]
    by_cases hl : j < s.lanes
    · simp [h j hl, hl]
    · simp [hl]

theorem State.isReady_setReady_of_ne (s : State) {b c : Nat} (h : c ≠ b) (on : Bool) :
    (s.setReady b on).isReady c = s.isReady c := by
  unfold State.setReady
  split
  · rfl
  · exact getLsbD_bitSet_of_ne _ h on

theorem State.SamePRX.powered {s t : State} (h : s.SamePRX t) (d : Nat) : t.powered d = s.powered d := by
  rw [h]
  rfl

@[simp] theorem State.setReady_xpt (s : State) (b : Nat) (on : Bool) : (s.setReady b on).xpt = s.xpt := by
  unfold State.setReady
  split <;> rfl

/-- The transport becomes ready, where SEC and the port already are (R544): nothing else of it changes. -/
theorem State.xptUp_spec (s : State) (h2 : s.isReady 2 = true) (hon : s.powered 29 = true) :
    s.xptUp.isReady 2 = true ∧ s.xptUp.isReady 3 = (s.isReady 3 || s.isReady 1) ∧ s.xptUp.mem = s.mem ∧
      s.xptUp.xpt = { s.xpt with en := s.xptUp.xpt.en } := by
  unfold State.xptUp
  split
  next h =>
    obtain ⟨⟨⟨h1, -⟩, -⟩, -⟩ := by simpa only [Bool.and_eq_true] using h
    refine ⟨?_, ?_, State.setReady_mem .., ?_⟩
    · exact (State.isReady_setReady_of_ne _ (by decide) _).trans h2
    · rw [State.isReady_setReady _ (by decide), h1, Bool.or_true]
    · rw [State.setReady_xpt]
  next h =>
    refine ⟨h2, ?_, rfl, rfl⟩
    cases h3 : s.isReady 3 <;> simp_all

theorem execLinkUp_spec {s : State} (hon : s.portOn = true) (hup : s.xpt.up = false) (hheld : s.xpt.held = false)
    (hall : s.allLocked = true) : ∃ t, execLinkUp s = .next t ∧ t.xpt.up = true ∧ t.xpt.upAge = some 0 ∧
      t.isReady 2 = true ∧ t.isReady 3 = (s.isReady 3 || s.isReady 1) ∧ t.xpt.cons = s.xpt.cons ∧ t.mem = s.mem := by
  let v : State := { s with xpt := { s.xpt with up := true, upAge := some 0, ethEn := true } }
  have hpower : (v.setReady 2 true).powered 29 = true :=
    ((v.setReady_same 2 true).powered 29).trans (Bool.and_eq_true_iff.mp hon).2
  obtain ⟨h2, h3, hmem, hxpt⟩ := State.xptUp_spec (v.setReady 2 true) (State.isReady_setReady _ (by decide) _) hpower
  rw [State.setReady_xpt] at hxpt
  have hrow : execLinkUp s = .next (v.setReady 2 true).xptUp :=
    congrArg Host.Outcome.next (if_pos (by simp [hon, hup, hheld, hall]))
  refine ⟨_, hrow, ?_, ?_, h2, ?_, ?_, hmem.trans (State.setReady_mem ..)⟩
  · rw [hxpt]
  · rw [hxpt]
  · rw [h3, State.isReady_setReady_of_ne _ (by decide), State.isReady_setReady_of_ne _ (by decide)]
    rfl
  · rw [hxpt]

theorem State.notify_of_hosts_nil {s : State} (h : s.flash.addr.hosts = []) (kind : Nat) (body : List Byte) :
    s.notify kind body = { s with pilot := (s.notify kind body).pilot } := by
  have quiet (t : State) (ht : t.flash.addr.hosts = []) (payload : List Byte) (hs : List Nat) :
      hs.foldl (fun s h => if (s.flash.addr.hosts.getD h {}).notify then s.send (hostCid h) typReply payload else s)
        t = t := by
    induction hs with
    | nil => rfl
    | cons x xs ih =>
      rw [List.foldl_cons, if_neg, ih]
      rw [ht, Tab.getD_nil]
      decide
  let v : State := { s with pilot := { s.pilot with notif := some (match s.pilot.notif with
    | none => 0
    | some k => k + 1) } }
  have hv : s.notify kind body = v := quiet v h _ _
  rw [hv]

theorem State.replyLost_eq (s : State) (gone : Nat → Bool) :
    s.replyLost gone = { s with pilot := (s.replyLost gone).pilot } := by
  unfold State.replyLost
  split
  · split <;> rfl
  · rfl

/-- An open conduit without requests is lost, where no checkpoint streams and no host takes notifications. -/
theorem State.loseConduit_spec {s : State} {cid : Nat} (hopen : (s.con cid).st = .opened) (hreqs : (s.con cid).reqs = [])
    (hckpt : s.ckpt = none) (hhosts : s.flash.addr.hosts = []) :
    s.loseConduit cid = { s.setCon cid { st := .lost, retxCnt := (s.con cid).retxCnt } with
      pilot := (s.loseConduit cid).pilot } := by
  let v := (s.setCon cid { st := .lost, retxCnt := (s.con cid).retxCnt }).replyLost (fun h => hostCid h = cid)
  have hv : v = { s.setCon cid { st := .lost, retxCnt := (s.con cid).retxCnt } with pilot := v.pilot } :=
    State.replyLost_eq ..
  have hvckpt : v.ckpt = none := by rw [hv]; exact hckpt
  have hvhosts : v.flash.addr.hosts = [] := by rw [hv]; exact hhosts
  have hlose : s.loseConduit cid = v.notify 3 (beBytes 2 cid ++ [3] ++ List.replicate 5 0) := by
    have hst : ¬((decide ((s.con cid).st = .lost) || decide ((s.con cid).st = .closed)) = true) := by
      rw [hopen]
      decide
    unfold State.loseConduit
    simp only [hreqs, List.foldl_nil]
    rw [if_neg (by simpa using hst)]
    change State.notify (match v.ckpt with | some c => _ | none => v) 3 _ = _
    rw [hvckpt]
  rw [hlose, State.notify_of_hosts_nil hvhosts]
  generalize (State.notify v 3 _).pilot = p
  rw [hv]

/-- Settles O52: the lock bits of the active lanes and the hold-down decide; a lost conduit keeps its
retransmission count alone. -/
theorem linkCompletes : Obligations.LinkCompletes := by
  unfold Obligations.LinkCompletes
  intro s i hon all
  have hall : s.allLocked = true ↔ all := s.allLocked_iff
  refine ⟨fun hi on => ?lock, fun hup hheld h => execLinkUp_spec hon hup hheld (hall.mpr h), fun hup h => ?down, rfl,
    fun hup => ?timeout, ?lost⟩
  case lock =>
    refine ⟨bitSet s.xpt.lock i on, ?_, fun j hj => ?_⟩
    · cases on <;> exact congrArg Host.Outcome.next (if_pos (by simp [hon, hi]))
    · by_cases hji : j = i
      · rw [if_pos hji, hji, getLsbD_bitSet_same _ hi]
      · rw [if_neg hji, getLsbD_bitSet_of_ne _ hji]
  case down =>
    refine ⟨_, congrArg Host.Outcome.next (if_pos ?_), rfl, rfl, rfl, fun x hx => ?_⟩
    · rw [hup, Bool.true_and, Bool.not_eq_true', ← Bool.not_eq_true]
      exact fun hl => h (hall.mp hl)
    · simp only [hx]
  case timeout => exact congrArg Host.Outcome.next (if_neg (by simp [hup, hon]))
  case lost =>
    intro cid hopen hreqs hckpt hhosts t
    have ht := State.loseConduit_spec hopen hreqs hckpt hhosts
    refine ⟨?_, fun c hc => ?_, ?_, ?_⟩
    · rw [show t = _ from ht]
      exact State.con_setCon ..
    · rw [show t = _ from ht]
      exact State.con_setCon_of_ne _ _ hc
    · rw [show t = _ from ht]
      rfl
    · rw [show t = _ from ht]
      rfl

end Sys2Proof.Machine

/-! ## Packets of a conduit (R451, R453, R456 to R462, R469, R472) -/

namespace Sys2Proof.Machine

open Sys2Proof

/-! ### What a conduit's own traffic changes -/

/-- `t` differs from `s` on conduit `cid` at most, with the memory and the lanterns of `s`. -/
def State.SameBut (s : State) (cid : Nat) (t : State) : Prop :=
  (∀ c, c ≠ cid → t.con c = s.con c) ∧ t.mem = s.mem ∧ t.lans = s.lans

theorem State.SameBut.trans {s t u : State} {cid : Nat} (h : s.SameBut cid t) (k : t.SameBut cid u) :
    s.SameBut cid u := by
  obtain ⟨hcon, hmem, hlans⟩ := h
  obtain ⟨kcon, kmem, klans⟩ := k
  exact ⟨fun c hc => (kcon c hc).trans (hcon c hc), kmem.trans hmem, klans.trans hlans⟩

theorem State.setCon_sameBut (s : State) (cid : Nat) (k : Conduit) : s.SameBut cid (s.setCon cid k) :=
  ⟨fun _ hc => State.con_setCon_of_ne s k hc, rfl, rfl⟩

theorem State.modCon_sameBut (s : State) (cid : Nat) (f : Conduit → Conduit) : s.SameBut cid (s.modCon cid f) :=
  s.setCon_sameBut cid _

theorem State.fecSeen_sameBut (s : State) (p : Packet) (cid : Nat) : s.SameBut cid (s.fecSeen p) :=
  ⟨fun _ _ => rfl, rfl, rfl⟩

/-! ### Egress (R459 to R462) -/

theorem exists_mem_updFirst {α : Type} {p : α → Bool} (f : α → α) {xs : List α} {a : α} (ha : a ∈ xs) (hp : p a = true) :
    ∃ b ∈ xs, p b = true ∧ f b ∈ updFirst p f xs := by
  induction xs with
  | nil => cases ha
  | cons x t ih =>
    by_cases hx : p x = true
    · exact ⟨x, List.mem_cons_self, hx, by simp [updFirst, hx]⟩
    · have hat : a ∈ t := (List.mem_cons.mp ha).resolve_left (fun h => hx (h ▸ hp))
      obtain ⟨b, hb, hpb, hf⟩ := ih hat
      exact ⟨b, List.mem_cons_of_mem _ hb, hpb, by simp [updFirst, hx, hf]⟩

/-- The next expiry with packets outstanding (R459 to R461). -/
theorem execRetransmitTimeout_spec {s : State} {cid : Nat} {t : TxPkt} (hlink : s.linkUp = true)
    (hopen : (s.con cid).st = .opened) (ht : (s.con cid).unacked.find? (fun t => t.sent) = some t) :
    execRetransmitTimeout cid s = .next (if 12 ≤ (s.con cid).expiries + 1 then s.loseConduit cid
      else s.setCon cid { ((s.con cid).cut ((s.con cid).rc / 2)) with
        expiries := (s.con cid).expiries + 1
        rtoNs := min 10000000 (2 * (s.con cid).rtoNs)
        unacked := updFirst (fun x => x.psn = t.psn) (fun x => { x with again := true }) (s.con cid).unacked }) := by
  unfold execRetransmitTimeout
  simp only [hlink, hopen, ht]
  rfl

theorem execPacketTransmit_ack {s : State} {c : Nat × Conduit} (hlink : s.linkUp = true)
    (hc : List.find? (fun (c : Nat × Conduit) => c.2.st = .opened && c.2.ackOut) s.xpt.cons = some c) :
    execPacketTransmit s = .next (s.emitAck c.1) := by
  unfold execPacketTransmit
  rw [hlink, hc]
  rfl

theorem execPacketTransmit_pkt {s : State} {cid : Nat} {t : TxPkt} (hlink : s.linkUp = true)
    (hc : List.find? (fun (c : Nat × Conduit) => c.2.st = .opened && c.2.ackOut) s.xpt.cons = none)
    (ht : s.txPick = some (cid, t)) :
    execPacketTransmit s = .next (if t.typ = typData && !t.sent then
      { s.emitPkt cid t with xpt := { (s.emitPkt cid t).xpt with lastCid := cid } } else s.emitPkt cid t) := by
  unfold execPacketTransmit
  rw [hlink, hc, ht]
  rfl

/-! ### Reception (R455 to R459) -/

/-- A conduit whose packet has verified: what the packet acknowledges is freed, and its congestion mark is kept. -/
def Conduit.heard (v : Conduit) (stamp : Dword) (p : Packet) : Conduit :=
  { v.acked stamp p.ack with eceDue := v.eceDue || p.congested }

theorem Conduit.acked_eq (k : Conduit) (stamp : Dword) (ack : Word) : k.acked stamp ack = { k with
    ackRx := (k.acked stamp ack).ackRx, expiries := (k.acked stamp ack).expiries, srttNs := (k.acked stamp ack).srttNs
    rtoNs := (k.acked stamp ack).rtoNs, unacked := (k.acked stamp ack).unacked } := by
  unfold Conduit.acked
  split <;> rfl

theorem Conduit.heard_eq (v : Conduit) (stamp : Dword) (p : Packet) : v.heard stamp p = { v with
    ackRx := (v.heard stamp p).ackRx, expiries := (v.heard stamp p).expiries, srttNs := (v.heard stamp p).srttNs
    rtoNs := (v.heard stamp p).rtoNs, unacked := (v.heard stamp p).unacked, eceDue := (v.heard stamp p).eceDue } := by
  unfold Conduit.heard
  rw [v.acked_eq]

/-- An acknowledgement of packets that were sent and not yet acknowledged (R456, R459). -/
theorem Conduit.acked_new {k : Conduit} {ack : Word} (hnew : psnBelow k.ackRx ack = true)
    (hsent : psnBelow k.psnTx ack = false) (stamp : Dword) :
    (k.acked stamp ack).ackRx = ack ∧ (k.acked stamp ack).expiries = 0 ∧
      (k.acked stamp ack).unacked = k.unacked.filter (fun t => !(t.sent && psnBelow t.psn ack)) := by
  unfold Conduit.acked
  rw [hnew, hsent]
  exact ⟨rfl, rfl, rfl⟩

theorem Conduit.holes_eq (k : Conduit) (ack : Word) (sack : List Byte) :
    k.holes ack sack = { k with unacked := (k.holes ack sack).unacked } := by
  unfold Conduit.holes
  dsimp only
  split <;> rfl

/-- A SACK changes neither a packet's number nor whether it has been sent. -/
theorem Conduit.mem_holes {k : Conduit} {ack : Word} {sack : List Byte} {x : TxPkt} (h : x ∈ (k.holes ack sack).unacked) :
    ∃ y ∈ k.unacked, x.psn = y.psn ∧ x.sent = y.sent := by
  unfold Conduit.holes at h
  dsimp only at h
  split at h
  · exact ⟨x, h, rfl, rfl⟩
  · obtain ⟨y, hy, rfl⟩ := List.mem_map.mp h
    refine ⟨y, hy, ?_⟩
    split <;> exact ⟨rfl, rfl⟩

section Receive

variable {s : State} {p : Packet} {v : Conduit} {body : List Byte}

theorem State.receive_fecBad (hlink : s.linkUp = true) (hbad : p.fecBad ≠ 0) : s.receive p = s.fecSeen p := by
  unfold State.receive
  rw [hlink]
  exact if_pos hbad

/-- A well-formed packet on an open conduit is opened under the conduit's key (R453 to R455). -/
theorem State.receive_open (hlink : s.linkUp = true) (hfec : p.fecBad = 0) (hhdr : s.hdrOk p = true) (htyp : p.typ ≠ 4)
    (hopen : (s.con p.dcid.toNat).st = .opened) :
    s.receive p = match (s.con p.dcid.toNat).openPkt (pktHdr p) p.epoch p.xsn (p.payload ++ beBytes 16 p.tag.toNat) with
      | none => { s.fecSeen p with xpt := { (s.fecSeen p).xpt with dropAuth := satAdd 8 s.xpt.dropAuth 1 } }
      | some (v, body) =>
        let k := v.heard s.pilot.stamp p
        if p.typ = typAck then
          let k := k.holes p.ack body
          (s.fecSeen p).setCon p.dcid.toNat (if p.ece && !k.cutRecent then k.cut (k.rc * 7 / 8) else k)
        else ((s.fecSeen p).setCon p.dcid.toNat k).sequence p.dcid.toNat p.psn p.typ body := by
  have hhdr' : (s.fecSeen p).hdrOk p = true := hhdr
  unfold State.receive
  simp only [hlink, hfec, hhdr', htyp, hopen]
  rfl

theorem psnBelow_self (a : Word) : psnBelow a a = false := by simp [psnBelow]

/-- The packet that is next in order is delivered; with an empty reorder buffer nothing follows it (R457). -/
theorem State.sequence_next {cid : Nat} {k : Conduit} (hk : s.con cid = k) (hreorder : k.reorder = [])
    (typ : Byte) (hdone : ((s.deliver cid typ body).con cid).reorder = []) :
    s.sequence cid k.ackTx typ body = s.deliver cid typ body := by
  unfold State.sequence
  simp only [hk, psnBelow_self, hreorder]
  simp [State.drainReorder, hdone]

/-- The conduit after its next packet in order has been delivered (R456, R458). -/
def Conduit.took (k : Conduit) : Conduit := { k with
  ackTx := k.ackTx + 1, sinceAck := (k.sinceAck + 1) % 8, ackDue := true
  ackOut := k.ackOut || k.sinceAck + 1 = 8 }

theorem State.deliver_eq (cid : Nat) (typ : Byte) : s.deliver cid typ body = if typ = typData then
    (s.modCon cid Conduit.took).deliverOp cid body
    else { s.modCon cid Conduit.took with pilot := { s.pilot with inbox := s.pilot.inbox ++ [(cid, body)] } } :=
  rfl

theorem State.deliver_command (cid : Nat) : s.deliver cid 2#8 body = { s.modCon cid Conduit.took with
    pilot := { s.pilot with inbox := s.pilot.inbox ++ [(cid, body)] } } :=
  (s.deliver_eq cid 2#8).trans (if_neg (by decide))

theorem State.deliver_data {cid : Nat} {o : DpOp} (ho : parseOp body = some o) (hfault : opFault cid o = 0) :
    s.deliver cid typData body = (s.modCon cid Conduit.took).modCon cid (fun k => { k with ops := k.ops ++ [o] }) := by
  rw [State.deliver_eq, if_pos rfl]
  unfold State.deliverOp
  rw [ho]
  dsimp only
  rw [hfault]
  rfl

end Receive

theorem State.ipFrame_take (s : State) (mac : BitVec 48) (dst : BitVec 128) (flow next hops : Nat) (body : List Byte) :
    (s.ipFrame mac dst flow next hops body).take 6 = beBytes 6 mac.toNat := by
  unfold State.ipFrame
  simp only [List.append_assoc]
  exact List.take_left' (length_beBytes ..)

theorem State.icmp_spec (s : State) (mac : BitVec 48) (dst : BitVec 128) (hops typ code : Nat) (body : List Byte) :
    ∃ f, s.icmp mac dst hops typ code body = s.emitFrame none f ∧ f.take 6 = beBytes 6 mac.toNat :=
  ⟨_, rfl, State.ipFrame_take ..⟩

section Packets

variable {s : State} {p : Packet} {v : Conduit} {body : List Byte}
variable (hlink : s.linkUp = true) (hfec : p.fecBad = 0) (hhdr : s.hdrOk p = true)
variable (hopen : (s.con p.dcid.toNat).st = .opened)
variable (hbody : (s.con p.dcid.toNat).openPkt (pktHdr p) p.epoch p.xsn (p.payload ++ beBytes 16 p.tag.toNat) =
  some (v, body))

include hlink hfec hhdr hopen hbody

/-- A DATA or COMMAND packet that is next in order is delivered on its conduit (R457, R458). -/
theorem State.receive_next (htyp : p.typ = 2 ∨ p.typ = typData) (hreorder : v.reorder = []) (hpsn : p.psn = v.ackTx)
    (hdone : ((((s.fecSeen p).setCon p.dcid.toNat (v.heard s.pilot.stamp p)).deliver p.dcid.toNat p.typ body).con
      p.dcid.toNat).reorder = []) :
    s.receive p = ((s.fecSeen p).setCon p.dcid.toNat (v.heard s.pilot.stamp p)).deliver p.dcid.toNat p.typ body := by
  have hne : p.typ ≠ 4 ∧ p.typ ≠ typAck := by
    rcases htyp with h | h <;> rw [h] <;> decide
  obtain ⟨h4, hack⟩ := hne
  have hacktx : p.psn = (v.heard s.pilot.stamp p).ackTx := by rw [hpsn, v.heard_eq]
  have hempty : (v.heard s.pilot.stamp p).reorder = [] := by rw [v.heard_eq, hreorder]
  rw [State.receive_open hlink hfec hhdr h4 hopen, hbody]
  dsimp only
  rw [if_neg hack, hacktx]
  exact State.sequence_next (State.con_setCon ..) hempty _ hdone

/-- An ACK packet that verifies frees what it acknowledges, resends what its SACK misses and may cut Rc. -/
theorem execAck_spec (htyp : p.typ = typAck) :
    let k := (v.heard s.pilot.stamp p).holes p.ack body
    execAck p s = .next ((s.fecSeen p).setCon p.dcid.toNat
      (if p.ece && !k.cutRecent then k.cut (k.rc * 7 / 8) else k)) := by
  have h4 : p.typ ≠ 4 := by
    rw [htyp]
    decide
  refine congrArg Host.Outcome.next ((if_pos htyp).trans ?_)
  rw [State.receive_open hlink hfec hhdr h4 hopen, hbody]
  exact if_pos htyp

end Packets

/-- Settles O53: one packet of each kind is sent, received, or timed out on its own conduit. -/
theorem packetsComplete : Obligations.PacketsComplete := by
  unfold Obligations.PacketsComplete
  intro s p cid hlink k rest
  refine ⟨fun hopen => ⟨fun hdue => ?ackTimer, ?rate, fun t ht => ⟨fun hfew => ?resend, fun hmany => ?lose⟩⟩,
    fun c hc => execPacketTransmit_ack hlink hc, fun t hc ht => ⟨fun hreply => ?reply, fun hdata hnew => ?fresh⟩,
    fun typ psn ece retx payload hx => ?emit, fun hbad htyp => ?fec, ?command, ?data, ?ack, ?icmp⟩
  case ackTimer => exact congrArg Host.Outcome.next (if_pos (by simp [show (s.con cid).st = .opened from hopen,
    show (s.con cid).ackDue = true from hdue]))
  case rate => exact congrArg Host.Outcome.next (if_pos (by simp [show (s.con cid).st = .opened from hopen, hlink]))
  case resend =>
    have hstay : ¬(12 ≤ (s.con cid).expiries + 1) := Nat.not_le.mpr (Nat.succ_lt_succ hfew)
    have hpicked : (decide (t.psn = t.psn)) = true := decide_eq_true rfl
    obtain ⟨x, -, hx, hmem⟩ := exists_mem_updFirst (p := fun x => decide (x.psn = t.psn))
      (fun x : TxPkt => { x with again := true }) (List.mem_of_find?_eq_some ht) hpicked
    refine ⟨_, (execRetransmitTimeout_spec hlink hopen ht).trans (congrArg _ (if_neg hstay)),
      s.setCon_sameBut cid _, ?_⟩
    rw [State.con_setCon]
    exact ⟨rfl, rfl, rfl, _, hmem, of_decide_eq_true hx, rfl⟩
  case lose =>
    exact (execRetransmitTimeout_spec hlink hopen ht).trans (congrArg _ (if_pos (Nat.succ_le_succ hmany)))
  case reply =>
    refine (execPacketTransmit_pkt hlink hc ht).trans (congrArg _ (if_neg ?_))
    rw [hreply]
    simp [typReply, typData]
  case fresh =>
    refine (execPacketTransmit_pkt hlink hc ht).trans (congrArg _ (if_pos ?_))
    simp [hdata, hnew]
  case emit =>
    unfold State.emit
    dsimp only
    rw [if_pos (show (s.con cid).xsn.toNat < 2 ^ 32 from hx)]
    exact ⟨_, rfl⟩
  case fec => exact congrArg Host.Outcome.next ((if_neg htyp).trans (State.receive_fecBad hlink hbad))
  case command =>
    rintro rfl htyp hhdr hopen hfec v body hbody hreorder hpsn
    have hne : p.typ ≠ typAck := by
      rw [htyp]
      decide
    have hcon : (((s.fecSeen p).setCon p.dcid.toNat (v.heard s.pilot.stamp p)).deliver p.dcid.toNat p.typ body).con
        p.dcid.toNat = (v.heard s.pilot.stamp p).took := by
      rw [htyp, State.deliver_command]
      exact (State.con_modCon ..).trans (congrArg _ (State.con_setCon ..))
    have hrow := State.receive_next hlink hfec hhdr hopen hbody (.inl htyp) hreorder hpsn
      (by rw [hcon, v.heard_eq]; exact hreorder)
    refine ⟨_, congrArg Host.Outcome.next ((if_neg hne).trans hrow), ?_, ?_, ?_, ?_⟩
    · rw [htyp, State.deliver_command]
      exact ((s.fecSeen_sameBut p _).trans (State.setCon_sameBut ..)).trans (State.modCon_sameBut ..)
    · rw [hcon, v.heard_eq]
      rfl
    · rw [hcon, v.heard_eq]
      rfl
    · rw [htyp, State.deliver_command]
      rfl
  case data =>
    rintro rfl htyp hhdr hopen hfec
    have hne : p.typ ≠ typAck := by
      rw [htyp]
      decide
    have h4 : p.typ ≠ 4 := by
      rw [htyp]
      decide
    refine ⟨fun hbody => ?_, fun v body o hbody hreorder hpsn ho hfault => ?_⟩
    · refine congrArg Host.Outcome.next ((if_neg hne).trans ?_)
      rw [State.receive_open hlink hfec hhdr h4 hopen, hbody, State.fecSeen, hfec]
      rfl
    · have hdeliver (u : State) : u.deliver p.dcid.toNat p.typ body =
          (u.modCon p.dcid.toNat Conduit.took).modCon p.dcid.toNat (fun k => { k with ops := k.ops ++ [o] }) := by
        rw [htyp]
        exact State.deliver_data ho hfault
      have hcon : (((s.fecSeen p).setCon p.dcid.toNat (v.heard s.pilot.stamp p)).deliver p.dcid.toNat p.typ body).con
          p.dcid.toNat = { (v.heard s.pilot.stamp p).took with ops := (v.heard s.pilot.stamp p).ops ++ [o] } := by
        rw [hdeliver, State.con_modCon, State.con_modCon, State.con_setCon]
        rfl
      have hrow := State.receive_next hlink hfec hhdr hopen hbody (.inr htyp) hreorder hpsn
        (by rw [hcon, v.heard_eq]; exact hreorder)
      refine ⟨_, congrArg Host.Outcome.next ((if_neg hne).trans hrow), ?_, ?_, ?_, ?_⟩
      · rw [hdeliver]
        exact (((s.fecSeen_sameBut p _).trans (State.setCon_sameBut ..)).trans (State.modCon_sameBut ..)).trans
          (State.modCon_sameBut ..)
      · rw [hcon, v.heard_eq]
        rfl
      · rw [hcon, v.heard_eq]
      · rw [hcon]
        rfl
  case ack =>
    rintro rfl htyp hhdr hopen hfec v body hbody
    let h := v.heard s.pilot.stamp p
    let j := h.holes p.ack body
    have hj : j.cutRecent = v.cutRecent ∧ j.rc = v.rc := by
      rw [show j = _ from h.holes_eq .., show h = _ from v.heard_eq ..]
      exact ⟨rfl, rfl⟩
    obtain ⟨hcut, hrc⟩ := hj
    refine ⟨_, execAck_spec hlink hfec hhdr hopen hbody htyp,
      (s.fecSeen_sameBut p _).trans (State.setCon_sameBut ..), ?_, fun hnew hsent => ?_⟩
    · rw [State.con_setCon, hcut, hrc]
      cases p.ece && !v.cutRecent
      · exact hrc
      · rfl
    · obtain ⟨hack, hexp, hun⟩ := Conduit.acked_new hnew hsent s.pilot.stamp
      have hfree : ∀ x ∈ j.unacked, (x.sent && psnBelow x.psn p.ack) = false := by
        intro x hx
        obtain ⟨y, hy, hpsn, hys⟩ := Conduit.mem_holes hx
        have hy' : y ∈ (v.acked s.pilot.stamp p.ack).unacked := hy
        rw [hun] at hy'
        rw [hpsn, hys]
        exact (Bool.not_eq_true' _).mp (List.mem_filter.mp hy').2
      have hj : j.ackRx = p.ack ∧ j.expiries = 0 := by
        rw [show j = _ from h.holes_eq ..]
        exact ⟨hack, hexp⟩
      rw [State.con_setCon]
      cases p.ece && !(Conduit.cutRecent j)
      · exact ⟨hj.1, hj.2, hfree⟩
      · exact ⟨hj.1, hj.2, hfree⟩
  case icmp =>
    intro target src mac body
    refine ⟨fun hown => ⟨?_, ?_⟩, fun hother => ⟨?_, ?_⟩⟩
    · obtain ⟨f, hf, htake⟩ := s.icmp_spec mac src 255 136 0
        (beBytes 4 0x60000000 ++ beBytes 16 target.toNat ++ [2, 1] ++ beBytes 6 s.ownMac.toNat)
      refine ⟨f, congrArg Host.Outcome.next ?_, htake⟩
      exact (if_neg (by simp [hlink])).trans ((if_pos hown).trans hf)
    · obtain ⟨f, hf, htake⟩ := s.icmp_spec mac src 64 129 0 body
      refine ⟨f, congrArg Host.Outcome.next ?_, htake⟩
      exact (if_neg (by simp [hlink])).trans ((if_pos hown).trans hf)
    · exact congrArg Host.Outcome.next ((if_neg (by simp [hlink])).trans (if_neg hother))
    · exact congrArg Host.Outcome.next ((if_neg (by simp [hlink])).trans (if_neg hother))

end Sys2Proof.Machine

/-! ## Delivered operations, and the device's own requests (R463, R464, R466, R467, R470, R471) -/

namespace Sys2Proof.Machine

open Sys2Proof

/-! ### Operations take effect (R464, R466, R467) -/

section Operations

variable {s u : State} {cid k : Nat} {o : DpOp}

theorem State.not_recovering_of_planeUp (h : s.planeDown = false) : s.recovering = false := by
  simp only [State.planeDown, Bool.or_eq_false_iff] at h
  exact h.1.1

theorem State.doRead_eq (h : s.planeDown = false) : s.doRead cid k o =
    match s.touchRange (.conduit cid) false (pieces o.addr.toNat o.len) with
    | (s, .ok) =>
      ((s.dvLoadLines o.addr.toNat o.len false).opDone cid k).respond cid 0x81 0 o.rid none
        (pmapOf o.addr.toNat o.len (fun u => (s.dvPoison? (max o.addr.toNat (64 * u)) 1).isSome))
        (s.dvRead o.addr.toNat o.len)
    | (s, .unmapped _) => s.unmapped cid k o
    | (s, .stall _) => s := by
  unfold State.doRead
  simp only [h, State.not_recovering_of_planeUp h]
  rfl

theorem State.doWrite_eq (h : s.planeDown = false) : s.doWrite cid k o =
    match s.touchRange (.conduit cid) true (pieces o.addr.toNat o.len) with
    | (s, .ok) => (s.opDone cid k).dvStoreK (.conduit cid) (wholeKind false) o.addr.toNat o.data
        (fun x => o.pmap.getLsbD (x - o.addr.toNat / 64))
    | (s, .unmapped _) => s.unmapped cid k o
    | (s, .stall _) => s := by
  unfold State.doWrite
  simp only [h, State.not_recovering_of_planeUp h]
  rfl

theorem State.opAt_op {op : Nat} (h : s.opAt cid k op = some o) : o.op.toNat = op := by
  unfold State.opAt at h
  split at h
  · split at h
    · cases h
      assumption
    · cases h
  · cases h

theorem respCode_of_toNat {b : Byte} {n : Nat} (h : b.toNat = n) : respCode b = respCode (BitVec.ofNat 8 n) := by
  rw [← h, BitVec.ofNat_toNat, BitVec.setWidth_eq]

theorem execRead_eq (ho : s.opAt cid k 1 = some o) (hmay : s.mayAccess cid k o = true) :
    execRead cid k s = .next (s.doRead cid k o) := by
  unfold execRead
  rw [ho]
  exact congrArg Host.Outcome.next (if_pos hmay)

theorem execWrite_eq (ho : s.opAt cid k 2 = some o) (hmay : s.mayAccess cid k o = true) :
    execWrite cid k s = .next (s.doWrite cid k o) := by
  unfold execWrite
  rw [ho]
  exact congrArg Host.Outcome.next (if_pos hmay)

variable (hplane : s.planeDown = false) (hmay : s.mayOrder cid k = true)
include hplane hmay

theorem execFlush_eq (ho : s.opAt cid k 3 = some o) :
    execFlush cid k s = .next ((s.opDone cid k).respond cid 0x83 0 o.rid none 0 []) := by
  unfold execFlush
  simp only [ho, hmay, hplane]
  rfl

theorem execDoorbell_eq (ho : s.opAt cid k 4 = some o) :
    execDoorbell cid k s = .next ((s.opDone cid k).ringBell (o.addr.toNat % 64) (o.opnd.setWidth 16)) := by
  unfold execDoorbell
  simp only [ho, hmay, hplane]
  rfl

theorem execEventAdd_eq (ho : s.opAt cid k 5 = some o) :
    execEventAdd cid k s = .next ((s.opDone cid k).addEvent (o.addr.toNat % 4096) o.opnd) := by
  unfold execEventAdd
  simp only [ho, hmay, hplane]
  rfl

theorem execFetchAdd_eq (ho : s.opAt cid k 6 = some o) : execFetchAdd cid k s = .next
    (match s.fetchAdd (.conduit cid) o.addr.toNat o.opnd with
    | (s, .done old) => (s.opDone cid k).answerFa cid o 0 (some old)
    | (s, .status st) => (s.opDone cid k).answerFa cid o st none
    | (s, .stall) => s) := by
  unfold execFetchAdd
  simp only [ho, hmay, hplane]
  rfl

end Operations

/-! ### Responses end requests (R464, R470) -/

section Responses

variable {s : State} {cid k : Nat} {o : DpOp} {op : Byte}

theorem State.matchReq_none (h : ((s.opDone cid k).con cid).reqs.find? (fun r => r.1 = o.rid && r.2.1 = op) = none) :
    s.matchReq cid k o op = ({ s.opDone cid k with
      xpt := { (s.opDone cid k).xpt with dropNorid := satAdd 8 s.xpt.dropNorid 1 } }, none) := by
  unfold State.matchReq
  dsimp only
  rw [h]
  rfl

theorem State.matchReq_some {r : Word × Byte × ReqFor}
    (h : ((s.opDone cid k).con cid).reqs.find? (fun r => r.1 = o.rid && r.2.1 = op) = some r) :
    s.matchReq cid k o op = ((s.opDone cid k).modCon cid
      (fun c => { c with reqs := c.reqs.filter (fun x => x.1 ≠ o.rid) }), some r.2.2) := by
  unfold State.matchReq
  dsimp only
  rw [h]

/-- A response whose request is answered to nobody in particular, or to no request at all, only ends it. -/
theorem exec_response {i : Instr} {code : Nat}
    (hi : (i, code, op) ∈ [(Instr.readResponse cid k, 0x81, (0x01 : Byte)), (.flushResponse cid k, 0x83, 0x03),
      (.fetchAddResponse cid k, 0x86, 0x06), (.hreadResponse cid k, 0x87, 0x07)])
    (ho : s.opAt cid k code = some o) {t : State} {f : Option ReqFor} (hf : f = none ∨ f = some .host)
    (hreq : s.matchReq cid k o op = (t, f)) : exec i s = .next t := by
  simp only [List.mem_cons, Prod.mk.injEq, List.mem_nil_iff, or_false] at hi
  rcases hi with ⟨rfl, rfl, rfl⟩ | ⟨rfl, rfl, rfl⟩ | ⟨rfl, rfl, rfl⟩ | ⟨rfl, rfl, rfl⟩
  · change execReadResponse cid k s = _
    unfold execReadResponse
    rw [ho]
    exact congrArg (fun x => Host.Outcome.next x.1) hreq
  · change execFlushResponse cid k s = _
    unfold execFlushResponse
    rw [ho]
    exact congrArg (fun x => Host.Outcome.next x.1) hreq
  · change execFetchAddResponse cid k s = _
    unfold execFetchAddResponse
    rw [ho]
    dsimp only
    rw [hreq]
    rcases hf with rfl | rfl <;> rfl
  · change execHreadResponse cid k s = _
    unfold execHreadResponse
    rw [ho]
    dsimp only
    rw [hreq]
    rcases hf with rfl | rfl <;> rfl

/-- The answer to a lantern's FETCH_ADD ends its request (R470). -/
theorem execFetchAddResponse_xrq (ho : s.opAt cid k 0x86 = some o) {t : State} {n : Nat}
    (hreq : s.matchReq cid k o 0x06 = (t, some (.xrq n))) (hon : t.lanOn n = true) : execFetchAddResponse cid k s =
      .next (t.xrqEnd n o.status (if o.status = 0 then some o.opnd else none)) := by
  unfold execFetchAddResponse
  rw [ho]
  dsimp only
  rw [hreq]
  exact congrArg Host.Outcome.next (if_pos hon)

end Responses

/-- Settles O54: each delivered operation has its effect and its response, and a response ends its request. -/
theorem operationsComplete : Obligations.OperationsComplete := by
  unfold Obligations.OperationsComplete
  intro s u cid k o a d
  refine ⟨fun hplane => ⟨fun ho hmay => ⟨fun htouch => ?readOk, fun x htouch => ?readNone⟩,
      fun ho hmay => ⟨fun htouch => ?writeOk, fun x htouch => ?writeNone⟩,
      fun hmay => ⟨execFlush_eq hplane hmay, execDoorbell_eq hplane hmay, execEventAdd_eq hplane hmay,
        fun ho => ⟨fun old hfa => ?faDone, fun st hfa => ?faStatus⟩⟩⟩,
    fun h addr len data pmap => ⟨fun hin => congrArg Host.Outcome.next (if_pos hin),
      fun hin => congrArg Host.Outcome.next (if_pos hin)⟩,
    fun i op rq hi ho => ⟨fun hreq => ?unmatched, fun r hreq => ?matched⟩, fun r n ho hreq hon => ?fetchAdd,
    fun n v hon hgo => ?fields, fun n v hon hgo hidle => ?go⟩
  case readOk =>
    refine (execRead_eq ho hmay).trans (congrArg _ ((State.doRead_eq hplane).trans ?_))
    rw [htouch]
  case readNone =>
    refine (execRead_eq ho hmay).trans (congrArg _ ((State.doRead_eq hplane).trans ?_))
    rw [htouch]
    dsimp only [State.unmapped]
    rw [respCode_of_toNat (State.opAt_op ho)]
    rfl
  case writeOk =>
    refine (execWrite_eq ho hmay).trans (congrArg _ ((State.doWrite_eq hplane).trans ?_))
    rw [htouch]
  case writeNone =>
    refine (execWrite_eq ho hmay).trans (congrArg _ ((State.doWrite_eq hplane).trans ?_))
    rw [htouch]
    dsimp only [State.unmapped]
    rw [respCode_of_toNat (State.opAt_op ho)]
    rfl
  case faDone =>
    refine (execFetchAdd_eq hplane hmay ho).trans (congrArg _ ?_)
    rw [hfa]
  case faStatus =>
    refine (execFetchAdd_eq hplane hmay ho).trans (congrArg _ ?_)
    rw [hfa]
  case unmatched => exact exec_response hi ho (.inl rfl) (State.matchReq_none hreq)
  case matched => exact exec_response hi ho (.inr rfl) (State.matchReq_some hreq)
  case fetchAdd =>
    exact ⟨_, execFetchAddResponse_xrq ho (State.matchReq_some hreq) hon, rfl, rfl⟩
  case fields =>
    have hstay : ¬((v.getLsbD 31 && !(s.lan n).xrq.busy) = true) := by
      rw [hgo]
      exact Bool.false_ne_true
    refine ⟨{ (s.lan n).xrq with op := BitVec.ofNat 8 (natField v.toNat 16 8)
                                 peer := BitVec.ofNat 10 (natField v.toNat 0 10) },
      congrArg Host.Outcome.next ((if_pos hon).trans (if_neg hstay)), ?_, ?_, rfl⟩
    · simp [natField]
    · simp [natField]
  case go =>
    have hnow : (v.getLsbD 31 && !(s.lan n).xrq.busy) = true := by
      rw [hgo, hidle]
      rfl
    have hop : BitVec.ofNat 8 (natField v.toNat 16 8) = BitVec.ofNat 8 (v.toNat / 2 ^ 16) := by
      refine BitVec.eq_of_toNat_eq ?_
      simp [natField]
    have hpeer : BitVec.ofNat 10 (natField v.toNat 0 10) = BitVec.ofNat 10 v.toNat := by
      refine BitVec.eq_of_toNat_eq ?_
      simp [natField]
    refine congrArg Host.Outcome.next ((if_pos hon).trans ((if_pos hnow).trans ?_))
    rw [hop, hpeer]

end Sys2Proof.Machine

/-! ## Handshakes (R509 to R513) -/

namespace Sys2Proof.Machine

open Sys2Proof

section Handshakes

variable {s : State} {cid : Nat} {msg : List Byte}

/-- A handshake message changes only the frames that have left. -/
theorem State.emitHs_eq (s : State) (cid : Nat) (m : List Byte) :
    s.emitHs cid m = { s with xpt := { s.xpt with sent := (s.emitHs cid m).xpt.sent } } := by
  unfold State.emitHs
  split <;> rfl

/-- The key that the device draws for a handshake, and the 72 bytes and the whole of its ANSWER (R510). -/
def State.answerKey (s : State) : List Byte := Config.random s.freeCtr 32
/-- The first 72 bytes of the ANSWER. -/
def State.answerHead (s : State) : List Byte := s.hsHead 2 (Config.xPub s.answerKey)
/-- The ANSWER to a HELLO. -/
def State.answerTo (s : State) (hello : List Byte) : List Byte :=
  s.answerHead ++ Config.edSign idSeed (ascii "NQ288 answer" ++ hsTa hello s.answerHead)

/-- The answer to a HELLO where no handshake was under way (R509, R512). -/
theorem State.startAnswer_eq (hhs : (s.con cid).hs = none) : s.startAnswer cid msg =
    (State.setCon { s with freeCtr := s.freeCtr + 1 } cid { s.con cid with
      st := if (s.con cid).st = .opened then .opened else .opening
      hs := some { initiator := false, hello := msg, answer := s.answerTo msg, priv := s.answerKey
                   was := (s.con cid).st } }).emitHs cid (s.answerTo msg) := by
  unfold State.startAnswer
  have hhs' : (State.con { s with freeCtr := s.freeCtr + 1 } cid).hs = none := hhs
  simp only [hhs']
  rfl

/-- A row of the port that takes whole messages on the 1,088 conduits is past its first two checks. -/
theorem past_port_checks {t u v : State} (hlink : s.linkUp = true) (hcid : cid < 1088) (hlen : msg.length = 136) :
    (if (!s.linkUp || decide (1088 ≤ cid)) = true then t else if msg.length ≠ 136 then u else v) = v := by
  rw [if_neg (by simp [hlink, hcid]), if_neg (not_not_intro hlen)]

/-- A HELLO that opens no handshake yet is answered with a fresh key (R509, R510). -/
theorem execHello_fresh (hlink : s.linkUp = true) (hcid : cid < 1088) (hready : s.isReady 3 = true)
    (hlen : msg.length = 136) (hok : s.helloOk cid msg = true) (hhs : (s.con cid).hs = none) :
    execHello cid msg s = .next (s.startAnswer cid msg) := by
  unfold execHello
  rw [if_neg (by simp [hlink, hready, hcid]), if_neg (not_not_intro hlen), if_neg (by simp [hok]), hhs]

theorem execAnswer_initiator {h : Hs} (hlink : s.linkUp = true) (hcid : cid < 1088) (hlen : msg.length = 136)
    (hhs : (s.con cid).hs = some h) (hinit : h.initiator = true) (hmsg : hsMsg msg = 2) :
    execAnswer cid msg s = .next (if s.answerOk cid h msg then
      (s.emitHs cid (hsFinish (hsTf h.hello msg))).openConduit cid { h with answer := msg } (hsEph msg) (hsIdkey msg)
        false (hsFinish (hsTf h.hello msg))
      else s.answerFails cid) := by
  unfold execAnswer
  refine congrArg Host.Outcome.next ((past_port_checks hlink hcid hlen).trans ((if_neg (not_not_intro hmsg)).trans ?_))
  rw [hhs]
  exact if_neg (by simp [hinit])

theorem execFinish_responder {h : Hs} (hlink : s.linkUp = true) (hcid : cid < 1088) (hlen : msg.length = 136)
    (hhs : (s.con cid).hs = some h) (hinit : h.initiator = false) (hmsg : hsMsg msg = 3)
    (hverify : hsRole h.hello = 2 ∨ Config.edVerify (hsIdkey h.hello) (ascii "NQ288 finish" ++ hsTf h.hello h.answer)
      (hsSig msg) = true) :
    execFinish cid msg s = .next (s.openConduit cid h (hsEph h.hello) (hsIdkey h.hello) (hsRole h.hello = 2) []) := by
  unfold execFinish
  refine congrArg Host.Outcome.next ((past_port_checks hlink hcid hlen).trans ?_)
  rw [hhs]
  exact (if_neg (by simp [hinit, hmsg])).trans (if_pos (by simpa using hverify))

theorem execHandshakeAbandon_responder {h : Hs} (hhs : (s.con cid).hs = some h) (hinit : h.initiator = false) :
    execHandshakeAbandon cid s = .next (s.modCon cid (fun k => { k with
      hs := none, st := if k.st = .opening then h.was else k.st })) := by
  unfold execHandshakeAbandon
  rw [hhs]
  refine congrArg Host.Outcome.next ((if_neg (by simp [hinit])).trans ?_)
  unfold State.dropHs
  rw [hhs]

/-- A conduit that was not open, while no command waits, takes the keys of its handshake (R512, R513). -/
theorem State.openConduit_eq (hst : (s.con cid).st ≠ .opened) (hbusy : s.pilot.busy = none) (h : Hs)
    (other idkey : List Byte) (anon : Bool) (fin : List Byte) :
    s.openConduit cid h other idkey anon fin =
      let prk := Config.hkdfExtract (hsTf h.hello h.answer) (Config.xShared h.priv other)
      let ir := Config.hkdfExpand prk (ascii "NQ288 i to r") 64
      let ri := Config.hkdfExpand prk (ascii "NQ288 r to i") 64
      s.setCon cid {
        st := .opened, anon := anon, idkey := idkey, lastFinish := fin
        secTx := if h.initiator then ir else ri, secRx := if h.initiator then ri else ir
        rc := s.linkRate, retxCnt := (s.con cid).retxCnt } := by
  unfold State.openConduit State.busyPkt
  simp only [hst, if_false, State.setCon_pilot, hbusy]

end Handshakes

/-- Settles O55: each handshake message has the answer and the state that its rules give. -/
theorem handshakesComplete : Obligations.HandshakesComplete := by
  unfold Obligations.HandshakesComplete
  intro s cid msg hlink hcid k rest
  refine ⟨fun hready hlen hok hhs => ?hello, fun h hhs hlen => ⟨fun hinit hmsg => ⟨fun hok => ?answered, fun hno => ?fails⟩,
      fun hinit hmsg hverify => execFinish_responder hlink hcid hlen hhs hinit hmsg hverify⟩,
    fun h hhs => ⟨fun hinit => ?helloAgain, fun hinit => ?answerAgain, fun hinit => ?abandon⟩, ?keys⟩
  case hello =>
    have ht := (State.startAnswer_eq (msg := msg) hhs).trans (State.emitHs_eq ..)
    have hcon : (s.startAnswer cid msg).con cid = _ := (congrArg (State.con · cid) ht).trans (State.con_setCon ..)
    refine ⟨_, _, execHello_fresh hlink hcid hready hlen hok hhs, ⟨fun c hc => ?_, ?_, ?_⟩, congrArg Conduit.hs hcon,
      rfl, rfl, rfl, congrArg Conduit.st hcon, rfl⟩
    · rw [ht]
      exact State.con_setCon_of_ne _ _ hc
    · rw [ht]
      rfl
    · rw [ht]
      rfl
  case answered => exact (execAnswer_initiator hlink hcid hlen hhs hinit hmsg).trans (congrArg _ (if_pos hok))
  case fails =>
    exact (execAnswer_initiator hlink hcid hlen hhs hinit hmsg).trans
      (congrArg _ (if_neg (ne_true_of_eq_false hno)))
  case helloAgain =>
    change execHelloResend cid s = _
    unfold execHelloResend
    rw [show (s.con cid).hs = some h from hhs]
    exact congrArg Host.Outcome.next (if_pos hinit)
  case answerAgain =>
    change execAnswerResend cid s = _
    unfold execAnswerResend
    rw [show (s.con cid).hs = some h from hhs]
    exact congrArg Host.Outcome.next (if_neg (ne_true_of_eq_false hinit))
  case abandon =>
    exact ⟨_, execHandshakeAbandon_responder hhs hinit, s.modCon_sameBut cid _, State.con_modCon ..⟩
  case keys =>
    intro h other idkey anon fin hst hbusy prk ir ri t
    have ht := State.openConduit_eq hst hbusy h other idkey anon fin
    rw [show t = _ from ht]
    exact ⟨s.setCon_sameBut cid _, State.con_setCon ..⟩

end Sys2Proof.Machine

/-! ## The messages between a home and its holders (R346, R349 to R351, R463) -/

namespace Sys2Proof.Machine

open Sys2Proof

section Messages

variable {s u : State} {d vpn msg : Nat}

/-- A message that is taken is served (R467). -/
theorem State.onCir_taken (h : s.takeCir d (fun o => o.isMsg msg (vpn * pageSize)) = some u) (f : State → State) :
    s.onCir d msg vpn f = f u := by
  unfold State.onCir
  rw [h]

/-! ### The home (R346, R349, R351) -/

theorem State.peerAsk_homed (h : u.homed vpn = true) (r : HomeReq) : u.peerAsk d vpn r = u.homeAsk vpn r := if_pos h

theorem State.peerAsk_not_homed (h : u.homed vpn = false) (r : HomeReq) : u.peerAsk d vpn r = u.cir d msgGone vpn :=
  if_neg (ne_true_of_eq_false h)

theorem State.homeAnswered_awaited (h : d ∈ (u.dir vpn).await) : u.homeAnswered d vpn =
    State.homeGo (u.setDir vpn { u.dir vpn with
      await := setDel (u.dir vpn).await d, readers := setDel (u.dir vpn).readers d
      owner := if (u.dir vpn).owner = some d then none else (u.dir vpn).owner }) vpn :=
  if_pos (List.contains_iff_mem.mpr h)

theorem State.homeAnswered_not_awaited (h : d ∉ (u.dir vpn).await) : u.homeAnswered d vpn = u :=
  if_neg (fun hc => h (List.contains_iff_mem.mp hc))

theorem execNocopy_not_late (h : s.takeCir d (fun o => o.isMsg msgNocopy (vpn * pageSize)) = some u)
    (hlate : d ∉ (u.dir vpn).late) : execNocopy d vpn s = .next (u.homeAnswered d vpn) :=
  congrArg Host.Outcome.next ((State.onCir_taken h _).trans (if_neg (fun hc => hlate (List.contains_iff_mem.mp hc))))

/-- A reader drops its copy: the home has the page to itself once no reader is left (R349). -/
theorem State.readerDrops_eq (u : State) (d vpn : Nat) : u.readerDrops d vpn =
    if d ∈ (u.dir vpn).readers ∧ setDel (u.dir vpn).readers d = [] ∧ (u.dir vpn).owner = none ∧
        (u.dir vpn).cur = none then
      match u.pte? vpn with
      | some e => ((u.setDir vpn { u.dir vpn with readers := setDel (u.dir vpn).readers d }).setPte vpn
          { e with shared := false }).settlePins
      | none => u.setDir vpn { u.dir vpn with readers := setDel (u.dir vpn).readers d }
    else u.setDir vpn { u.dir vpn with readers := setDel (u.dir vpn).readers d } := by
  unfold State.readerDrops
  refine if_congr ?_ rfl rfl
  simp only [Bool.and_eq_true, List.contains_iff_mem, List.isEmpty_iff, Option.isNone_iff_eq_none, and_assoc]

end Messages

/-- Settles O32: the home serves what its peers ask of a page that it homes, and answers GONE for others. -/
theorem homeMessagesComplete : Obligations.HomeMessagesComplete := by
  unfold Obligations.HomeMessagesComplete
  intro s u d vpn r takes
  refine ⟨fun h => ⟨fun hh => ?rd, fun hh => ?rdGone⟩, fun h => ⟨fun hh => ?wr, fun hh => ?wrGone⟩,
    fun i m him h hlate => ?answers, fun h hlate => ?late, ?drop, fun h hown => ?wb,
    fun va size h => ⟨fun p hp => ?grants, fun hp => ?refuses⟩⟩
  case rd => exact congrArg Host.Outcome.next ((State.onCir_taken h _).trans (State.peerAsk_homed hh _))
  case rdGone => exact congrArg Host.Outcome.next ((State.onCir_taken h _).trans (State.peerAsk_not_homed hh _))
  case wr => exact congrArg Host.Outcome.next ((State.onCir_taken h _).trans (State.peerAsk_homed hh _))
  case wrGone => exact congrArg Host.Outcome.next ((State.onCir_taken h _).trans (State.peerAsk_not_homed hh _))
  case answers =>
    have hrow : exec i s = .next (u.homeAnswered d vpn) := by
      simp only [List.mem_cons, Prod.mk.injEq, List.mem_nil_iff, or_false] at him
      rcases him with ⟨rfl, rfl⟩ | ⟨rfl, rfl⟩
      · exact congrArg Host.Outcome.next (State.onCir_taken h _)
      · exact execNocopy_not_late h (hlate rfl)
    exact ⟨fun hin => hrow.trans (congrArg _ (State.homeAnswered_awaited hin)),
      fun hout => hrow.trans (congrArg _ (State.homeAnswered_not_awaited hout))⟩
  case late =>
    exact congrArg Host.Outcome.next ((State.onCir_taken h _).trans (if_pos (List.contains_iff_mem.mpr hlate)))
  case drop =>
    intro h r'
    have hrow : exec (.drop d vpn) s = .next (u.readerDrops d vpn) :=
      congrArg Host.Outcome.next (State.onCir_taken h _)
    refine ⟨fun hlast => ⟨fun e he => ?_, fun he => ?_⟩, fun hstay => ?_⟩
    · rw [hrow, State.readerDrops_eq, if_pos hlast, he]
    · rw [hrow, State.readerDrops_eq, if_pos hlast, he]
    · rw [hrow, State.readerDrops_eq, if_neg hstay]
  case wb => exact congrArg Host.Outcome.next ((State.onCir_taken h _).trans (if_pos hown))
  case grants =>
    change execMapq d va size s = _
    unfold execMapq
    rw [h]
    dsimp only
    rw [hp]
  case refuses =>
    change execMapq d va size s = _
    unfold execMapq
    rw [h]
    dsimp only
    rw [hp]

/-! ### The holder (R346, R349, R350) -/

section Holder

variable {s u : State} {d vpn : Nat} {e : Pte} {k : Owed}

theorem State.settle_of_no_fetch (h : u.cirrus.fetches.find? vpn = none) : u.settle vpn = u := by
  unfold State.settle
  rw [h]
  split <;> simp_all

theorem State.pte_of_peerPage (h : u.peerPage d vpn = some e) : u.pte? vpn = some e := by
  unfold State.peerPage at h
  split at h
  · split at h
    · cases h
      assumption
    · cases h
  · cases h

/-- What a holder does with a request of the home, with no fetch under way (R350). -/
theorem State.holderAsked_eq (hf : u.cirrus.fetches.find? vpn = none) : u.holderAsked d vpn k =
    match u.peerPage d vpn with
    | none => u.cir d msgNocopy vpn
    | some e =>
      if e.acc = .none then u.cir d msgNocopy vpn
      else if (e.acc = .read) ≠ (k = .inv) then u
      else if u.pinned vpn then { u with cirrus := { u.cirrus with owed := u.cirrus.owed ++ [(d, vpn, k)] } }
      else u.holderAnswer d vpn k := by
  unfold State.holderAsked
  rw [State.settle_of_no_fetch hf] <;> rfl

theorem State.goneNow_unused (hf : u.cirrus.fetches.find? vpn = none) (hacc : e.acc = .none) : u.goneNow vpn e =
    ((u.remap vpn { e with v := false, acc := .none, plx := 0, fail := false }).wakeVpn vpn).wakeStuck := by
  have hdrop : u.dropFetch vpn e = u := by
    unfold State.dropFetch
    rw [hf]
  unfold State.goneNow
  rw [hdrop]
  dsimp only
  rw [if_pos hacc]

/-- A copy of the kind that the home asks for is given up, at once or once no pin holds the page (R350). -/
theorem State.holderAsked_copy (hf : u.cirrus.fetches.find? vpn = none) (hp : u.peerPage d vpn = some e)
    (hacc : e.acc = if k = .inv then .read else .write) : u.holderAsked d vpn k =
      if u.pinned vpn then { u with cirrus := { u.cirrus with owed := u.cirrus.owed ++ [(d, vpn, k)] } }
      else u.holderAnswer d vpn k := by
  have hsome : e.acc ≠ .none := by
    rw [hacc]
    split <;> decide
  have hkind : (e.acc = .read) = (k = .inv) := by
    rw [hacc]
    split <;> simp_all
  rw [State.holderAsked_eq hf, hp]
  exact (if_neg hsome).trans (if_neg (not_not_intro hkind))

theorem State.holderAsked_no_page (hf : u.cirrus.fetches.find? vpn = none) (hp : u.peerPage d vpn = none) :
    u.holderAsked d vpn k = u.cir d msgNocopy vpn := by
  rw [State.holderAsked_eq hf, hp]

theorem State.holderAsked_no_copy (hf : u.cirrus.fetches.find? vpn = none) (hp : u.peerPage d vpn = some e)
    (hacc : e.acc = .none) : u.holderAsked d vpn k = u.cir d msgNocopy vpn := by
  rw [State.holderAsked_eq hf, hp]
  exact if_pos hacc

/-- The row of each request of the home is the holder's answer to it. -/
theorem exec_holderAsked {i : Instr} {msg : Nat}
    (hi : (i, msg, k) ∈ [(Instr.inv d vpn, msgInv, Owed.inv), (.recallR d vpn, msgRecallR, .recall false),
      (.recallW d vpn, msgRecallW, .recall true)])
    (h : s.takeCir d (fun o => o.isMsg msg (vpn * pageSize)) = some u) :
    exec i s = .next (u.holderAsked d vpn k) := by
  simp only [List.mem_cons, Prod.mk.injEq, List.mem_nil_iff, or_false] at hi
  rcases hi with ⟨rfl, rfl, rfl⟩ | ⟨rfl, rfl, rfl⟩ | ⟨rfl, rfl, rfl⟩
  · exact congrArg Host.Outcome.next (State.onCir_taken h _)
  · exact congrArg Host.Outcome.next (State.onCir_taken h _)
  · exact congrArg Host.Outcome.next (State.onCir_taken h _)

theorem State.gone_eq (hp : u.peerPage d vpn = some e) : u.gone d vpn =
    if u.pinHeld vpn then { u with cirrus := { u.cirrus with owed := u.cirrus.owed ++ [(d, vpn, .gone)] } }
    else u.goneNow vpn e := by
  unfold State.gone
  rw [hp]

theorem State.grant_eq {f : Fetch} (hp : u.peerPage d vpn = some e) (hf : u.cirrus.fetches.find? vpn = some f)
    (hdata : f.data = false) (hacc : e.acc = .read)
    (h : s.takeCir d (fun o => o.isMsg msgGrant (vpn * pageSize)) = some u) :
    execGrantWithoutData d vpn s = .next (u.fetchDone vpn e { f with write := true }) := by
  refine congrArg Host.Outcome.next ((State.onCir_taken h _).trans ?_)
  rw [hp, hf]
  exact if_pos (by simp [hdata, hacc])

end Holder

/-! ### Parts of a page (R463) -/

section Parts

variable {s u : State} {d va : Nat} {e : Pte} {last : Bool} {pmap : BitVec 64} {data : List Byte}

/-- A whole part at its own address that cirrus takes goes where the page says. -/
theorem execPage_taken (hva : va % 4096 = 0) (hlen : data.length = 4096) (hheld : s.partHeld va = false)
    (hgo : s.cirGoes (vpnOf va) = true)
    (h : s.takeCir d (fun o => o.op = 0x11#8 && decide (o.addr.toNat = va) && o.opnd.getLsbD 0 = last &&
      o.pmap = pmap && o.data = data) = some u) :
    execPage d va last pmap data s = .next (u.pagePart d va last pmap data) := by
  have haddr : va / 4096 * 4096 = va := Nat.div_mul_cancel (Nat.dvd_of_mod_eq_zero hva)
  have hdata : (data ++ List.replicate 4096 0).take 4096 = data := List.take_left' hlen
  unfold execPage
  dsimp only
  rw [haddr, hdata]
  exact congrArg Host.Outcome.next ((if_neg (by simp [hheld, hgo])).trans (by rw [h]))

theorem State.pagePart_fetch {f : Fetch} (he : u.pte? (vpnOf va) = some e)
    (hf : u.cirrus.fetches.find? (vpnOf va) = some f) (hres : e.res = .peer) (hhome : e.home = d) (hdata : f.data = true)
    (hstarved : f.starved = false) :
    let g := { f with got := bitSet f.got (va % pageSize / 4096) true }
    let t := (u.fetchPart e g (va % pageSize / 4096) data pmap).setFetch (vpnOf va) g
    u.pagePart d va last pmap data = if last then t.fetchDone (vpnOf va) e g else t := by
  unfold State.pagePart
  dsimp only
  rw [he, hf]
  exact if_pos (by simp [hres, hhome, hdata, hstarved])

theorem State.pagePart_owned (he : u.pte? (vpnOf va) = some e) (hf : u.cirrus.fetches.find? (vpnOf va) = none)
    (hown : (u.dir (vpnOf va)).owner = some d) :
    let pa := u.paOf e (va % pageSize)
    let t := (u.pageWrite e (va % pageSize) data (fun x => pmap.getLsbD (x - pa / 64))).granWritten (pa / 4096 * 4096)
    u.pagePart d va last pmap data = if last then (t.syncPage e).pageReturned d (vpnOf va) else t := by
  unfold State.pagePart
  dsimp only
  rw [he, hf]
  exact if_pos hown

end Parts

/-- Settles O33: a holder answers each message of the home by what it holds of the page. -/
theorem holderMessagesComplete : Obligations.HolderMessagesComplete := by
  unfold Obligations.HolderMessagesComplete
  intro s u d vpn e takes
  refine ⟨fun i m k hi h hf => ?asked, fun h hp => ⟨fun hpin => ?goneLater, fun hpin => ⟨?goneNow, State.goneNow_unused⟩⟩,
    fun f h hp hf hdata hacc => State.grant_eq hp hf hdata hacc h, ?page⟩
  case asked =>
    have hrow := exec_holderAsked hi h
    refine ⟨fun hp => ?_, fun hp => ⟨fun hacc => ?_, fun hacc => ?_⟩⟩
    · rw [hrow, State.holderAsked_no_page hf hp]
    · rw [hrow, State.holderAsked_no_copy hf hp hacc]
    · rw [hrow, State.holderAsked_copy hf hp hacc]
      refine ⟨fun hpin => by rw [if_pos hpin], fun hpin hinv => ?_, fun b hpin hrecall => ?_⟩
      · rw [if_neg (ne_true_of_eq_false hpin), State.holderAnswer, State.pte_of_peerPage hp, hinv]
      · rw [if_neg (ne_true_of_eq_false hpin), State.holderAnswer, State.pte_of_peerPage hp, hrecall]
  case goneLater =>
    exact congrArg Host.Outcome.next ((State.onCir_taken h _).trans ((State.gone_eq hp).trans (if_pos hpin)))
  case goneNow =>
    exact congrArg Host.Outcome.next ((State.onCir_taken h _).trans
      ((State.gone_eq hp).trans (if_neg (ne_true_of_eq_false hpin))))
  case page =>
    rintro va last pmap data hva hlen rfl hheld hgo h he
    have hrow := execPage_taken hva hlen hheld hgo h
    refine ⟨fun f hf hres hhome hdata hstarved => ?_, fun hf hown => ?_⟩
    · exact hrow.trans (congrArg _ (State.pagePart_fetch he hf hres hhome hdata hstarved))
    · exact hrow.trans (congrArg _ (State.pagePart_owned he hf hown))

end Sys2Proof.Machine

/-! ## Beacons, cuts, TRIGGER_N and the checkpoint's stream (R425 to R433, R438, R441) -/

namespace Sys2Proof.Machine

open Sys2Proof

/-! ### What waking the waiters of pages changes (R221, R355) -/

/-- `t` differs from `s` in the words drawn, the conduits, cirrus and the lanterns at most. -/
def State.SameBoard (s t : State) : Prop :=
  t = { s with freeCtr := t.freeCtr, xpt := t.xpt, cirrus := t.cirrus, lans := t.lans }

section SameBoard

variable {s t u : State}

theorem State.SameBoard.refl (s : State) : s.SameBoard s := rfl

theorem State.SameBoard.trans (h : s.SameBoard t) (k : t.SameBoard u) : s.SameBoard u := by
  unfold State.SameBoard at *
  rw [k, h]

theorem State.SameBoard.foldl {α : Type} {f : State → α → State} (hf : ∀ (s : State) (a : α), s.SameBoard (f s a))
    (xs : List α) (s : State) : s.SameBoard (xs.foldl f s) := by
  induction xs generalizing s with
  | nil => exact .refl s
  | cons a t ih => exact (hf s a).trans (ih (f s a))

theorem State.SameBoard.pilot (h : s.SameBoard t) : t.pilot = s.pilot := by rw [h]

theorem State.SameBoard.mem (h : s.SameBoard t) : t.mem = s.mem := by rw [h]

end SameBoard

section Waking

variable (s : State)

theorem State.setCon_sameBoard (cid : Nat) (k : Conduit) : s.SameBoard (s.setCon cid k) := rfl

theorem State.cirrus_sameBoard (n : Nat) (c : Cirrus) : s.SameBoard { s with freeCtr := n, cirrus := c } := rfl

theorem State.send_sameBoard (cid : Nat) (typ : Byte) (payload : List Byte) : s.SameBoard (s.send cid typ payload) := by
  unfold State.send
  dsimp only
  split <;> rfl

theorem State.sendReq_sameBoard (cid : Nat) (op : Byte) (addr opnd : Dword) (len : Nat) (f : ReqFor) :
    s.SameBoard (s.sendReq cid op addr opnd len f) := by
  unfold State.sendReq
  dsimp only
  split
  · exact (s.setCon_sameBoard cid _).trans (State.send_sameBoard ..)
  · rfl

theorem State.hostReads_sameBoard (h addr vpn critical : Nat) : s.SameBoard (s.hostReads h addr vpn critical) := by
  unfold State.hostReads
  exact (State.sendReq_sameBoard ..).trans
    (.foldl (fun s sp => .foldl (fun s i => State.sendReq_sameBoard ..) _ s) _ _)

theorem State.askHome_sameBoard (vpn : Nat) (e : Pte) (f : Fetch) : s.SameBoard (s.askHome vpn e f) := by
  unfold State.askHome
  split
  · exact State.send_sameBoard ..
  · split
    · exact State.hostReads_sameBoard ..
    · rfl

theorem State.placeOne_sameBoard (e : Pte) (parity : Bool) (j k : Nat) : s.SameBoard (s.placeOne e parity j k) := by
  unfold State.placeOne
  split <;> rfl

theorem State.seat_sameBoard (e : Pte) (p : Nat) : s.SameBoard (s.seat e p).1 := by
  unfold State.seat
  dsimp only
  split
  · rfl
  · exact (s.cirrus_sameBoard _ _).trans ((State.SameBoard.foldl (fun s g => State.placeOne_sameBoard ..) _ _).trans
      (.foldl (fun s j => .foldl (fun s q => State.placeOne_sameBoard ..) _ s) _ _))

theorem State.seatFetch_sameBoard (vpn : Nat) (e : Pte) (f : Fetch) (p : Nat) : s.SameBoard (s.seatFetch vpn e f p) := by
  unfold State.seatFetch
  exact ((s.cirrus_sameBoard _ _).trans (State.seat_sameBoard _ e p)).trans
    ((State.cirrus_sameBoard _ _ _).trans (State.askHome_sameBoard ..))

theorem State.feed_sameBoard : s.SameBoard s.feed := by
  refine .foldl (fun s p => ?_) _ s
  split
  · split
    · exact State.seatFetch_sameBoard ..
    · rfl
  · rfl

theorem State.wakeVpn_sameBoard (vpn : Nat) : s.SameBoard (s.wakeVpn vpn) := rfl

/-- Waking every waiter that a page may serve now leaves the pilot, the beacon and the memory as they are. -/
theorem State.wakeStuck_sameBoard : s.SameBoard s.wakeStuck :=
  s.feed_sameBoard.trans (.foldl State.wakeVpn_sameBoard _ _)

end Waking

/-! ### The beacon arrives (R425 to R427) -/

section Beacon

variable {s : State} {b chan crossed : Nat} {k : Blk}

theorem State.hasLatched_iff {a : Nat} : s.hasLatched a = true ↔ a ∈ s.beacon.latched := List.contains_iff_mem

theorem State.beaconNear_iff : s.beaconNear b chan = true ↔
    ∀ a ∈ s.cutBlocks, Config.feeds b chan a = true → a ∈ s.beacon.latched := by
  simp only [State.beaconNear, List.all_eq_true, Bool.or_eq_true, Bool.not_eq_true', State.hasLatched_iff,
    ← Bool.not_eq_true, imp_iff_not_or]

/-- The first arrival on an input once every sender there has latched: it is counted at an origin, and marks the
input of another block (R426, R427). -/
theorem execBeaconChannelArrival_near (hk : blkOfSrc b = some k) (hon : s.blkOn k = true)
    (hnew : (b, chan) ∉ s.beacon.arrived)
    (hnear : ∀ a ∈ s.cutBlocks, Config.feeds b chan a = true → a ∈ s.beacon.latched) :
    execBeaconChannelArrival b chan crossed s =
      .next (if isOrigin k then s.inputCounted k b chan crossed else s.inputMarked k b chan) := by
  unfold execBeaconChannelArrival
  rw [hk]
  refine congrArg Host.Outcome.next (if_neg ?_)
  simp [hon, hnew, State.beaconNear_iff.mpr hnear]

theorem State.inputCounted_latched {i : Nat} (hlatched : b ∈ s.beacon.latched) (hi : inflightAt k = some i) :
    s.inputCounted k b chan crossed = { s with beacon := { s.beacon with
      arrived := s.beacon.arrived ++ [(b, chan)]
      sets := s.beacon.sets.put b (addInflight (s.beacon.sets.getD b []) i crossed) } } := by
  unfold State.inputCounted
  rw [if_neg (by simp [State.hasLatched_iff.mpr hlatched]), hi]

theorem State.inputMarked_inflight (hfly : s.pilot.inflight = true) (hset : (setLength k).isSome = true) :
    let t := { s with beacon := { s.beacon with arrived := s.beacon.arrived ++ [(b, chan)] } }
    s.inputMarked k b chan = if Config.forwardInputs b ≤ (t.beacon.arrived.filter (fun p => p.1 = b)).length ∧
      b ∉ s.beacon.latched then t.latch k b else t := by
  unfold State.inputMarked
  rw [if_neg (by simp [hfly, ← Option.not_isSome, hset])]
  refine if_congr ?_ rfl rfl
  simp [State.hasLatched]

end Beacon

/-! ### The end of a cut (R429, R432) -/

section Cuts

variable {s : State}

/-- What a complete cut does for its source, and the event counter that then advances: a checkpoint streams under
its key (R440). -/
def State.cutSource (s : State) : State × Option Nat :=
  match s.pilot.snapSrc.toNat, s.ckpt with
  | 4, some c =>
    let (sec, salt) := s.ckSecret false
    ({ s with ckpt := some { c with
        streaming := true, stamp := s.pilot.stamp
        key := ckKey sec salt devKey s.pilot.stamp.toNat c.gen.toNat } },
      if c.cutEn then some c.cutEvt else none)
  | _, _ => (s, none)

/-- The pilot marks the set of a complete cut as valid (R432). -/
def State.cutValid (s : State) : State :=
  { s with pilot := { s.pilot with inflight := false, snapValid := true, compStamp := s.pilot.stamp } }

theorem execCutComplete_eq (hfly : s.pilot.inflight = true) (hall : s.cutBlocks.all s.hasLatched = true) :
    execCutComplete s = .next ((match s.cutValid.cutSource.2 with
      | some e => (s.cutValid.cutSource.1.tellCut true).addEvent e 1
      | none => s.cutValid.cutSource.1.tellCut true).ckNext).afterCut.wakeStuck := by
  unfold execCutComplete
  rw [if_neg (by simp [hfly, hall])]
  rfl

theorem State.cutSource_plain (hsrc : s.pilot.snapSrc ≠ 4) : s.cutSource = (s, none) := by
  unfold State.cutSource
  split
  next h4 _ => exact absurd (BitVec.eq_of_toNat_eq h4) hsrc
  next => rfl

/-- The key under which a checkpoint streams (R516). -/
def State.streamKey (s : State) (c : Ckpt) : List Byte :=
  ckKey (s.ckSecret false).1 (s.ckSecret false).2 devKey s.pilot.stamp.toNat c.gen.toNat

theorem State.cutSource_ckpt {c : Ckpt} (hsrc : s.pilot.snapSrc = 4) (hc : s.ckpt = some c) :
    s.cutSource = ({ s with ckpt := some { c with
      streaming := true, stamp := s.pilot.stamp
      key := s.streamKey c } }, if c.cutEn then some c.cutEvt else none) := by
  unfold State.cutSource
  rw [hsrc, hc]
  rfl

/-- A withdrawn cut: what waits for the beacon goes on, and the record names the cut's ID and source (R429). -/
theorem execCutWithdrawn_inflight (hfly : s.pilot.inflight = true) :
    let q : State := State.wakeStuck { s with pilot := { s.pilot with inflight := false, incomplete := true } }
    let t := if q.pilot.snapSrc = 4 ∧ q.ckpt ≠ none then q.ckStop else q
    execCutWithdrawn s = .next ((t.tellCut false).afterCut.record
      { src := 0, cls := clsInfo, code := 0x0416
        aux := s.pilot.snapId.toNat + 65536 * s.pilot.snapSrc.toNat }) := by
  intro q t
  have hq : q.pilot = { s.pilot with inflight := false, incomplete := true } := (State.wakeStuck_sameBoard _).pilot
  have ht : t = if (decide (q.pilot.snapSrc = 4#3) && q.ckpt.isSome) = true then q.ckStop else q := by
    refine if_congr ?_ rfl rfl
    simp [Option.isSome_iff_ne_none]
  have hid : q.pilot.snapId = s.pilot.snapId ∧ q.pilot.snapSrc = s.pilot.snapSrc := by
    rw [hq]
    exact ⟨rfl, rfl⟩
  obtain ⟨hid, hsrc⟩ := hid
  unfold execCutWithdrawn
  rw [if_neg (by simp [hfly]), ← hid, ← hsrc, ht]

end Cuts

/-- Settles O43: a beacon that arrives latches, marks or counts; a cut ends whole or withdrawn. -/
theorem beaconsAndCutsComplete : Obligations.BeaconsAndCutsComplete := by
  unfold Obligations.BeaconsAndCutsComplete
  refine ⟨fun s b chan crossed k hk hon => ⟨fun hfly horigin hnew => ?tree,
      fun hnew hnear => ⟨fun i horigin hlatched hi => ?counted, ?marked⟩, fun a ha hfeeds hlate => ?far⟩,
    fun s hfly => ⟨fun hall hsrc => ?plain, fun hall hsrc c hc => ?ckpt, fun hno => ?waits,
      execCutWithdrawn_inflight hfly⟩⟩
  case tree =>
    change execBeaconTreeArrival b s = _
    unfold execBeaconTreeArrival
    rw [hk]
    exact congrArg Host.Outcome.next (if_pos (by simp [hfly, hon, horigin, State.hasLatched, hnew]))
  case counted =>
    refine ⟨_, (execBeaconChannelArrival_near hk hon hnew hnear).trans
      (congrArg _ ((if_pos horigin).trans (State.inputCounted_latched hlatched hi))), rfl, rfl, rfl, rfl, ?_⟩
    exact Tab.getD_put_self ..
  case marked =>
    intro hfly hno hset t n
    exact (execBeaconChannelArrival_near hk hon hnew hnear).trans
      (congrArg _ ((if_neg (ne_true_of_eq_false hno)).trans (State.inputMarked_inflight hfly hset)))
  case far =>
    have hfar : s.beaconNear b chan = false :=
      Bool.eq_false_iff.mpr (fun h => hlate (State.beaconNear_iff.mp h a ha hfeeds))
    change execBeaconChannelArrival b chan crossed s = _
    unfold execBeaconChannelArrival
    rw [hk]
    exact congrArg Host.Outcome.next (if_pos (by simp [hfar]))
  case plain =>
    refine (execCutComplete_eq hfly hall).trans ?_
    rw [State.cutSource_plain (show s.cutValid.pilot.snapSrc ≠ 4 from hsrc)]
    rfl
  case ckpt =>
    refine ⟨{ s.cutValid with ckpt := some { c with
      streaming := true, stamp := s.pilot.stamp, key := s.cutValid.streamKey c } }, s.cutValid.streamKey c,
      (execCutComplete_eq hfly hall).trans ?_, rfl, rfl, rfl⟩
    rw [State.cutSource_ckpt (show s.cutValid.pilot.snapSrc = 4 from hsrc) (show s.cutValid.ckpt = some c from hc)]
    cases c.cutEn <;> rfl
  case waits => exact congrArg Host.Outcome.next (if_pos (by simp [hno]))

end Sys2Proof.Machine

/-! ## TRIGGER_N and the checkpoint's stream (R430 to R433, R438, R441) -/

namespace Sys2Proof.Machine

open Sys2Proof

theorem ite_bnot {α : Type} (c : Bool) (a b : α) : (if (!c) = true then a else b) = if c = true then b else a := by
  cases c <;> rfl

section Trigger

variable {s : State}

/-- The pilot after an armed trigger. -/
def Pilot.triggered (p : Pilot) : Pilot :=
  { p with trigLevel := false, trigArmed := false, trigLast := some p.stamp }

/-- An armed trigger within 1 ms of the last one is counted; any other starts a beacon where EN is set (R433). -/
theorem execTrigger_armed (hstart : s.pilot.started = true) (hmask : s.trigMasked = false)
    (harm : s.pilot.trigArmed = true) (hstuck : s.pilot.trigStuck = false) : execTrigger s =
      .next (if s.msPast s.pilot.trigLast then
        if s.pilot.trigEn then State.beaconTrigger { s with pilot := s.pilot.triggered } 1
        else { s with pilot := s.pilot.triggered }
      else { s with pilot := { s.pilot.triggered with trigDrop := satAdd 8 s.pilot.trigDrop 1 } }) := by
  unfold execTrigger
  dsimp only
  rw [if_neg (by simp [hstart, hmask]), if_neg (by simp [harm, hstuck])]
  unfold State.msPast
  cases s.pilot.trigLast with
  | none => rfl
  | some t => exact congrArg Host.Outcome.next (ite_bnot _ _ _)

end Trigger

section Stream

variable {s : State} {c : Ckpt} {vpn i : Nat}

/-- The stream of a page whose destinations are open and that is not under a move (R441). -/
theorem execPageStream_page (hc : s.ckpt = some c) (hstream : c.streaming = true)
    (hopen : c.dests.all (fun d => decide ((s.con (hostCid d.ep)).st = .opened)) = true)
    (hpick : s.ckPick c = some (vpn, i)) (hmove : s.cirrus.moving.contains vpn = false) (hgo : s.cirGoes vpn = true) :
    execPageStream s = .next (if (s.dir vpn).owner.isSome then
        State.homeAsk { s with ckpt := some { c with recalled := setIns c.recalled vpn } } vpn .localRead
      else if (match s.ckSource c vpn with
        | some (_, pa) => s.ckReadWaits pa
        | none => false) then s
      else s.streamPage c vpn i) := by
  unfold execPageStream
  rw [hc]
  dsimp only
  rw [if_neg (by simp [hstream]), if_neg (by simp [hopen]), hpick]
  dsimp only
  rw [if_neg (by rw [hgo, hmove]; exact Bool.false_ne_true)] <;> rfl

end Stream

/-- Settles O44: each trigger's outcome follows from the pilot's trigger fields, and PAGE_STREAM streams, recalls
or stops. -/
theorem triggersAndStreamsComplete : Obligations.TriggersAndStreamsComplete := by
  unfold Obligations.TriggersAndStreamsComplete
  refine ⟨fun s hstart => ?trigger, fun s => ⟨fun b hb hop hwait hreach => ?cut, fun c hc hstream =>
    ⟨fun hclosed => ?abort, fun hopen vpn i hpick hmove hgo => ⟨fun hown hready => ?stream, fun hown => ?recalls⟩⟩⟩⟩
  case trigger =>
    intro p
    refine ⟨fun hmask harm hstuck => ?armed, ?rearm, fun hlow => ?stuck, rfl, fun hfly => ?counted, fun hidle => ?starts⟩
    case armed =>
      have hrow := execTrigger_armed hstart hmask harm hstuck
      refine ⟨fun hpast => ?_, fun t ht hsoon => ?_⟩
      · have hms : s.msPast p.trigLast = true := by
          cases hlast : p.trigLast with
          | none => rfl
          | some t => exact decide_eq_true (hpast t hlast)
        exact ⟨fun hen => hrow.trans (congrArg _ ((if_pos hms).trans (if_pos hen))),
          fun hen => hrow.trans (congrArg _ ((if_pos hms).trans (if_neg (ne_true_of_eq_false hen))))⟩
      · have hms : s.msPast p.trigLast = false := by
          rw [ht]
          exact decide_eq_false (Nat.not_le.mpr hsoon)
        exact hrow.trans (congrArg _ (if_neg (ne_true_of_eq_false hms)))
    case rearm => exact congrArg Host.Outcome.next (if_neg (by simp [hstart]))
    case stuck => exact congrArg Host.Outcome.next (if_pos (by simp [hstart, show s.pilot.trigLevel = false from hlow]))
    case counted => exact if_pos hfly
    case starts =>
      exact ⟨_, if_neg (ne_true_of_eq_false hidle), rfl, rfl, rfl, rfl, rfl, rfl, rfl, rfl⟩
  case cut =>
    change execCheckpointCutCondition s = _
    unfold execCheckpointCutCondition
    rw [hb]
    exact congrArg Host.Outcome.next (if_pos (by rw [hwait, hreach, hop]; rfl))
  case abort =>
    change execPageStream s = _
    unfold execPageStream
    rw [hc]
    exact congrArg Host.Outcome.next ((if_neg (by simp [hstream])).trans (if_pos (by rw [hclosed]; rfl)))
  case stream =>
    have hread : (match s.ckSource c vpn with
        | some (_, pa) => s.ckReadWaits pa
        | none => false) = false := by
      cases hsource : s.ckSource c vpn with
      | none => rfl
      | some x => exact hready x.1 x.2 hsource
    refine (execPageStream_page hc hstream hopen hpick hmove hgo).trans (congrArg _ ?_)
    rw [if_neg (by rw [hown]; exact Bool.false_ne_true), hread]
    rfl
  case recalls =>
    exact (execPageStream_page hc hstream hopen hpick hmove hgo).trans
      (congrArg _ (if_pos (Option.isSome_iff_ne_none.mpr hown)))

end Sys2Proof.Machine

/-! ## ALLOC and the home's MAPA (R343): the statement about MAPA takes another message than the row -/

namespace Sys2Proof.Machine

open Sys2Proof

/-- An ALLOC that waits for its home: all of its parameters are zero, so its home is device 0 and its VA is 0. -/
def waitingAlloc : CmdPkt := { ep := 0, length := 0, tag := 0, deadline := 0, flags := 0, plen := 0, params := [] }

/-- A MAPA about address 0 with STATUS 0, delivered on a conduit. -/
def acceptingMapa : DpOp :=
  { op := 0x10, status := 0, len := 0, rid := 0, addr := 0, opnd := 0x0D, pmap := 0, data := [] }

/-- A device whose ALLOC waits, with one delivered MAPA of device 0, of STATUS 0. -/
def mapaDelivered : State := { ({} : State) with
  pilot := { busy := some { opcode := 0x30, pkt := waitingAlloc, since := 0, waiting := true, lost := true } }
  xpt := { cons := [(0, { st := .opened, ops := [acceptingMapa] })] } }

/-- The row with STATUS 1 does not find its message: the one delivered has STATUS 0. -/
theorem execMapa_refusing_mapaDelivered : execMapa 0 0 0 1 mapaDelivered = .next mapaDelivered := rfl

/-- Refutes O48: its clause for a refused ALLOC asks only that some MAPA for the address has been delivered, whatever
its STR and STATUS. The row takes the message with its own STR and STATUS (R343, R467), so with the accepting MAPA
delivered the refusing row changes nothing, and the ALLOC does not end with RANGE. -/
theorem not_allocationAndMemoryCommandsComplete : ¬ Obligations.AllocationAndMemoryCommandsComplete := by
  unfold Obligations.AllocationAndMemoryCommandsComplete
  intro h
  let u : State := mapaDelivered.setCon 0 { st := .opened }
  obtain ⟨-, hmapa⟩ := h.1 mapaDelivered u waitingAlloc
  obtain ⟨hrefused, -⟩ := hmapa 0 0 1 rfl rfl rfl
  have hend : Host.Outcome.next mapaDelivered = Host.Outcome.next (u.finish stRange []) :=
    execMapa_refusing_mapaDelivered.symm.trans (hrefused (by decide))
  have hbusy : mapaDelivered.pilot.busy = (u.finish stRange []).pilot.busy :=
    congrArg (fun t => t.pilot.busy) (Host.Outcome.next.inj hend)
  exact absurd hbusy (by decide)

end Sys2Proof.Machine

/-! ## EN, register writes and the votes of TMR fields (R525, R529, R533 to R535) -/

namespace Sys2Proof.Machine

open Sys2Proof

/-! ### EN and register writes (R525, R529, R533) -/

section Writes

variable {s : State} {addr off : Nat} {b : Blk} {v : Word}

theorem State.enWrite_eq (hb : blkOf addr = some (b, 0)) (hreg : regExists b 0 = true) (hon : s.blkOn b = true) (en : Bool) :
    s.enWrite addr en = s.regWrite addr b 0 (bitSet (BitVec.ofNat 32 (s.regValue b 0)) 31 en) := by
  unfold State.enWrite
  rw [hb]
  exact if_pos (by simp [hreg, hon])

theorem State.pilotWrite_eq (hb : blkOf addr = some (b, off)) (hreg : regExists b off = true) (hon : s.blkOn b = true) :
    s.pilotWrite addr v = s.regWrite addr b off v := by
  unfold State.pilotWrite
  rw [hb]
  exact if_pos (by simp [hreg, hon])

theorem State.wickWrite_eq (hb : blkOf addr = some (b, off)) (hreg : regExists b off = true) (hon : s.blkOn b = true)
    (n : Nat) : s.wickWrite n addr v = if wickMayWrite n b off then s.regWrite addr b off v else s.setWie b := by
  unfold State.wickWrite
  rw [hb]
  exact if_pos (by simp [hreg, hon])

theorem execBlockIdle_lan {n : Nat} (hb : blkOf addr = some (.lan n, 0)) (hclr : (s.lan n).svc.clrPend = true)
    (hidle : (s.lan n).idle = true) : execBlockIdle addr s =
      .next (s.setLan n { s.lan n with svc := { (s.lan n).svc with en := false, clrPend := false } }) := by
  unfold execBlockIdle
  rw [hb]
  exact congrArg Host.Outcome.next (if_pos (by simp [hclr, hidle]))

theorem execBlockIdle_copy {n : Nat} (hb : blkOf addr = some (.copy n, 0)) (hclr : (s.eng n).clrPend = true)
    (hidle : s.engIdle n = true) : execBlockIdle addr s =
      .next (s.modEng n (fun e => { e with en := false, clrPend := false, cirHeld := [] })) := by
  unfold execBlockIdle
  rw [hb]
  exact congrArg Host.Outcome.next (if_pos (by simp [hclr, hidle]))

theorem execTmrFieldRead_eq {rq : Requester} {u : TmrUpset} (hb : blkOf addr = some (b, off))
    (hreg : regExists b off = true) (hon : s.blkOn b = true) (htmr : isTmr b off = true) : execTmrFieldRead rq addr u s =
      .next (((s.vote addr u).1.records (s.vote addr u).2).regRead rq addr b off).2 := by
  unfold execTmrFieldRead
  rw [hb]
  exact congrArg Host.Outcome.next (if_pos (by simp [hreg, hon, htmr]))

end Writes

/-! ### Votes (R534, R535) -/

/-- A TMR field's new value stands in a lantern, a channel or the flash. -/
theorem State.tmrPut_eq (s : State) (b : Blk) (off v : Nat) : s.tmrPut b off v = { s with
    lans := (s.tmrPut b off v).lans, chs := (s.tmrPut b off v).chs, flash := (s.tmrPut b off v).flash } := by
  unfold State.tmrPut
  split
  · rfl
  · rfl
  · rfl
  · split <;> rfl
  · rfl

/-- A block that leaves service keeps the fields that no vote restores, and the memory. -/
theorem State.blkDown_keeps (s : State) (b : Blk) :
    (s.blkDown b).pilot.tmrLost = s.pilot.tmrLost ∧ (s.blkDown b).mem = s.mem := by
  have hready (t : State) (k : Nat) : (t.setReady k false).pilot.tmrLost = t.pilot.tmrLost := by
    unfold State.setReady
    split <;> rfl
  unfold State.blkDown
  split
  · exact ⟨hready .., State.setReady_mem ..⟩
  · exact ⟨hready .., State.setReady_mem ..⟩
  · exact ⟨hready .., State.setReady_mem ..⟩
  · exact ⟨hready .., State.setReady_mem ..⟩
  · exact ⟨rfl, rfl⟩

section Votes

variable {s : State} {addr off : Nat} {b : Blk} {u : TmrUpset}

/-- The value last written to the TMR fields of a register. -/
def State.tmrValue (s : State) (b : Blk) (off : Nat) : Word :=
  BitVec.ofNat 32 (s.regValue b off) &&& BitVec.ofNat 32 (tmrMask b off)

/-- The bits of a TMR field that are flipped in one copy. -/
def tmrFlips (b : Blk) (off : Nat) (x : Word) : Word := x &&& BitVec.ofNat 32 (tmrMask b off)

variable (hb : blkOf addr = some (b, off)) (hreg : regExists b off = true) (hon : s.blkOn b = true)
variable (htmr : isTmr b off = true) (hkept : addr ∉ s.pilot.tmrLost) (hslot : s.slotLost b off = false)

include hb hreg hon htmr hkept hslot

/-- A vote of a field that is in service compares its three copies. -/
theorem State.vote_eq : s.vote addr u =
    (let v := s.tmrValue b off
    let (c0, c1, c2) := (v ^^^ tmrFlips b off u.u0, v ^^^ tmrFlips b off u.u1, v ^^^ tmrFlips b off u.u2)
    let put := fun (s : State) (x : Word) => if x = v then s else s.tmrPut b off x.toNat
    let agreed : Option Word := if c0 = c1 || c0 = c2 then some c0 else if c1 = c2 then some c1 else none
    match agreed with
    | some x =>
      if c0 = c1 && c1 = c2 then (put s x, [])
      else
        let s := put s x
        (s.setRstat b (s.blkRstat b).1 (satAdd 16 (s.blkRstat b).2 1),
          [{ src := blkSrc b, cls := clsInfo, code := 0x0403, aux := addr, sub := blkSub b }])
    | none =>
      if isSlot b off then (s.markSlot b off, [])
      else
        let s := s.tmrPut b off (s.tmrReset b off)
        let s := { s with pilot := { s.pilot with tmrLost := setIns s.pilot.tmrLost addr } }
        (s.blkDown b, [{ src := blkSrc b, cls := clsFatal, code := 0x0301, aux := addr, sub := blkSub b }])) := by
  unfold State.vote
  rw [hb]
  exact if_neg (by simp [hreg, hon, htmr, hkept, hslot])

/-- Three equal copies leave everything as it is. -/
theorem State.vote_equal (h0 : tmrFlips b off u.u0 = 0) (h1 : tmrFlips b off u.u1 = 0) (h2 : tmrFlips b off u.u2 = 0) :
    s.vote addr u = (s, []) := by
  rw [State.vote_eq hb hreg hon htmr hkept hslot, h0, h1, h2]
  simp

/-- One copy that differs is counted and reported. -/
theorem State.vote_one (h0 : tmrFlips b off u.u0 ≠ 0) (h1 : tmrFlips b off u.u1 = 0) (h2 : tmrFlips b off u.u2 = 0) :
    s.vote addr u = (s.setRstat b (s.blkRstat b).1 (satAdd 16 (s.blkRstat b).2 1),
      [{ src := blkSrc b, cls := clsInfo, code := 0x0403, aux := addr, sub := blkSub b }]) := by
  have hne : s.tmrValue b off ^^^ tmrFlips b off u.u0 ≠ s.tmrValue b off := by simpa using h0
  rw [State.vote_eq hb hreg hon htmr hkept hslot, h1, h2]
  simp [hne]

/-- Three different copies of a field (R535, and R290 for a slot of the decode table). -/
theorem State.vote_three (h0 : tmrFlips b off u.u0 ≠ 0) (h1 : tmrFlips b off u.u1 ≠ 0) (h2 : tmrFlips b off u.u2 = 0)
    (h01 : tmrFlips b off u.u0 ≠ tmrFlips b off u.u1) : s.vote addr u =
      if isSlot b off then (s.markSlot b off, [])
      else
        let t := s.tmrPut b off (s.tmrReset b off)
        (State.blkDown { t with pilot := { t.pilot with tmrLost := setIns t.pilot.tmrLost addr } } b,
          [{ src := blkSrc b, cls := clsFatal, code := 0x0301, aux := addr, sub := blkSub b }]) := by
  have h02 : s.tmrValue b off ^^^ tmrFlips b off u.u0 ≠ s.tmrValue b off := by simpa using h0
  have h12 : s.tmrValue b off ^^^ tmrFlips b off u.u1 ≠ s.tmrValue b off := by simpa using h1
  have hxx : s.tmrValue b off ^^^ tmrFlips b off u.u0 ≠ s.tmrValue b off ^^^ tmrFlips b off u.u1 := by simpa using h01
  rw [State.vote_eq hb hreg hon htmr hkept hslot, h2]
  simp [h02, h12, hxx]

end Votes

/-- Settles O38: the rows by the register that their address names, the vote by which copies differ. -/
theorem blockControlComplete : Obligations.BlockControlComplete := by
  unfold Obligations.BlockControlComplete
  refine ⟨fun s addr n b off v => ⟨fun hb hreg hon => ⟨?off, ?on⟩, fun hb hclr hidle => ?idle,
      execBlockIdle_copy,
      fun hb hreg hon => ⟨?pilot, fun hmay => ?wick, fun hno => ?refused⟩⟩,
    fun s rq addr off b u us => ⟨execTmrFieldRead_eq, fun hstart => congrArg Host.Outcome.next (if_pos hstart), ?votes⟩⟩
  case off => exact congrArg Host.Outcome.next (State.enWrite_eq hb hreg hon false)
  case on => exact congrArg Host.Outcome.next (State.enWrite_eq hb hreg hon true)
  case idle => exact ⟨_, execBlockIdle_lan hb hclr hidle, rfl, rfl, rfl⟩
  case pilot => exact congrArg Host.Outcome.next (State.pilotWrite_eq hb hreg hon)
  case wick => exact congrArg Host.Outcome.next ((State.wickWrite_eq hb hreg hon n).trans (if_pos hmay))
  case refused =>
    exact congrArg Host.Outcome.next ((State.wickWrite_eq hb hreg hon n).trans (if_neg (ne_true_of_eq_false hno)))
  case votes =>
    intro hb hreg hon htmr hkept hslot m
    refine ⟨State.vote_equal hb hreg hon htmr hkept hslot, State.vote_one hb hreg hon htmr hkept hslot,
      fun h0 h1 h2 h01 => ?_⟩
    have hvote := State.vote_three hb hreg hon htmr hkept hslot h0 h1 h2 h01
    refine ⟨fun hs => hvote.trans (if_pos hs), fun hs => ?_⟩
    obtain ⟨hlost, hmem⟩ := State.blkDown_keeps
      { s.tmrPut b off (s.tmrReset b off) with pilot := { (s.tmrPut b off (s.tmrReset b off)).pilot with
        tmrLost := setIns (s.tmrPut b off (s.tmrReset b off)).pilot.tmrLost addr } } b
    refine ⟨_, hvote.trans (if_neg (ne_true_of_eq_false hs)), ?_, ?_⟩
    · rw [hlost]
      exact mem_setIns.mpr (.inl rfl)
    · rw [hmem, s.tmrPut_eq]

end Sys2Proof.Machine

/-! ## Reset inputs, REFCLK and the TAP (R523, R539 to R541, R559 to R561, R573, R574) -/

namespace Sys2Proof.Machine

open Sys2Proof

/-! ### Reset (R539 to R541, R560) -/

section Reset

variable {s : State}

theorem State.cirLeft_eq (s : State) : s.cirLeft = { ckerr := s.ckpt.any (fun c => c.streaming) } := by
  unfold State.cirLeft
  cases s.ckpt <;> rfl

/-- Both inputs high end the reset; before that the device stays in it (R539). -/
theorem State.leaveReset_of_reset (h : s.start.phase = .reset) : s.leaveReset = { s with start := { s.start with
    phase := if s.start.pgIn && s.start.resetN then (if s.start.refclk then .locking else .waitRef) else .reset } } := by
  unfold State.leaveReset
  simp only [h, decide_true, Bool.true_and]
  cases s.start.pgIn && s.start.resetN
  · have hstay : { s.start with phase := .reset } = s.start := by rw [← h]
    change s = { s with start := { s.start with phase := .reset } }
    rw [hstay]
  · rfl

end Reset

/-! ### The TAP (R523, R573, R574) -/

section Tap

variable {s : State}

theorem State.tapLoad_on (hon : s.start.pgIn = true) {k : TapInstr} (hk : k ≠ .idcode) :
    s.tapLoad k = { s with tap := { s.tap with instr := if s.tap.locked then .bypass else k } } := by
  unfold State.tapLoad Tap.load
  rw [if_pos hon]
  simp [hk]

theorem State.tapLoad_off (hoff : s.start.pgIn = false) (k : TapInstr) : s.tapLoad k = s :=
  if_neg (ne_true_of_eq_false hoff)

theorem tapDecode_of_ge {code : BitVec 4} (h : 5 ≤ code.toNat) : tapDecode code = .bypass := by
  revert code
  decide

/-- The cells of the three inputs in a capture (R574). -/
theorem State.capture_inputs (s : State) : s.capture.1.getLsbD 4 = s.pilot.trigLevel ∧
    s.capture.1.getLsbD 5 = s.start.pgIn ∧ s.capture.1.getLsbD 6 = s.start.resetN := by
  have houtputs (x i : Nat) (h4 : 4 ≤ i) : (x % 16).testBit i = false :=
    Nat.testBit_lt_two_pow (Nat.lt_of_lt_of_le (Nat.mod_lt x (by decide)) (Nat.pow_le_pow_right (n := 2) (by decide) h4))
  have hinputs (a b c : Bool) : (BitVec.ofNat 7 (16 * b2n a + 32 * b2n b + 64 * b2n c)).getLsbD 4 = a ∧
      (BitVec.ofNat 7 (16 * b2n a + 32 * b2n b + 64 * b2n c)).getLsbD 5 = b ∧
      (BitVec.ofNat 7 (16 * b2n a + 32 * b2n b + 64 * b2n c)).getLsbD 6 = c := by
    revert a b c
    decide
  have hcell (i : Nat) (h4 : 4 ≤ i) : s.capture.1.getLsbD i =
      (BitVec.ofNat 7 (16 * b2n s.pilot.trigLevel + 32 * b2n s.start.pgIn + 64 * b2n s.start.resetN)).getLsbD i := by
    refine (BitVec.getLsbD_or ..).trans ?_
    rw [BitVec.getLsbD_ofNat, houtputs _ i h4, Bool.and_false, Bool.false_or]
  obtain ⟨htrig, hpg, hreset⟩ := hinputs s.pilot.trigLevel s.start.pgIn s.start.resetN
  exact ⟨(hcell 4 (by decide)).trans htrig, (hcell 5 (by decide)).trans hpg, (hcell 6 (by decide)).trans hreset⟩

theorem execSamplePreload_locked {v : BitVec 7} (hon : s.start.pgIn = true) (hlock : s.tap.locked = true) :
    execSamplePreload v s = .next { s with tap := { s.tap with instr := .bypass } } := by
  unfold execSamplePreload
  rw [State.tapLoad_on hon (by decide), hlock]
  rfl

theorem execSamplePreload_unlocked {v : BitVec 7} (hon : s.start.pgIn = true) (hlock : s.tap.locked = false) :
    execSamplePreload v s = .next { s with
      freeCtr := s.freeCtr + 1
      tap := { s.tap with instr := .samplePreload, cells := v, shift := s.capture.1.setWidth 32 } } := by
  unfold execSamplePreload
  rw [State.tapLoad_on hon (by decide), hlock]
  exact congrArg Host.Outcome.next (if_pos (by simp [hon]))

/-- While PG_IN is low the TAP takes no instruction (R575). -/
theorem exec_tap_off {code : BitVec 4} {v : BitVec 7} (hoff : s.start.pgIn = false) {i : Instr}
    (hi : i ∈ [Instr.extest, .clamp, .highz, .idcode, .bypass code, .samplePreload v]) : exec i s = .next s := by
  simp only [List.mem_cons, List.mem_nil_iff, or_false] at hi
  rcases hi with rfl | rfl | rfl | rfl | rfl | rfl
  · exact congrArg Host.Outcome.next (State.tapLoad_off hoff _)
  · exact congrArg Host.Outcome.next (State.tapLoad_off hoff _)
  · exact congrArg Host.Outcome.next (State.tapLoad_off hoff _)
  · exact congrArg Host.Outcome.next (if_neg (ne_true_of_eq_false hoff))
  · exact congrArg Host.Outcome.next (State.tapLoad_off hoff _)
  · change execSamplePreload v s = _
    unfold execSamplePreload
    rw [State.tapLoad_off hoff]
    exact congrArg Host.Outcome.next (if_neg (by simp [hoff]))

/-- An output instruction is loaded, or BYPASS where the TAP is locked (R523, R561). -/
theorem exec_tap_output (hon : s.start.pgIn = true) {i : Instr} {k : TapInstr}
    (hi : (i, k) ∈ [(Instr.extest, TapInstr.extest), (.clamp, .clamp), (.highz, .highz)]) :
    exec i s = .next { s with tap := { s.tap with instr := if s.tap.locked then .bypass else k } } := by
  simp only [List.mem_cons, Prod.mk.injEq, List.mem_nil_iff, or_false] at hi
  rcases hi with ⟨rfl, rfl⟩ | ⟨rfl, rfl⟩ | ⟨rfl, rfl⟩
  · exact congrArg Host.Outcome.next (State.tapLoad_on hon (by decide))
  · exact congrArg Host.Outcome.next (State.tapLoad_on hon (by decide))
  · exact congrArg Host.Outcome.next (State.tapLoad_on hon (by decide))

end Tap

/-- Settles O56: the reset inputs by `State.deviceReset` and `State.leaveReset`, the TAP by its load and its
capture. -/
theorem resetInputsAndTapComplete : Obligations.ResetInputsAndTapComplete := by
  unfold Obligations.ResetInputsAndTapComplete
  refine ⟨fun s => ?reset, fun s code v => ⟨fun hon => ⟨fun i k hi => exec_tap_output hon hi, fun hcode => ?bypass,
    ?idcode, execSamplePreload_locked hon, fun hlock => ?sample⟩, fun hoff i hi => exec_tap_off hoff hi, rfl, ?pins⟩⟩
  case reset =>
    intro st wiped
    refine ⟨fun hreset => ⟨?_, ?_⟩, ?low, ?resetLow, ?loss, fun hwait => ?present, fun hlock => ⟨?_, rfl⟩⟩
    · exact congrArg Host.Outcome.next (State.leaveReset_of_reset
        (s := { s with start := { s.start with pgIn := true } }) hreset)
    · refine congrArg Host.Outcome.next ((State.leaveReset_of_reset
        (s := { s with start := { s.start with resetN := true } }) hreset).trans ?_)
      rw [Bool.and_true]
    case low =>
      exact ⟨_, rfl, ⟨rfl, rfl, rfl, rfl, rfl, rfl, rfl, rfl, rfl, rfl, rfl, State.cirLeft_eq _, rfl, rfl, rfl⟩, rfl, rfl⟩
    case resetLow =>
      exact ⟨_, rfl, ⟨rfl, rfl, rfl, rfl, rfl, rfl, rfl, rfl, rfl, rfl, rfl, State.cirLeft_eq _, rfl, rfl, rfl⟩, rfl, rfl⟩
    case loss =>
      have hrow := State.leaveReset_of_reset (s := State.deviceReset { s with start := { s.start with refclk := false } })
        rfl
      exact ⟨_, congrArg Host.Outcome.next hrow,
        ⟨rfl, rfl, rfl, rfl, rfl, rfl, rfl, rfl, rfl, rfl, rfl, State.cirLeft_eq _, rfl, rfl, rfl⟩, rfl⟩
    case present =>
      change execRefclkPresent s = _
      unfold execRefclkPresent
      dsimp only
      rw [if_pos hwait]
    · exact congrArg Host.Outcome.next (if_pos hlock)
  case bypass =>
    refine congrArg Host.Outcome.next ?_
    rw [tapDecode_of_ge hcode, State.tapLoad_on hon (by decide), ite_self]
  case idcode =>
    refine congrArg Host.Outcome.next ((if_pos hon).trans ?_)
    unfold Tap.load
    rw [if_neg (by simp)]
  case sample =>
    obtain ⟨htrig, hpg, hreset⟩ := s.capture_inputs
    refine ⟨_, execSamplePreload_unlocked hon hlock, ?_, ?_, ?_⟩
    · simpa using htrig
    · simpa [hon] using hpg
    · simpa using hreset
  case pins =>
    refine ⟨fun h => ?_, fun h => ?_, fun h => ?_⟩
    · unfold State.faultPin
      rcases h with h | h <;> rw [h]
    · unfold State.faultPin State.alertPin
      rw [h]
      exact ⟨rfl, rfl⟩
    · unfold State.faultPin
      rcases h with h | h | h <;> rw [h]

end Sys2Proof.Machine

/-! ## The lamplighter (R394 to R396) -/

namespace Sys2Proof.Machine

open Sys2Proof

/-- A unit that decodes as corrected has a corrected codeword. -/
theorem unitCes_ne_nil {was : Bool} {errs : List (BitVec 80)} {k syn : Nat} (h : unitDecode was errs = (.ce, k, syn)) :
    unitCes was errs ≠ [] := by
  have hces : 0 < (((List.range 8).map (fun i => eccDecode was (errs.getD i 0))).filter
      (fun o => match o.1 with | .ce _ => true | _ => false)).length := by
    unfold unitDecode at h
    dsimp only at h
    split at h
    · cases h
    · split at h
      · cases h
      · split at h
        · assumption
        · cases h
  obtain ⟨o, ho⟩ := List.exists_mem_of_length_pos hces
  obtain ⟨hmem, hce⟩ := List.mem_filter.mp ho
  obtain ⟨i, hi, rfl⟩ := List.mem_map.mp hmem
  have hcodeword : (i, (eccDecode was (errs.getD i 0)).2) ∈ unitCes was errs := by
    refine List.mem_filterMap.mpr ⟨i, hi, ?_⟩
    split
    next heq => rw [heq]
    next hne =>
      split at hce
      next bits heq => exact (hne bits _ (Prod.ext heq rfl)).elim
      next => cases hce
  exact List.ne_nil_of_mem hcodeword

section Reads

variable {s : State} {pa : Nat} {errs : List (BitVec 80)} {bad : List Nat}

theorem unit_of_unitAddr (u : Nat) : 64 * u / 64 = u := Nat.mul_div_cancel_left u (by decide)

/-- The pass takes unit `u` of DRAM as the next one that it reads (R394). -/
def State.scrubAt (s : State) (u : Nat) : State :=
  { s.scrubTo u with scrub := { (s.scrubTo u).scrub with run := u / 16384, pos := u + 1 } }

/-- What the lamplighter has noted of its way is state of its own. -/
theorem State.noteSkips_eq (s : State) : ∃ c : Scrub, s.noteSkips = { s with scrub := c } ∧ c.pos = s.scrub.pos ∧
    c.seen = s.scrub.seen ∧ c.passes = s.scrub.passes ∧ c.en = s.scrub.en := by
  unfold State.noteSkips
  exact ⟨_, rfl, rfl, rfl, rfl, rfl⟩

/-- What the lamplighter notes of the way keeps everything but its own state. -/
theorem State.noteSkips_keeps (s : State) (a src b : Nat) :
    s.noteSkips.excluded a = s.excluded a ∧ s.noteSkips.deltaAtOffset a = s.deltaAtOffset a ∧
      s.noteSkips.inputHeld src b = s.inputHeld src b := by
  obtain ⟨c, hc, -⟩ := s.noteSkips_eq
  rw [hc]
  exact ⟨rfl, rfl, rfl⟩

theorem State.noteSkips_pos (s : State) : s.noteSkips.scrub.pos = s.scrub.pos := by
  obtain ⟨c, hc, hpos, -⟩ := s.noteSkips_eq
  rw [hc, ← hpos]

theorem State.noteSkips_seen (s : State) : s.noteSkips.scrub.seen = s.scrub.seen := by
  obtain ⟨c, hc, -, hseen, -⟩ := s.noteSkips_eq
  rw [hc, ← hseen]

theorem execScrubRead_skipped (hrun : s.scrubs = true)
    (h : pa / 64 < s.scrub.pos ∨ s.noteSkips.scrubSkips (64 * (pa / 64)) = true ∨
      s.inputHeld (readyCh (paChannel (64 * (pa / 64)))) 0x400 = true) :
    execScrubRead (.dram pa errs bad) s = .next s.noteSkips := by
  have hskip : (decide (pa / 64 < s.noteSkips.scrub.pos) || s.noteSkips.scrubSkips (64 * (pa / 64)) ||
      s.noteSkips.excluded (64 * (pa / 64)) || s.noteSkips.deltaAtOffset (64 * (pa / 64)) ||
      s.noteSkips.inputHeld (readyCh (paChannel (64 * (pa / 64)))) 0x400) = true := by
    obtain ⟨-, -, hheld⟩ := s.noteSkips_keeps 0 (readyCh (paChannel (64 * (pa / 64)))) 0x400
    rw [hheld, State.noteSkips_pos]
    rcases h with h | h | h <;> simp [h]
  unfold execScrubRead
  exact congrArg Host.Outcome.next ((if_neg (by simp [hrun])).trans (if_pos hskip))

theorem execScrubRead_dram (hrun : s.scrubs = true) (hpos : s.scrub.pos ≤ pa / 64)
    (hskip : s.noteSkips.scrubSkips (64 * (pa / 64)) = false)
    (hheld : s.inputHeld (readyCh (paChannel (64 * (pa / 64)))) 0x400 = false)
    (hfree : s.excluded (64 * (pa / 64)) = false) (hdelta : s.deltaAtOffset (64 * (pa / 64)) = false) :
    execScrubRead (.dram pa errs bad) s =
      .next ((s.noteSkips.scrubAt (pa / 64)).scrubDram (64 * (pa / 64)) errs bad) := by
  have hgo : ¬((decide (pa / 64 < s.noteSkips.scrub.pos) || s.noteSkips.scrubSkips (64 * (pa / 64)) ||
      s.noteSkips.excluded (64 * (pa / 64)) || s.noteSkips.deltaAtOffset (64 * (pa / 64)) ||
      s.noteSkips.inputHeld (readyCh (paChannel (64 * (pa / 64)))) 0x400) = true) := by
    obtain ⟨kfree, kdelta, kheld⟩ := s.noteSkips_keeps (64 * (pa / 64)) (readyCh (paChannel (64 * (pa / 64)))) 0x400
    rw [kfree, kdelta, kheld, State.noteSkips_pos, hskip, hfree, hdelta, hheld]
    simpa using hpos
  unfold execScrubRead
  exact congrArg Host.Outcome.next ((if_neg (by simp [hrun])).trans (if_neg hgo))

/-- The records of the corrected codewords of a unit of DRAM (R395). -/
def scrubCes (a : Nat) (was : Bool) (errs : List (BitVec 80)) : List RecIn :=
  (unitCes was errs).map (fun (c : Nat × BitVec 16) => scrubRec (a + 8 * c.1) clsCe 0x0101 (c.2.toNat + 2 ^ 63))

theorem scrubCes_ne_nil {a k syn : Nat} {was : Bool} (h : unitDecode was errs = (.ce, k, syn)) :
    scrubCes a was errs ≠ [] :=
  mt List.map_eq_nil_iff.mp (unitCes_ne_nil h)

theorem mem_scrubCes {a : Nat} {was : Bool} {x : RecIn} (h : x ∈ scrubCes a was errs) :
    x.code = 0x0101 ∧ x.src = 0x400 ∧ 2 ^ 63 ≤ x.aux := by
  obtain ⟨c, -, rfl⟩ := List.mem_map.mp h
  exact ⟨rfl, rfl, Nat.le_add_left ..⟩

/-- The records of the corrected codewords of a unit of a tile-cache line (R395). -/
def scrubLineCes (t set way unit p : Nat) (was : Bool) (errs : List (BitVec 80)) : List RecIn :=
  (unitCes was errs).map (fun (c : Nat × BitVec 16) => tcRec t set way unit p clsCe 0x0103 c.2.toNat)

theorem scrubLineCes_ne_nil {t set way unit p k syn : Nat} {was : Bool} (h : unitDecode was errs = (.ce, k, syn)) :
    scrubLineCes t set way unit p was errs ≠ [] :=
  mt List.map_eq_nil_iff.mp (unitCes_ne_nil h)

theorem mem_scrubLineCes {t set way unit p : Nat} {was : Bool} {x : RecIn}
    (h : x ∈ scrubLineCes t set way unit p was errs) : x.code = 0x0103 ∧ x.src = 0x400 ∧ x.cls = clsCe := by
  obtain ⟨c, -, rfl⟩ := List.mem_map.mp h
  exact ⟨rfl, rfl, rfl⟩

/-- The lamplighter counts and reports the corrected codewords of a unit of DRAM (R395). -/
def State.scrubFixed (s : State) (a : Nat) (was : Bool) (errs : List (BitVec 80)) : State :=
  State.records { s with scrub := s.scrub.count (unitCes was errs).length 0 0 } (scrubCes a was errs)

/-- What the lamplighter does with a unit of DRAM, by what the decoder says of it (R395). -/
def State.scrubDramAs (s : State) (a : Nat) (was : Bool) (errs : List (BitVec 80)) (bad : List Nat) (syn : Nat) :
    UnitOut → State
  | .poisoned => { s with scrub := s.scrub.count 0 0 1 }
  | .good => s.asDecoded a was errs
  | .ce => (s.asDecoded a was errs).scrubFixed a was errs
  | .ue =>
    let w := s.scrubFixed a was errs
    let x : State := { w with scrub := w.scrub.count 0 1 0 }
    if x.strOf a = 0 then (x.poisonPa a).record { dramRec a clsUe 0x0201 syn with src := 0x400 }
    else (x.rebuildUnit a syn bad).1.record { (x.rebuildUnit a syn bad).2 with src := 0x400 }

theorem State.scrubDram_eq {a syn k : Nat} {o : UnitOut}
    (hd : unitDecode (s.poison.contains (a / 64)) errs = (o, k, syn)) :
    s.scrubDram a errs bad = s.scrubDramAs a (s.poison.contains (a / 64)) errs bad syn o := by
  unfold State.scrubDram
  extract_lets was ces fixed
  rw [show unitDecode was errs = _ from hd]
  cases o <;> rfl

/-- The lamplighter counts and reports the corrected codewords of a unit of a line (R395). -/
def State.scrubLineFixed (s : State) (t set way unit p : Nat) (was : Bool) (errs : List (BitVec 80)) : State :=
  if (unitCes was errs).isEmpty then s
  else (State.modTc { s with scrub := s.scrub.count (unitCes was errs).length 0 0 } t (fun c =>
    { c with ceData := satAdd 16 c.ceData 1 })).records (scrubLineCes t set way unit p was errs)

/-- What the lamplighter does with a unit of a line at a physical address, by what the decoder says of it (R395). -/
def State.scrubLineAs (s : State) (t set way unit p : Nat) (x : TcLine) (was : Bool) (errs : List (BitVec 80))
    (syn : Nat) : UnitOut → State
  | .poisoned => { s with scrub := s.scrub.count 0 0 1 }
  | .good => s.asDecoded p was errs
  | .ce => (s.asDecoded p was errs).scrubLineFixed t set way unit p was errs
  | .ue =>
    let y := s.scrubLineFixed t set way unit p was errs
    let z : State := { y with scrub := y.scrub.count 0 1 0 }
    if x.dirty then (z.poisonPa p).record (tcRec t set way unit p clsUe 0x0203 0)
    else ((z.dropCopies x.pres (lineAddr t set x.tag)).modTc t (fun c =>
      { c with lines := c.lines.erase (16 * set + way) })).record (tcRec t set way unit p clsCe 0x0103 syn)

theorem State.scrubCache_eq {t set way unit syn k : Nat} {x : TcLine} {o : UnitOut}
    (hx : (s.tc t).lines.find? (16 * set + way) = some x)
    (hd : unitDecode (s.poison.contains ((lineAddr t set x.tag + 64 * unit) / 64)) errs = (o, k, syn)) :
    s.scrubCache t set way unit errs = s.scrubLineAs t set way unit (lineAddr t set x.tag + 64 * unit) x
      (s.poison.contains ((lineAddr t set x.tag + 64 * unit) / 64)) errs syn o := by
  unfold State.scrubCache
  extract_lets key
  split
  next hnone => exact absurd (hx.symm.trans hnone) (Option.some_ne_none x)
  next y hy =>
    obtain rfl : x = y := Option.some.inj (hx.symm.trans hy)
    extract_lets line p was ces fixed
    rw [show unitDecode was errs = _ from hd]
    cases o <;> rfl

/-- With corrected codewords or without: the count and the records follow them. -/
theorem State.scrubLineFixed_eq (s : State) (t set way unit p : Nat) (was : Bool) (errs : List (BitVec 80)) :
    s.scrubLineFixed t set way unit p was errs = if scrubLineCes t set way unit p was errs = [] then s
      else (State.modTc { s with scrub := s.scrub.count (scrubLineCes t set way unit p was errs).length 0 0 } t
        (fun c => { c with ceData := satAdd 16 c.ceData 1 })).records (scrubLineCes t set way unit p was errs) := by
  unfold State.scrubLineFixed scrubLineCes
  rw [List.length_map]
  exact if_congr (by rw [List.isEmpty_iff, List.map_eq_nil_iff]) rfl rfl

/-- The lamplighter reads a unit of a line that it has not read in this pass (R394, R396). -/
theorem execScrubRead_cache {t set way unit : Nat} (hrun : s.scrubs = true) (hset : set < 131072) (hway : way < 16)
    (hunit : unit < 4) : execScrubRead (.cache t set way unit errs) s =
      .next (if s.noteSkips.wayOut t set way || s.noteSkips.scrub.seen.contains (cacheUnit t set way unit) ||
          s.noteSkips.inputHeld (readyTc t) 0x400 then s.noteSkips
        else State.scrubCache { s.noteSkips with scrub := { s.noteSkips.scrub with
          seen := setIns s.noteSkips.scrub.seen (cacheUnit t set way unit) } } t set way unit errs) := by
  unfold execScrubRead
  refine congrArg Host.Outcome.next ((if_neg (by simp [hrun])).trans ?_)
  dsimp only
  rw [Nat.mod_eq_of_lt hset, Nat.mod_eq_of_lt hway, Nat.mod_eq_of_lt hunit]

/-- The end of a pass changes the lamplighter's own state alone (R394). -/
theorem execScrubRead_passEnd (hrun : s.scrubs = true) : ∃ c : Scrub,
    execScrubRead .passEnd s = .next { s with scrub := { c with
      passes := s.scrub.passes + 1, run := 0, pos := 0, seen := [], chOut := 0, groupOut := 0, setOut := [] } } ∧
      c.en = s.scrub.en := by
  obtain ⟨c, hc, -, -, hpasses, hen⟩ := s.noteSkips_eq
  unfold execScrubRead
  rw [if_neg (by simp [hrun])]
  dsimp only
  rw [hc, ← hpasses, ← hen]
  exact ⟨_, rfl, rfl⟩

end Reads

/-- Settles O34: each read of the lamplighter by what the decoder says of the unit, and the end of a pass. -/
theorem scrubReadsComplete : Obligations.ScrubReadsComplete := by
  unfold Obligations.ScrubReadsComplete
  intro s pa errs bad hrun v u a was held go
  obtain ⟨c, hc, -⟩ := s.noteSkips_eq
  refine ⟨?passEnd, fun h => execScrubRead_skipped hrun h, fun hpos' hskip hheld hfree hdelta => ?dram,
    fun tl set way unit hset hway hunit => ?cache⟩
  case passEnd =>
    obtain ⟨c, hrow, hen⟩ := execScrubRead_passEnd hrun
    exact ⟨_, hrow, rfl, rfl, rfl, rfl, rfl, rfl, rfl, rfl, hen⟩
  case dram =>
    intro c' t d ces
    have hrow := execScrubRead_dram (errs := errs) (bad := bad) hrun hpos' hskip hheld hfree hdelta
    have ht : s.noteSkips.scrubAt (pa / 64) = t := by
      change State.scrubAt v u = { s with scrub := { (State.scrubTo v u).scrub with run := u / 16384, pos := u + 1 } }
      rw [show v = _ from hc]
      rfl
    rw [ht] at hrow
    have hwas : t.poison.contains (64 * (pa / 64) / 64) = was := by rw [unit_of_unitAddr]
    have hgo {o : UnitOut} {k syn : Nat} (hd : unitDecode was errs = (o, k, syn)) :
        go (t.scrubDramAs a was errs bad syn o) := by
      rw [← hwas] at hd ⊢
      exact hrow.trans (congrArg _ (State.scrubDram_eq hd))
    have hlen : (scrubCes a was errs).length = (unitCes was errs).length := List.length_map ..
    refine ⟨fun k syn hd => hgo hd, fun k syn hd => hgo hd,
      fun k syn hd => ⟨scrubCes a was errs, ?_, fun x => mem_scrubCes, ?_⟩,
      fun k syn hd => ⟨scrubCes a was errs, t.scrubFixed a was errs, _, fun x => mem_scrubCes, ?_, rfl,
        fun hstr => ?_, fun hstr => ?_⟩⟩
    · exact scrubCes_ne_nil hd
    · rw [hlen]
      exact hgo hd
    · rw [hlen]
      rfl
    · exact (hgo hd).trans (congrArg _ (if_pos hstr))
    · exact (hgo hd).trans (congrArg _ (if_neg hstr))
  case cache =>
    intro k stop go
    have hrow := execScrubRead_cache (errs := errs) hrun hset hway hunit (t := tl)
    have hstop : (s.noteSkips.wayOut tl set way || s.noteSkips.scrub.seen.contains (cacheUnit tl set way unit) ||
        s.noteSkips.inputHeld (readyTc tl) 0x400) = stop := by
      obtain ⟨-, -, hheld⟩ := s.noteSkips_keeps 0 (readyTc tl) 0x400
      rw [hheld, s.noteSkips_seen]
    rw [hstop] at hrow
    refine ⟨fun hyes => hrow.trans (congrArg _ (if_pos hyes)), fun x hno hx => ?_⟩
    intro line p was w count ces
    have hw : { s.noteSkips with scrub := { s.noteSkips.scrub with
        seen := setIns s.noteSkips.scrub.seen (cacheUnit tl set way unit) } } = w := rfl
    rw [if_neg (ne_true_of_eq_false hno), hw] at hrow
    have hfind : (w.tc tl).lines.find? (16 * set + way) = some x := by
      rw [← hw, hc]
      exact hx
    have hpoison : w.poison = s.poison := by rw [← hw, hc]
    have hgo {o : UnitOut} {k syn : Nat} (hd : unitDecode was errs = (o, k, syn)) :
        go (w.scrubLineAs tl set way unit p x was errs syn o) := by
      have hd' : unitDecode (w.poison.contains (p / 64)) errs = (o, k, syn) := by
        rw [hpoison]
        exact hd
      have hline := State.scrubCache_eq hfind hd'
      rw [hpoison] at hline
      exact hrow.trans (congrArg _ hline)
    have hfixed (y : State) : y.scrubLineFixed tl set way unit p was errs =
        if scrubLineCes tl set way unit p was errs = [] then y
        else (count y (scrubLineCes tl set way unit p was errs).length).records
          (scrubLineCes tl set way unit p was errs) := State.scrubLineFixed_eq ..
    refine ⟨fun k syn hd => hgo hd, fun k syn hd => hgo hd,
      fun k syn hd => ⟨scrubLineCes tl set way unit p was errs, ?_, fun x => mem_scrubLineCes, ?_⟩,
      fun k syn hd => ⟨scrubLineCes tl set way unit p was errs, w.scrubLineFixed tl set way unit p was errs, _,
        fun x => mem_scrubLineCes, hfixed w, rfl, fun hdirty => ?_, fun hclean => ?_⟩⟩
    · exact scrubLineCes_ne_nil hd
    · have hce : go ((w.asDecoded p was errs).scrubLineFixed tl set way unit p was errs) := hgo hd
      rw [hfixed, if_neg (scrubLineCes_ne_nil hd)] at hce
      exact hce
    · exact (hgo hd).trans (congrArg _ (if_pos hdirty))
    · exact (hgo hd).trans (congrArg _ (if_neg (ne_true_of_eq_false hclean)))

end Sys2Proof.Machine

/-! ## Refused flits, spares and field repairs (R376, R393, R416 to R418) -/

namespace Sys2Proof.Machine

open Sys2Proof

/-! ### Flits (R393) -/

section Flits

variable {s : State} {src chan : Nat}

/-- The record of a refused flit. -/
def flitRec (src chan cls code aux : Nat) : RecIn :=
  { src := src, cls := cls, code := code, lockind := 5, loc := locChan src chan, aux := aux }

/-- The channel has no flit that was refused once. -/
def State.flitPassed (s : State) (src chan : Nat) : State :=
  { s with net := { s.net with resent := s.net.resent.filter (fun x => x ≠ (src, chan)) } }

/-- A refusal on a channel that is not stalled: the first one resends the flit, the second loses it (R393). -/
theorem execFlitRefusal_eq (hstuck : (src, chan) ∉ s.net.stuck) (h : Bool) (p : Option FlitData) :
    execFlitRefusal src chan h p s = .next (
      if !h && p.isNone then s.flitPassed src chan
      else if !s.net.resent.contains (src, chan) then
        State.record { s with
          freeCtr := s.freeCtr + 1, net := { s.net with resent := s.net.resent ++ [(src, chan)] } }
          (flitRec src chan clsCe 0x0109 (s.draw.1.toNat % 65536))
      else if h then
        State.record { s.flitPassed src chan with net := { (s.flitPassed src chan).net with
          stuck := s.net.stuck ++ [(src, chan)] } } (flitRec src chan clsFatal 0x0302 0)
      else ((s.flitPassed src chan).flitPoisoned (p.getD .none)).record (flitRec src chan clsUe 0x020A 0)) := by
  unfold execFlitRefusal
  exact congrArg Host.Outcome.next (if_neg (by simpa using hstuck))

end Flits

/-! ### Frames -/

theorem State.SamePRX.flash {s t : State} (h : s.SamePRX t) : t.flash = s.flash := by rw [h]

theorem State.spareRequest_same (s : State) (n : Nat) : s.SamePRX (s.spareRequest n) := by
  unfold State.spareRequest
  exact .ite (fun _ => (s.pilot_same _).trans (State.record_same ..)) (fun _ => .refl s)

theorem State.dropCopies_eq (s : State) (pres : BitVec 16) (line : Nat) :
    s.dropCopies pres line = { s with lans := (s.dropCopies pres line).lans } := by
  unfold State.dropCopies
  split <;> rfl

/-- Lines that lose their copies leave everything but the lanterns. -/
theorem State.foldl_dropCopies_eq {α : Type} (f : α → BitVec 16) (g : α → Nat) (xs : List α) (s : State) :
    ∃ ls, xs.foldl (fun s p => s.dropCopies (f p) (g p)) s = { s with lans := ls } := by
  induction xs generalizing s with
  | nil => exact ⟨s.lans, rfl⟩
  | cons x xs ih =>
    obtain ⟨ls, hls⟩ := ih (s.dropCopies (f x) (g x))
    refine ⟨ls, hls.trans ?_⟩
    rw [s.dropCopies_eq]

/-! ### Spares (R376, R418) -/

section Spares

variable {s : State} {n : Nat}

theorem execSpareRemap_eq (hpend : (s.lan n).svc.quarPend = true) (htest : (s.lan n).svc.spareTest = false)
    (hidle : (s.lan n).idle = true) (hself : (s.lan n).svc.testing = false) (hfuse : (s.lan n).svc.fusePend = none) :
    execSpareRemap n s = .next (if s.spareFree n then
      s.setLan n { s.lan n with svc := { (s.lan n).svc with spareTest := true } } else (s.noSpareFor n).examine) := by
  unfold execSpareRemap
  exact congrArg Host.Outcome.next (if_neg (by rw [hpend, htest, hidle, hself, hfuse]; decide))

theorem State.noSpareFor_svc (s : State) (n : Nat) : ((s.noSpareFor n).lan n).svc =
    { (s.lan n).svc with spareTest := false, quarPend := false, failed := true, noSpare := true } :=
  congrArg Lantern.svc (State.lan_modLan ..)

/-- The lantern stands on its spare site, before its ready bit is set (R418). -/
def State.onSpare (s : State) (n : Nat) : State :=
  let s' := { s with
    flash := { s.flash with spared := setIns s.flash.spared n }
    pilot := { s.pilot with spareReqs := setDel s.pilot.spareReqs n, quars := setDel s.pilot.quars n } }
  let l := s'.lanAtPower n
  (s'.setLan n { l with
    beat := (s.lan n).beat, work := (s.lan n).work, svc := { l.svc with en := true, wasReady := true } }).loadTable n

theorem State.toSpare_eq (s : State) (n : Nat) : ∃ (x : RecIn), s.toSpare n [] =
    (((((s.onSpare n).records []).record x).spareRequest n).setReady (readyLan n) true).examine :=
  ⟨_, rfl⟩

end Spares

/-! ### Field repairs (R416, R417) -/

section Repairs

variable {s : State}

/-- The keys of the lines of a row's set. -/
def rowKeys (bank row : Nat) : List Nat := (List.range 16).map (fun w => 16 * (32 * row + bank) + w)

/-- A tile cache whose row has been switched to its spare (R416). -/
def TCache.repaired (c : TCache) (waits : Option (Nat × Nat)) (bank row : Nat) : TCache := { c with
  fuse := waits
  rows := c.rows ++ [(bank, row)]
  lines := c.lines.filter (fun p => !(rowKeys bank row).contains p.1)
  clean := if waits.isSome then c.clean else c.clean ||| (c.on &&& ~~~c.group) }

theorem State.tcRepaired_eq (s : State) (t bank row : Nat) : ∃ (ls : Tab Lantern) (x : RecIn),
    s.tcRepaired t bank row = (State.modTc { s with flash := s.flash.repairDone 0 t bank row, lans := ls } t
      (fun c => c.repaired ((s.flash.repairDone 0 t bank row).repairWaits 0 t) bank row)).record x ∧
    x.code = 0x0410 := by
  unfold State.tcRepaired
  extract_lets set flash u keys v w
  obtain ⟨ls, hls⟩ : ∃ ls, v = { u with lans := ls } :=
    State.foldl_dropCopies_eq (fun p : Nat × TcLine => p.2.pres) (fun p => lineAddr t set p.2.tag) _ u
  have hw : w = State.modTc { u with lans := ls } t
      (fun c => c.repaired (flash.repairWaits 0 t) bank row) :=
    congrArg (fun y : State => y.modTc t (fun c => c.repaired (flash.repairWaits 0 t) bank row)) hls
  exact ⟨ls, _, congrArg (fun y : State => y.record _) hw, rfl⟩

/-- The local store of a lantern has a row switched to its spare (R416, R417). -/
theorem State.lsRepaired_eq (s : State) (n bank row : Nat) : ∃ (k : Nat) (bs : List Byte) (x : RecIn),
    s.lsRepaired n bank row = ((State.modLan { s with
      freeCtr := k, flash := s.flash.repairDone 1 (s.fuseSite n) bank row } n (fun l =>
        { (l.lsWrite (lsRowAddr bank row) bs) with svc := { l.svc with
          fusePend := (s.flash.repairDone 1 (s.fuseSite n) bank row).repairWaits 1 (s.fuseSite n)
          rows := l.svc.rows ++ [(0, bank, row)] } })).record x).examine ∧ x.code = 0x0410 :=
  ⟨_, _, _, rfl, rfl⟩

theorem execFuseRepairEffect_tc {t bank row : Nat} (hon : s.tcOn t = true) (hfuse : (s.tc t).fuse = some (bank, row)) :
    execFuseRepairEffect 0 t s = .next (s.tcRepaired t bank row) := by
  unfold execFuseRepairEffect
  rw [if_pos rfl, hfuse]
  exact congrArg Host.Outcome.next (if_pos hon)

theorem execFuseRepairEffect_lan {n bank row : Nat} (hidle : (s.lan n).idle = true)
    (hfuse : (s.lan n).svc.fusePend = some (bank, row)) :
    execFuseRepairEffect 1 n s = .next (s.lsRepaired n bank row) := by
  unfold execFuseRepairEffect
  rw [if_neg (by decide)]
  dsimp only
  rw [hfuse]
  exact congrArg Host.Outcome.next (if_pos hidle)

theorem Tab.find?_filter_none {α : Type} {t : Tab α} {k : Nat} {p : Nat × α → Bool} (h : ∀ v, p (k, v) = false) :
    Tab.find? (t.filter p) k = none := by
  cases hf : Tab.find? (t.filter p) k with
  | none => rfl
  | some v => exact absurd (List.mem_filter.mp (Tab.mem_of_find? hf)).2 (ne_true_of_eq_false (h v))

end Repairs

/-- Settles O35: each refusal, remap and repair by its row's equation. -/
theorem linkErrorsAndRepairComplete : Obligations.LinkErrorsAndRepairComplete := by
  unfold Obligations.LinkErrorsAndRepairComplete
  refine ⟨fun s src chan hstuck => ?flits, fun s n bank row => ?repairs⟩
  case flits =>
    intro key off rec_
    refine ⟨execFlitRefusal_eq hstuck false none, fun hnew h p hany => ?first, fun hagain => ⟨fun p => ?header,
      fun data => ?payload⟩⟩
    case first =>
      have hbad : ¬((!h && p.isNone) = true) := by
        cases h <;> cases p <;> simp_all
      refine ⟨_, Nat.mod_lt _ (by decide), (execFlitRefusal_eq hstuck h p).trans
        (congrArg _ ((if_neg hbad).trans (if_pos ?_)))⟩
      simpa using hnew
    case header =>
      refine (execFlitRefusal_eq hstuck true p).trans (congrArg _ ((if_neg (by simp)).trans ((if_neg ?_).trans
        (if_pos rfl))))
      simpa using hagain
    case payload =>
      refine (execFlitRefusal_eq hstuck false (some data)).trans (congrArg _ ((if_neg (by simp)).trans
        ((if_neg ?_).trans (if_neg Bool.false_ne_true))))
      simpa using hagain
  case repairs =>
    intro l
    refine ⟨fun hpend htest hidle hself hfuse => ⟨fun hfree => ?_, fun hfree => ⟨?_, ?_, ?_⟩⟩,
      fun htest => ⟨fun hn => ?spare, fun code b r hcode => ?fails⟩, fun t hon hfuse => ?tc, fun hpend hidle => ?lan⟩
    · exact (execSpareRemap_eq hpend htest hidle hself hfuse).trans (congrArg _ (if_pos hfree))
    · exact (execSpareRemap_eq hpend htest hidle hself hfuse).trans
        (congrArg _ (if_neg (ne_true_of_eq_false hfree)))
    · rw [State.noSpareFor_svc]
    · rw [State.noSpareFor_svc]
    case spare =>
      obtain ⟨x, hx⟩ := s.toSpare_eq n
      have hsame : (s.onSpare n).SamePRX ((((s.onSpare n).records []).record x).spareRequest n) :=
        ((State.records_same _ []).trans (State.record_same ..)).trans (State.spareRequest_same ..)
      have hready := State.setReady_same ((((s.onSpare n).records []).record x).spareRequest n) (readyLan n) true
      refine ⟨_, congrArg Host.Outcome.next ((if_neg (by simp [show (s.lan n).svc.spareTest = true from htest])).trans
        ((if_pos rfl).trans hx)), State.isReady_setReady _ ?_ true, ?_, ?_⟩
      · simp only [readyLan]
        omega
      · rw [(hsame.trans hready).flash]
        exact mem_setIns.mpr (.inl rfl)
      · rw [(hsame.trans hready).mem]
        rfl
    case fails =>
      refine ⟨_, congrArg Host.Outcome.next ((if_neg (by simp [show (s.lan n).svc.spareTest = true from htest])).trans
        (if_neg hcode)), mem_setIns.mpr (.inl rfl), ?_, ?_, ?_⟩
      · rw [State.noSpareFor_svc]
      · rw [State.noSpareFor_svc]
      · rw [State.noSpareFor_svc]
    case tc =>
      obtain ⟨ls, x, hx, hcode⟩ := s.tcRepaired_eq t bank row
      refine ⟨_, x, (execFuseRepairEffect_tc hon hfuse).trans (congrArg _ hx), hcode, rfl, ?_, ?_, fun w hw => ?_, rfl⟩
      · rw [State.tc_modTc]
        rfl
      · rw [State.tc_modTc]
        rfl
      · rw [State.tc_modTc]
        have hkey : 16 * (32 * row + bank) + w ∈ rowKeys bank row := List.mem_map.mpr ⟨w, List.mem_range.mpr hw, rfl⟩
        exact Tab.find?_filter_none (fun v => by simp [hkey])
    case lan =>
      obtain ⟨k, bs, x, hx, hcode⟩ := s.lsRepaired_eq n bank row
      refine ⟨_, x, (execFuseRepairEffect_lan hidle hpend).trans (congrArg _ hx), hcode, rfl, ?_, ?_, rfl⟩
      · rw [State.lan_modLan]
        rfl
      · rw [State.lan_modLan]
        rfl

end Sys2Proof.Machine

/-! ## Tile caches: accesses, fills, invalidations and way groups (R319 to R332) -/

namespace Sys2Proof.Machine

open Sys2Proof

/-! ### Poisoned units (R332, R389) -/

/-- `t` differs from `s` in the bytes and the poison of device memory at most. -/
def State.SameButData (s t : State) : Prop := t = { s with mem := t.mem, poison := t.poison }

section SameButData

variable {s t u : State}

theorem State.SameButData.trans (h : s.SameButData t) (k : t.SameButData u) : s.SameButData u := by
  unfold State.SameButData at *
  rw [k, h]

theorem State.SameButData.foldl {α : Type} {f : State → α → State} (hf : ∀ (s : State) (a : α), s.SameButData (f s a))
    (xs : List α) (s : State) : s.SameButData (xs.foldl f s) := by
  induction xs generalizing s with
  | nil => rfl
  | cons a t ih => exact (hf s a).trans (ih (f s a))

theorem State.SameButData.tc (h : s.SameButData t) (k : Nat) : t.tc k = s.tc k := by
  rw [h]
  rfl

theorem State.SameButData.cirrus (h : s.SameButData t) : t.cirrus = s.cirrus := by rw [h]

end SameButData

theorem State.poisonUnit_sameButData (s : State) (u : Nat) : s.SameButData (s.poisonUnit u) := rfl

theorem State.physWriteP_sameButData (s : State) (pa : Nat) (bs : List Byte) (bad : Nat → Bool) :
    s.SameButData (s.physWriteP pa bs bad) := rfl

theorem State.syncPa_sameButData (s : State) (pa : Nat) : s.SameButData (s.syncPa pa) := by
  unfold State.syncPa
  split
  · split
    · rfl
    · exact .foldl (fun s _ => s.physWriteP_sameButData ..) _ s
  · rfl

theorem State.poisonPa_sameButData (s : State) (pa : Nat) : s.SameButData (s.poisonPa pa) := by
  unfold State.poisonPa
  dsimp only
  split
  · split
    · exact (s.poisonUnit_sameButData _).trans (State.syncPa_sameButData ..)
    · rfl
  · rfl

/-- A unit that no parity protects is poisoned alone. -/
theorem State.poisonPa_unprotected {s : State} {pa : Nat} (h : s.strOf pa = 0) : s.poisonPa pa = s.poisonUnit (pa / 64) := by
  have huse : (s.poisonUnit (pa / 64)).granUse pa = s.granUse pa := State.granUse_congr rfl pa
  unfold State.poisonPa State.syncPa
  unfold State.strOf at h
  dsimp only
  rw [huse]
  split
  next u hu =>
    rw [hu] at h
    simp [show u.pte.str = 0 from h]
  next => rfl

/-- The units of a range that no parity protects are all poisoned. -/
theorem State.poison_foldl_poisonPa {s : State} {f : Nat → Nat} (xs : List Nat) (h : ∀ i ∈ xs, s.strOf (f i) = 0) :
    (xs.foldl (fun s i => s.poisonPa (f i)) s).poison = (xs.map (fun i => f i / 64)).foldl setIns s.poison := by
  induction xs generalizing s with
  | nil => rfl
  | cons x xs ih =>
    have hrest : ∀ i ∈ xs, (s.poisonPa (f x)).strOf (f i) = 0 := fun i hi =>
      (State.strOf_congr (s.poisonPa_sameButData _).cirrus _).trans (h i (List.mem_cons_of_mem _ hi))
    rw [List.foldl_cons, ih hrest, State.poisonPa_unprotected (h x List.mem_cons_self)]
    rfl

theorem State.mem_poison_poisonLine {s : State} {line : Nat} (hline : 64 ∣ line)
    (h : ∀ i, i < 4 → s.strOf (line + 64 * i) = 0) {i : Nat} (hi : i < 4) : line / 64 + i ∈ (s.poisonLine line).poison := by
  unfold State.poisonLine
  rw [State.poison_foldl_poisonPa (f := fun i => line + 64 * i) _ (fun j hj => h j (List.mem_range.mp hj))]
  refine mem_foldl_setIns.mpr (.inl (List.mem_map.mpr ⟨i, List.mem_range.mpr hi, ?_⟩))
  omega

/-! ### Accesses (R319, R321 to R328, R330) -/

section Access

variable {s v : State} {pa : Nat} {agent : Option Nat} {k : CacheKind}

/-- With no way group under clean no walk goes on. -/
theorem State.walkOn_of_clean {t : Nat} (h : (s.tc t).clean = 0) : s.walkOn t = s := by
  unfold State.walkOn
  exact List.foldl_fixed' (fun g => if_neg (by simp [h])) _

theorem TCache.walked_of_clean {c : TCache} (h : c.clean = 0) (pa : Nat) : c.walked pa = false := by
  unfold TCache.walked
  simp [h]

/-- A tile cache with power that holds neither the set nor the input serves the access, unless a walk holds the
set (R330, R416, R426). -/
theorem execTileCacheAccess_eq (hon : s.tcOn (homeTc pa) = true) (hpa : pa < paEnd)
    (hheld : (s.tc (homeTc pa)).held pa = false) (hcut : s.cutHeld (accessor agent) pa = false) (err : LineErr) :
    execTileCacheAccess pa k agent err s = .next (if ((s.walkOn (homeTc pa)).tc (homeTc pa)).walked pa
      then s.walkOn (homeTc pa)
      else ((s.walkOn (homeTc pa)).lineRead pa (errSeen err k)).cacheAccess pa k agent) := by
  unfold execTileCacheAccess
  exact congrArg Host.Outcome.next (if_neg (by simp [hon, hheld, hcut, hpa]))

theorem State.lineRead_good (v : State) (pa : Nat) (k : CacheKind) : v.lineRead pa (errSeen .good k) = v := by
  unfold State.lineRead errSeen
  dsimp only
  split <;> rfl

/-- Wrong tag parity in the line that an access hits is counted and loses the line (R332). -/
theorem State.lineRead_tag {key : Nat} (hfind : (v.tc (homeTc pa)).find pa = some key) :
    v.lineRead pa (errSeen .tag k) =
      (v.modTc (homeTc pa) (fun c => { c with ceTag := satAdd 16 c.ceTag 1 })).lineLost pa key 0 0x0104 0 := by
  unfold State.lineRead errSeen
  dsimp only
  rw [hfind]

/-- A line with wrong tag parity that is dirty is poisoned, and one that is clean is invalidated (R332). -/
theorem State.lineLost_spec {key : Nat} {x : TcLine} (hx : (v.tc (homeTc pa)).lines.find? key = some x)
    (unit code aux : Nat) : ∃ (u : State) (y : RecIn), v.lineLost pa key unit code aux = u.record y ∧
      (x.dirty = true → y.code = 0x0203 ∧ u = v.poisonLine (pa / 256 * 256)) ∧
      (x.dirty = false → y.code = code ∧ (u.tc (homeTc pa)).lines.find? key = none ∧ u.mem = v.mem ∧
        (u.tc (homeTc pa)).ceTag = (v.tc (homeTc pa)).ceTag) := by
  unfold State.lineLost
  extract_lets t line upa
  split
  next z hz =>
    obtain rfl : x = z := Option.some.inj (hx.symm.trans hz)
    cases hdirty : x.dirty
    · have hcopies := v.dropCopies_eq x.pres line
      have htc : (v.dropCopies x.pres line).tc t = v.tc t := by
        rw [hcopies]
        rfl
      refine ⟨_, _, if_neg Bool.false_ne_true, nofun, fun _ => ⟨rfl, ?_, ?_, ?_⟩⟩
      · rw [State.tc_modTc]
        exact Tab.find?_erase_self ..
      · rw [hcopies]
        rfl
      · rw [State.tc_modTc, htc]
    · exact ⟨_, _, if_pos rfl, fun _ => ⟨rfl, rfl⟩, nofun⟩
  next hnone => exact absurd (hx.symm.trans hnone) (Option.some_ne_none x)

/-- The quadrants whose L1 caches hold a line after an access of `agent`. -/
def quadOf (agent : Option Nat) : BitVec 16 :=
  match agent with
  | some m => 1#16 <<< (m / 16)
  | none => 0

theorem State.cacheAccess_of_ne (hk : k ≠ .zeroLine) :
    v.cacheAccess pa k agent = v.lineAccessed pa k (accessor agent) none := if_neg hk

theorem State.cacheAccess_zeroLine : v.cacheAccess pa .zeroLine agent =
    (v.lineAccessed pa .zeroLine (accessor agent) none).zeroLine (pa / 256 * 256) := by
  unfold State.cacheAccess
  exact if_pos rfl

section Hit

variable (hhit : ((v.tc (homeTc pa)).find pa).isSome = true)

include hhit

theorem State.cacheAccess_read_hit : v.cacheAccess pa .read agent =
    v.modLine pa (fun x => { x with age := 0, pres := x.pres ||| quadOf agent }) := by
  rw [State.cacheAccess_of_ne (by decide)]
  refine (if_pos hhit).trans ?_
  cases agent <;> rfl

theorem State.cacheAccess_streamRead_hit :
    v.cacheAccess pa .streamRead agent = v.modLine pa (fun x => { x with age := 0 }) := by
  rw [State.cacheAccess_of_ne (by decide)]
  exact if_pos hhit

theorem State.cacheAccess_write_hit (hk : k ∈ [CacheKind.write, .wholeWrite, .streamWholeWrite]) :
    v.cacheAccess pa k agent = v.lineHit (accessor agent) pa 0 := by
  simp only [List.mem_cons, List.mem_nil_iff, or_false] at hk
  rcases hk with rfl | rfl | rfl
  · rw [State.cacheAccess_of_ne (by decide)]
    exact if_pos hhit
  · rw [State.cacheAccess_of_ne (by decide)]
    exact if_pos hhit
  · rw [State.cacheAccess_of_ne (by decide)]
    exact if_pos hhit

theorem State.lineAccessed_zeroLine_hit (w : Writer) :
    v.lineAccessed pa .zeroLine w none = v.lineHit w pa 3 := if_pos hhit

end Hit

section Miss

variable (hmiss : ¬ ((v.tc (homeTc pa)).find pa).isSome = true)

include hmiss

theorem State.cacheAccess_read_miss : v.cacheAccess pa .read agent =
    v.askFills { pa := pa / 256 * 256, age := 1, prefetch := false, dirty := false, quads := quadOf agent } := by
  rw [State.cacheAccess_of_ne (by decide)]
  refine (if_neg hmiss).trans ?_
  cases agent <;> rfl

theorem State.cacheAccess_streamRead_miss : v.cacheAccess pa .streamRead agent =
    v.modTc (homeTc pa) (fun c => c.askFill { pa := pa / 256 * 256, age := 3, prefetch := false, dirty := false }) := by
  rw [State.cacheAccess_of_ne (by decide)]
  exact if_neg hmiss

theorem State.cacheAccess_write_miss : v.cacheAccess pa .write agent =
    v.askFills { pa := pa / 256 * 256, age := 1, prefetch := false, dirty := true } := by
  rw [State.cacheAccess_of_ne (by decide)]
  exact if_neg hmiss

theorem State.cacheAccess_wholeWrite_miss : v.cacheAccess pa .wholeWrite agent = v.installLine pa 1 true 0 := by
  rw [State.cacheAccess_of_ne (by decide)]
  exact if_neg hmiss

theorem State.cacheAccess_streamWholeWrite_miss :
    v.cacheAccess pa .streamWholeWrite agent = v.installLine pa 3 true 0 := by
  rw [State.cacheAccess_of_ne (by decide)]
  exact if_neg hmiss

theorem State.lineAccessed_zeroLine_miss (w : Writer) :
    v.lineAccessed pa .zeroLine w none = v.installLine pa 3 true 0 := if_neg hmiss

end Miss

end Access

/-! ### Fills and invalidations (R321 to R326) -/

section Fills

variable {s : State} {t : Nat} {f : TcFill} {r : List TcFill}

/-- What the controller returns for a fill: a unit that is uncorrectable is poisoned, and reported where it was not
poisoned before (R326). -/
def State.fillRead (s : State) (f : TcFill) (err : FillErr) : State :=
  match err with
  | .good => s
  | .uncorrectable u syn =>
    let pa := f.pa + 64 * (u % 4)
    let v := if f.prefetch then s.poisonLine f.pa else s.poisonPa pa
    if s.poison.contains (pa / 64) then v else v.record (dramRec pa clsUe 0x0201 syn.toNat)

/-- The line of a fill is installed or joins the one that is there, and the L1 fills that asked for it follow (R322,
R325). -/
def State.fillInstalled (s : State) (f : TcFill) : State :=
  f.l1s.foldl (fun s p => if s.lanOn p.1 then s.modLan p.1 (fun l => l.l1Fill p.2) else s)
    (if ((s.tc (homeTc f.pa)).find f.pa).isSome then
      s.modLine f.pa (fun x => { x with dirty := x.dirty || f.dirty, pres := x.pres ||| f.quads })
    else s.installLine f.pa f.age f.dirty f.quads)

theorem execTileCacheFill_eq (hon : s.tcOn (homeTc f.pa) = true) (hfills : (s.tc (homeTc f.pa)).fills = f :: r)
    (hheld : (s.tc (homeTc f.pa)).held f.pa = false) (err : FillErr) : execTileCacheFill (homeTc f.pa) err s =
      .next (((s.modTc (homeTc f.pa) (fun c => { c with fills := r })).fillRead f err).fillInstalled f) := by
  unfold execTileCacheFill
  rw [hfills]
  refine congrArg Host.Outcome.next ((if_neg (by simp [hon, hheld])).trans ?_)
  cases err <;> rfl

/-- A demand whose unit the controller returns as uncorrectable has that unit poisoned and reported (R326). -/
theorem State.fillRead_uncorrectable {un : Nat} {syn : BitVec 16} (hun : un < 4) (hdemand : f.prefetch = false)
    (hgood : s.poison.contains ((f.pa + 64 * un) / 64) = false) : s.fillRead f (.uncorrectable un syn) =
      (s.poisonPa (f.pa + 64 * un)).record (dramRec (f.pa + 64 * un) clsUe 0x0201 syn.toNat) := by
  unfold State.fillRead
  dsimp only
  rw [Nat.mod_eq_of_lt hun, hdemand, if_neg (ne_true_of_eq_false hgood)]
  rfl

/-- A poisoned and reported unit leaves the tile caches as they are. -/
theorem State.record_poisonPa_tc (s : State) (pa : Nat) (x : RecIn) (k : Nat) : ((s.poisonPa pa).record x).tc k = s.tc k := by
  rw [State.record_same (s.poisonPa pa) x]
  exact (s.poisonPa_sameButData _).tc k

end Fills

theorem execL1Invalidation_first {s : State} {n pa : Nat} {i : Inval} {r : List Inval}
    (hinvals : (s.tc (homeTc pa)).invals = i :: r) (hline : i.pa = pa / 256 * 256) (hn : n ∈ i.lans) :
    execL1Invalidation n pa s = .next ((s.modLan n (fun l => l.l1DropLine (pa / 256 * 256))).modTc (homeTc pa)
      (fun c => { c with invals := { i with lans := setDel i.lans n } :: r })) := by
  have hhit : (decide (i.pa = pa / 256 * 256) && i.lans.contains n) = true := by simp [hline, hn]
  have hany : (s.tc (homeTc pa)).invals.any (fun i => decide (i.pa = pa / 256 * 256) && i.lans.contains n) = true := by
    rw [hinvals, List.any_cons, hhit, Bool.true_or]
  have hupd : updFirst (fun i => decide (i.pa = pa / 256 * 256) && i.lans.contains n)
      (fun i => { i with lans := setDel i.lans n }) (s.tc (homeTc pa)).invals = { i with lans := setDel i.lans n } :: r := by
    rw [hinvals]
    exact if_pos hhit
  refine congrArg Host.Outcome.next ((if_pos hany).trans ?_)
  unfold State.modTc
  rw [← hupd]
  rfl

/-! ### Way groups (R329 to R331) -/

section Ways

theorem State.modTc_congr {s : State} {t : Nat} {f k : TCache → TCache} (h : f (s.tc t) = k (s.tc t)) :
    s.modTc t f = s.modTc t k := by
  unfold State.modTc
  rw [h]

/-- What a write of one GROUP bit does (R329, R331). -/
def TCache.waySet (c : TCache) (g : Nat) (want : Bool) : TCache :=
  if want = c.group.getLsbD g then c
  else if want then
    if c.clean.getLsbD g then { c with err := true } else { c with group := bitSet c.group g true }
  else if c.on.getLsbD g && c.fuse.isNone then
    { c with group := bitSet c.group g false, clean := bitSet c.clean g true }
  else { c with group := bitSet c.group g false }

theorem TCache.waySet_same {c : TCache} {g : Nat} {want : Bool} (h : c.group.getLsbD g = want) : c.waySet g want = c :=
  if_pos h.symm

theorem TCache.waySet_group_of_ne (c : TCache) {g j : Nat} (h : j ≠ g) (want : Bool) :
    (c.waySet g want).group.getLsbD j = c.group.getLsbD j := by
  unfold TCache.waySet
  split
  · rfl
  · split
    · split
      · rfl
      · exact getLsbD_bitSet_of_ne _ h _
    · split
      · exact getLsbD_bitSet_of_ne _ h _
      · exact getLsbD_bitSet_of_ne _ h _

/-- A write of GROUP that changes one bit does what that bit asks (R329). -/
theorem TCache.wayWrite_one (c : TCache) {g : Nat} (h1 : 1 ≤ g) (h4 : g < 4) (want : Bool) :
    c.wayWrite ((bitSet c.group g want).setWidth 32) = c.waySet g want := by
  have hbit (j : Nat) (hj : j < 4) : ((bitSet c.group g want).setWidth 32).getLsbD j = (bitSet c.group g want).getLsbD j := by
    rw [BitVec.getLsbD_setWidth, decide_eq_true (Nat.lt_trans hj (by decide)), Bool.true_and]
  have hwant : ((bitSet c.group g want).setWidth 32).getLsbD g = want :=
    (hbit g h4).trans (getLsbD_bitSet_same _ h4 want)
  have hother (d : TCache) (j : Nat) (hj : j < 4) (hne : j ≠ g) (hd : d.group.getLsbD j = c.group.getLsbD j) :
      d.waySet j (((bitSet c.group g want).setWidth 32).getLsbD j) = d :=
    TCache.waySet_same (by rw [hbit j hj, getLsbD_bitSet_of_ne _ hne, hd])
  have hclear : ((bitSet c.group g want).setWidth 32).getLsbD 31 = false := by
    rw [BitVec.getLsbD_setWidth, BitVec.getLsbD_of_ge _ _ (by decide), Bool.and_false]
  have hsteps : c.wayWrite ((bitSet c.group g want).setWidth 32) =
      [1, 2, 3].foldl (fun d j => d.waySet j (((bitSet c.group g want).setWidth 32).getLsbD j)) c := by
    unfold TCache.wayWrite
    rw [hclear]
    rfl
  rw [hsteps, List.foldl_cons, List.foldl_cons, List.foldl_cons, List.foldl_nil]
  interval_cases g
  · rw [hwant, hother _ 2 (by decide) (by decide) (c.waySet_group_of_ne (by decide) want),
      hother _ 3 (by decide) (by decide) (c.waySet_group_of_ne (by decide) want)]
  · rw [hother c 1 (by decide) (by decide) rfl, hwant,
      hother _ 3 (by decide) (by decide) (c.waySet_group_of_ne (by decide) want)]
  · rw [hother c 1 (by decide) (by decide) rfl, hother c 2 (by decide) (by decide) rfl, hwant]

/-- Lines that leave a tile cache change its write-back queue, beside their copies (R322). -/
theorem State.foldl_writeBack_tc (t : Nat) (xs : List (Nat × TcLine)) (s : State) : ∃ w ls,
    xs.foldl (fun s p => (s.dropCopies p.2.pres (lineAddr t (p.1 / 16) p.2.tag)).modTc t
      (fun c => c.writeBack t (p.1 / 16) p.2)) s =
      { s with lans := ls, tcs := w } ∧ (Tab.getD w t {}).lines = (s.tc t).lines ∧
        (Tab.getD w t {}).clean = (s.tc t).clean ∧ (Tab.getD w t {}).on = (s.tc t).on := by
  induction xs generalizing s with
  | nil => exact ⟨s.tcs, s.lans, rfl, rfl, rfl, rfl⟩
  | cons p xs ih =>
    let u := (s.dropCopies p.2.pres (lineAddr t (p.1 / 16) p.2.tag)).modTc t (fun c => c.writeBack t (p.1 / 16) p.2)
    obtain ⟨w, ls, hfold, hlines, hclean, hon⟩ := ih u
    have hcopies := s.dropCopies_eq p.2.pres (lineAddr t (p.1 / 16) p.2.tag)
    have hu : (u.tc t).lines = (s.tc t).lines ∧ (u.tc t).clean = (s.tc t).clean ∧ (u.tc t).on = (s.tc t).on := by
      have htc : u.tc t = (s.tc t).writeBack t (p.1 / 16) p.2 := by
        refine (State.tc_modTc ..).trans ?_
        rw [hcopies]
        rfl
      rw [htc]
      unfold TCache.writeBack
      split <;> exact ⟨rfl, rfl, rfl⟩
    obtain ⟨ulines, uclean, uon⟩ := hu
    refine ⟨w, ls, hfold.trans ?_, hlines.trans ulines, hclean.trans uclean, hon.trans uon⟩
    change { State.modTc (s.dropCopies p.2.pres (lineAddr t (p.1 / 16) p.2.tag)) t _ with lans := ls, tcs := w } = _
    rw [hcopies]
    rfl

/-- The lines of a way group leave its tile cache, over all of its sets (R329). -/
theorem State.dropLines_all {s : State} {t g : Nat} :
    (∀ p, p.1 / 16 < tcSets → (p ∈ ((s.dropLines t g 0 tcSets).tc t).lines ↔ p ∈ (s.tc t).lines ∧ p.1 % 16 / 4 ≠ g)) ∧
      ((s.dropLines t g 0 tcSets).tc t).clean = (s.tc t).clean ∧
      ((s.dropLines t g 0 tcSets).tc t).on = (s.tc t).on ∧ (s.dropLines t g 0 tcSets).mem = s.mem := by
  unfold State.dropLines
  extract_lets mine u
  obtain ⟨w, ls, hfold, hlines, hclean, hon⟩ := State.foldl_writeBack_tc t ((s.tc t).lines.filter mine) s
  have hu : u = { s with lans := ls, tcs := w } := hfold
  have htc : u.tc t = Tab.getD w t {} := by
    rw [hu]
    rfl
  refine ⟨fun p hp => ?_, ?_, ?_, ?_⟩
  · rw [State.tc_modTc]
    change p ∈ (u.tc t).lines.filter _ ↔ _
    rw [htc, hlines, List.mem_filter]
    simp [mine, hp]
  · rw [State.tc_modTc]
    exact (congrArg TCache.clean htc).trans hclean
  · rw [State.tc_modTc]
    exact (congrArg TCache.on htc).trans hon
  · have hmem : u.mem = s.mem := by rw [hu]
    exact hmem

end Ways

/-- An access that no walk stops is served by the home tile cache (R319, R330). -/
theorem execTileCacheAccess_served {s : State} {pa : Nat} {agent : Option Nat} (hon : s.tcOn (homeTc pa) = true)
    (hpa : pa < paEnd) (hheld : (s.tc (homeTc pa)).held pa = false) (hcut : s.cutHeld (accessor agent) pa = false)
    (hfree : ((s.walkOn (homeTc pa)).tc (homeTc pa)).walked pa = false) (k : CacheKind) (err : LineErr) :
    execTileCacheAccess pa k agent err s =
      .next (((s.walkOn (homeTc pa)).lineRead pa (errSeen err k)).cacheAccess pa k agent) :=
  (execTileCacheAccess_eq hon hpa hheld hcut err).trans (congrArg _ (if_neg (ne_true_of_eq_false hfree)))

/-- Wrong tag parity in a clean line loses it, and in a dirty one poisons it (R332). -/
theorem State.lineRead_tag_spec {v : State} {pa key : Nat} {x : TcLine} (hfind : (v.tc (homeTc pa)).find pa = some key)
    (hx : (v.tc (homeTc pa)).lines.find? key = some x) (k : CacheKind) : ∃ (u : State) (y : RecIn),
      v.lineRead pa (errSeen .tag k) = u.record y ∧
      (x.dirty = true → y.code = 0x0203 ∧ u = State.poisonLine
          (v.modTc (homeTc pa) (fun c => { c with ceTag := satAdd 16 c.ceTag 1 })) (pa / 256 * 256) ∧
        ((∀ i, i < 4 → v.strOf (pa / 256 * 256 + 64 * i) = 0) → ∀ i, i < 4 → pa / 256 * 256 / 64 + i ∈ u.poison)) ∧
      (x.dirty = false → y.code = 0x0104 ∧ (u.tc (homeTc pa)).lines.find? key = none ∧ u.mem = v.mem ∧
        (u.tc (homeTc pa)).ceTag = satAdd 16 (v.tc (homeTc pa)).ceTag 1) := by
  obtain ⟨u, y, hlost, hdirty, hclean⟩ := State.lineLost_spec (pa := pa)
    (v := v.modTc (homeTc pa) (fun c => { c with ceTag := satAdd 16 c.ceTag 1 })) (key := key) (x := x)
    (by rw [State.tc_modTc]; exact hx) 0 0x0104 0
  refine ⟨u, y, (State.lineRead_tag hfind).trans hlost, fun hd => ?_, fun hc => ?_⟩
  · obtain ⟨hcode, hu⟩ := hdirty hd
    refine ⟨hcode, hu, fun hstr i hi => ?_⟩
    rw [hu]
    refine State.mem_poison_poisonLine (Nat.dvd_mul_left_of_dvd (by decide) _) (fun j hj => ?_) hi
    exact (State.strOf_congr rfl _).trans (hstr j hj)
  · obtain ⟨hcode, hnone, hmem, htag⟩ := hclean hc
    refine ⟨hcode, hnone, hmem, htag.trans ?_⟩
    rw [State.tc_modTc]

theorem State.fillRead_good (v : State) (f : TcFill) : v.fillRead f .good = v := rfl

/-- Every line of a fill that its tile cache lacks is installed (R322). -/
theorem State.fillInstalled_absent {v : State} {f : TcFill} (h : (v.tc (homeTc f.pa)).find f.pa = none) :
    v.fillInstalled f = f.l1s.foldl (fun s p => if s.lanOn p.1 then s.modLan p.1 (fun l => l.l1Fill p.2) else s)
      (v.installLine f.pa f.age f.dirty f.quads) := by
  unfold State.fillInstalled
  rw [h]
  rfl

theorem State.tc_modTc_fills_find (s : State) (t pa : Nat) (r : List TcFill) :
    ((s.modTc t (fun c => { c with fills := r })).tc t).find pa = (s.tc t).find pa := by
  rw [State.tc_modTc]
  rfl

/-- Settles O30: each access by its line and its kind, each way group by its GROUP bit and its walk. -/
theorem tileCachesComplete : Obligations.TileCachesComplete := by
  unfold Obligations.TileCachesComplete
  refine ⟨fun s pa n agent => ?caches, fun s t g hon hg => ?ways⟩
  case caches =>
    intro h line w quads
    refine ⟨fun hon hpa hheld hcut v hv => ?access, fun f r t hon hfills hheld hhome habsent => ?fill,
      fun i r hinvals hline hn => ?inval, rfl⟩
    case access =>
      subst hv
      intro hit go
      have hgood (k : CacheKind) (hfree : ((s.walkOn h).tc h).walked pa = false) :
          go k ((s.walkOn h).cacheAccess pa k agent) := by
        refine (execTileCacheAccess_served hon hpa hheld hcut hfree k .good).trans (congrArg _ ?_)
        rw [State.lineRead_good]
      refine ⟨fun hclean => ⟨State.walkOn_of_clean hclean, ?_⟩,
        fun hwalked k => (execTileCacheAccess_eq hon hpa hheld hcut .good).trans (congrArg _ (if_pos hwalked)),
        fun hfree k key x hfind hx => ?tag, fun hfree hhit => ?hits, fun hfree hmiss => ?misses⟩
      · rw [State.walkOn_of_clean hclean]
        exact TCache.walked_of_clean hclean pa
      case tag =>
        obtain ⟨u, y, hread, hlost⟩ := State.lineRead_tag_spec hfind hx k
        refine ⟨u, y, (execTileCacheAccess_served hon hpa hheld hcut hfree k .tag).trans (congrArg _ ?_), hlost⟩
        rw [hread]
      case hits =>
        refine ⟨?_, ?_, fun k hk => ?_, ?_⟩
        · exact State.cacheAccess_read_hit hhit ▸ hgood .read hfree
        · exact State.cacheAccess_streamRead_hit hhit ▸ hgood .streamRead hfree
        · have hrow := hgood k hfree
          rw [State.cacheAccess_write_hit hhit hk] at hrow
          exact hrow
        · have hrow := hgood .zeroLine hfree
          rw [State.cacheAccess_zeroLine, State.lineAccessed_zeroLine_hit hhit] at hrow
          exact hrow
      case misses =>
        have hno := ne_true_of_eq_false hmiss
        refine ⟨?_, ?_, ?_, ?_, ?_, ?_⟩
        · exact State.cacheAccess_read_miss hno ▸ hgood .read hfree
        · exact State.cacheAccess_streamRead_miss hno ▸ hgood .streamRead hfree
        · exact State.cacheAccess_write_miss hno ▸ hgood .write hfree
        · exact State.cacheAccess_wholeWrite_miss hno ▸ hgood .wholeWrite hfree
        · exact State.cacheAccess_streamWholeWrite_miss hno ▸ hgood .streamWholeWrite hfree
        · have hrow := hgood .zeroLine hfree
          rw [State.cacheAccess_zeroLine, State.lineAccessed_zeroLine_miss hno] at hrow
          exact hrow
    case fill =>
      subst hhome
      intro u put
      have hnone : (u.tc (homeTc f.pa)).find f.pa = none :=
        (State.tc_modTc_fills_find ..).trans (Option.isNone_iff_eq_none.mp habsent)
      refine ⟨?_, fun un syn hun hdemand hgood => ?_⟩
      · have hrow := execTileCacheFill_eq hon hfills hheld .good
        rw [State.fillRead_good, State.fillInstalled_absent hnone] at hrow
        exact hrow
      · have hrow := execTileCacheFill_eq hon hfills hheld (.uncorrectable un syn)
        rw [State.fillRead_uncorrectable (s := u) hun hdemand hgood, State.fillInstalled_absent
          ((congrArg (TCache.find · f.pa) (State.record_poisonPa_tc ..)).trans hnone)] at hrow
        exact hrow
    case inval =>
      refine ⟨_, execL1Invalidation_first hinvals hline hn, ?_, fun m hm => ?_, ?_, rfl⟩
      · exact State.lan_modLan s n (fun l => l.l1DropLine line)
      · exact State.lan_modLan_of_ne s (fun l => l.l1DropLine line) hm
      · rw [State.tc_modTc]
  case ways =>
    intro c
    refine ⟨fun h1 => ⟨fun hgroup hgon hfuse => ?down, fun hgroup hclean => ?up, fun hgroup hclean => ?busy⟩,
      fun hclean => ?end_, fun hgroup hclean => ?on⟩
    case down =>
      refine congrArg Host.Outcome.next ((if_pos hon).trans (State.modTc_congr ?_))
      rw [(s.tc t).wayWrite_one h1 hg, TCache.waySet, if_neg (by rw [hgroup]; decide), if_neg Bool.false_ne_true,
        if_pos (by rw [hgon, hfuse]; rfl)]
    case up =>
      refine congrArg Host.Outcome.next ((if_pos hon).trans (State.modTc_congr ?_))
      rw [(s.tc t).wayWrite_one h1 hg, TCache.waySet, if_neg (by rw [hgroup]; decide), if_pos rfl,
        if_neg (by rw [hclean]; decide)]
    case busy =>
      refine congrArg Host.Outcome.next ((if_pos hon).trans (State.modTc_congr ?_))
      rw [(s.tc t).wayWrite_one h1 hg, TCache.waySet, if_neg (by rw [hgroup]; decide), if_pos rfl, if_pos hclean]
    case end_ =>
      obtain ⟨hlines, hclean', hon', hmem⟩ := State.dropLines_all (s := s) (t := t) (g := g)
      refine ⟨_, congrArg Host.Outcome.next (if_pos (by rw [hon, hclean]; rfl)), ?_, ?_, hmem, fun p hp => ?_⟩
      · rw [State.tc_modTc]
        exact getLsbD_bitSet_same _ hg false
      · rw [State.tc_modTc]
        exact getLsbD_bitSet_same _ hg false
      · rw [State.tc_modTc]
        exact hlines p hp
    case on =>
      exact congrArg Host.Outcome.next (if_pos (by rw [hon, hgroup, hclean]; rfl))

end Sys2Proof.Machine

/-! ## Translation, page fetches, eviction and the page-table query (R173, R337, R347 to R359) -/

namespace Sys2Proof.Machine

open Sys2Proof

/-! ### Translation (R337) -/

section Translation

variable {s : State} {n vpn : Nat} {e : Pte}

/-- A buffer with a free entry takes the page as its last one. -/
theorem execTranslationFill_of_room (hview : s.view vpn = some e) (hv : e.v = true) (hacc : e.acc ≠ .none)
    (hon : s.lanOn n = true) (hroom : ((s.lan n).tb.filter (fun v => v ≠ vpn)).length < 64) :
    execTranslationFill n vpn s =
      .next (s.modLan n (fun l => { l with tb := l.tb.filter (fun v => v ≠ vpn) ++ [vpn] })) := by
  unfold execTranslationFill
  rw [hview]
  exact congrArg Host.Outcome.next ((if_neg (by simp [hon, hv, hacc])).trans (if_pos hroom))

/-- In a full buffer one of the first 64 entries makes room. -/
theorem execTranslationFill_of_full (hview : s.view vpn = some e) (hv : e.v = true) (hacc : e.acc ≠ .none)
    (hon : s.lanOn n = true) (hfull : 64 ≤ ((s.lan n).tb.filter (fun v => v ≠ vpn)).length) :
    ∃ i < 64, execTranslationFill n vpn s = .next (s.draw.2.setLan n
      { s.lan n with tb := ((s.lan n).tb.filter (fun v => v ≠ vpn)).eraseIdx i ++ [vpn] }) := by
  refine ⟨s.draw.1.toNat % 64, Nat.mod_lt _ (by decide), ?_⟩
  unfold execTranslationFill
  rw [hview]
  exact congrArg Host.Outcome.next ((if_neg (by simp [hon, hv, hacc])).trans (if_neg (Nat.not_lt.mpr hfull)))

/-- A page that the buffer lacks joins it, and the buffer does not outgrow its 64 entries. -/
theorem execTranslationFill_absent (hview : s.view vpn = some e) (hv : e.v = true) (hacc : e.acc ≠ .none)
    (hon : s.lanOn n = true) (habsent : vpn ∉ (s.lan n).tb) :
    ∃ t, execTranslationFill n vpn s = .next t ∧ vpn ∈ (t.lan n).tb ∧ t.mem = s.mem ∧
      (t.lan n).tb.length = min ((s.lan n).tb.length + 1) (max 64 (s.lan n).tb.length) ∧
      (∀ m, m ≠ n → t.lan m = s.lan m) ∧
      ((s.lan n).tb.length < 64 → (t.lan n).tb = (s.lan n).tb ++ [vpn]) := by
  have hfilter : (s.lan n).tb.filter (fun v => v ≠ vpn) = (s.lan n).tb :=
    List.filter_eq_self.mpr (fun v hv => decide_eq_true (fun h => habsent (h ▸ hv)))
  rcases Nat.lt_or_ge (s.lan n).tb.length 64 with hroom | hfull
  · refine ⟨_, execTranslationFill_of_room hview hv hacc hon (by rw [hfilter]; exact hroom), ?_, rfl, ?_,
      fun m hm => State.lan_modLan_of_ne s _ hm, fun _ => ?_⟩
    · rw [State.lan_modLan]
      simp
    · rw [State.lan_modLan, hfilter, List.length_append, List.length_singleton]
      omega
    · rw [State.lan_modLan, hfilter]
  · obtain ⟨i, hi, hrow⟩ := execTranslationFill_of_full hview hv hacc hon (by rw [hfilter]; exact hfull)
    refine ⟨_, hrow, ?_, rfl, ?_, fun m hm => State.lan_setLan_of_ne s.draw.2 _ hm,
      fun h => absurd h (Nat.not_lt.mpr hfull)⟩
    · rw [State.lan_setLan]
      simp
    · rw [State.lan_setLan, hfilter, List.length_append, List.length_singleton,
        List.length_eraseIdx_of_lt (by omega)]
      omega

/-- A page that the buffer holds is read again, into the last entry (R386). -/
theorem execTranslationFill_present (hview : s.view vpn = some e) (hv : e.v = true) (hacc : e.acc ≠ .none)
    (hon : s.lanOn n = true) (hmem : vpn ∈ (s.lan n).tb) (hlen : (s.lan n).tb.length ≤ 64) :
    execTranslationFill n vpn s =
      .next (s.modLan n (fun l => { l with tb := l.tb.filter (fun v => v ≠ vpn) ++ [vpn] })) := by
  refine execTranslationFill_of_room hview hv hacc hon (Nat.lt_of_lt_of_le ?_ hlen)
  exact List.length_filter_lt_length_iff_exists.mpr ⟨vpn, hmem, by simp⟩

end Translation

/-! ### Arrivals (R347, R353) -/

section Arrivals

variable {s : State} {vpn sub : Nat} {e : Pte} {f : Fetch}

theorem execSubPageArrival_eq (hpte : s.pte? vpn = some e) (hfetch : s.cirrus.fetches.find? vpn = some f) :
    execSubPageArrival vpn sub s = .next (if s.cirGoes vpn then s.subArrives vpn sub e f else s) := by
  unfold execSubPageArrival
  rw [hpte, hfetch]

theorem State.subArrives_peer (hres : e.res ≠ .host) (hwhole : f.whole sub = true) : s.subArrives vpn sub e f =
    (s.setFetch vpn { f with arrived := bitSet f.arrived sub true }).wakePage vpn sub :=
  (if_neg hres).trans (if_pos hwhole)

/-- The data of a sealed sub-page are written and it counts as arrived; the last one completes the fetch. -/
def State.subOpened (s : State) (vpn sub : Nat) (e : Pte) (f : Fetch) (pt : List Byte) : State :=
  let g := { f with arrived := bitSet f.arrived sub true, got := f.got ||| subBits sub }
  let t := ((List.range 16).foldl (fun s i =>
    s.fetchPart e g (16 * sub + i) (bslice pt (4096 * i) 4096) (f.pm.getD (16 * sub + i) 0)) s).setFetch vpn g
  if g.full then t.fetchDone vpn e g else t.wakePage vpn sub

theorem State.subArrives_host (hres : e.res = .host) (hnew : f.arrived.getLsbD sub = false)
    (hsealed : f.sealed sub = true) (hheld : ∀ i, i < 16 → s.pageHeld (e.on f) (16 * sub + i) = false) :
    s.subArrives vpn sub e f = match s.openSub vpn sub e.sealver f with
      | none => (s.failFetch vpn e).record (pageRec clsUe 0x0209 vpn e.home e.sealver)
      | some pt => s.subOpened vpn sub e f pt := by
  have hnone : (List.range 16).any (fun i => s.pageHeld (e.on f) (16 * sub + i)) = false :=
    List.any_eq_false.mpr (fun i hi => ne_true_of_eq_false (hheld i (List.mem_range.mp hi)))
  unfold State.subArrives
  rw [if_pos hres, if_neg (by rw [hnew, hsealed, hnone]; decide)]
  cases s.openSub vpn sub e.sealver f <;> rfl

/-- A sub-page whose tag does not verify fails its fetch. -/
theorem State.subArrives_bad_tag (hres : e.res = .host) (hnew : f.arrived.getLsbD sub = false)
    (hsealed : f.sealed sub = true) (hheld : ∀ i, i < 16 → s.pageHeld (e.on f) (16 * sub + i) = false)
    (hopen : s.openSub vpn sub e.sealver f = none) :
    s.subArrives vpn sub e f = (s.failFetch vpn e).record (pageRec clsUe 0x0209 vpn e.home e.sealver) := by
  rw [State.subArrives_host hres hnew hsealed hheld, hopen]

theorem State.subArrives_good_tag (hres : e.res = .host) (hnew : f.arrived.getLsbD sub = false)
    (hsealed : f.sealed sub = true) (hheld : ∀ i, i < 16 → s.pageHeld (e.on f) (16 * sub + i) = false)
    {pt : List Byte} (hopen : s.openSub vpn sub e.sealver f = some pt) :
    s.subArrives vpn sub e f = s.subOpened vpn sub e f pt := by
  rw [State.subArrives_host hres hnew hsealed hheld, hopen]

end Arrivals

/-! ### Fetches that fail (R348) -/

section Fails

variable {s : State} {vpn : Nat} {e : Pte} {f : Fetch}

theorem execFetchSlow_eq (hpte : s.pte? vpn = some e) (hfetch : s.cirrus.fetches.find? vpn = some f)
    (hslow : f.slow = false) : execFetchSlow vpn s =
      .next ((s.setFetch vpn { f with slow := true }).record (pageRec clsInfo 0x0407 vpn e.home e.home)) := by
  unfold execFetchSlow
  rw [hpte, hfetch]
  exact congrArg Host.Outcome.next (if_neg (ne_true_of_eq_false hslow))

theorem execFetchFail_eq (hpte : s.pte? vpn = some e) (hfetch : s.cirrus.fetches.find? vpn = some f) :
    execFetchFail vpn s = .next ((s.failFetch vpn e).record (pageRec clsUe 0x0208 vpn e.home e.home)) := by
  unfold execFetchFail
  rw [hpte, hfetch]

/-- A dropped fetch is gone, and the count of failures stays. -/
theorem State.dropFetch_spec (hfetch : s.cirrus.fetches.find? vpn = some f) :
    (s.dropFetch vpn e).cirrus.fetches = s.cirrus.fetches.erase vpn ∧
      (s.dropFetch vpn e).cirrus.fails = s.cirrus.fails := by
  unfold State.dropFetch
  rw [hfetch]
  dsimp only
  split
  · unfold State.unplace
    split <;> exact ⟨rfl, rfl⟩
  · exact ⟨rfl, rfl⟩

theorem State.failFetch_spec (hfetch : s.cirrus.fetches.find? vpn = some f) :
    (s.failFetch vpn e).cirrus.fetches.find? vpn = none ∧
      (s.failFetch vpn e).pte? vpn = some { e with fail := true } ∧
      (s.failFetch vpn e).cirrus.fails = min (s.cirrus.fails + 1) 65535 := by
  obtain ⟨hfetches, hfails⟩ := State.dropFetch_spec (e := e) hfetch
  refine ⟨?_, Tab.find?_put_self .., ?_⟩
  · exact (congrArg (Tab.find? · vpn) hfetches).trans (Tab.find?_erase_self ..)
  · exact congrArg (satAdd 16 · 1) hfails

end Fails

/-! ### Eviction, copies and the query (R355, R358, R359) -/

section Rest

variable {s : State} {vpn : Nat} {e : Pte}

theorem execEviction_eq (hon : s.tc0On = true)
    (hneed : s.cirrus.capFree < 512 * s.cirrus.lowmark.toNat ∨ s.fetchStarved = true) (hvictim : s.victim = some vpn)
    (hpte : s.pte? vpn = some e) (hgoes : e.acc = .write → s.cirGoes vpn = true) :
    execEviction s = .next (s.evict vpn e).wakeStuck := by
  unfold execEviction
  rw [if_pos (by simpa [hon] using hneed), hvictim]
  dsimp only
  rw [hpte]
  exact congrArg Host.Outcome.next (if_neg (by simpa using hgoes))

theorem execCowCopyComplete_eq {c : Pte} (hcow : s.cow? vpn = some c) (hpte : s.pte? vpn = some e)
    (hgen : e.gen ≠ s.cirrus.cur) (hcut : s.ckCut = false) : execCowCopyComplete vpn s =
      .next (((s.copyPage e c).setPte vpn { e with gen := s.cirrus.cur }).wakeVpn vpn).pumpPins := by
  unfold execCowCopyComplete
  rw [hcow, hpte]
  exact congrArg Host.Outcome.next (if_neg (by simp [hgen, hcut]))

theorem pteqField_eq (v : Word) : BitVec.ofNat 27 (natField v.toNat 0 27) = v.setWidth 27 := by
  apply BitVec.eq_of_toNat_eq
  simp [natField]

theorem pteqField_toNat (v : Word) : (BitVec.ofNat 27 (natField v.toNat 0 27)).toNat = v.toNat % 2 ^ 27 := by
  rw [pteqField_eq, BitVec.toNat_setWidth]

/-- A write of PTEQ names its page, and with START set it answers with the entry of the page or a miss (R359). -/
theorem State.pteqWrite_spec (v : Word) : s.pteqWrite v = { s with cirrus := (s.pteqWrite v).cirrus } ∧
    (s.pteqWrite v).cirrus.pteqVpn = v.setWidth 27 ∧
    (v.getLsbD 31 = true → (∀ x, s.pte? (v.toNat % 2 ^ 27) = some x →
      (s.pteqWrite v).cirrus.pteqMiss = false ∧ (s.pteqWrite v).cirrus.pted = BitVec.ofNat 128 x.encode) ∧
      (s.pte? (v.toNat % 2 ^ 27) = none → (s.pteqWrite v).cirrus.pteqMiss = true ∧ (s.pteqWrite v).cirrus.pted = 0)) := by
  refine ⟨rfl, ?_, fun hstart => ⟨fun x hx => ?_, fun hnone => ?_⟩⟩
  · rw [← pteqField_eq]
    unfold State.pteqWrite
    dsimp only
    split
    · split <;> rfl
    · rfl
  · rw [← pteqField_toNat] at hx
    unfold State.pteqWrite
    dsimp only
    rw [if_pos hstart, hx]
    exact ⟨rfl, rfl⟩
  · rw [← pteqField_toNat] at hnone
    unfold State.pteqWrite
    dsimp only
    rw [if_pos hstart, hnone]
    exact ⟨rfl, rfl⟩

end Rest

/-- Settles O31: each row by the entry, the fetch and the buffer that it meets. -/
theorem pageFetchesComplete : Obligations.PageFetchesComplete := by
  unfold Obligations.PageFetchesComplete
  intro s n vpn sub e f
  refine ⟨fun hview hv hacc hon habsent => execTranslationFill_absent hview hv hacc hon habsent,
    fun hview hv hacc hon hmem hlen => execTranslationFill_present hview hv hacc hon hmem hlen,
    fun hpte hfetch => ⟨fun hno => ?stays, fun hgoes hres hwhole => ?peer, fun hgoes hres hnew hsealed hheld => ?host,
      fun hslow => execFetchSlow_eq hpte hfetch hslow, ⟨_, execFetchFail_eq hpte hfetch, State.failFetch_spec hfetch⟩⟩,
    fun hon => congrArg Host.Outcome.next (if_pos hon), ⟨_, rfl, rfl, fun h => ?holds⟩,
    fun hon hneed hvictim hpte hgoes => execEviction_eq hon hneed hvictim hpte hgoes,
    fun c hcow hpte hgen hcut => execCowCopyComplete_eq hcow hpte hgen hcut,
    fun hon v => ⟨_, congrArg Host.Outcome.next (if_pos hon), State.pteqWrite_spec v⟩⟩
  case stays => exact (execSubPageArrival_eq hpte hfetch).trans (congrArg _ (if_neg (ne_true_of_eq_false hno)))
  case peer =>
    refine (execSubPageArrival_eq hpte hfetch).trans (congrArg _ ((if_pos hgoes).trans ?_))
    exact State.subArrives_peer hres hwhole
  case host =>
    have hrow := (execSubPageArrival_eq (sub := sub) hpte hfetch).trans (congrArg Host.Outcome.next (if_pos hgoes))
    refine ⟨fun hopen => ?_, fun pt hopen => ?_⟩
    · rw [State.subArrives_bad_tag hres hnew hsealed hheld hopen] at hrow
      exact hrow
    · rw [State.subArrives_good_tag hres hnew hsealed hheld hopen] at hrow
      exact hrow
  case holds => simp [List.mem_filter]

end Sys2Proof.Machine

/-! ## Boot, bring-up and their limits (R500, R515, R542 to R550, R554) -/

namespace Sys2Proof.Machine

open Sys2Proof

/-! ### The boot ROM (R542, R554) -/

section Rom

theorem Tab.find?_filter_of_pos {α : Type} {t : Tab α} {k : Nat} {p : Nat × α → Bool} (h : ∀ v, p (k, v) = true) :
    Tab.find? (t.filter p) k = Tab.find? t k := by
  induction t with
  | nil => rfl
  | cons a t ih =>
    obtain ⟨j, v⟩ := a
    by_cases hj : j = k
    · subst hj
      rw [List.filter_cons_of_pos (h v)]
      simp [Tab.find?]
    · by_cases hp : p (j, v) = true
      · rw [List.filter_cons_of_pos hp]
        simpa [Tab.find?, hj] using ih
      · rw [List.filter_cons_of_neg hp]
        simpa [Tab.find?, hj] using ih

/-- Four entries from 1 on leave entry 0 and stand one behind the other. -/
theorem Tab.find?_put_four {α : Type} (t : Tab α) (f : Nat → α) :
    Tab.find? ((List.range 4).foldl (fun t k => t.put (k + 1) (f k)) t) 0 = Tab.find? t 0 ∧
      ∀ k, k < 4 → Tab.find? ((List.range 4).foldl (fun t k => t.put (k + 1) (f k)) t) (k + 1) = some (f k) := by
  refine ⟨?_, fun k hk => ?_⟩
  · simp [List.range_succ, Tab.find?_put]
  · interval_cases k <;> simp [List.range_succ, Tab.find?_put]

variable {s : State}

/-- Step 2 of the boot ROM, and what it has found of SEC's items (R543). -/
def State.romStarted (s : State) (items : Bool) : State :=
  { s.romStep2 with start := { s.start with secFailed := s.start.secFailed || !items } }

theorem execBootRom_eq (hphase : s.start.phase = .bootRom) (hwaits : s.romWaits = false) (reads items : Bool) :
    execBootRom reads items s = .next (if reads && s.imageGood then (s.romStarted items).runImage
      else (s.romStarted items).enterRecovery) := by
  have hstarted : (if items then s.romStep2
      else { s.romStep2 with start := { s.romStep2.start with secFailed := true } }) = s.romStarted items := by
    unfold State.romStarted
    cases items
    · rw [Bool.not_false, Bool.or_true]
      rfl
    · rw [Bool.not_true, Bool.or_false]
      rfl
  unfold execBootRom
  rw [if_neg (by simp [hphase, hwaits])]
  dsimp only
  rw [hstarted]
  rfl

theorem State.romStarted_meas (s : State) (items : Bool) :
    (s.romStarted items).sec.meas.find? 0 = some (Config.sha512 Config.bootRomImage) :=
  Tab.find?_put_self ..

/-- A genuine image runs, measured, with its SVN raised (R542). -/
theorem State.runImage_spec (s : State) (hsvn : s.flash.svn.toNat ≤ imgSvn (flashImage s.flash)) :
    s.runImage.start = { s.start with phase := .starting } ∧ s.runImage.pilot.started = true ∧
      s.runImage.flash = { s.flash with svn := BitVec.ofNat 32 (imgSvn (flashImage s.flash)) } ∧
      s.runImage.tap = s.tap ∧ s.runImage.sec.meas.find? 0 = s.sec.meas.find? 0 ∧
      ∀ k, k < 4 → s.runImage.sec.meas.find? (k + 1) = some (Config.sha512 (imgSectBytes (flashImage s.flash) k)) := by
  obtain ⟨hzero, hmeas⟩ :=
    Tab.find?_put_four s.sec.meas (fun k => Config.sha512 (imgSectBytes (flashImage s.flash) k))
  refine ⟨rfl, rfl, ?_, rfl, hzero, hmeas⟩
  unfold State.runImage
  dsimp only
  rw [Nat.max_eq_right hsvn]

/-- Recovery begins without a pilot and without the measurements of an image (R554). -/
theorem State.enterRecovery_spec (s : State) :
    s.enterRecovery.start.phase = .recovery ∧ s.enterRecovery.start.secFailed = s.start.secFailed ∧
      s.enterRecovery.pilot = {} ∧ s.enterRecovery.flash = s.flash ∧ s.enterRecovery.tap = s.tap ∧
      s.enterRecovery.sec.fwver = 0xFFFFFFFF ∧ s.enterRecovery.sec.meas.find? 0 = s.sec.meas.find? 0 ∧
      ∀ k, k < 4 → s.enterRecovery.sec.meas.find? (k + 1) = none := by
  refine ⟨rfl, rfl, rfl, rfl, rfl, rfl, Tab.find?_filter_of_pos (fun v => rfl), fun k hk => ?_⟩
  exact Tab.find?_filter_none (fun v => by simp; omega)

theorem bootRom_runs (hphase : s.start.phase = .bootRom) (hwaits : s.romWaits = false) (reads items : Bool) :
    let img := flashImage s.flash
    ∃ t, execBootRom reads items s = .next t ∧
      t.start.secFailed = (s.start.secFailed || !items) ∧
      t.sec.meas.find? 0 = some (Config.sha512 Config.bootRomImage) ∧ t.tap.locked = !s.flash.dbgOpen ∧
      if (reads && imgGenuine img && decide (s.flash.svn.toNat ≤ imgSvn img)) = true then
        t.start.phase = .starting ∧ t.pilot.started = true ∧
        t.flash = { s.flash with svn := BitVec.ofNat 32 (imgSvn img) } ∧
        (∀ k, k < 4 → t.sec.meas.find? (k + 1) = some (Config.sha512 (imgSectBytes img k)))
      else t.start.phase = .recovery ∧ t.pilot = {} ∧ t.flash = s.flash ∧ t.sec.fwver = 0xFFFFFFFF ∧
        (∀ k, k < 4 → t.sec.meas.find? (k + 1) = none) := by
  intro img
  have hrow := execBootRom_eq hphase hwaits reads items
  have hgood : (reads && imgGenuine img && decide (s.flash.svn.toNat ≤ imgSvn img)) = (reads && s.imageGood) :=
    Bool.and_assoc ..
  rw [hgood]
  by_cases hruns : (reads && s.imageGood) = true
  · rw [if_pos hruns] at hrow
    have hsvn : s.flash.svn.toNat ≤ imgSvn img :=
      of_decide_eq_true (Bool.and_eq_true_iff.mp (Bool.and_eq_true_iff.mp hruns).2).2
    obtain ⟨hstart, hstarted, hflash, htap, hzero, hmeas⟩ := (s.romStarted items).runImage_spec hsvn
    refine ⟨_, hrow, ?_, hzero.trans (s.romStarted_meas items), ?_, ?_⟩
    · rw [hstart]
      rfl
    · rw [htap]
      rfl
    · rw [if_pos hruns]
      refine ⟨?_, hstarted, hflash, hmeas⟩
      rw [hstart]
  · rw [if_neg hruns] at hrow
    obtain ⟨hphase', hsec, hpilot, hflash, htap, hfwver, hzero, hmeas⟩ := (s.romStarted items).enterRecovery_spec
    refine ⟨_, hrow, hsec, hzero.trans (s.romStarted_meas items), ?_, ?_⟩
    · rw [htap]
      rfl
    · rw [if_neg hruns]
      exact ⟨hphase', hpilot, hflash, hfwver, hmeas⟩

end Rom

/-! ### Pilot and SEC (R500, R515, R544) -/

section Sec

variable {s : State}

theorem State.powered_of_off (h : s.pwr.on = 0) (d : Nat) : s.powered d = false := by
  unfold State.powered
  rw [h]
  simp

/-- Where nothing has power or is on its way, every domain that is named becomes eligible. -/
theorem State.addEligible_of_off (hon : s.pwr.on = 0) (helig : s.start.eligible = []) (hswitched : s.start.switched = [])
    (ds : List Nat) : (s.addEligible ds).start.eligible = ds := by
  simp [State.addEligible, State.powered_of_off hon, helig, hswitched]

/-- PILOT_READY sets bit 0, and makes the first domains eligible (R544, R545). -/
theorem execPilotReady_spec (hphase : s.start.phase = .starting) : ∃ t, execPilotReady s = .next t ∧
    t.isReady 0 = true ∧ t.start.phase = .up ∧ (∀ b, b ≠ 0 → t.isReady b = s.isReady b) ∧ t.flash = s.flash ∧
    (s.start.eligible = [] → s.start.switched = [] → s.pwr.on = 0 → t.start.eligible = [16, 17, 18, 19, 28, 29]) := by
  let v : State := { s with pilot := { s.pilot with en := true }, start := { s.start with phase := .up } }
  have hv : v.setReady 0 true =
      { v with pilot := (v.setReady 0 true).pilot, xpt := (v.setReady 0 true).xpt, beacon := (v.setReady 0 true).beacon } :=
    v.setReady_same 0 true
  have hstart : (v.setReady 0 true).start = v.start := by rw [hv]
  refine ⟨_, congrArg Host.Outcome.next (if_pos hphase), v.isReady_setReady (by decide) true, ?_, fun b hb =>
    v.isReady_setReady_of_ne hb true, (v.setReady_same 0 true).flash, fun helig hswitched hon => ?_⟩
  · exact congrArg Start.phase hstart
  · refine State.addEligible_of_off ?_ ?_ ?_ _
    · rw [hv]
      exact hon
    · exact (congrArg Start.eligible hstart).trans helig
    · exact (congrArg Start.switched hstart).trans hswitched

/-- The stored bundle stays where it verifies; it is measured, or discarded. -/
theorem State.secBundle_eq (s : State) : s.secBundle =
    { s with
      sec := { s.sec with meas := s.secBundle.sec.meas }
      flash := { s.flash with bundle := if s.bundleOk then s.flash.bundle else [] } } := by
  unfold State.secBundle
  dsimp only
  by_cases hempty : s.flash.bundle.isEmpty = true
  · have hnil := List.isEmpty_iff.mp hempty
    rw [if_pos hempty, hnil, ite_self, ← hnil]
  · rw [if_neg hempty]
    by_cases hok : s.bundleOk = true
    · rw [if_pos hok, if_pos hok]
    · rw [if_neg hok, if_neg hok]

theorem State.secList_eq (s : State) : s.secList = { s with sec := { s.sec with meas := s.secList.sec.meas } } := by
  unfold State.secList
  split <;> rfl

theorem State.secList_meas {b : List Byte} (h : s.flash.list = some b) :
    s.secList.sec.meas.find? 6 = some (Config.sha512 b) := by
  unfold State.secList
  rw [h]
  exact Tab.find?_put_self ..

theorem State.xptUp_same (s : State) : s.SamePRX s.xptUp := by
  unfold State.xptUp
  exact .ite (fun _ => State.SamePRX.trans (by rfl) (State.setReady_same ..)) (fun _ => .refl s)

/-- With SEC ready the transport is ready, or becomes so with the port (R544). -/
theorem State.xptUp_ready (h1 : s.isReady 1 = true) : s.xptUp.isReady 1 = true ∧
    s.xptUp.isReady 3 = (s.isReady 3 || s.isReady 2 && s.powered 29) := by
  unfold State.xptUp
  split
  next h =>
    obtain ⟨⟨⟨-, h2⟩, h3⟩, hon⟩ := by simpa only [Bool.and_eq_true] using h
    refine ⟨(State.isReady_setReady_of_ne _ (by decide) true).trans h1, ?_⟩
    rw [State.isReady_setReady _ (by decide), h2, hon, Bool.and_self, Bool.or_true]
  next h =>
    refine ⟨h1, ?_⟩
    rw [h1, Bool.true_and] at h
    cases h3 : s.isReady 3
    · rw [Bool.false_or]
      exact (Bool.eq_false_iff.mpr (by simpa [h3] using h)).symm
    · rfl

/-- SEC counts the start and measures what flash holds, before its bit is set. -/
def State.secCounted (s : State) : State :=
  (State.secBundle { s with
    flash := { s.flash with bootcnt := s.flash.bootcnt + 1 }, sec := { s.sec with en := true } }).secList

theorem State.secCounted_eq (s : State) : s.secCounted =
    { s with
      sec := { s.sec with en := true, meas := s.secCounted.sec.meas }
      flash := { s.flash with
        bootcnt := s.flash.bootcnt + 1, bundle := if s.bundleOk then s.flash.bundle else [] } } := by
  unfold State.secCounted
  rw [State.secList_eq, State.secBundle_eq]
  rfl

/-- SEC_READY (R515, R544) on a device whose lanterns have no power. -/
theorem execSecReady_spec (hphase : s.start.phase = .up) (hnot : s.isReady 1 = false) (hsec : s.start.secFailed = false)
    (hlans : s.lans = []) (hpufr : Config.pufr.isSome = true) : ∃ t, execSecReady s = .next t ∧ t.isReady 1 = true ∧
      t.flash.bootcnt = s.flash.bootcnt + 1 ∧ t.flash.owner = s.flash.owner ∧ t.flash.list = s.flash.list ∧
      t.sec.en = true ∧ t.isReady 3 = (s.isReady 3 || s.isReady 2 && s.powered 29) ∧
      (∀ b, s.flash.list = some b → t.sec.meas.find? 6 = some (Config.sha512 b)) ∧
      (s.bundleOk = false → t.flash.bundle = []) ∧ (s.bundleOk = true → t.flash.bundle = s.flash.bundle) := by
  let v := s.secCounted
  have hv : v = _ := s.secCounted_eq
  let w := v.setReady 1 true
  have hw : v.SamePRX w := v.setReady_same 1 true
  have hwlans : w.lans = [] := by
    rw [hw.lans, hv, hlans]
  have hrow : execSecReady s = .next w.xptUp := by
    unfold execSecReady
    rw [if_neg (by simp [State.secStarts, hphase, hnot, hsec, Option.isSome_iff_ne_none.mp hpufr])]
    change Host.Outcome.next (State.xptUp ((w.lans.filter (fun p => p.2.svc.passed)).foldl _ w)) = _
    rw [hwlans]
    rfl
  obtain ⟨h1, h3⟩ := State.xptUp_ready (s := w) (v.isReady_setReady (by decide) true)
  have hall : v.SamePRX w.xptUp := hw.trans w.xptUp_same
  have hflash : w.xptUp.flash = { s.flash with
      bootcnt := s.flash.bootcnt + 1, bundle := if s.bundleOk then s.flash.bundle else [] } := by
    rw [hall.flash, hv]
  have hsecs : w.xptUp.sec = v.sec := by rw [hall]
  refine ⟨_, hrow, h1, ?_, ?_, ?_, ?_, ?_, fun b hb => ?_, fun hbad => ?_, fun hok => ?_⟩
  · rw [hflash]
  · rw [hflash]
  · rw [hflash]
  · rw [hsecs, hv]
  · rw [h3, v.isReady_setReady_of_ne (by decide), v.isReady_setReady_of_ne (by decide), hw.powered, hv]
    rfl
  · rw [hsecs]
    refine State.secList_meas ?_
    rw [State.secBundle_eq]
    exact hb
  · rw [hflash, hbad]
    rfl
  · rw [hflash, hok]
    rfl

end Sec

end Sys2Proof.Machine

/-! ## Domains, self-tests, cirrus and the limits of bring-up (R418, R544 to R550) -/

namespace Sys2Proof.Machine

open Sys2Proof

/-! ### Domains (R494, R545) -/

section Domains

variable {s : State} {d : Nat}

theorem execDomainSwitchOn_eq {ds : List Nat} (helig : s.start.eligible = d :: ds) : execDomainSwitchOn s =
    .next (if s.pilot.started && !s.msPast s.start.lastOn then s
      else { s with start := { s.start with
        eligible := ds, switched := s.start.switched ++ [d]
        lastOn := if s.pilot.started then some s.pilot.stamp else none } }) := by
  unfold execDomainSwitchOn
  rw [helig]

/-- `t` differs from `s` in the blocks of the domains, and in what power keeps about them, at most. -/
def State.SameButBlocks (s t : State) : Prop :=
  t = { s with
    lans := t.lans, tcs := t.tcs, chs := t.chs, xpt := t.xpt
    pwr := { s.pwr with thermMv := t.pwr.thermMv, effMv := t.pwr.effMv } }

theorem State.SameButBlocks.refl (s : State) : s.SameButBlocks s := rfl

theorem State.SameButBlocks.trans {t u : State} (h : s.SameButBlocks t) (k : t.SameButBlocks u) :
    s.SameButBlocks u := by
  unfold State.SameButBlocks at *
  rw [k, h]

theorem State.SameButBlocks.pwr (v : State) (a b : Tab Nat) :
    v.SameButBlocks { v with pwr := { v.pwr with thermMv := a, effMv := b } } := rfl

theorem State.SameButBlocks.foldl {α : Type} {f : State → α → State} (hf : ∀ (s : State) (a : α), s.SameButBlocks (f s a))
    (xs : List α) (s : State) : s.SameButBlocks (xs.foldl f s) := by
  induction xs generalizing s with
  | nil => rfl
  | cons a t ih => exact (hf s a).trans (ih (f s a))

/-- A fold over a list that names `a` ends with what the step of `a` sets, where no step takes it away again and
every step keeps `I`, which setting it needs. -/
theorem foldl_sets {α σ : Type} {f : σ → α → σ} {I P : σ → Prop} {a : α} (hI : ∀ s b, I s → I (f s b))
    (hset : ∀ s, I s → P (f s a)) (hkeep : ∀ s b, I s → P s → P (f s b)) {xs : List α} (ha : a ∈ xs) {s : σ} (hs : I s) :
    P (xs.foldl f s) := by
  have hend (xs : List α) (s : σ) (hs : I s) (hP : P s) : P (xs.foldl f s) := by
    induction xs generalizing s with
    | nil => exact hP
    | cons b xs ih => exact ih _ (hI s b hs) (hkeep s b hs hP)
  induction xs generalizing s with
  | nil => cases ha
  | cons b xs ih =>
    rcases List.mem_cons.mp ha with rfl | hin
    · exact hend xs _ (hI s a hs) (hset s hs)
    · exact ih hin (hI s b hs)

/-- The step of a lantern whose domain gets power: its self-test starts. -/
def State.lanStarts (s : State) (n : Nat) : State :=
  let l := s.lanAtPower n
  s.setLan n { l with svc := { l.svc with testing := true } }

/-- The step of a channel whose domain gets power: it trains, where nothing takes it out of service (R315). -/
def State.chStarts (s : State) (c : Nat) : State :=
  let listed := s.flash.mapout.contains c
  let trains := !listed && !s.start.released.contains c
  s.modCh c (fun _ => { listed := listed, maint := if trains then 1 else 0, bankret := s.bankretOf c })

theorem State.lanStarts_same (s : State) (n : Nat) : s.SameButBlocks (s.lanStarts n) := rfl

theorem State.chStarts_same (s : State) (c : Nat) : s.SameButBlocks (s.chStarts c) := rfl

theorem State.startBlocks_lan (s : State) (hd : d < 16) : ∃ a b, s.startBlocks d =
    let v := (List.range 16).foldl (fun s i => s.lanStarts (16 * d + i)) s
    { v with pwr := { v.pwr with thermMv := a, effMv := b } } :=
  ⟨_, _, if_pos hd⟩

theorem State.startBlocks_tc (s : State) (hlo : ¬d < 16) (hd : d < 20) :
    s.startBlocks d = s.modTc (d - 16) (fun _ => { s.tcAtPower (d - 16) with testing := !s.recovering }) :=
  (if_neg hlo).trans (if_pos hd)

theorem State.startBlocks_ch (s : State) (hlo : 20 ≤ d) (hd : d < 28) :
    s.startBlocks d = (List.range 32).foldl (fun s i => s.chStarts (32 * (d - 20) + i)) s :=
  (if_neg (by omega)).trans ((if_neg (by omega)).trans (if_pos hd))

theorem State.startBlocks_edge (s : State) (hd : 28 ≤ d) :
    s.startBlocks d = { s with xpt := { s.xpt with mode800 := s.flash.mode800, kr := s.flash.kr } } :=
  (if_neg (by omega)).trans ((if_neg (by omega)).trans (if_neg (by omega)))

theorem State.startBlocks_same (s : State) (d : Nat) : s.SameButBlocks (s.startBlocks d) := by
  by_cases hlan : d < 16
  · obtain ⟨a, b, hstart⟩ := s.startBlocks_lan hlan
    rw [hstart]
    exact (State.SameButBlocks.foldl (fun s i => s.lanStarts_same (16 * d + i)) _ s).trans
      (State.SameButBlocks.pwr _ a b)
  · by_cases htc : d < 20
    · rw [s.startBlocks_tc hlan htc]
      rfl
    · by_cases hch : d < 28
      · rw [s.startBlocks_ch (by omega) hch]
        exact .foldl (fun s i => s.chStarts_same (32 * (d - 20) + i)) _ s
      · rw [s.startBlocks_edge (by omega)]
        rfl

theorem State.lan_of_pwr (v : State) (p : Pwr) (n : Nat) : State.lan { v with pwr := p } n = v.lan n := rfl

theorem State.lan_startBlocks (s : State) (hd : d < 16) (n : Nat) :
    (s.startBlocks d).lan n = ((List.range 16).foldl (fun s i => s.lanStarts (16 * d + i)) s).lan n := by
  obtain ⟨a, b, hstart⟩ := s.startBlocks_lan hd
  rw [hstart]
  exact State.lan_of_pwr ..

/-- The lanterns of a domain that gets power start their self-tests. -/
theorem State.startBlocks_lanterns (s : State) (hd : d < 16) {i : Nat} (hi : i < 16) :
    ((s.startBlocks d).lan (16 * d + i)).svc.testing = true := by
  rw [s.lan_startBlocks hd]
  have hset (v : State) : ((v.lanStarts (16 * d + i)).lan (16 * d + i)).svc.testing = true := by
    rw [State.lanStarts, State.lan_setLan]
  have hkeep (v : State) (j : Nat) (hv : (v.lan (16 * d + i)).svc.testing = true) :
      ((v.lanStarts (16 * d + j)).lan (16 * d + i)).svc.testing = true := by
    by_cases hj : i = j
    · rw [← hj]
      exact hset v
    · rw [State.lanStarts, State.lan_setLan_of_ne _ _ (by omega)]
      exact hv
  have hend := foldl_sets (f := fun s i => s.lanStarts (16 * d + i)) (I := fun _ => True)
    (P := fun v : State => (v.lan (16 * d + i)).svc.testing = true) (fun _ _ _ => trivial) (fun v _ => hset v)
    (fun v j _ hv => hkeep v j hv) (List.mem_range.mpr hi) (s := s) trivial
  exact hend

/-- A channel whose domain gets power trains, where neither list takes it out of service (R315). -/
theorem State.chStarts_maint {v : State} (hflash : v.flash = s.flash) (hstart : v.start = s.start) (c : Nat) :
    ((v.chStarts c).ch c).maint = if c ∈ s.flash.mapout ∨ c ∈ s.start.released then 0 else 1 := by
  rw [State.chStarts, State.ch_modCh, hflash, hstart]
  dsimp only
  by_cases hout : c ∈ s.flash.mapout
  · simp [hout]
  · by_cases hrel : c ∈ s.start.released
    · simp [hrel]
    · simp [hout, hrel]

theorem State.startBlocks_channels (s : State) (hlo : 20 ≤ d) (hhi : d < 28) {i : Nat} (hi : i < 32) :
    ((s.startBlocks d).ch (32 * (d - 20) + i)).maint =
      if 32 * (d - 20) + i ∈ s.flash.mapout ∨ 32 * (d - 20) + i ∈ s.start.released then 0 else 1 := by
  rw [s.startBlocks_ch hlo hhi]
  have hkeep (v : State) (j : Nat) (hv : v.flash = s.flash ∧ v.start = s.start)
      (hP : (v.ch (32 * (d - 20) + i)).maint =
        if 32 * (d - 20) + i ∈ s.flash.mapout ∨ 32 * (d - 20) + i ∈ s.start.released then 0 else 1) :
      ((v.chStarts (32 * (d - 20) + j)).ch (32 * (d - 20) + i)).maint =
        if 32 * (d - 20) + i ∈ s.flash.mapout ∨ 32 * (d - 20) + i ∈ s.start.released then 0 else 1 := by
    by_cases hj : i = j
    · rw [← hj]
      exact State.chStarts_maint hv.1 hv.2 _
    · rw [State.chStarts, State.ch_modCh_of_ne _ _ (by omega)]
      exact hP
  have hend := foldl_sets (f := fun s i => s.chStarts (32 * (d - 20) + i))
    (I := fun v : State => v.flash = s.flash ∧ v.start = s.start)
    (P := fun v : State => (v.ch (32 * (d - 20) + i)).maint =
      if 32 * (d - 20) + i ∈ s.flash.mapout ∨ 32 * (d - 20) + i ∈ s.start.released then 0 else 1)
    (fun v _ hv => hv) (fun v hv => State.chStarts_maint hv.1 hv.2 _) hkeep (List.mem_range.mpr hi) (s := s) ⟨rfl, rfl⟩
  exact hend

/-- A switched domain has power, and leaves those that are on their way (R545). -/
def State.domainOn (s : State) (d : Nat) : State :=
  { s with
    start := { s.start with switched := s.start.switched.filter (fun x => x ≠ d) }
    pwr := { s.pwr with on := bitSet s.pwr.on d true } }

theorem execDomainPowered_spec (hd : d < 30) (hin : d ∈ s.start.switched) (hbusy : s.busyPkt 0xA0 = none) :
    ∃ u, execDomainPowered d s = .next u ∧ u.powered d = true ∧ (∀ x, x ≠ d → u.powered x = s.powered x) ∧
      d ∉ u.start.switched ∧ u.mem = s.mem ∧
      (d < 16 → ∀ i, i < 16 → (u.lan (16 * d + i)).svc.testing = true) ∧
      (20 ≤ d → d < 28 → ∀ i, i < 32 → (u.ch (32 * (d - 20) + i)).maint =
        if 32 * (d - 20) + i ∈ s.flash.mapout ∨ 32 * (d - 20) + i ∈ s.start.released then 0 else 1) := by
  have hsame := (s.domainOn d).startBlocks_same d
  have hbusy' : ((s.domainOn d).startBlocks d).busyPkt 0xA0 = none := by
    rw [hsame]
    exact hbusy
  have hpower (x : Nat) : ((s.domainOn d).startBlocks d).powered x = (decide (x < 30) && (bitSet s.pwr.on d true).getLsbD x) := by
    rw [hsame]
    rfl
  refine ⟨(s.domainOn d).startBlocks d, ?_, ?_, fun x hx => ?_, ?_, ?_,
    fun hlan i hi => State.startBlocks_lanterns _ hlan hi, fun hlo hhi i hi => State.startBlocks_channels _ hlo hhi hi⟩
  · unfold execDomainPowered
    rw [if_neg (by simpa using hin)]
    change Host.Outcome.next (match ((s.domainOn d).startBlocks d).busyPkt 0xA0 with
      | some p => if p.f 0 1 = d then ((s.domainOn d).startBlocks d).finish stOk [] else (s.domainOn d).startBlocks d
      | none => (s.domainOn d).startBlocks d) = _
    rw [hbusy']
  · rw [hpower, getLsbD_bitSet_same _ hd, decide_eq_true hd]
    rfl
  · rw [hpower, getLsbD_bitSet_of_ne _ hx]
    rfl
  · rw [hsame]
    simp [State.domainOn]
  · rw [hsame]
    rfl

end Domains

end Sys2Proof.Machine

/-! ## Self-tests, cirrus and the limits of bring-up (R418, R544 to R550) -/

namespace Sys2Proof.Machine

open Sys2Proof

/-! ### Records and the command in progress (R406, R476) -/

/-- The command in progress of `t` is that of `s`. -/
def State.SameBusy (s t : State) : Prop := t.pilot.busy = s.pilot.busy

section Busy

theorem State.SameBusy.refl (s : State) : s.SameBusy s := rfl

theorem State.SameBusy.trans {s t u : State} (h : s.SameBusy t) (k : t.SameBusy u) : s.SameBusy u := Eq.trans k h

theorem State.SameBusy.foldl {α : Type} {f : State → α → State} (hf : ∀ (s : State) (a : α), s.SameBusy (f s a))
    (xs : List α) (s : State) : s.SameBusy (xs.foldl f s) := by
  induction xs generalizing s with
  | nil => exact .refl s
  | cons a t ih => exact (hf s a).trans (ih (f s a))

/-- A conditional operation keeps the command in progress when it does so in every state. -/
theorem State.SameBusy.ite {s t : State} {c : Prop} [Decidable c] {f : State → State} (h : s.SameBusy t)
    (hf : ∀ u : State, u.SameBusy (f u)) : s.SameBusy (if c then f t else t) := by
  split
  · exact h.trans (hf t)
  · exact h

theorem State.notify_sameBusy (s : State) (kind : Nat) (body : List Byte) : s.SameBusy (s.notify kind body) := by
  unfold State.notify
  refine .trans ?_ (.foldl (fun u h => ?_) _ _)
  · rfl
  · exact .ite (.refl u) fun v => congrArg Pilot.busy (v.send_pilot ..)

theorem State.beaconTrigger_sameBusy (s : State) (src : Nat) : s.SameBusy (s.beaconTrigger src) := by
  unfold State.beaconTrigger
  split <;> rfl

theorem Pilot.makeRoom_busy (p : Pilot) (cls : Nat) : (p.makeRoom cls).1.busy = p.busy := by
  unfold Pilot.makeRoom
  split
  · rfl
  · split
    · rfl
    · split
      · split
        · rfl
        · split <;> rfl
      · rfl

theorem State.record1_sameBusy (s : State) (x : RecIn) : s.SameBusy (s.record1 x) := by
  have hroom := s.pilot.makeRoom_busy x.cls
  unfold State.record1
  split
  · rfl
  · cases hp : s.pilot.makeRoom x.cls with
    | mk p enters =>
      rw [hp] at hroom
      dsimp only
      split
      · refine .ite (f := fun u => u.beaconTrigger 2) (.trans
          (.ite (f := fun u => u.notify 1 _) ?_ fun u => u.notify_sameBusy ..)
          (.foldl (fun u o => u.notify_sameBusy ..) ..)) fun u => u.beaconTrigger_sameBusy 2
        exact hroom
      · exact hroom

theorem State.record_busyPkt (s : State) (x : RecIn) (op : Nat) : (s.record x).busyPkt op = s.busyPkt op := by
  have hbusy : s.SameBusy (s.record x) := by
    unfold State.record State.records
    split
    · exact s.record1_sameBusy x
    · exact .refl s
  unfold State.busyPkt
  rw [hbusy]

end Busy

/-! ### Lanterns (R418, R546, R547) -/

section Lanterns

variable {s : State} {n code : Nat}

/-- A lantern that fails is not in service, and LAN_BIST gives its code (R546). -/
theorem State.lanFails_spec (s : State) (n code bank row : Nat) : ∃ (u : State) (x : RecIn),
    s.lanFails n code bank row = u.record x ∧ x.code = 0x0412 ∧ x.src = readyLan n ∧ x.aux = code ∧
      (u.lan n).svc.failed = true ∧ (u.lan n).svc.testing = false ∧ u.pilot = s.pilot := by
  let v := s.modLan n (fun l => { l with svc := { l.svc with en := false, testing := false, failed := true } })
  have hsvc : (v.lan n).svc = { (s.lan n).svc with en := false, testing := false, failed := true } := by
    rw [State.lan_modLan]
  refine ⟨v.draw.2, _, rfl, rfl, rfl, rfl, ?_, ?_, rfl⟩
  · change (v.lan n).svc.failed = true
    rw [hsvc]
  · change (v.lan n).svc.testing = false
    rw [hsvc]

theorem execLanternSelftestEnd_fails (hon : s.lanOn n = true) (htest : (s.lan n).svc.testing = true) (hcode : code ≠ 0)
    (bank row : Nat) (bad : List Nat) :
    execLanternSelftestEnd n code bank row bad s = .next (s.lanFails n code bank row) :=
  congrArg Host.Outcome.next ((if_neg (by simp [hon, htest])).trans (if_pos hcode))

theorem State.records_nil (s : State) : s.records [] = s := by
  unfold State.records
  split <;> rfl

theorem State.examine_of_queues_nil (h : s.disp.queues = []) : s.examine = s := by
  unfold State.examine
  rw [h]
  rfl

/-- A lantern with six arrays or more asks for no spare (R418). -/
theorem State.spareRequest_of_arrays (h : 6 ≤ (s.lan n).narr) : s.spareRequest n = s := by
  unfold State.spareRequest
  exact if_neg (by simp; omega)

/-- What a lantern that becomes ready is, beside its decode table (R294, R544). -/
theorem State.lanUp_spec (hn : n < 256) (hqueues : s.disp.queues = []) :
    ((s.lanUp n).lan n).svc = { (s.lan n).svc with en := true, wasReady := true, passed := false } ∧
      (s.lanUp n).isReady (readyLan n) = (!(s.lan n).svc.quarPend) ∧
      (∀ m, m ≠ n → (s.lanUp n).lan m = s.lan m) ∧ (s.lanUp n).mem = s.mem := by
  let v := s.modLan n (fun l => { l with svc := { l.svc with en := true, wasReady := true, passed := false } })
  let w := (v.loadTable n).setReady (readyLan n) (!(v.lan n).svc.quarPend)
  have hsame : (v.loadTable n).SamePRX w := State.setReady_same ..
  have hup : s.lanUp n = w := by
    refine State.examine_of_queues_nil (s := w) ?_
    rw [hsame]
    exact hqueues
  have hvlan : v.lan n = { s.lan n with svc := { (s.lan n).svc with en := true, wasReady := true, passed := false } } :=
    s.lan_modLan n _
  have hlan (m : Nat) : w.lan m = (v.loadTable n).lan m := by
    rw [hsame]
    rfl
  rw [hup]
  refine ⟨?_, ?_, fun m hm => ?_, hsame.mem⟩
  · rw [hlan, State.loadTable, State.lan_modLan, hvlan]
  · refine (State.isReady_setReady _ (by unfold readyLan; omega) _).trans ?_
    rw [hvlan]
  · rw [hlan, State.loadTable, State.lan_modLan_of_ne _ _ hm, State.lan_modLan_of_ne _ _ hm]

/-- A lantern that passes with six arrays or more becomes ready, unless a quarantine of it waits. -/
theorem execLanternSelftestEnd_passes (hon : s.lanOn n = true) (htest : (s.lan n).svc.testing = true)
    (hsec : s.isReady 1 = true) (harrays : 6 ≤ (s.lan n).narr) (hqueues : s.disp.queues = []) (bank row : Nat) :
    ∃ u, execLanternSelftestEnd n 0 bank row [] s = .next u ∧ (u.lan n).svc.en = true ∧
      (u.lan n).svc.testing = false ∧ u.isReady (readyLan n) = (!(s.lan n).svc.quarPend) ∧
      (∀ m, m ≠ n → u.lan m = s.lan m) ∧ u.mem = s.mem := by
  let v := s.modLan n (fun l => { l with svc := { l.svc with testing := false, passed := true, failed := false } })
  have hvlan : (v.lan n).svc = { (s.lan n).svc with testing := false, passed := true, failed := false } := by
    rw [State.lan_modLan]
  have hrow : execLanternSelftestEnd n 0 bank row [] s = .next (v.lanUp n) := by
    have hbad : (s.badArrays n []).spareRequest n = s := by
      rw [State.badArrays, List.map_nil, List.foldl_nil, State.records_nil, State.spareRequest_of_arrays harrays]
    unfold execLanternSelftestEnd
    rw [if_neg (by simp [hon, htest]), if_neg (by decide), hbad]
    exact congrArg Host.Outcome.next (if_pos hsec)
  have hn : n < 256 := of_decide_eq_true (Bool.and_eq_true_iff.mp hon).1
  obtain ⟨hsvc, hready, hother, hmem⟩ := State.lanUp_spec (s := v) hn hqueues
  refine ⟨_, hrow, ?_, ?_, ?_, fun m hm => (hother m hm).trans (State.lan_modLan_of_ne _ _ hm), hmem⟩
  · rw [hsvc]
  · rw [hsvc, hvlan]
  · rw [hready, hvlan]

end Lanterns

/-! ### Tile caches and copy engines (R544, R546, R549) -/

section Tiles

variable {s : State} {t e : Nat}

/-- The copy engines of a tile start their self-tests. -/
def State.engStarts (s : State) (e : Nat) : State := s.modEng e (fun _ => { testing := true })

theorem State.engStarts_testing (s : State) (e : Nat) : ((s.engStarts e).eng e).testing = true := by
  rw [State.engStarts, State.eng_modEng]

theorem State.engStarts_keeps {k : Nat} (h : (s.eng k).testing = true) (e : Nat) :
    ((s.engStarts e).eng k).testing = true := by
  by_cases hk : k = e
  · rw [hk]
    exact s.engStarts_testing e
  · rw [State.engStarts, State.eng_modEng_of_ne _ _ hk]
    exact h

theorem State.foldl_engStarts_eq (f : Nat → Nat) (xs : List Nat) (s : State) :
    ∃ es, xs.foldl (fun s i => s.engStarts (f i)) s = { s with engines := es } := by
  induction xs generalizing s with
  | nil => exact ⟨s.engines, rfl⟩
  | cons x xs ih =>
    obtain ⟨es, hes⟩ := ih (s.engStarts (f x))
    exact ⟨es, hes⟩

theorem execTileCacheSelftestEnd_fails {code : Nat} (hon : s.tcOn t = true) (htest : (s.tc t).testing = true)
    (hcode : code ≠ 0) : ∃ u : State, execTileCacheSelftestEnd t code s = .next (u.record
      { src := readyTc t, cls := clsInfo, code := 0x0412, aux := code }) ∧ (u.tc t).testing = false ∧
      t ∈ u.start.deadTcs := by
  have hoff : ((s.modTc t (fun c => { c with testing := false })).tc t).testing = false := by
    rw [State.tc_modTc]
  exact ⟨_, congrArg Host.Outcome.next ((if_neg (by simp [hon, htest])).trans (if_pos hcode)), hoff,
    mem_setIns.mpr (.inl rfl)⟩

theorem State.SamePRX.tc {s t : State} (h : s.SamePRX t) (k : Nat) : t.tc k = s.tc k := by
  rw [h]
  rfl

/-- A tile cache in service: its bit is set, and with tile 0 that of zenith. -/
def State.tcReady (s : State) (t : Nat) : State :=
  let v := (s.modTc t (fun c => { c with testing := false, en := true })).setReady (readyTc t) true
  if t = 0 then State.setReady { v with disp := { v.disp with en := true } } 4 true else v

theorem State.tcReady_spec (ht : t < 4) : (s.tcReady t).isReady (readyTc t) = true ∧ ((s.tcReady t).tc t).en = true ∧
    (t = 0 → (s.tcReady t).isReady 4 = true) := by
  let v := (s.modTc t (fun c => { c with testing := false, en := true })).setReady (readyTc t) true
  have hready : v.isReady (readyTc t) = true := State.isReady_setReady _ (by unfold readyTc; omega) true
  have hen : (v.tc t).en = true := by
    rw [State.SamePRX.tc (State.setReady_same ..), State.tc_modTc]
  unfold State.tcReady
  split
  next hzero =>
    refine ⟨(State.isReady_setReady_of_ne _ (by unfold readyTc; omega) true).trans hready, ?_,
      fun _ => State.isReady_setReady _ (by decide) true⟩
    rw [State.SamePRX.tc (State.setReady_same ..)]
    exact hen
  next hne => exact ⟨hready, hen, fun h => absurd h hne⟩

theorem execTileCacheSelftestEnd_passes (hon : s.tcOn t = true) (htest : (s.tc t).testing = true) :
    ∃ u, execTileCacheSelftestEnd t 0 s = .next u ∧ u.isReady (readyTc t) = true ∧ (u.tc t).en = true ∧
      (t = 0 → u.isReady 4 = true) ∧ ∀ i, i < 4 → (u.eng (4 * t + i)).testing = true := by
  have ht : t < 4 := of_decide_eq_true (Bool.and_eq_true_iff.mp hon).1
  obtain ⟨hready, hen, hzenith⟩ := State.tcReady_spec (s := s) ht
  have htesting (i : Nat) (hi : i < 4) := foldl_sets (f := fun s i => s.engStarts (4 * t + i)) (I := fun _ => True)
    (P := fun v : State => (v.eng (4 * t + i)).testing = true) (fun _ _ _ => trivial)
    (fun v _ => v.engStarts_testing (4 * t + i)) (fun v j _ hv => State.engStarts_keeps hv (4 * t + j))
    (List.mem_range.mpr hi) (s := s.tcReady t) trivial
  obtain ⟨es, hes⟩ := State.foldl_engStarts_eq (4 * t + ·) (List.range 4) (s.tcReady t)
  have hrow : execTileCacheSelftestEnd t 0 s =
      .next (State.addEligible ((List.range 4).foldl (fun s i => s.engStarts (4 * t + i)) (s.tcReady t))
        ((List.range 4).map (fun q => 4 * t + q) ++ [20 + 2 * t, 21 + 2 * t])) := by
    unfold execTileCacheSelftestEnd
    rw [if_neg (by simp [hon, htest]), if_neg (by decide)]
    rfl
  rw [hes] at hrow htesting
  exact ⟨_, hrow, hready, hen, hzenith, htesting⟩

theorem execCopyEngineSelftestEnd_eq (hon : s.engOn e = true) (htest : (s.eng e).testing = true) (pass : Bool) :
    execCopyEngineSelftestEnd e pass s = .next (if pass
      then ((s.modEng e (fun _ => { en := true })).setReady (readyEng e) true).examine
      else (s.modEng e (fun _ => {})).record { src := readyEng e, cls := clsInfo, code := 0x0412, aux := 0x22 }) :=
  congrArg Host.Outcome.next (if_neg (by simp [hon, htest]))

end Tiles

/-! ### Cirrus and the limits (R341, R544, R550) -/

section Limits

variable {s : State} {d : Nat}

theorem execCirrusInitEnd_spec (hon : s.tc0On = true) (hnot : s.isReady 5 = false)
    (hfailed : s.start.cirrusFailed = false) (hrec : s.recovering = false)
    (hready : ∀ b ∈ [1, 22, 23, 24, 25], s.isReady b = true) (hsettled : ∀ c, c < 256 → s.settled c = true)
    (hfew : ((List.range 256).filter (fun c => !s.isReady (readyCh c))).length ≤ 32) :
    ∃ u, execCirrusInitEnd s = .next u ∧ u.isReady 5 = true ∧ u.cirrus = { s.cirrus with
      en := true, capFree := s.poolAtStart, retired := s.flash.retPages } ∧ u.mem = s.mem := by
  have hall : [1, 22, 23, 24, 25].all s.isReady = true := List.all_eq_true.mpr hready
  have hchans : (List.range 256).all s.settled = true :=
    List.all_eq_true.mpr (fun c hc => hsettled c (List.mem_range.mp hc))
  let v : State := { s with cirrus := { s.cirrus with
    en := true, capFree := s.poolAtStart, retired := s.flash.retPages } }
  refine ⟨v.setReady 5 true, congrArg Host.Outcome.next (if_pos ?_), v.isReady_setReady (by decide) true,
    (v.setReady_same 5 true).cirrus, (v.setReady_same 5 true).mem⟩
  simp only [hon, hnot, hfailed, hrec, hall, hchans, hfew, Bool.not_false, Bool.and_self, decide_true]

/-- A domain that gets no power within its limit is off the way, dead and reported (R546, R550). -/
theorem State.domainFails_spec (hbusy : s.busyPkt 0xA0 = none) (d : Nat) : ∃ u : State, s.domainFails d = u.record
    { src := 0x401, cls := clsInfo, code := 0x0412, aux := 0x30 + 256 * d } ∧
    d ∉ u.start.switched ∧ d ∈ u.start.deadDoms ∧ u.pwr = s.pwr := by
  let u : State := { s with start := { s.start with
    switched := s.start.switched.filter (fun x => x ≠ d), deadDoms := setIns s.start.deadDoms d } }
  have hnone := (u.record_busyPkt { src := 0x401, cls := clsInfo, code := 0x0412, aux := 0x30 + 256 * d } 0xA0).trans
    (show u.busyPkt 0xA0 = none from hbusy)
  refine ⟨u, ?_, by simp [u], mem_setIns.mpr (.inl rfl), rfl⟩
  unfold State.domainFails
  dsimp only
  rw [hnone]

end Limits

/-- Settles O57: each event of bring-up by its row, a domain's blocks by the folds that start them. -/
theorem bringUpCompletes : Obligations.BringUpCompletes := by
  unfold Obligations.BringUpCompletes
  refine ⟨fun s => ⟨fun hphase hwaits reads items => bootRom_runs hphase hwaits reads items, execPilotReady_spec,
    execSecReady_spec⟩, fun s d n e t code bank row bad ds => ⟨fun helig => ?switch,
      fun hin hbusy hd => execDomainPowered_spec hd hin hbusy, fun hon htest => ?lantern, fun hon htest =>
        ⟨execTileCacheSelftestEnd_fails hon htest, execTileCacheSelftestEnd_passes hon htest⟩,
      fun hon htest => ⟨execCopyEngineSelftestEnd_eq hon htest true, execCopyEngineSelftestEnd_eq hon htest false⟩,
      execCirrusInitEnd_spec, fun hphase hwaits => ?rom, fun hphase => congrArg Host.Outcome.next (if_pos hphase),
      fun hin hbusy => ?domain, fun hon htest => ?expiry⟩⟩
  case switch =>
    have hrow := execDomainSwitchOn_eq helig
    refine ⟨fun hstarted hpast => ?_, fun hstarted hpast => ?_, fun hstarted => ?_⟩
    · rw [hstarted, hpast] at hrow
      exact hrow
    · rw [hstarted, hpast] at hrow
      exact hrow
    · rw [hstarted] at hrow
      exact hrow
  case lantern =>
    refine ⟨fun hcode => ?_, fun hsec harrays hqueues =>
      execLanternSelftestEnd_passes hon htest hsec harrays hqueues bank row⟩
    obtain ⟨u, x, hfails, hrest⟩ := s.lanFails_spec n code bank row
    exact ⟨u, x, (execLanternSelftestEnd_fails hon htest hcode bank row bad).trans (congrArg _ hfails), hrest⟩
  case rom => exact congrArg Host.Outcome.next (if_pos (by rw [hphase, hwaits]; decide))
  case domain =>
    obtain ⟨u, hfails, hrest⟩ := State.domainFails_spec hbusy d
    exact ⟨u, congrArg Host.Outcome.next ((if_pos (by simpa using hin)).trans hfails), hrest⟩
  case expiry =>
    refine Eq.trans (congrArg Host.Outcome.next (if_pos (by rw [hon, htest]; rfl))) ?_
    exact (execLanternSelftestEnd_fails hon htest (by decide) 0 0 []).symm

end Sys2Proof.Machine
